-- ==== Sys2Proof/Word.lean ====
section
/-! DEFINITION. The word and byte types of the register pages and the packet store, and their plainest arithmetic. -/

namespace Sys2Proof

/-- A register word (R8: registers are 32 bits wide). -/
abbrev Word := BitVec 32

/-- One byte of a queue item, a frame or the packet store. -/
abbrev Byte := BitVec 8

end Sys2Proof
end

