-- ==== Sys2Proof/Syntax.lean ====
section
/-! DEFINITION. The commands of the part, one constructor for each row of the opcode table. Operands that the part receives
from outside (levels, measured values, soft bits, store errors) belong to the command. -/

namespace Sys2Proof

/-- What an AIN conversion samples: the input and VDD_ANA, in one unit (R187). -/
structure AinSample where
  v   : Nat
  vdd : Nat
  deriving DecidableEq, Repr

/-- A sync word that a lane has found (R425): its level in dBm, its frequency estimate in synthesiser steps, and the bit
errors in the word (R423). -/
structure LaneSync where
  lane : Nat
  dbm  : Int
  ofs  : Int
  errs : Nat
  deriving DecidableEq, Repr

/-- A command. -/
inductive Instr where
  /-- REGISTER_WRITE (R9). A word into an engine's window is an item of one word. -/
  | registerWrite (addr : BitVec 16) (value : BitVec 32)
  /-- STAGED_TWIN_WRITE (R71). -/
  | stagedTwinWrite (addr : BitVec 16) (value : BitVec 32)
  /-- COMMIT_GO (R75). -/
  | commitGo (p : Fin 32)
  /-- COMMIT_REVERT (R77). -/
  | commitRevert (p : Fin 32)
  /-- PAGE_APPLY (R70). -/
  | pageApply (p : Fin 32)
  /-- COMMIT_TIMEOUT (R76). -/
  | commitTimeout (p : Fin 32)
  /-- GROUP_GO (R78). -/
  | groupGo
  /-- GROUP_DRAIN (R81). -/
  | groupDrain
  /-- GROUP_CANCEL (R81). -/
  | groupCancel
  /-- DRAIN_GROUP_APPLY (R80). -/
  | drainGroupApply
  /-- DRAIN_GROUP_TIMEOUT (R80). -/
  | drainGroupTimeout
  /-- PAGE_LOCK (R82). -/
  | pageLock (p : Fin 32)
  /-- PAGE_ENABLE (R88). -/
  | pageEnable (p : Fin 32) (on : Bool)
  /-- PAGE_SAFE (R88). -/
  | pageSafe (p : Fin 32) (on : Bool)
  /-- PAGE_SOFT_RESET (R88). -/
  | pageSoftReset (p : Fin 32)
  /-- EVENT_PEND_CLEAR (R69). -/
  | eventPendClear (p : Fin 32) (bits : BitVec 32)
  /-- IRQ_SUM_CLEAR (R139). -/
  | irqSumClear (n : Fin 6) (bits : BitVec 32)
  /-- EVENT_FORCE (R90). -/
  | eventForce (p : Fin 32) (bits : BitVec 32)
  /-- SOFTWARE_EVENT (R99). -/
  | softwareEvent
  /-- SOFTWARE_RESET (R99). -/
  | softwareReset (key : BitVec 32)
  /-- PIN_RESET (R132). -/
  | pinReset
  /-- SUPPLY_VRST (R157). `mv` is VDD_MAIN. -/
  | supplyVrst (mv : Nat)
  /-- EMBER_DOMAIN_LOSS (R158). `mv` is VDD_MAIN. -/
  | emberDomainLoss (mv : Nat)
  /-- KINDLING (R148). What Kindling finds: failed self-checks in a row, TEST, VDD_IO, and its samples. -/
  | kindling (fails : Nat) (test io : Bool) (strap : Fin 3) (a1 a0 : Bool) (temp : Int) (vmain vstore : Nat)
  /-- KINDLING_IO_READY (R553). -/
  | kindlingIoReady (strap : Fin 3) (a1 a0 : Bool) (temp : Int) (vmain vstore : Nat)
  /-- ITEM_HANDOVER (R39). Crossing or queue, whether the consumer acknowledges, the store errors found, and the soft
  bits of an item from a receiver. -/
  | itemHandover (n : Fin 32) (acked : Bool) (ecc : List (Nat × Bool)) (soft : List Int)
  /-- RESYNC_TOKEN_RECEIVED (R49). `far`: the token of the far side. -/
  | resyncTokenReceived (n : Fin 32) (far : Bool)
  /-- RESYNC_REPLY_RECEIVED (R49). -/
  | resyncReplyReceived (n : Fin 32) (far : Bool)
  /-- CREDIT_INIT_APPLY (R51). -/
  | creditInitApply (n : Fin 32)
  /-- STORE_WINDOW_WRITE (R37). -/
  | storeWindowWrite (addr : BitVec 16) (value : BitVec 32)
  /-- STORE_WINDOW_READ (R588). -/
  | storeWindowRead (addr : BitVec 16) (ecc : List (Nat × Bool))
  /-- DROP_QUEUE_POP (R66). -/
  | dropQueuePop (ecc : List (Nat × Bool))
  /-- QMX_FLUSH_DROPQ (R46). -/
  | qmxFlushDropq
  /-- QMX_SCRUB (R588). The store errors found. -/
  | qmxScrub (ecc : List (Nat × Bool))
  /-- CNT_CLR_MINFREE (R64). -/
  | cntClrMinfree
  /-- CNT_CLR_XSTAT (R64). -/
  | cntClrXstat
  /-- CNT_CLR_ECC (R64). -/
  | cntClrEcc
  /-- CNT_CLR_STALL (R64). -/
  | cntClrStall
  /-- CNT_CLR_DROP (R64). -/
  | cntClrDrop
  /-- CNT_CLR_XLOST (R64). -/
  | cntClrXlost
  /-- STALL_TIMEOUT (R54). Page of the consumer and crossing, 0x3F for a handshake other than a crossing's. -/
  | stallTimeout (page xing : Fin 64)
  /-- STALL_RESET (R54). -/
  | stallReset
  /-- STALL_CHECK (R267). -/
  | stallCheck
  /-- HOST_WRITE (R111). -/
  | hostWrite (bytes : List (BitVec 8))
  /-- HOST_READ (R112). The host's bytes, the words or bytes clocked out, the byte times until data is ready, and the
  store errors found. -/
  | hostRead (bytes : List (BitVec 8)) (n ready : Nat) (ecc : List (Nat × Bool))
  /-- HOST_STATUS_ONLY (R108). -/
  | hostStatusOnly
  /-- I2C_BUS_TIMEOUT (R123). The bytes that had arrived. -/
  | i2cBusTimeout (bytes : List (BitVec 8))
  /-- HOST_QUEUE_PUSH (R118). -/
  | hostQueuePush (n : Fin 8) (words : List (BitVec 32))
  /-- HOST_QUEUE_POP (R119). Words read. -/
  | hostQueuePop (n : Fin 8) (words : Nat) (ecc : List (Nat × Bool))
  /-- QUEUE_RELEASE (R120). -/
  | queueRelease (q : Fin 9)
  /-- QUEUE_REWIND (R120). -/
  | queueRewind (q : Fin 9)
  /-- LEGACY_VIEW_ENTER (R125). -/
  | legacyViewEnter
  /-- NATIVE_VIEW_SELECT (R135). -/
  | nativeViewSelect
  /-- LEGACY_EXIT (R127). -/
  | legacyExit
  /-- LEGACY_IDLE (R126). -/
  | legacyIdle
  /-- LEGACY_TRANSCEIVE (R126). -/
  | legacyTransceive
  /-- LEGACY_TRANSMIT (R126). -/
  | legacyTransmit
  /-- LEGACY_RECEIVE (R126). -/
  | legacyReceive
  /-- LEGACY_FIELD_ON (R126). -/
  | legacyFieldOn
  /-- LEGACY_FIELD_OFF (R126). -/
  | legacyFieldOff
  /-- LEGACY_TYPEA_ANTICOLL (R486). -/
  | legacyTypeaAnticoll
  /-- LEGACY_INVENTORY (R486). -/
  | legacyInventory
  /-- LEGACY_HOLD_LAPSE (R126). -/
  | legacyHoldLapse
  /-- LEGACY_FIFO_WRITE (R127). -/
  | legacyFifoWrite (b : BitVec 8)
  /-- LEGACY_FIFO_READ (R128). -/
  | legacyFifoRead
  /-- LEGACY_FIFO_FLUSH (R127). -/
  | legacyFifoFlush
  /-- LEGACY_MAPPED_WRITE (R128). -/
  | legacyMappedWrite (a b : BitVec 8)
  /-- IRQ_RETRIG_REASSERT (R130). `pin`: IRQ_B. -/
  | irqRetrigReassert (pin : Bool)
  /-- WAKE_EDGE (R131). -/
  | wakeEdge (high : Bool)
  /-- FABRIC_AWAKE (R146). -/
  | fabricAwake
  /-- EMBER_ENTRY (R145). -/
  | emberEntry
  /-- TXSUP_LOW (R144). `mv` is VDD_TX. -/
  | txsupLow (mv : Nat)
  /-- TXSUP_RECOVER (R144). `mv` is VDD_TX. -/
  | txsupRecover (mv : Nat)
  /-- VWARN_CROSSING (R151). `mv` is VDD_MAIN. -/
  | vwarnCrossing (mv : Nat)
  /-- M3_GROUP_COMPLETE (R153). -/
  | m3GroupComplete
  /-- DWELL_START (R155). `mv` is VDD_MAIN. -/
  | dwellStart (mv : Nat)
  /-- DAMPER_DWELL_COMPLETE (R155). -/
  | damperDwellComplete
  /-- FORCE_DAMPER (R156). -/
  | forceDamper (byTask : Bool)
  /-- RELEASE_DAMPER (R156). -/
  | releaseDamper (byTask : Bool)
  /-- DIP_COUNT_CLEAR (R170). -/
  | dipCountClear
  /-- BANK_ADJ_ADD (R170). -/
  | bankAdjAdd (v : BitVec 24)
  /-- BANK_ADJ_SET (R170). -/
  | bankAdjSet (v : BitVec 24)
  /-- MEAS_STORE (R162). -/
  | measStore (byTask : Bool)
  /-- MEASUREMENT_DONE (R162). -/
  | measurementDone (vmain vstore : Nat)
  /-- PERIODIC_MEASUREMENT (R162). -/
  | periodicMeasurement (vmain vstore : Nat)
  /-- ORBIT (R200). The levels of GP0 to GP11. -/
  | orbit (pins : BitVec 12)
  /-- PERIODIC_TEMP_SAMPLE (R174). -/
  | periodicTempSample
  /-- TEMP_SAMPLE_COMPLETE (R174). Temperature in 1/16 °C. -/
  | tempSampleComplete (t : Int)
  /-- TEMP_SAMPLE (R176). -/
  | tempSample (byTask : Bool)
  /-- EXTRA_SAMPLE_COMPLETE (R176). Temperature in 1/16 °C. -/
  | extraSampleComplete (t : Int)
  /-- OVERTEMP_TRIP (R180). -/
  | overtempTrip
  /-- OVERTEMP_RESET_RELEASE (R181). -/
  | overtempResetRelease
  /-- FLUE_SNAPSHOT (R186). -/
  | flueSnapshot (byTask : Bool)
  /-- AIN_CONVERT (R187). -/
  | ainConvert
  /-- AIN_CONVERSION_DONE (R187). What was sampled. -/
  | ainConversionDone (c : Fin 2) (x : AinSample)
  /-- HEATER_ENABLE (R188). The word of THM_HEAT. -/
  | heaterEnable (word : BitVec 32)
  /-- HEATER_TIMEOUT (R188). -/
  | heaterTimeout
  /-- FLUE_STATE_WRITE (R191). -/
  | flueStateWrite (n : Fin 3) (value : BitVec 32)
  /-- SCHEDULER_PASS (R212). -/
  | schedulerPass
  /-- TASK_PREEMPTED (R216). -/
  | taskPreempted (slot : Fin 64)
  /-- TASK_END (R211). -/
  | taskEnd (slot : Fin 64) (failed : Bool)
  /-- USER_TASK_TIMEOUT (R205). -/
  | userTaskTimeout (slot : Fin 64)
  /-- SLOT_READY (R209). -/
  | slotReady (slot : Fin 64)
  /-- TRIGGER_FIRE (R210). -/
  | triggerFire (m : Fin 16) (byTask : Bool)
  /-- SLOT_LOAD (R218). -/
  | slotLoad (slot : Fin 64)
  /-- SLOT_ARM (R218). -/
  | slotArm (slot : Fin 64)
  /-- SLOT_FREE (R218). -/
  | slotFree (slot : Fin 64)
  /-- SLOT_ABORT (R218). -/
  | slotAbort (slot : Fin 64)
  /-- SLOT_END (R218). -/
  | slotEnd (slot : Fin 64)
  /-- SLOT_CMD_RESERVED (R218). OP 5, 6 or 7. -/
  | slotCmdReserved (slot : Fin 64) (op : Fin 3)
  /-- XO_START (R231). -/
  | xoStart
  /-- XO_STOP (R231). -/
  | xoStop
  /-- XO_WINDOW_END (R233). XO edges counted in the window. -/
  | xoWindowEnd (n : Nat)
  /-- XO_START_TIMEOUT (R235). -/
  | xoStartTimeout
  /-- WIRE_FALLBACK (R241). -/
  | wireFallback (byTask : Bool)
  /-- WIRE_RESTORE (R241). -/
  | wireRestore (byTask : Bool)
  /-- WIRE_RESTORE_HOLD_EXPIRY (R241). -/
  | wireRestoreHoldExpiry
  /-- WIRE_SWITCH_POINT (R242). -/
  | wireSwitchPoint
  /-- WIRE_SWITCH_RESTART (R243). -/
  | wireSwitchRestart
  /-- FEC_RAMP_STEP (R244). -/
  | fecRampStep
  /-- HFRC_DISCIPLINE (R247). -/
  | hfrcDiscipline
  /-- HFRC_TRIM (R247). -/
  | hfrcTrim (byTask : Bool)
  /-- HFRC_TRIM_DONE (R247). -/
  | hfrcTrimDone
  /-- LXO_CAL (R248). -/
  | lxoCal (byTask : Bool)
  /-- LFRC_CAL_DONE (R248). -/
  | lfrcCalDone
  /-- LXO_WINDOW_END (R249). LXO edges in the window; LFRC periods since the last edge. -/
  | lxoWindowEnd (n elapsed : Nat)
  /-- LXO_EDGE_TIMEOUT (R249). LFRC periods since the last edge. -/
  | lxoEdgeTimeout (elapsed : Nat)
  /-- LXO_RESTORE_EDGE (R249). -/
  | lxoRestoreEdge
  /-- ROUTER_OCCURRENCE (R259). -/
  | routerOccurrence
  /-- GROUP_ENABLE_CMD (R261). One bit for each group. -/
  | groupEnableCmd (g : BitVec 8)
  /-- GROUP_DISABLE_CMD (R261). One bit for each group. -/
  | groupDisableCmd (g : BitVec 8)
  /-- CHANNEL_WRITE (R260). -/
  | channelWrite (n : Fin 32) (word : BitVec 32)
  /-- GROUP_SOURCE_WRITE (R263). -/
  | groupSourceWrite (n : Fin 8) (word : BitVec 32)
  /-- SOFTWARE_FIRE (R270). One bit for each channel. -/
  | softwareFire (word : BitVec 32)
  /-- NOP (R267). -/
  | nop
  /-- RAISE_IRQ_A (R267). -/
  | raiseIrqA
  /-- RAISE_IRQ_B (R267). -/
  | raiseIrqB
  /-- CAL_SECOND_BOUNDARY (R276). -/
  | calSecondBoundary
  /-- HOUR_STEP_FORWARD (R284). -/
  | hourStepForward
  /-- HOUR_STEP_BACK (R284). -/
  | hourStepBack
  /-- CAL_TIME_READ (R281). -/
  | calTimeRead
  /-- CAL_SNAPSHOT (R281). -/
  | calSnapshot
  /-- CAL_SUBSEC_SYNC (R290). -/
  | calSubsecSync
  /-- CAL_FULL_ALIGN (R291). -/
  | calFullAlign
  /-- TRANSACTION_OPEN (R305). -/
  | transactionOpen (n : Fin 8)
  /-- LINK_FRAME_TRANSMIT (R308). -/
  | linkFrameTransmit (n : Fin 8)
  /-- LINK_TX_COMPLETE (R309). Of the radio, else of the line. -/
  | linkTxComplete (radio : Bool)
  /-- ACK_TIMEOUT (R309). -/
  | ackTimeout (n : Fin 8) (place : Fin 4)
  /-- JITTER_EXPIRY (R309). -/
  | jitterExpiry (n : Fin 8) (place : Fin 4)
  /-- ACK_RECEIVED (R311). -/
  | ackReceived
  /-- REPORT_QUEUED (R307). -/
  | reportQueued (n : Fin 8)
  /-- LINK_FRAME_RECEIVED (R312). The store errors found. -/
  | linkFrameReceived (ecc : List (Nat × Bool))
  /-- PEER_ENTRY_WRITE (R317). -/
  | peerEntryWrite (id : BitVec 8) (w : Fin 4) (value : BitVec 32)
  /-- NFC_RESPONSE_QUEUED (R474). -/
  | nfcResponseQueued
  /-- LE_KICK (R308). -/
  | leKick (n : Fin 8)
  /-- LE_HOLD (R305). -/
  | leHold (n : Fin 8)
  /-- CODEWORD_ARRIVAL (R349). -/
  | codewordArrival
  /-- CODEWORD_DECODED (R347). -/
  | codewordDecoded
  /-- CODEWORD_ENCODED (R350). -/
  | codewordEncoded
  /-- FEC_ABORT (R267). -/
  | fecAbort
  /-- LINE_POWER_ON (R358). -/
  | linePowerOn (byTask : Bool)
  /-- LINE_INRUSH_END (R358). The line current in mA. -/
  | lineInrushEnd (ma : Nat)
  /-- LINE_SETTLE_END (R358). -/
  | lineSettleEnd
  /-- LINE_CURRENT_SAMPLE (R357). The line current in mA. -/
  | lineCurrentSample (ma : Nat)
  /-- LINE_POWER_OFF (R360). -/
  | linePowerOff (byTask : Bool)
  /-- LINE_POWER_OFF_SOFT (R360). -/
  | linePowerOffSoft (byTask : Bool)
  /-- LINE_CYCLE_BOUNDARY (R367). -/
  | lineCycleBoundary
  /-- LINE_CYCLE_LEAD (R368). -/
  | lineCycleLead
  /-- LINE_WINDOW_START (R372). Generation Mg+1. -/
  | lineWindowStart (g : Fin 3)
  /-- LINE_WINDOW_END (R368). 0 the mark slot, g the window of Mg. -/
  | lineWindowEnd (g : Fin 4)
  /-- UPSTREAM_BURST_START (R374). Line symbols left in the window. -/
  | upstreamBurstStart (left : Nat)
  /-- LINE_COLLISION (R375). -/
  | lineCollision
  /-- IDLE_C_RECEIVED (R375). -/
  | idleCReceived
  /-- LEGACY_LINE_FRAME_START (R376). Generation Mg+1; line symbols left in the window. -/
  | legacyLineFrameStart (g : Fin 2) (left : Nat)
  /-- LINE_FRAME_RECEIVED (R388). Generation Mgen+1, inverse polarity, a frame cut short, the soft bits of an M3
  frame, and the hard bits of another. -/
  | lineFrameReceived (gen : Fin 3) (inverse cut : Bool) (phr llrs : List Int) (hard : List Bool)
  /-- EC_TRAINING_PASS_END (R379). Residual in dB. -/
  | ecTrainingPassEnd (res : Int)
  /-- EC_DIVERGE (R380). Residual in dB. -/
  | ecDiverge (res : Int)
  /-- EC_RETRAIN (R267). -/
  | ecRetrain
  /-- LINE_MARK_RECEIVED (R382). Wire cycles from the prediction, the recovered clock's offset, polarity, and the
  beacon's soft bits. -/
  | lineMarkReceived (err ppm : Int) (inverse : Bool) (phr : List Int) (items : List (List Int))
  /-- LINE_MARK_MISSED (R383). -/
  | lineMarkMissed
  /-- CDR_PHASE_LOSS (R383). -/
  | cdrPhaseLoss
  /-- POLARITY_RECHECK (R384). -/
  | polarityRecheck (byTask : Bool)
  /-- LINE_ANNOUNCE_RECEIVED (R386). -/
  | lineAnnounceReceived (src : BitVec 8) (uid : BitVec 64) (gens step : BitVec 8)
  /-- LINE_ANNOUNCE_POP (R392). -/
  | lineAnnouncePop
  /-- LINE_PROBE (R387). -/
  | lineProbe (byTask : Bool)
  /-- LINE_HOLD (R389). -/
  | lineHold (byTask : Bool)
  /-- LINE_CYCLE_START (R267). -/
  | lineCycleStart
  /-- LINE_TX_QUEUED (R267). -/
  | lineTxQueued
  /-- RADIO_TRANSITION_END (R395). -/
  | radioTransitionEnd
  /-- SYNTH_CAL (R267). -/
  | synthCal
  /-- SYNTH_CAL_DONE (R398). -/
  | synthCalDone
  /-- SYNTH_CAL_LOCK_TIMEOUT (R398). -/
  | synthCalLockTimeout
  /-- EXTPA_PIN_READBACK (R401). -/
  | extpaPinReadback (pin : Fin 3) (wrong : Bool)
  /-- RX_WINDOW_END (R405). -/
  | rxWindowEnd
  /-- LBT_LISTEN_END (R409). -/
  | lbtListenEnd
  /-- DUTY_BUCKET_ADVANCE (R411). -/
  | dutyBucketAdvance
  /-- ACK_SLOT_DECISION (R408). -/
  | ackSlotDecision
  /-- ACK_WAIT_END (R408). -/
  | ackWaitEnd
  /-- RADIO_TX_TIMEOUT (R410). -/
  | radioTxTimeout
  /-- SYNTH_LOCK_LOST (R412). -/
  | synthLockLost
  /-- TO_SLEEP (R413). -/
  | toSleep (byTask : Bool)
  /-- TO_STANDBY (R413). -/
  | toStandby
  /-- TO_SYNTH (R413). -/
  | toSynth
  /-- TO_RX (R413). -/
  | toRx
  /-- TO_TX (R413). -/
  | toTx
  /-- CCA_START (R413). -/
  | ccaStart (byTask : Bool)
  /-- PA_OFF (R413). -/
  | paOff (byTask : Bool)
  /-- LANE_SYNC (R425). The sync words found at this instant. -/
  | laneSync (syncs : List LaneSync)
  /-- RADIO_HEADER_RECEIVED (R428). The soft PHR of a coded frame, or the hard header bits of another. -/
  | radioHeaderReceived (soft : List Int) (hard : List Bool)
  /-- RADIO_FRAME_RECEIVED (R428). The soft bits left of a coded frame, or the hard bits of another. -/
  | radioFrameReceived (llrs : List Int) (hard : List Bool)
  /-- RSSI_SAMPLE (R432). -/
  | rssiSample (dbm : Int)
  /-- ANNOUNCE_REQUEST (R438). -/
  | announceRequest
  /-- RADIO_ANNOUNCE_POP (R444). -/
  | radioAnnouncePop
  /-- SEARCH_START (R424). -/
  | searchStart (byTask : Bool)
  /-- SEARCH_STOP (R424). -/
  | searchStop (byTask : Bool)
  /-- FIELD_ON (R448). -/
  | fieldOn
  /-- EXT_FIELD_CHECK_END (R451). -/
  | extFieldCheckEnd (amp : Nat)
  /-- FIELD_LEVEL_REACHED (R448). Driver current in mA, VDD_TX in mV. -/
  | fieldLevelReached (ma mv : Nat)
  /-- MISMATCH_MEASURED (R453). Angle by which the current leads, in 1/1000 degree. -/
  | mismatchMeasured (theta : Int)
  /-- FIELD_OFF (R449). -/
  | fieldOff (byTask : Bool)
  /-- FIELD_RAMP_DOWN_END (R449). -/
  | fieldRampDownEnd
  /-- FIELD_SUPPLY_SAMPLE (R450). VDD_TX in mV. -/
  | fieldSupplySample (mv : Nat)
  /-- DRIVER_OVERCURRENT (R450). -/
  | driverOvercurrent
  /-- TUNE_BANK_WRITE (R452). Bank S0, S1, P0 or P1. -/
  | tuneBankWrite (bank : Fin 4) (code : BitVec 6)
  /-- TUNE_SWEEP (R267). -/
  | tuneSweep
  /-- TUNER_PROBE_END (R455). Angle by which the current leads, in 1/1000 degree. -/
  | tunerProbeEnd (theta : Int)
  /-- COMET_INTERVAL (R456). -/
  | cometInterval
  /-- COMET_SWEEP (R267). -/
  | cometSweep
  /-- COMET_MEASURE_END (R457). -/
  | cometMeasureEnd (amp ph : BitVec 12) (theta : Int)
  /-- COMET_CLASSIFY (R458). -/
  | cometClassify
  /-- FIELD_AMPLITUDE_WATCH (R460). -/
  | fieldAmplitudeWatch (amp : BitVec 12)
  /-- BASELINE_WRITE (R461). -/
  | baselineWrite (amp : BitVec 12)
  /-- BASELINE_INVALIDATE (R461). -/
  | baselineInvalidate
  /-- BASELINE_CAPTURE (R461). -/
  | baselineCapture
  /-- NFC_FORCE_SAFE (R463). -/
  | nfcForceSafe (byTask : Bool)
  /-- POLL_START (R267). -/
  | pollStart
  /-- POLL_GUARD_TIME_END (R475). -/
  | pollGuardTimeEnd
  /-- POLL_STEP_END (R478). -/
  | pollStepEnd
  /-- POLL_STOP (R479). -/
  | pollStop (byTask : Bool)
  /-- NFP_ABORT (R479). -/
  | nfpAbort (byTask : Bool)
  /-- NFP_TX_QUEUED (R479). -/
  | nfpTxQueued
  /-- INVENTORY_START (R479). -/
  | inventoryStart
  /-- NFC_COMMAND_SENT (R476). -/
  | nfcCommandSent
  /-- NFC_RECEIVER_OPEN (R476). A response began before FDT. -/
  | nfcReceiverOpen (early : Bool)
  /-- NFC_RESPONSE_TIMEOUT (R476). -/
  | nfcResponseTimeout
  /-- NFC_RESPONSE_RECEIVED (R473). Bytes with CRC, valid bits of the last byte, first collision, what was found
  wrong, response time and amplitude. -/
  | nfcResponseReceived (bytes : List (BitVec 8)) (lastbits : Nat) (coll : Option Nat) (framing parity crcBad : Bool) (rtime amp : Nat)
  /-- NFC_FRAME_GAP_END (R476). -/
  | nfcFrameGapEnd
  /-- INVENTORY_SLOT_EOF (R481). -/
  | inventorySlotEof
  /-- SENSF_LISTEN_END (R480). -/
  | sensfListenEnd
  /-- NFC_HOLD_LAPSE (R475). -/
  | nfcHoldLapse
  /-- TAG_LIST_CLEAR (R482). -/
  | tagListClear
  /-- TAG_KEEP_WRITE (R491). -/
  | tagKeepWrite (keep : Bool)
  /-- SEC_VERIFY_DONE (R507). -/
  | secVerifyDone
  /-- KEY_LOAD (R497). -/
  | keyLoad (slot : Fin 32)
  /-- KEY_ZEROISE (R499). -/
  | keyZeroise (slot : Fin 32)
  /-- KEY_LOCK (R498). -/
  | keyLock (slot : Fin 32) (byCmd : Bool)
  /-- KEY_WRAP (R500). -/
  | keyWrap (slot : Fin 32)
  /-- KEY_UNWRAP (R500). -/
  | keyUnwrap (slot : Fin 32)
  /-- KEY_CHECK (R502). -/
  | keyCheck (slot : Fin 32)
  /-- SINK_DISARM (R512). -/
  | sinkDisarm
  /-- SEC_ZEROISE_UNLOCKED (R499). -/
  | secZeroiseUnlocked (byTask : Bool)
  /-- KEYCMD_COMPLETE (R502). -/
  | keycmdComplete
  /-- SEC_KEYSINK_ARM (R512). -/
  | secKeysinkArm
  /-- KEY_SINK_TIMEOUT (R512). -/
  | keySinkTimeout
  /-- COUNTER_RECORD_WRITE (R509). Register SEC_CTRSEL, SEC_CTRVAL or SEC_CTREP. -/
  | counterRecordWrite (r : Fin 3) (value : BitVec 32)
  /-- DEBOUNCE_CHANGE (R523). -/
  | debounceChange (n : Fin 12)
  /-- LONG_PRESS (R526). -/
  | longPress (n : Fin 12)
  /-- AUTO_REPEAT (R527). -/
  | autoRepeat (n : Fin 12)
  /-- KNOB_STATE_TAKEN (R529). -/
  | knobStateTaken (a b : Bool)
  /-- KNOB_CLEAR (R530). -/
  | knobClear
  /-- GP_PULSE (R532). -/
  | gpPulse (n : Fin 12) (byTask : Bool)
  /-- PULSE_END (R532). -/
  | pulseEnd (n : Fin 12)
  /-- VDD_IO_LOSS (R143). -/
  | vddIoLoss
  /-- VDD_IO_RETURN (R533). The levels of GP0 to GP11. -/
  | vddIoReturn (pins : BitVec 12)
  /-- VOID_SYMBOL_SLOT_END (R243). -/
  | voidSymbolSlotEnd
  deriving DecidableEq, Repr

end Sys2Proof
end

