-- ==== Sys2Proof/WellFormed.lean ====
section
/-! DEFINITION. Which commands are well formed: the operands that the part's pins, converters and windows can carry. The
meanings are total and need none of these checks. -/

namespace Sys2Proof

/-- A page that exists (R67). -/
def pageThere (p : Fin 32) : Bool := p.val < 18 || 24 ≤ p.val

/-- A word address (R8). -/
def wordAddr (a : BitVec 16) : Bool := a.toNat % 4 == 0

/-- Soft bits: −31 to +31 (R346). -/
def softOk (l : List Int) : Bool := l.all fun v => -31 ≤ v && v ≤ 31

/-- Store errors name cells 0 to 383, each at most once (R36, R588). -/
def cellsOk (l : List (Nat × Bool)) : Bool := (l.all fun e => e.1 < 384) && decide ((l.map (·.1)).Nodup)

/-- A staged twin's address (R71): page offset 0x240 to 0x3BC. -/
def twinAddr (a : BitVec 16) : Bool :=
  wordAddr a && a.toNat < 0x8000 && 0x240 ≤ a.toNat % 0x400 && a.toNat % 0x400 < 0x3C0

/-- An address of the packet store window (R37). -/
def storeAddr (a : BitVec 16) : Bool := wordAddr a && 0x8000 ≤ a.toNat && a.toNat < 0xE000

/-- A result of a 12-bit converter or a phase: below 4096. -/
def below4096 (n : Nat) : Bool := n < 4096

/-- Well-formed commands; the commands without a check of their own are listed by none of the arms. -/
def Instr.wellFormed : Instr → Bool
  | .registerWrite a _ => wordAddr a
  | .stagedTwinWrite a _ => twinAddr a
  | .commitGo p | .commitRevert p | .pageApply p | .commitTimeout p | .pageLock p => pageThere p
  | .pageEnable p _ | .pageSafe p _ | .eventPendClear p _ | .eventForce p _ => pageThere p
  | .pageSoftReset p => pageThere p
  | .itemHandover _ _ ecc soft => cellsOk ecc && softOk soft
  | .storeWindowWrite a _ => storeAddr a
  | .storeWindowRead a ecc => storeAddr a && cellsOk ecc
  | .dropQueuePop ecc | .qmxScrub ecc | .linkFrameReceived ecc => cellsOk ecc
  | .hostWrite bytes => !bytes.isEmpty
  | .hostRead bytes _ _ ecc => !bytes.isEmpty && cellsOk ecc
  | .hostQueuePush _ words => !words.isEmpty
  | .hostQueuePop _ _ ecc => cellsOk ecc
  | .legacyMappedWrite a _ => 0x10 ≤ a.toNat && a.toNat < 0x16
  | .lineFrameReceived _ _ _ phr llrs _ => softOk phr && softOk llrs
  | .lineMarkReceived _ _ _ phr items => softOk phr && items.all softOk
  | .laneSync syncs => syncs.all fun x => x.lane < 8
  | .radioHeaderReceived soft _ => softOk soft
  | .radioFrameReceived llrs _ => softOk llrs
  | .extFieldCheckEnd amp => below4096 amp
  | .nfcResponseReceived _ lastbits _ _ _ _ _ amp => lastbits < 8 && below4096 amp
  | _ => true

end Sys2Proof
end

