-- ==== Sys2Proof/Config.lean ====
section
/-! DEFINITION. What one part fixes and the manual leaves open: the free values, the factory trims in OTP and the base
matrices of the codes. Each is a constant without a body, so no statement can lean on a value of it. -/

namespace Sys2Proof.Config

/-- The free values (log entry 1): the n-th value that the manual leaves open on a run. State counts how many have been
drawn; each use takes the next one, reduced to the range the manual gives. -/
opaque freeNat : Nat → Nat

/-- The unique ID in OTP (R95). -/
opaque uid : BitVec 64

/-- The fixed reset value that the Narurdin 3 gives at a legacy address that the manual does not name (R127). -/
opaque narurdinReset : Nat → BitVec 8

/-- The HFRC trim in OTP (R253), at most 12 bits. -/
opaque hfrcTrim : BitVec 12

/-- The LFRC trim in OTP (R253), at most 10 bits. -/
opaque lfrcTrim : BitVec 10

/-- The factory trims CAS, DRV and HP of PA table entry i in OTP (R400, R417). -/
opaque paTrim : Nat → BitVec 32

/-- The device key in OTP, 16 bytes, that no register reads (R500). -/
opaque deviceKey : Nat → BitVec 8

/-- The data set "Narurdin LC base matrices, release 2.1" (R343): the shift of code c at row r and information column j,
or -1 for a zero block. The manual names the data set and does not print it. -/
opaque baseShift : Nat → Nat → Nat → Int

end Sys2Proof.Config
end

