-- ==== Sys2Proof/Machine/Coding.lean ====
section
/-! DEFINITION. Check sequences, whitening and the LDPC codes (R340 to R347). -/

namespace Sys2Proof.Machine

/-! ### Bits and bytes -/

/-- A byte's bits, most significant first (R334). -/
def byteBits (b : Byte) : List Bool := (List.range 8).map fun i => b.getLsbD (7 - i)

/-- Bytes as a bit stream (R334: byte i, bit b is stream bit 8i + 7 − b). -/
def bytesBits (l : List Byte) : List Bool := l.flatMap byteBits

/-- Bits as a number, the first most significant. -/
def bitsNat (l : List Bool) : Nat := l.foldl (fun n b => 2 * n + b.toNat) 0

/-- A bit stream cut into bytes; bits short of a byte are left out. -/
def bitsBytes : Nat → List Bool → List Byte
  | 0, _ => []
  | k + 1, l => if l.length < 8 then [] else BitVec.ofNat 8 (bitsNat (l.take 8)) :: bitsBytes k (l.drop 8)

/-- The whole bytes of a bit stream. -/
def toBytes (l : List Bool) : List Byte := bitsBytes (l.length / 8) l

/-! ### Check sequences (R340) -/

/-- One bit of a CRC that is not reflected: `w` wide, polynomial `poly`. -/
def crcBit (w poly crc : Nat) (b : Bool) : Nat :=
  let top := (crc / 2 ^ (w - 1)) % 2
  let sh := crc * 2 % 2 ^ w
  if top = b.toNat then sh else sh ^^^ poly

/-- PCHK and HDRCHK: CRC-8, polynomial 0x07, initial 0. -/
def crc8 (l : List Byte) : Nat := (bytesBits l).foldl (crcBit 8 0x07) 0

/-- CRC-16, polynomial 0x1021, initial 0xFFFF. -/
def crc16 (l : List Byte) : Nat := (bytesBits l).foldl (crcBit 16 0x1021) 0xFFFF

/-- One bit of the reflected CRC-32: the register holds its bits in reverse, polynomial 0xEDB8_8320. -/
def crc32Bit (crc : Nat) (b : Bool) : Nat := if crc % 2 = b.toNat then crc / 2 else crc / 2 ^^^ 0xEDB88320

/-- CRC-32, reflected, initial and final XOR all ones. -/
def crc32 (l : List Byte) : Nat :=
  (l.flatMap fun b => (byteBits b).reverse).foldl crc32Bit 0xFFFFFFFF ^^^ 0xFFFFFFFF

/-- The CRC-16 as appended, most significant byte first. -/
def crc16Bytes (l : List Byte) : List Byte := [BitVec.ofNat 8 (crc16 l / 256), BitVec.ofNat 8 (crc16 l)]

/-- The CRC-32 as appended, least significant byte first. -/
def crc32Bytes (l : List Byte) : List Byte :=
  let c := crc32 l
  [BitVec.ofNat 8 c, BitVec.ofNat 8 (c / 2 ^ 8), BitVec.ofNat 8 (c / 2 ^ 16), BitVec.ofNat 8 (c / 2 ^ 24)]

/-! ### Whitening (R341) -/

/-- One step of the whitening generator: the output bit and the next state. -/
def whitenStep (s : Nat) : Bool × Nat :=
  (s % 2 == 1, s / 2 + (s % 2 ^^^ s / 32 % 2) * 256)

/-- Bits XORed with the whitening sequence from a generator state on. -/
def whitenFrom : Nat → List Bool → List Bool
  | _, [] => []
  | s, b :: l => (b ^^ (whitenStep s).1) :: whitenFrom (whitenStep s).2 l

/-- Whitening, and its undoing. -/
def whiten (l : List Bool) : List Bool := whitenFrom 0x1FF l

/-! ### The LDPC codes (R342, R343) -/

/-- Lifting Z of a code. -/
def codeZ (c : Nat) : Nat := if c < 2 then 24 else 48

/-- Rows mb of a code's base matrix. -/
def codeRows (c : Nat) : Nat := [12, 8, 12, 4].getD c 12

/-- Information columns kb. -/
def codeInfo (c : Nat) : Nat := 24 - codeRows c

/-- n, k and the most codewords of a frame. -/
def codeN (c : Nat) : Nat := 24 * codeZ c
def codeK (c : Nat) : Nat := codeInfo c * codeZ c
def codeMost (c : Nat) : Nat := [6, 5, 3, 2].getD c 0

/-- The shift of block (i, j), or none for a zero block (R343). -/
def blockShift (c i j : Nat) : Option Nat :=
  let mb := codeRows c
  let kb := codeInfo c
  if j < kb then
    let h := Config.baseShift c i j
    if h < 0 then none else some (h.toNat % codeZ c)
  else if j = kb then
    (if i = 0 ∨ i = mb - 1 then some 1 else if i = mb / 2 then some 0 else none)
  else if i = j - kb - 1 ∨ i = j - kb then some 0 else none

/-- P^s applied to a block: entry t is entry (t + s) mod Z (R343). -/
def rotBlock (z s : Nat) (v : List Bool) : List Bool := (List.range z).map fun t => v.getD ((t + s) % z) false

/-- The sum of two blocks over GF(2). -/
def xorBlock (a b : List Bool) : List Bool := List.zipWith (· ^^ ·) a b

/-- Block `j` of a bit string. -/
def blockOf (z j : Nat) (l : List Bool) : List Bool := (l.drop (j * z)).take z

/-- λ_i of R344. -/
def lambdaRow (c : Nat) (u : List Bool) (i : Nat) : List Bool :=
  let z := codeZ c
  (List.range (codeInfo c)).foldl (fun acc j => match blockShift c i j with
    | none => acc
    | some h => xorBlock acc (rotBlock z h (blockOf z j u))) (List.replicate z false)

/-- The parity blocks q_{i+1}, q_{i+2}, … from q_i on (R344). -/
def parityFrom (c : Nat) (u q0 : List Bool) : Nat → Nat → List Bool → List (List Bool)
  | 0, _, _ => []
  | n + 1, i, q =>
    let next := if i = 0 then xorBlock (lambdaRow c u 0) (rotBlock (codeZ c) 1 q0)
      else
        let x := xorBlock (lambdaRow c u i) q
        if i = codeRows c / 2 then xorBlock x q0 else x
    next :: parityFrom c u q0 n (i + 1) next

/-- The codeword of `k` information bits: systematic (R344). -/
def encodeWord (c : Nat) (u : List Bool) : List Bool :=
  let z := codeZ c
  let q0 := (List.range (codeRows c)).foldl (fun acc i => xorBlock acc (lambdaRow c u i)) (List.replicate z false)
  u ++ q0 ++ (parityFrom c u q0 (codeRows c - 1) 0 q0).flatten

/-- Codewords of a stream of `bits` bits (R345). -/
def codewordsOf (c bits : Nat) : Nat := (bits + codeK c - 1) / codeK c

/-- Bits of the last codeword's information part that carry the stream (R345). -/
def lastBits (c bits : Nat) : Nat := bits - (codewordsOf c bits - 1) * codeK c

/-- Codeword `i` of a whitened stream as it is sent: the zeros that complete the last one are not sent (R345). -/
def codewordSent (c : Nat) (stream : List Bool) (i : Nat) : List Bool :=
  let k := codeK c
  let u := (stream.drop (i * k)).take k
  let pad := k - u.length
  let w := encodeWord c (u ++ List.replicate pad false)
  w.take u.length ++ w.drop k

/-! ### Decoding (R346, R347) -/

/-- The variables of check `t` of block row `i`. -/
def checkVars (c i t : Nat) : List Nat :=
  (List.range 24).filterMap fun j => (blockShift c i j).map fun h => j * codeZ c + (t + h) % codeZ c

/-- `v` held within ±m. -/
def clampTo (m : Int) (v : Int) : Int := max (-m) (min m v)

/-- The new message to input `k` of a check: the sign product of the others, their smallest magnitude times NORM
(0.625 to 1.0 in eighths) rounded down, in 6 bits. -/
def checkMessage (norm : Nat) (q : List Int) (k : Nat) : Int :=
  let others := q.eraseIdx k
  let m := (others.map Int.natAbs).foldl min 255
  let sign := others.foldl (fun b v => b ^^ decide (v < 0)) false
  let mag : Int := clampTo 31 ((m * (5 + norm) / 8 : Nat) : Int)
  if sign then -mag else mag

/-- The decoder's working state: posteriors, and the messages of every check. -/
structure DecodeState where
  post : List Int
  msgs : List (List Int)
  deriving DecidableEq, Repr

/-- One check node: `fixed` names the unsent bits, which enter every check as +31 and never change (R346). -/
def decodeCheck (c norm : Nat) (fixed : Nat → Bool) (d : DecodeState) (row t : Nat) : DecodeState :=
  let vars := checkVars c row t
  let at' := row * codeZ c + t
  let old := d.msgs.getD at' []
  let q := vars.zipIdx.map fun e => if fixed e.1 then 31 else d.post.getD e.1 0 - old.getD e.2 0
  let new := (List.range vars.length).map (checkMessage norm q)
  let post := vars.zipIdx.foldl (fun p e =>
    if fixed e.1 then p else p.set e.1 (clampTo 127 (q.getD e.2 0 + new.getD e.2 0))) d.post
  { post := post, msgs := d.msgs.set at' new }

/-- One iteration: every layer in row order. -/
def decodeIteration (c norm : Nat) (fixed : Nat → Bool) (d : DecodeState) : DecodeState :=
  (List.range (codeRows c)).foldl (fun d i =>
    (List.range (codeZ c)).foldl (fun d t => decodeCheck c norm fixed d i t) d) d

/-- The hard decisions: a posterior below 0 decides 1. -/
def hardBits (d : DecodeState) : List Bool := d.post.map fun v => decide (v < 0)

/-- A zero syndrome: every check has even parity. -/
def syndromeZero (c : Nat) (b : List Bool) : Bool :=
  (List.range (codeRows c)).all fun i => (List.range (codeZ c)).all fun t =>
    !((checkVars c i t).foldl (fun p v => p ^^ b.getD v false) false)

/-- Iterations until a zero syndrome, at most `left` more: the last state, the number used, and success. -/
def decodeLoop (c norm : Nat) (fixed : Nat → Bool) : Nat → Nat → DecodeState → List Bool × Nat × Bool
  | 0, used, d => (hardBits d, used, false)
  | left + 1, used, d =>
    let d := decodeIteration c norm fixed d
    if syndromeZero c (hardBits d) then (hardBits d, used + 1, true)
    else decodeLoop c norm fixed left (used + 1) d

/-- A codeword decoded from the soft bits received: `sent` information bits were sent, the rest enter as +31. The
information bits, the iterations used, and success. -/
def decodeWord (c norm maxIter sent : Nat) (llrs : List Int) : List Bool × Nat × Bool :=
  let k := codeK c
  let full := llrs.take sent ++ List.replicate (k - sent) 31 ++ llrs.drop sent
  let full := (full ++ List.replicate (codeN c - full.length) 0).take (codeN c)
  let fixed := fun v => decide (sent ≤ v) && decide (v < k)
  let r := decodeLoop c norm fixed maxIter 0
    { post := full, msgs := List.replicate (codeRows c * codeZ c) (List.replicate 24 0) }
  (r.1.take k, r.2.1, r.2.2)

end Sys2Proof.Machine
end

