-- ==== Sys2Proof/Machine/Crypto.lean ====
section
/-! DEFINITION. AES-128, CCM* with L = 2 and the key wrap of RFC 3394, as SEC uses them (R493, R500). -/

namespace Sys2Proof.Machine

/-! ### AES-128 -/

/-- Multiplication by x in GF(2^8) modulo x^8 + x^4 + x^3 + x + 1. -/
def gfDouble (a : Byte) : Byte := if a.getLsbD 7 then (a <<< 1) ^^^ 0x1B else a <<< 1

/-- The product of `a` with the lowest `n` bits of `b`. -/
def gfMulN : Nat → Byte → Byte → Byte
  | 0, _, _ => 0
  | n + 1, a, b => (if b.getLsbD 0 then a else 0) ^^^ gfMulN n (gfDouble a) (b >>> 1)

/-- Multiplication in GF(2^8). -/
def gfMul (a b : Byte) : Byte := gfMulN 8 a b

/-- The multiplicative inverse, 0 for 0: a^254. -/
def gfInv (a : Byte) : Byte :=
  let a2 := gfMul a a
  let a4 := gfMul a2 a2
  let a8 := gfMul a4 a4
  let a16 := gfMul a8 a8
  let a32 := gfMul a16 a16
  let a64 := gfMul a32 a32
  let a128 := gfMul a64 a64
  gfMul a128 (gfMul a64 (gfMul a32 (gfMul a16 (gfMul a8 (gfMul a4 a2)))))

/-- The S-box: the inverse, then the affine map. -/
def sbox (a : Byte) : Byte :=
  let b := gfInv a
  b ^^^ b.rotateLeft 1 ^^^ b.rotateLeft 2 ^^^ b.rotateLeft 3 ^^^ b.rotateLeft 4 ^^^ 0x63

/-- The inverse S-box. -/
def sboxInv (a : Byte) : Byte := gfInv (a.rotateLeft 1 ^^^ a.rotateLeft 3 ^^^ a.rotateLeft 6 ^^^ 0x05)

/-- Bytes XORed one by one. -/
def xorBytes (a b : List Byte) : List Byte := List.zipWith (· ^^^ ·) a b

/-- Round keys from word `i` on, from the last four words (newest last). -/
def expandFrom : Nat → Nat → Byte → List (List Byte) → List (List Byte)
  | 0, _, _, _ => []
  | n + 1, i, rcon, w =>
    let last := w.getD 3 []
    let t := if i % 4 = 0 then
        match (last.drop 1 ++ last.take 1).map sbox with
        | b :: r => (b ^^^ rcon) :: r
        | [] => []
      else last
    let new := xorBytes (w.getD 0 []) t
    new :: expandFrom n (i + 1) (if i % 4 = 0 then gfDouble rcon else rcon) (w.drop 1 ++ [new])

/-- The eleven round keys of a 16-byte key. -/
def roundKeys (key : List Byte) : List (List Byte) :=
  let w := (List.range 4).map fun i => (key.drop (4 * i)).take 4
  let all := w ++ expandFrom 40 4 0x01 w
  (List.range 11).map fun r => ((all.drop (4 * r)).take 4).flatten

/-- ShiftRows of a block in column order, row `r` by `r` columns; `back` undoes it. -/
def shiftRows (back : Bool) (b : List Byte) : List Byte :=
  (List.range 16).map fun i => b.getD ((i % 4) + 4 * ((i / 4 + (if back then 4 - i % 4 else i % 4)) % 4)) 0

/-- MixColumns with the coefficients of its first row. -/
def mixWith (c : List Byte) (b : List Byte) : List Byte :=
  (List.range 16).map fun i =>
    (List.range 4).foldl (fun acc k => acc ^^^ gfMul (c.getD ((k + 4 - i % 4) % 4) 0) (b.getD (4 * (i / 4) + k) 0)) 0

/-- AES-128 encryption of a block. -/
def aesEncrypt (key block : List Byte) : List Byte :=
  let ks := roundKeys key
  let b := xorBytes block (ks.getD 0 [])
  let b := (List.range 9).foldl (fun b r =>
    xorBytes (mixWith [2, 3, 1, 1] (shiftRows false (b.map sbox))) (ks.getD (r + 1) [])) b
  xorBytes (shiftRows false (b.map sbox)) (ks.getD 10 [])

/-- AES-128 decryption of a block. -/
def aesDecrypt (key block : List Byte) : List Byte :=
  let ks := roundKeys key
  let b := xorBytes block (ks.getD 10 [])
  let b := (List.range 9).foldl (fun b r =>
    mixWith [14, 11, 13, 9] (xorBytes ((shiftRows true b).map sboxInv) (ks.getD (9 - r) []))) b
  xorBytes ((shiftRows true b).map sboxInv) (ks.getD 0 [])

/-! ### CCM* with L = 2 and a 13-byte nonce (R493) -/

/-- Bytes cut into blocks of 16, the last one filled with zeros. -/
def blocks16 : Nat → List Byte → List (List Byte)
  | 0, _ => []
  | n + 1, l => if l.isEmpty then [] else
      (l.take 16 ++ List.replicate (16 - (l.take 16).length) 0) :: blocks16 n (l.drop 16)

/-- All blocks of a byte string. -/
def toBlocks (l : List Byte) : List (List Byte) := blocks16 (l.length / 16 + 1) l

/-- A 16-bit number, most significant byte first. -/
def be16 (n : Nat) : List Byte := [BitVec.ofNat 8 (n / 256), BitVec.ofNat 8 n]

/-- A 32-bit number, most significant byte first. -/
def be32 (n : Nat) : List Byte :=
  [BitVec.ofNat 8 (n / 2 ^ 24), BitVec.ofNat 8 (n / 2 ^ 16), BitVec.ofNat 8 (n / 2 ^ 8), BitVec.ofNat 8 n]

/-- The CBC-MAC of CCM* before its encryption. -/
def ccmMac (key nonce aad msg : List Byte) (m : Nat) : List Byte :=
  let flags := (if aad.isEmpty then 0 else 64) + 8 * ((m - 2) / 2) + 1
  let b0 := BitVec.ofNat 8 flags :: nonce ++ be16 msg.length
  let head := if aad.isEmpty then [] else toBlocks (be16 aad.length ++ aad)
  let x := (head ++ toBlocks msg).foldl (fun x b => aesEncrypt key (xorBytes x b)) (aesEncrypt key b0)
  x.take m

/-- Key stream block `i`. -/
def ccmStream (key nonce : List Byte) (i : Nat) : List Byte := aesEncrypt key ((1 : Byte) :: nonce ++ be16 i)

/-- Encryption or decryption of the message. -/
def ccmCrypt (key nonce msg : List Byte) : List Byte :=
  xorBytes msg ((List.range (msg.length / 16 + 1)).flatMap fun i => ccmStream key nonce (i + 1))

/-- The encrypted message and the encrypted MIC. -/
def ccmProtect (key nonce aad msg : List Byte) (m : Nat) : List Byte :=
  ccmCrypt key nonce msg ++ xorBytes (ccmMac key nonce aad msg m) (ccmStream key nonce 0)

/-- The message, where its MIC verifies. -/
def ccmVerify (key nonce aad body mic : List Byte) : Option (List Byte) :=
  let msg := ccmCrypt key nonce body
  if xorBytes (ccmMac key nonce aad msg mic.length) (ccmStream key nonce 0) = mic then some msg else none

/-! ### Key wrap (RFC 3394) -/

/-- The default initial value. -/
def wrapIv : List Byte := List.replicate 8 0xA6

/-- A register A with the step number XORed in. -/
def wrapCount (a : List Byte) (t : Nat) : List Byte := xorBytes a (List.replicate 7 0 ++ [BitVec.ofNat 8 t])

/-- The 24-byte wrap of a 16-byte key under `kek`. -/
def keyWrap (kek key : List Byte) : List Byte :=
  let step := fun (x : List Byte × List Byte × List Byte) (j : Nat) =>
    let b1 := aesEncrypt kek (x.1 ++ x.2.1)
    let a := wrapCount (b1.take 8) (2 * j + 1)
    let b2 := aesEncrypt kek (a ++ x.2.2)
    (wrapCount (b2.take 8) (2 * j + 2), b1.drop 8, b2.drop 8)
  let r := (List.range 6).foldl step (wrapIv, key.take 8, key.drop 8)
  r.1 ++ r.2.1 ++ r.2.2

/-- The key of a 24-byte blob, where the integrity check passes. -/
def keyUnwrap (kek blob : List Byte) : Option (List Byte) :=
  let step := fun (x : List Byte × List Byte × List Byte) (k : Nat) =>
    let j := 5 - k
    let b2 := aesDecrypt kek (wrapCount x.1 (2 * j + 2) ++ x.2.2)
    let b1 := aesDecrypt kek (wrapCount (b2.take 8) (2 * j + 1) ++ x.2.1)
    (b1.take 8, b1.drop 8, b2.drop 8)
  let r := (List.range 6).foldl step (blob.take 8, (blob.drop 8).take 8, blob.drop 16)
  if r.1 = wrapIv then some (r.2.1 ++ r.2.2) else none

end Sys2Proof.Machine
end

