-- ==== Sys2Proof/Machine/Events.lean ====
section
/-! DEFINITION. The event sources of R255, in global event numbers, with the page and bit of each (R68), and the router
task numbers of R267. -/

namespace Sys2Proof.Machine

/-! Events of the SYS page. -/
def Ev.SYS_READY : Nat := 0
def Ev.SYS_STALL : Nat := 1
def Ev.SYS_CMT_DONE : Nat := 2
def Ev.SYS_CMT_PARTIAL : Nat := 3
def Ev.SYS_CMT_TIMEOUT : Nat := 4
def Ev.SYS_LOCK_VIOL : Nat := 5
def Ev.SYS_ACC_ERR : Nat := 6
def Ev.SYS_SWEVT : Nat := 7
/-! Events of the PWR page. -/
def Ev.PWR_WARN : Nat := 8
def Ev.PWR_RECOVER : Nat := 9
def Ev.PWR_BANK_LOW : Nat := 10
def Ev.PWR_BANK_OK : Nat := 11
def Ev.PWR_BANK_CRIT : Nat := 12
def Ev.PWR_TXSUP_LOW : Nat := 13
def Ev.PWR_LINE_OVERLOAD : Nat := 14
def Ev.PWR_MEAS_DONE : Nat := 15
/-! Events of the THM page. -/
def Ev.THM_A : Nat := 16
def Ev.THM_B : Nat := 17
def Ev.THM_C : Nat := 18
def Ev.THM_D : Nat := 19
def Ev.THM_OVERTEMP : Nat := 20
def Ev.THM_FLUE_LIMIT : Nat := 21
def Ev.THM_FLUE_CLEAR : Nat := 22
def Ev.THM_SAMPLE : Nat := 23
/-! Events of the CLK page. -/
def Ev.CLK_XO_OK : Nat := 24
def Ev.CLK_XO_FAIL : Nat := 25
def Ev.CLK_LXO_OK : Nat := 26
def Ev.CLK_LXO_FAIL : Nat := 27
def Ev.CLK_CDR_LOCK : Nat := 28
def Ev.CLK_CDR_LOSS : Nat := 29
def Ev.CLK_WIRE_FALLBACK : Nat := 30
def Ev.CLK_WIRE_RESTORE : Nat := 31
def Ev.CLK_HFRC_TRIM : Nat := 32
def Ev.CLK_RAMP_DONE : Nat := 33
def Ev.CLK_ISL_WAIT : Nat := 34
def Ev.CLK_ISL_RESUME : Nat := 35
/-! Events of the SCH page. -/
def Ev.SCH_TASK_DONE : Nat := 36
def Ev.SCH_TASK_MISSED : Nat := 37
def Ev.SCH_DEFER_E : Nat := 38
def Ev.SCH_DEFER_H : Nat := 39
def Ev.SCH_QUEUE_LOW : Nat := 40
def Ev.SCH_PREEMPT : Nat := 41
def Ev.SCH_IDLE : Nat := 42
def Ev.SCH_TASK_ABORT : Nat := 43
def Ev.SCH_ORBIT : Nat := 44
def Ev.SCH_SLOT_ERR : Nat := 45
def Ev.SCH_MUTEX_WAIT : Nat := 46
def Ev.SCH_TASK_START : Nat := 47
/-! Events of the EVR page. -/
def Ev.EVR_OVERRUN : Nat := 48
def Ev.EVR_GRP_CHANGE : Nat := 49
def Ev.EVR_LOCKED : Nat := 50
def Ev.EVR_SW : Nat := 51
/-! Events of the CAL page. -/
def Ev.CAL_TICK_SEC : Nat := 52
def Ev.CAL_TICK_MIN : Nat := 53
def Ev.CAL_ALARM (i : Nat) : Nat := 54 + i
def Ev.CAL_ERR : Nat := 62
def Ev.CAL_WRAP : Nat := 63
/-! Events of the HIF page. -/
def Ev.HIF_CRC_ERR : Nat := 64
def Ev.HIF_OVERRUN : Nat := 65
def Ev.HIF_UNDERRUN : Nat := 66
def Ev.HIF_WAKE : Nat := 67
/-! Events of the QMX page. -/
def Ev.QMX_CRED_LOW : Nat := 68
def Ev.QMX_STORE_FULL : Nat := 69
def Ev.QMX_XING_RESYNC : Nat := 70
def Ev.QMX_ECC_UNCORR : Nat := 71
def Ev.QMX_ECC_FIXED : Nat := 72
def Ev.QMX_DROP : Nat := 73
def Ev.QMX_HOSTQ_READY : Nat := 74
def Ev.QMX_HOSTQ_SPACE : Nat := 75
/-! Events of the SEC page. -/
def Ev.SEC_DONE : Nat := 76
def Ev.SEC_AUTH_FAIL : Nat := 77
def Ev.SEC_REPLAY : Nat := 78
def Ev.SEC_KEY_LOADED : Nat := 79
def Ev.SEC_KEY_LOCKED : Nat := 80
def Ev.SEC_EPOCH_NEW : Nat := 81
def Ev.SEC_CTR_WARN : Nat := 82
def Ev.SEC_ERR : Nat := 83
/-! Events of the FEC page. -/
def Ev.FEC_DEC_OK : Nat := 84
def Ev.FEC_DEC_FAIL : Nat := 85
def Ev.FEC_ITER_MAX : Nat := 86
def Ev.FEC_CRC_FAIL : Nat := 87
def Ev.FEC_BUSY_FULL : Nat := 88
def Ev.FEC_ENC_DONE : Nat := 89
def Ev.FEC_STAT_WRAP : Nat := 90
def Ev.FEC_IDLE : Nat := 91
/-! Events of the NFC page. -/
def Ev.NFC_FIELD_ON : Nat := 92
def Ev.NFC_FIELD_OFF : Nat := 93
def Ev.NFC_EXT_FIELD : Nat := 94
def Ev.NFC_MISMATCH : Nat := 95
def Ev.NFC_TUNE_DONE : Nat := 96
def Ev.NFC_CARD_NEAR : Nat := 97
def Ev.NFC_HAND_NEAR : Nat := 98
def Ev.NFC_COMET_DONE : Nat := 99
def Ev.NFC_DRV_OVERCUR : Nat := 100
def Ev.NFC_BASELINE_UPD : Nat := 101
def Ev.NFC_TXSUP_SAG : Nat := 102
def Ev.NFC_SAFE : Nat := 103
/-! Events of the NFP page. -/
def Ev.NFP_TX_DONE : Nat := 104
def Ev.NFP_RX_DONE : Nat := 105
def Ev.NFP_RX_TIMEOUT : Nat := 106
def Ev.NFP_COLLISION : Nat := 107
def Ev.NFP_CRC_ERR : Nat := 108
def Ev.NFP_PARITY_ERR : Nat := 109
def Ev.NFP_FRAMING_ERR : Nat := 110
def Ev.NFP_INV_DONE : Nat := 111
def Ev.NFP_TAG_FOUND : Nat := 112
def Ev.NFP_TAGLIST_FULL : Nat := 113
def Ev.NFP_FDT_VIOL : Nat := 114
def Ev.NFP_TECH_DETECT : Nat := 115
/-! Events of the WIR page. -/
def Ev.WIR_PLUG : Nat := 116
def Ev.WIR_UNPLUG : Nat := 117
def Ev.WIR_POLARITY : Nat := 118
def Ev.WIR_SHORT : Nat := 119
def Ev.WIR_OVERCUR : Nat := 120
def Ev.WIR_EC_CONV : Nat := 121
def Ev.WIR_EC_DIVERGE : Nat := 122
def Ev.WIR_TX_DONE : Nat := 123
def Ev.WIR_RX_DONE : Nat := 124
def Ev.WIR_RX_ERR : Nat := 125
def Ev.WIR_CYCLE_START : Nat := 126
def Ev.WIR_GEN_WIN : Nat := 127
def Ev.WIR_COLLISION : Nat := 128
def Ev.WIR_POWER_ON : Nat := 129
def Ev.WIR_POWER_OFF : Nat := 130
def Ev.WIR_NEWNODE : Nat := 131
/-! Events of the RAD page. -/
def Ev.RAD_STATE : Nat := 132
def Ev.RAD_CAL_DONE : Nat := 133
def Ev.RAD_CAL_NEEDED : Nat := 134
def Ev.RAD_LOCK_LOST : Nat := 135
def Ev.RAD_TX_DONE : Nat := 136
def Ev.RAD_TX_TIMEOUT : Nat := 137
def Ev.RAD_TX_ABORT : Nat := 138
def Ev.RAD_EXTPA_FAULT : Nat := 139
def Ev.RAD_CCA_BUSY : Nat := 140
def Ev.RAD_DUTY_LIMIT : Nat := 141
/-! Events of the RDM page. -/
def Ev.RDM_SYNC : Nat := 142
def Ev.RDM_HDR_OK : Nat := 143
def Ev.RDM_RX_DONE : Nat := 144
def Ev.RDM_RX_ERR : Nat := 145
def Ev.RDM_PREEMPT : Nat := 146
def Ev.RDM_RSSI_HI : Nat := 147
def Ev.RDM_RSSI_LO : Nat := 148
def Ev.RDM_LANE_OVR : Nat := 149
def Ev.RDM_AFC_LIMIT : Nat := 150
def Ev.RDM_SEARCH_TO : Nat := 151
/-! Events of the GPI page. -/
def Ev.GPI_PIN (i : Nat) : Nat := 152 + i
def Ev.GPI_KNOB_STEP : Nat := 164
def Ev.GPI_LONG_PRESS : Nat := 165
def Ev.GPI_PLUG_CHANGE : Nat := 166
def Ev.GPI_REPEAT : Nat := 167
/-! Events of link engine n. -/
def Ev.LE_RX (n : Nat) : Nat := 168 + 3 * n
def Ev.LE_TX (n : Nat) : Nat := 169 + 3 * n
def Ev.LE_FAIL (n : Nat) : Nat := 170 + 3 * n

/-- The page map of the events: page, first event number, number of events (R255). -/
def eventPages : List (Nat × Nat × Nat) := [
  (0, 0, 8), (1, 8, 8), (2, 16, 8), (3, 24, 12), (4, 36, 12), (5, 48, 4), (7, 52, 12), (8, 64, 4), (9, 68, 8), (10, 76, 8), (11, 84, 8), (12, 92, 12), (13, 104, 12), (14, 116, 16), (15, 132, 10), (16, 142, 10), (17, 152, 16),
  (24, 168, 3), (25, 171, 3), (26, 174, 3), (27, 177, 3), (28, 180, 3), (29, 183, 3), (30, 186, 3), (31, 189, 3)]

/-- The page that owns event `e`, and the event's bit in the page's PG_EVT words (R68, R255). -/
def eventHome (e : Nat) : Option (Nat × Nat) :=
  (eventPages.find? fun p => p.2.1 ≤ e && e < p.2.1 + p.2.2).map fun p => (p.1, e - p.2.1)

/-- The first event number and the number of events of a page; no events for a page without (R87 NEVT). -/
def pageEvents (p : Nat) : Nat × Nat :=
  match eventPages.find? fun q => q.1 == p with
  | some q => q.2
  | none => (0, 0)

/-! Router tasks (R267). -/
def Task.NOP : Nat := 0
def Task.RAISE_IRQ_A : Nat := 1
def Task.RAISE_IRQ_B : Nat := 2
def Task.STALL_CHECK : Nat := 3
def Task.MEAS_STORE : Nat := 4
def Task.FORCE_DAMPER : Nat := 5
def Task.RELEASE_DAMPER : Nat := 6
def Task.LINE_POWER_OFF : Nat := 7
def Task.TEMP_SAMPLE : Nat := 8
def Task.FLUE_SNAPSHOT : Nat := 9
def Task.XO_START : Nat := 10
def Task.XO_STOP : Nat := 11
def Task.LXO_CAL : Nat := 12
def Task.WIRE_FALLBACK : Nat := 13
def Task.WIRE_RESTORE : Nat := 14
def Task.HFRC_TRIM : Nat := 15
def Task.CAL_SNAPSHOT : Nat := 32
def Task.CAL_SUBSEC_SYNC : Nat := 33
def Task.QMX_FLUSH_DROPQ : Nat := 34
def Task.QMX_SCRUB : Nat := 35
def Task.SEC_ZEROISE_UNLOCKED : Nat := 36
def Task.SEC_KEYSINK_ARM : Nat := 37
def Task.FEC_ABORT : Nat := 38
def Task.FIELD_ON : Nat := 39
def Task.FIELD_OFF : Nat := 40
def Task.COMET_SWEEP : Nat := 41
def Task.TUNE_SWEEP : Nat := 42
def Task.BASELINE_CAPTURE : Nat := 43
def Task.NFC_FORCE_SAFE : Nat := 44
def Task.POLL_START : Nat := 45
def Task.POLL_STOP : Nat := 46
def Task.INVENTORY_START : Nat := 47
def Task.NFP_TX_QUEUED : Nat := 48
def Task.NFP_ABORT : Nat := 49
def Task.LINE_CYCLE_START : Nat := 50
def Task.EC_RETRAIN : Nat := 51
def Task.LINE_TX_QUEUED : Nat := 52
def Task.LINE_POWER_ON : Nat := 53
def Task.LINE_POWER_OFF_SOFT : Nat := 54
def Task.LINE_PROBE : Nat := 55
def Task.POLARITY_RECHECK : Nat := 56
def Task.LINE_HOLD : Nat := 57
def Task.TO_SLEEP : Nat := 58
def Task.TO_STANDBY : Nat := 59
def Task.TO_SYNTH : Nat := 60
def Task.TO_RX : Nat := 61
def Task.TO_TX : Nat := 62
def Task.SYNTH_CAL : Nat := 63
def Task.CCA_START : Nat := 64
def Task.PA_OFF : Nat := 65
def Task.SEARCH_START : Nat := 66
def Task.SEARCH_STOP : Nat := 67
def Task.SCH_TRIG (m : Nat) : Nat := 16 + m
def Task.GP_PULSE (m : Nat) : Nat := 68 + m
def Task.LE_KICK (n : Nat) : Nat := 80 + 2 * n
def Task.LE_HOLD (n : Nat) : Nat := 81 + 2 * n

end Sys2Proof.Machine
end

