-- ==== Sys2Proof/Machine/RegMap.lean ====
section
/-! DEFINITION. The register map: every register of the manual's page tables with its offset, its access masks
(access codes of R9: RW, W1C, RS, RL), its reset word, and one named constant per field. Written from the register
tables of spec/02 to spec/19. -/

namespace Sys2Proof.Machine

/-- A bit field of a register word: the word's address and the field's high and low bit. -/
structure Fld where
  addr : Nat
  hi   : Nat
  lo   : Nat
  deriving DecidableEq, Repr

/-- The width of a field in bits. -/
def Fld.width (f : Fld) : Nat := f.hi + 1 - f.lo

/-- The same field in the staged twin of its register (R71: the twin stands at the register's address + 0x200). -/
def Fld.twin (f : Fld) : Fld := { f with addr := f.addr + 0x200 }

/-- One row of the register map: `n` registers from offset `off`, `stride` bytes apart. The masks name the bits of
each access code of R9; `rl` marks the lockable fields (R82). -/
structure RegRow where
  off    : Nat
  n      : Nat
  stride : Nat
  rw     : Nat
  w1c    : Nat
  rs     : Nat
  wo     : Nat
  rl     : Nat
  reset  : Nat
  deriving DecidableEq, Repr

/-- Registers of every page header (R86, R87, R88, R89, R90, R91, R92, R93, R94). -/
def rowsHeader : List RegRow := [
  ⟨0x000, 1, 4, 0x0, 0x0, 0x0, 0x0, 0x0, 0x210000⟩, -- PG_ID
  ⟨0x004, 1, 4, 0x0, 0x0, 0x0, 0x0, 0x0, 0x0⟩, -- PG_CAPS
  ⟨0x008, 1, 4, 0x5, 0x0, 0x0, 0x2, 0x0, 0x0⟩, -- PG_CTRL
  ⟨0x00c, 1, 4, 0x0, 0x0, 0x0, 0x0, 0x0, 0x4⟩, -- PG_STAT
  ⟨0x010, 1, 4, 0x0, 0x0, 0x0, 0x0, 0x0, 0x0⟩, -- PG_EVT_RAW
  ⟨0x014, 1, 4, 0x0, 0xffffffff, 0x0, 0x0, 0x0, 0x0⟩, -- PG_EVT_PEND
  ⟨0x018, 1, 4, 0xffffffff, 0x0, 0x0, 0x0, 0x0, 0x0⟩, -- PG_EVT_EN
  ⟨0x01c, 1, 4, 0x0, 0x0, 0x0, 0xffffffff, 0x0, 0x0⟩, -- PG_EVT_FORCE
  ⟨0x020, 1, 4, 0x0, 0x0, 0x0, 0x0, 0x0, 0x0⟩, -- PG_LOCK
  ⟨0x024, 1, 4, 0x0, 0x0, 0x0, 0x3, 0x0, 0x0⟩, -- PG_COMMIT
  ⟨0x028, 1, 4, 0x0, 0x0, 0x0, 0x0, 0x0, 0x0⟩, -- PG_CFGSTAT
  ⟨0x02c, 1, 4, 0x0, 0x1f, 0x0, 0x0, 0x0, 0x0⟩ -- PG_ERR
]

/-- Registers of the SYS page (R95, R96, R97, R98, R99, R100, R101, R102). -/
def rowsSYS : List RegRow := [
  ⟨0x040, 1, 4, 0x0, 0x0, 0x0, 0x0, 0x0, 0x4864⟩, -- SYS_PARTID
  ⟨0x044, 1, 4, 0x0, 0x0, 0x0, 0x0, 0x0, 0x201⟩, -- SYS_STEPID
  ⟨0x048, 1, 4, 0x0, 0x0, 0x0, 0x0, 0x0, 0x0⟩, -- SYS_UID_LO
  ⟨0x04c, 1, 4, 0x0, 0x0, 0x0, 0x0, 0x0, 0x0⟩, -- SYS_UID_HI
  ⟨0x050, 1, 4, 0x0, 0x0, 0x1, 0x0, 0x1, 0x0⟩, -- SYS_ROLE
  ⟨0x054, 1, 4, 0x0, 0x0, 0xff, 0x0, 0xff, 0x0⟩, -- SYS_NODE_ID
  ⟨0x060, 1, 4, 0xff03ffff, 0x0, 0x0, 0x0, 0x0, 0x0⟩, -- SYS_CMT_MASK
  ⟨0x064, 1, 4, 0x1, 0x0, 0x0, 0x0, 0x0, 0x0⟩, -- SYS_CMT_MODE
  ⟨0x068, 1, 4, 0x0, 0x0, 0x0, 0x7, 0x0, 0x0⟩, -- SYS_CMT_GO
  ⟨0x06c, 1, 4, 0xfff, 0x0, 0x0, 0x0, 0x0, 0x64⟩, -- SYS_CMT_TIMEOUT
  ⟨0x070, 1, 4, 0x800000ff, 0x0, 0x0, 0x0, 0x800000ff, 0xa⟩, -- SYS_STALL_TO
  ⟨0x074, 1, 4, 0x0, 0x0, 0x0, 0x1, 0x0, 0x0⟩, -- SYS_SWEVT
  ⟨0x078, 1, 4, 0x0, 0x80000000, 0x0, 0x0, 0x0, 0x0⟩, -- SYS_ACC_INFO
  ⟨0x07c, 1, 4, 0x0, 0x0, 0x0, 0xffffffff, 0x0, 0x0⟩, -- SYS_SWRST
  ⟨0x1c0, 1, 4, 0x0, 0x0, 0x0, 0x0, 0x0, 0x0⟩, -- SYS_CMT_STAT
  ⟨0x1c4, 1, 4, 0x0, 0x0, 0x0, 0x0, 0x0, 0x0⟩, -- SYS_CMT_FAIL
  ⟨0x1c8, 1, 4, 0x0, 0x0, 0x0, 0x0, 0x0, 0x0⟩, -- SYS_CMT_INFO
  ⟨0x1cc, 1, 4, 0x0, 0x0, 0x0, 0x0, 0x0, 0x0⟩ -- RST_CAUSE
]

/-- Registers of the PWR page (R167, R168, R169, R170). -/
def rowsPWR_0 : List RegRow := [
  ⟨0x030, 1, 4, 0x0, 0x0, 0x0, 0x0, 0x0, 0x0⟩, -- PWR_MODE
  ⟨0x034, 1, 4, 0x0, 0x0, 0x0, 0x0, 0x0, 0x0⟩, -- PWR_BANK_LEVEL
  ⟨0x038, 1, 4, 0x0, 0x0, 0x0, 0x0, 0x0, 0x0⟩, -- PWR_VMEAS
  ⟨0x03c, 1, 4, 0x0, 0x0, 0x0, 0x0, 0x0, 0x0⟩, -- PWR_LASTDIP
  ⟨0x040, 1, 4, 0x0, 0x0, 0x1f, 0x0, 0x1f, 0x8⟩, -- PWR_WARN_LVL
  ⟨0x044, 1, 4, 0x0, 0x0, 0x3f, 0x0, 0x0, 0x7⟩, -- PWR_DAMP_DWELL
  ⟨0x048, 1, 4, 0x0, 0x0, 0xffff, 0x0, 0x0, 0x32⟩, -- PWR_DAMP_ALLOW
  ⟨0x04c, 1, 4, 0x0, 0x0, 0x3, 0x0, 0x3, 0x0⟩, -- PWR_BANK_KIND
  ⟨0x050, 1, 4, 0x0, 0x0, 0xffffff, 0x0, 0x0, 0x2710⟩, -- PWR_BANK_CAP
  ⟨0x054, 1, 4, 0x0, 0x0, 0xfffff, 0x0, 0x0, 0x7d0⟩, -- PWR_BANK_RATE
  ⟨0x058, 1, 4, 0x0, 0x0, 0xfff0fff, 0x0, 0x0, 0x640960⟩, -- PWR_BANK_STORE
  ⟨0x05c, 1, 4, 0x0, 0x0, 0xffffffff, 0x0, 0x0, 0xfa0019⟩, -- PWR_BANK_THR
  ⟨0x060, 1, 4, 0x0, 0x0, 0xffffff, 0x0, 0x0, 0x0⟩, -- PWR_RESV0
  ⟨0x064, 1, 4, 0x0, 0x0, 0xffffff, 0x0, 0x0, 0xc8⟩, -- PWR_RESV1
  ⟨0x068, 1, 4, 0x0, 0x0, 0xffffff, 0x0, 0x0, 0x3e8⟩, -- PWR_RESV2
  ⟨0x06c, 1, 4, 0x0, 0x0, 0xffffff, 0x0, 0x0, 0xbb8⟩, -- PWR_RESV3
  ⟨0x070, 1, 4, 0x0, 0x0, 0x7f, 0x0, 0x7f, 0x14⟩, -- PWR_LINE_ILIM
  ⟨0x080, 1, 4, 0x0, 0x0, 0x0, 0x103, 0x0, 0x0⟩, -- PWR_DAMP_CTRL
  ⟨0x084, 1, 4, 0x0, 0x0, 0x0, 0x80ffffff, 0x0, 0x0⟩, -- PWR_BANK_ADJ
  ⟨0x088, 1, 4, 0x0, 0x0, 0x0, 0x1, 0x0, 0x0⟩ -- PWR_MEAS_CTRL
]

/-- Registers of the PWR page (R170, R171, R173). -/
def rowsPWR_1 : List RegRow := [
  ⟨0x08c, 1, 4, 0xff01, 0x0, 0x0, 0x0, 0x0, 0x200⟩, -- PWR_EMBER
  ⟨0x100, 16, 4, 0xffffffff, 0x0, 0x0, 0x0, 0x0, 0x0⟩, -- PWR_KEEP
  ⟨0x1c0, 1, 4, 0x0, 0x0, 0x0, 0x0, 0x0, 0x0⟩ -- PWR_DIP_COUNT
]

/-- Registers of the PWR page, all parts. -/
def rowsPWR : List RegRow := rowsPWR_0 ++ rowsPWR_1

/-- Registers of the THM page (R178, R191, R192, R193, R195, R196, R197). -/
def rowsTHM_0 : List RegRow := [
  ⟨0x030, 1, 4, 0x0, 0x0, 0x0, 0x0, 0x0, 0x0⟩, -- THM_TEMP
  ⟨0x034, 1, 4, 0x0, 0x0, 0x0, 0x0, 0x0, 0x0⟩, -- FLUE_BIAS
  ⟨0x038, 1, 4, 0x0, 0x0, 0x0, 0x0, 0x0, 0x0⟩, -- THM_CMP_STAT
  ⟨0x03c, 1, 4, 0x0, 0x0, 0x0, 0x0, 0x0, 0x0⟩, -- THM_FLAGS
  ⟨0x040, 1, 4, 0x0, 0x0, 0x10103, 0x0, 0x100, 0x1⟩, -- THM_CFG
  ⟨0x044, 4, 4, 0x0, 0x0, 0x1307ff, 0x0, 0x0, 0xf0⟩, -- THM_LVL
  ⟨0x054, 4, 4, 0x0, 0x0, 0x3f, 0x0, 0x0, 0x4⟩, -- THM_HYST
  ⟨0x064, 4, 4, 0x0, 0x0, 0x3f, 0x0, 0x0, 0x3⟩, -- THM_DWELL
  ⟨0x074, 1, 4, 0x0, 0x0, 0xffff, 0x0, 0xffff, 0x80⟩, -- FLUE_K1
  ⟨0x078, 1, 4, 0x0, 0x0, 0xffff, 0x0, 0xffff, 0x200⟩, -- FLUE_K2
  ⟨0x07c, 1, 4, 0x0, 0x0, 0xffff, 0x0, 0xffff, 0x400⟩, -- FLUE_K3
  ⟨0x080, 1, 4, 0x0, 0x0, 0xffff, 0x0, 0xffff, 0x12c⟩, -- FLUE_TAU1
  ⟨0x084, 1, 4, 0x0, 0x0, 0xffff, 0x0, 0xffff, 0xbb8⟩, -- FLUE_TAU2
  ⟨0x088, 1, 4, 0x0, 0x0, 0xffff, 0x0, 0xffff, 0x5dc0⟩, -- FLUE_TAU3
  ⟨0x08c, 1, 4, 0x0, 0x0, 0xff0fff, 0x0, 0x0, 0xa0078⟩, -- FLUE_LIMIT
  ⟨0x090, 1, 4, 0xffffffff, 0x0, 0x0, 0x0, 0xffff, 0x4⟩, -- FLUE_PWR
  ⟨0x0a0, 1, 4, 0xff0007, 0x0, 0x0, 0x0, 0x0, 0x0⟩, -- THM_AIN_CTRL
  ⟨0x0a4, 1, 4, 0x0, 0x0, 0x0, 0x7, 0x0, 0x0⟩, -- THM_CMD
  ⟨0x0a8, 1, 4, 0xff31, 0x0, 0x0, 0x0, 0x0, 0xa00⟩, -- THM_HEAT
  ⟨0x0b0, 3, 4, 0xffffffff, 0x0, 0x0, 0x0, 0x0, 0x0⟩ -- FLUE_X
]

/-- Registers of the THM page (R194, R199). -/
def rowsTHM_1 : List RegRow := [
  ⟨0x1c0, 2, 4, 0x0, 0x80000000, 0x0, 0x0, 0x0, 0x0⟩, -- THM_AIN
  ⟨0x1c8, 1, 4, 0x0, 0x0, 0x0, 0x0, 0x0, 0x0⟩, -- FLUE_SNAP
  ⟨0x1cc, 1, 4, 0x0, 0x0, 0x0, 0x0, 0x0, 0x0⟩, -- FLUE_PSTAT
  ⟨0x1d0, 1, 4, 0x0, 0x0, 0x0, 0x0, 0x0, 0x0⟩ -- THM_OTCOUNT
]

/-- Registers of the THM page, all parts. -/
def rowsTHM : List RegRow := rowsTHM_0 ++ rowsTHM_1

/-- Registers of the CLK page (R251, R252, R253, R254). -/
def rowsCLK : List RegRow := [
  ⟨0x030, 1, 4, 0x0, 0x0, 0x0, 0x0, 0x0, 0x20⟩, -- CLK_STAT
  ⟨0x034, 1, 4, 0x0, 0x0, 0x0, 0x0, 0x0, 0x0⟩, -- CLK_GATE_STAT
  ⟨0x038, 1, 4, 0x0, 0x0, 0x0, 0x0, 0x0, 0x0⟩, -- CLK_XO_CNT
  ⟨0x03c, 1, 4, 0x0, 0x0, 0x0, 0x0, 0x0, 0x4⟩, -- CLK_FEC_DIV
  ⟨0x040, 1, 4, 0x0, 0x0, 0xff1f, 0x0, 0x0, 0x208⟩, -- CLK_XO_TOL
  ⟨0x044, 1, 4, 0x0, 0x0, 0x7, 0x0, 0x7, 0x0⟩, -- CLK_FAILPOL
  ⟨0x048, 1, 4, 0x0, 0x0, 0xff03, 0x0, 0x0, 0xa00⟩, -- CLK_WIRE_SRC
  ⟨0x04c, 1, 4, 0x0, 0x0, 0x1f, 0x0, 0x0, 0x2⟩, -- CLK_RAMP_STEP
  ⟨0x050, 1, 4, 0x0, 0x0, 0x3, 0x0, 0x3, 0x0⟩, -- CLK_XO_CFG
  ⟨0x054, 1, 4, 0x0, 0x0, 0x3, 0x0, 0x1, 0x3⟩, -- CLK_LXO_CFG
  ⟨0x058, 1, 4, 0x0, 0x0, 0x3, 0x0, 0x3, 0x3⟩, -- CLK_HFRC_CFG
  ⟨0x080, 1, 4, 0x1, 0x0, 0x0, 0x0, 0x0, 0x0⟩, -- CLK_XO_CTRL
  ⟨0x084, 1, 4, 0x0, 0x0, 0x0, 0xf, 0x0, 0x0⟩, -- CLK_CMD
  ⟨0x088, 1, 4, 0x3ff, 0xc0000000, 0x0, 0x0, 0x0, 0x0⟩, -- CLK_LFRC_CAL
  ⟨0x1c0, 1, 4, 0x0, 0x0, 0x0, 0x0, 0x0, 0x0⟩, -- CLK_HFRC_STAT
  ⟨0x1c4, 1, 4, 0x0, 0x0, 0x0, 0x0, 0x0, 0x0⟩ -- CLK_FAILCNT
]

/-- Registers of the SCH page (R221, R222, R223). -/
def rowsSCH_0 : List RegRow := [
  ⟨0x030, 1, 4, 0x0, 0x0, 0x0, 0x0, 0x0, 0x0⟩, -- SCH_TIME
  ⟨0x034, 1, 4, 0x0, 0x0, 0x0, 0x0, 0x0, 0x40000000⟩, -- SCH_STAT
  ⟨0x038, 1, 4, 0x0, 0x0, 0x0, 0x0, 0x0, 0x0⟩, -- SCH_RES
  ⟨0x03c, 1, 4, 0x0, 0x0, 0x0, 0x0, 0x0, 0x0⟩, -- SCH_LAST
  ⟨0x040, 1, 4, 0x0, 0x0, 0x101, 0x0, 0x1, 0x1⟩, -- SCH_CFG
  ⟨0x044, 1, 4, 0x0, 0x0, 0x7, 0x0, 0x7, 0x1⟩, -- SCH_MUTEX
  ⟨0x048, 1, 4, 0x0, 0x0, 0x7f, 0x0, 0x0, 0x4⟩, -- SCH_QLOW
  ⟨0x080, 1, 4, 0x0, 0x0, 0xffffff, 0x0, 0xffffff, 0x1⟩, -- SCH_COST_E0
  ⟨0x084, 1, 4, 0x0, 0x0, 0xffffff, 0x0, 0xffffff, 0xbb8⟩, -- SCH_COST_E1
  ⟨0x088, 1, 4, 0x0, 0x0, 0xffffff, 0x0, 0xffffff, 0x1770⟩, -- SCH_COST_E2
  ⟨0x08c, 1, 4, 0x0, 0x0, 0xffffff, 0x0, 0xffffff, 0x64⟩, -- SCH_COST_E3
  ⟨0x090, 1, 4, 0x0, 0x0, 0xffffff, 0x0, 0xffffff, 0x258⟩, -- SCH_COST_E4
  ⟨0x094, 1, 4, 0x0, 0x0, 0xffffff, 0x0, 0xffffff, 0xa⟩, -- SCH_COST_E5
  ⟨0x098, 1, 4, 0x0, 0x0, 0xffffff, 0x0, 0xffffff, 0xbb8⟩, -- SCH_COST_E6
  ⟨0x09c, 1, 4, 0x0, 0x0, 0xffffff, 0x0, 0xffffff, 0x4b0⟩, -- SCH_COST_E7
  ⟨0x0a0, 1, 4, 0x0, 0x0, 0xffffff, 0x0, 0xffffff, 0xc⟩, -- SCH_COST_E8
  ⟨0x0a4, 1, 4, 0x0, 0x0, 0xffffff, 0x0, 0xffffff, 0x2710⟩, -- SCH_COST_E9
  ⟨0x0a8, 1, 4, 0x0, 0x0, 0xffffff, 0x0, 0xffffff, 0x1⟩, -- SCH_COST_E10
  ⟨0x0ac, 1, 4, 0x0, 0x0, 0xffffff, 0x0, 0xffffff, 0x0⟩, -- SCH_COST_E11
  ⟨0x0c0, 1, 4, 0x0, 0x0, 0xffffffff, 0x0, 0xffffffff, 0x10000⟩ -- SCH_COST_H0
]

/-- Registers of the SCH page (R222, R223, R224, R227). -/
def rowsSCH_1 : List RegRow := [
  ⟨0x0c4, 1, 4, 0x0, 0x0, 0xffffffff, 0x0, 0xffffffff, 0xa03c0⟩, -- SCH_COST_H1
  ⟨0x0c8, 1, 4, 0x0, 0x0, 0xffffffff, 0x0, 0xffffffff, 0x1403c0⟩, -- SCH_COST_H2
  ⟨0x0cc, 1, 4, 0x0, 0x0, 0xffffffff, 0x0, 0xffffffff, 0x500f0⟩, -- SCH_COST_H3
  ⟨0x0d0, 1, 4, 0x0, 0x0, 0xffffffff, 0x0, 0xffffffff, 0x505a0⟩, -- SCH_COST_H4
  ⟨0x0d4, 1, 4, 0x0, 0x0, 0xffffffff, 0x0, 0xffffffff, 0x10140⟩, -- SCH_COST_H5
  ⟨0x0d8, 1, 4, 0x0, 0x0, 0xffffffff, 0x0, 0xffffffff, 0x640190⟩, -- SCH_COST_H6
  ⟨0x0dc, 1, 4, 0x0, 0x0, 0xffffffff, 0x0, 0xffffffff, 0x280190⟩, -- SCH_COST_H7
  ⟨0x0e0, 1, 4, 0x0, 0x0, 0xffffffff, 0x0, 0xffffffff, 0x100c0⟩, -- SCH_COST_H8
  ⟨0x0e4, 1, 4, 0x0, 0x0, 0xffffffff, 0x0, 0xffffffff, 0x1e03c0⟩, -- SCH_COST_H9
  ⟨0x0e8, 1, 4, 0x0, 0x0, 0xffffffff, 0x0, 0xffffffff, 0x10000⟩, -- SCH_COST_H10
  ⟨0x0ec, 1, 4, 0x0, 0x0, 0xffffffff, 0x0, 0xffffffff, 0x10000⟩, -- SCH_COST_H11
  ⟨0x100, 1, 4, 0x0, 0x0, 0x0, 0x73f, 0x0, 0x0⟩, -- SCH_SLOTCMD
  ⟨0x104, 1, 4, 0x0, 0x0, 0x0, 0xffff, 0x0, 0x0⟩, -- SCH_TRIG
  ⟨0x120, 1, 4, 0xfffff000, 0x0, 0x0, 0x0, 0x0, 0x0⟩, -- SCH_WIN0, bits [11:0] reserved (R203)
  ⟨0x124, 3, 4, 0xffffffff, 0x0, 0x0, 0x0, 0x0, 0x0⟩, -- SCH_WIN1 to SCH_WIN3
  ⟨0x130, 1, 4, 0xffffff, 0x0, 0x0, 0x0, 0x0, 0x0⟩, -- SCH_WIN4, bits [31:24] reserved (R203)
  ⟨0x134, 2, 4, 0xffffffff, 0x0, 0x0, 0x0, 0x0, 0x0⟩, -- SCH_WIN5, SCH_WIN6
  ⟨0x13c, 1, 4, 0x0, 0x0, 0x0, 0x0, 0x0, 0x0⟩, -- SCH_WIN7
  ⟨0x1c0, 8, 4, 0x0, 0x0, 0x0, 0x0, 0x0, 0x0⟩, -- SCH_SLOTSTATE
  ⟨0x1e0, 2, 4, 0x0, 0xffffffff, 0x0, 0x0, 0x0, 0x0⟩, -- SCH_ENDPEND
  ⟨0x1e8, 1, 4, 0x0, 0x0, 0x0, 0x0, 0x0, 0x0⟩, -- SCH_CNT
  ⟨0x1ec, 1, 4, 0x0, 0x80000000, 0x0, 0x0, 0x0, 0x0⟩ -- SCH_ERRINFO
]

/-- Registers of the SCH page, all parts. -/
def rowsSCH : List RegRow := rowsSCH_0 ++ rowsSCH_1

/-- Registers of the EVR page (R271, R272, R273, R274, R275). -/
def rowsEVR : List RegRow := [
  ⟨0x030, 1, 4, 0x0, 0x0, 0x0, 0x0, 0x0, 0x0⟩, -- EVR_STAT
  ⟨0x034, 1, 4, 0x0, 0x0, 0x0, 0x0, 0x0, 0x0⟩, -- EVR_GRP_STAT
  ⟨0x040, 32, 4, 0xc0ff7fff, 0x0, 0x0, 0x0, 0xc0ff7fff, 0xff⟩, -- EVR_CH
  ⟨0x0c0, 8, 4, 0x8000ffff, 0x0, 0x0, 0x0, 0x8000ffff, 0xffff⟩, -- EVR_GRP
  ⟨0x0e0, 1, 4, 0x0, 0x0, 0x0, 0xffff, 0x0, 0x0⟩, -- EVR_GRPCMD
  ⟨0x0e4, 1, 4, 0x0, 0x0, 0x0, 0xffffffff, 0x0, 0x0⟩, -- EVR_SWFIRE
  ⟨0x1c0, 1, 4, 0x0, 0x0, 0x0, 0x0, 0x0, 0x0⟩ -- EVR_CNT
]

/-- Registers of the IRQ page (R138, R139, R140, R141). -/
def rowsIRQ : List RegRow := [
  ⟨0x030, 1, 4, 0x0, 0x0, 0x0, 0x0, 0x0, 0x0⟩, -- IRQ_PAGESUM
  ⟨0x040, 6, 4, 0x0, 0xffffffff, 0x0, 0x0, 0x0, 0x0⟩, -- IRQ_SUM
  ⟨0x058, 1, 4, 0xffffffff, 0x0, 0x0, 0x0, 0xffffffff, 0x0⟩, -- IRQ_ROUTE
  ⟨0x05c, 1, 4, 0xf0f, 0x0, 0x0, 0x0, 0xf0f, 0x0⟩, -- IRQ_PINCFG
  ⟨0x060, 1, 4, 0x0, 0x3, 0x0, 0x0, 0x0, 0x0⟩, -- IRQ_RTR
  ⟨0x1c0, 1, 4, 0x0, 0x0, 0x0, 0x0, 0x0, 0x0⟩ -- IRQ_PINSTAT
]

/-- Registers of the CAL page (R277, R278, R292, R293, R294, R295, R296). -/
def rowsCAL : List RegRow := [
  ⟨0x030, 1, 4, 0x0, 0x1, 0x0, 0x0, 0x0, 0x0⟩, -- CAL_STAT
  ⟨0x034, 1, 4, 0x0, 0x0, 0x0, 0x0, 0x0, 0x0⟩, -- CAL_ERRCODE
  ⟨0x038, 1, 4, 0x0, 0x60000000, 0x0, 0x0, 0x0, 0x0⟩, -- CAL_SYNCSTAT
  ⟨0x03c, 1, 4, 0x0, 0xff, 0x0, 0x0, 0x0, 0x0⟩, -- CAL_ALMSTAT
  ⟨0x040, 1, 4, 0x0, 0x0, 0x3f7f7f, 0x0, 0x0, 0x0⟩, -- CAL_TIME
  ⟨0x044, 1, 4, 0x0, 0x0, 0x3ff1f3f, 0x0, 0x0, 0x60000101⟩, -- CAL_DATE
  ⟨0x048, 1, 4, 0x0, 0x0, 0x7fff, 0x0, 0x0, 0x0⟩, -- CAL_SUBSEC
  ⟨0x04c, 1, 4, 0x0, 0x0, 0x3, 0x0, 0x0, 0x0⟩, -- CAL_CFG
  ⟨0x050, 1, 4, 0x0, 0x0, 0x1b, 0x0, 0x1b, 0x0⟩, -- CAL_SYNC
  ⟨0x060, 8, 8, 0x0, 0x0, 0x73f7f7f, 0x0, 0x0, 0x0⟩, -- CAL_ALM
  ⟨0x064, 8, 8, 0x0, 0x0, 0xdf3f003f, 0x0, 0x0, 0x0⟩, -- CAL_ALMMASK
  ⟨0x0c0, 1, 4, 0x0, 0x0, 0x0, 0x3, 0x0, 0x0⟩, -- CAL_ADJ
  ⟨0x1c0, 1, 4, 0x0, 0x0, 0x0, 0x0, 0x0, 0x0⟩, -- CAL_SNAPTIME
  ⟨0x1c4, 1, 4, 0x0, 0x0, 0x0, 0x0, 0x0, 0x60000101⟩, -- CAL_SNAPDATE
  ⟨0x1c8, 1, 4, 0x0, 0x0, 0x0, 0x0, 0x0, 0x0⟩ -- CAL_SNAPSUB
]

/-- Registers of the HIF page (R133, R134, R135, R136, R137). -/
def rowsHIF : List RegRow := [
  ⟨0x030, 1, 4, 0x0, 0x20, 0x0, 0x0, 0x0, 0x0⟩, -- HIF_STAT
  ⟨0x040, 1, 4, 0x1ff03, 0x0, 0x0, 0x0, 0x0, 0x4001⟩, -- HIF_WAIT
  ⟨0x044, 1, 4, 0x1, 0x0, 0x0, 0x0, 0x0, 0x0⟩, -- HIF_CRC_EN
  ⟨0x048, 1, 4, 0x1, 0x0, 0x0, 0x0, 0x0, 0x0⟩, -- HIF_VIEW
  ⟨0x04c, 1, 4, 0x0, 0x0, 0x0, 0x10f, 0x0, 0x0⟩, -- HIF_QCTL
  ⟨0x050, 1, 4, 0x0, 0x0, 0x0, 0x0, 0x0, 0x0⟩, -- HIF_QSTAT
  ⟨0x1c0, 1, 4, 0x0, 0x0, 0x0, 0x0, 0x0, 0x0⟩ -- HIF_CNT
]

/-- Registers of the QMX page (R57, R58, R59, R60, R61, R62, R63, R64, R65). -/
def rowsQMX_0 : List RegRow := [
  ⟨0x030, 1, 4, 0x0, 0x0, 0x0, 0x0, 0x0, 0x1800180⟩, -- QMX_FREECELLS
  ⟨0x034, 1, 4, 0x0, 0x0, 0x0, 0x0, 0x0, 0x0⟩, -- QMX_XLOST
  ⟨0x038, 1, 4, 0x0, 0x0, 0x0, 0x0, 0x0, 0x0⟩, -- QMX_DROPCNT
  ⟨0x03c, 1, 4, 0x0, 0x0, 0x0, 0x0, 0x0, 0x3f⟩, -- QMX_STALLINFO
  ⟨0x040, 1, 4, 0x0, 0x0, 0x3f003f, 0x0, 0x0, 0x20008⟩, -- QMX_CRED0
  ⟨0x044, 1, 4, 0x0, 0x0, 0x3f003f, 0x0, 0x0, 0x20008⟩, -- QMX_CRED1
  ⟨0x048, 1, 4, 0x0, 0x0, 0x3f003f, 0x0, 0x0, 0x20008⟩, -- QMX_CRED2
  ⟨0x04c, 1, 4, 0x0, 0x0, 0x3f003f, 0x0, 0x0, 0x20010⟩, -- QMX_CRED3
  ⟨0x050, 1, 4, 0x0, 0x0, 0x3f003f, 0x0, 0x0, 0x20008⟩, -- QMX_CRED4
  ⟨0x054, 1, 4, 0x0, 0x0, 0x3f003f, 0x0, 0x0, 0x20010⟩, -- QMX_CRED5
  ⟨0x058, 1, 4, 0x0, 0x0, 0x3f003f, 0x0, 0x0, 0x20004⟩, -- QMX_CRED6
  ⟨0x05c, 1, 4, 0x0, 0x0, 0x3f003f, 0x0, 0x0, 0x20004⟩, -- QMX_CRED7
  ⟨0x060, 1, 4, 0x0, 0x0, 0x3f003f, 0x0, 0x0, 0x20002⟩, -- QMX_CRED8
  ⟨0x064, 1, 4, 0x0, 0x0, 0x3f003f, 0x0, 0x0, 0x20002⟩, -- QMX_CRED9
  ⟨0x080, 1, 4, 0x0, 0x0, 0x8000001f, 0x0, 0x0, 0x0⟩, -- QMX_DROPQ
  ⟨0x090, 1, 4, 0x0, 0x0, 0x0, 0x0, 0x0, 0x0⟩, -- QMX_ECCSTAT
  ⟨0x0a0, 1, 4, 0x0, 0x0, 0x0, 0x3f, 0x0, 0x0⟩, -- QMX_CNT_CLR
  ⟨0x1c0, 1, 4, 0x0, 0x0, 0x0, 0x0, 0x0, 0x100008⟩, -- QMX_XSTAT0
  ⟨0x1c4, 1, 4, 0x0, 0x0, 0x0, 0x0, 0x0, 0x100008⟩, -- QMX_XSTAT1
  ⟨0x1c8, 1, 4, 0x0, 0x0, 0x0, 0x0, 0x0, 0x100008⟩ -- QMX_XSTAT2
]

/-- Registers of the QMX page (R65). -/
def rowsQMX_1 : List RegRow := [
  ⟨0x1cc, 1, 4, 0x0, 0x0, 0x0, 0x0, 0x0, 0x100010⟩, -- QMX_XSTAT3
  ⟨0x1d0, 1, 4, 0x0, 0x0, 0x0, 0x0, 0x0, 0x100008⟩, -- QMX_XSTAT4
  ⟨0x1d4, 1, 4, 0x0, 0x0, 0x0, 0x0, 0x0, 0x100010⟩, -- QMX_XSTAT5
  ⟨0x1d8, 1, 4, 0x0, 0x0, 0x0, 0x0, 0x0, 0x100004⟩, -- QMX_XSTAT6
  ⟨0x1dc, 1, 4, 0x0, 0x0, 0x0, 0x0, 0x0, 0x100004⟩, -- QMX_XSTAT7
  ⟨0x1e0, 1, 4, 0x0, 0x0, 0x0, 0x0, 0x0, 0x100002⟩, -- QMX_XSTAT8
  ⟨0x1e4, 1, 4, 0x0, 0x0, 0x0, 0x0, 0x0, 0x100002⟩, -- QMX_XSTAT9
  ⟨0x1e8, 1, 4, 0x0, 0x0, 0x0, 0x0, 0x0, 0x100002⟩, -- QMX_XSTAT10
  ⟨0x1ec, 1, 4, 0x0, 0x0, 0x0, 0x0, 0x0, 0x100004⟩, -- QMX_XSTAT11
  ⟨0x1f0, 1, 4, 0x0, 0x0, 0x0, 0x0, 0x0, 0x100008⟩, -- QMX_XSTAT12
  ⟨0x1f4, 1, 4, 0x0, 0x0, 0x0, 0x0, 0x0, 0x100000⟩, -- QMX_XSTAT13
  ⟨0x1f8, 1, 4, 0x0, 0x0, 0x0, 0x0, 0x0, 0x100000⟩, -- QMX_XSTAT14
  ⟨0x1fc, 1, 4, 0x0, 0x0, 0x0, 0x0, 0x0, 0x100000⟩ -- QMX_XSTAT15
]

/-- Registers of the QMX page, all parts. -/
def rowsQMX : List RegRow := rowsQMX_0 ++ rowsQMX_1

/-- Registers of the SEC page (R516, R517, R518, R520, R521). -/
def rowsSEC : List RegRow := [
  ⟨0x030, 1, 4, 0x0, 0x0, 0x0, 0x0, 0x0, 0x0⟩, -- SEC_SLOTS
  ⟨0x034, 1, 4, 0x0, 0x0, 0x0, 0x0, 0x0, 0x0⟩, -- SEC_SINK
  ⟨0x038, 1, 4, 0x0, 0x80000000, 0x0, 0x0, 0x0, 0x0⟩, -- SEC_LAST
  ⟨0x03c, 1, 4, 0x0, 0x0, 0x0, 0x0, 0x0, 0x0⟩, -- SEC_CHECK
  ⟨0x040, 1, 4, 0x0, 0x0, 0x80003f3f, 0x0, 0x80000000, 0x808⟩, -- SEC_CFG
  ⟨0x044, 1, 4, 0x0, 0x0, 0xffffffff, 0x0, 0xffffffff, 0x0⟩, -- SEC_SYSID
  ⟨0x080, 4, 4, 0x0, 0x0, 0x0, 0xffffffff, 0x0, 0x0⟩, -- SEC_KEY
  ⟨0x090, 1, 4, 0x0, 0x0, 0x0, 0x71f, 0x0, 0x0⟩, -- SEC_KEYCMD
  ⟨0x094, 1, 4, 0xffffffff, 0x0, 0x0, 0x0, 0x0, 0x0⟩, -- SEC_KEYLOCK
  ⟨0x098, 1, 4, 0x811f00ff, 0x0, 0x0, 0x0, 0x811f00ff, 0x81000000⟩, -- SEC_SINKCFG
  ⟨0x0a0, 6, 4, 0xffffffff, 0x0, 0x0, 0x0, 0x0, 0x0⟩, -- SEC_WRAP
  ⟨0x0c0, 1, 4, 0x3ff, 0x0, 0x0, 0x0, 0x0, 0x0⟩, -- SEC_CTRSEL
  ⟨0x0c4, 1, 4, 0xffffffff, 0x0, 0x0, 0x0, 0x0, 0x0⟩, -- SEC_CTRVAL
  ⟨0x0c8, 1, 4, 0x800000ff, 0x0, 0x0, 0x0, 0x0, 0x0⟩, -- SEC_CTREP
  ⟨0x0cc, 1, 4, 0x0, 0x80000000, 0x0, 0x0, 0x0, 0x0⟩, -- SEC_CTR_WARN
  ⟨0x1c0, 1, 4, 0x0, 0x0, 0x0, 0x0, 0x0, 0x0⟩ -- SEC_CNT
]

/-- Registers of the FEC page (R354, R355, R356). -/
def rowsFEC : List RegRow := [
  ⟨0x030, 1, 4, 0x0, 0x0, 0x0, 0x0, 0x0, 0x0⟩, -- FEC_STAT
  ⟨0x034, 1, 4, 0x0, 0x0, 0x0, 0x0, 0x0, 0x0⟩, -- FEC_LAST
  ⟨0x040, 1, 4, 0x0, 0x0, 0x330f, 0x0, 0x330f, 0x100f⟩, -- FEC_CODE
  ⟨0x044, 1, 4, 0x0, 0x0, 0x3f, 0x0, 0x0, 0xc⟩, -- FEC_ITER_MAX
  ⟨0x048, 1, 4, 0x0, 0x0, 0x3, 0x0, 0x0, 0x1⟩, -- FEC_CFG
  ⟨0x1c0, 1, 4, 0x0, 0x0, 0x0, 0x0, 0x0, 0x0⟩, -- FEC_CWCNT
  ⟨0x1c4, 1, 4, 0x0, 0x0, 0x0, 0x0, 0x0, 0x0⟩, -- FEC_ITERSUM
  ⟨0x1c8, 1, 4, 0x0, 0x0, 0x0, 0x0, 0x0, 0x0⟩, -- FEC_FRMCNT
  ⟨0x1cc, 1, 4, 0x0, 0x0, 0x0, 0x0, 0x0, 0x0⟩ -- FEC_FRMCNT2
]

/-- Registers of the NFC page (R465, R466, R467, R468). -/
def rowsNFC_0 : List RegRow := [
  ⟨0x030, 1, 4, 0x0, 0x4, 0x0, 0x0, 0x0, 0x0⟩, -- NFC_STAT
  ⟨0x034, 1, 4, 0x0, 0x0, 0x0, 0x0, 0x0, 0x0⟩, -- NFC_DRV_STAT
  ⟨0x038, 1, 4, 0x0, 0x0, 0x0, 0x0, 0x0, 0x0⟩, -- NFC_MISMATCH_Q
  ⟨0x03c, 1, 4, 0x0, 0x0, 0x0, 0x0, 0x0, 0x0⟩, -- NFC_COMET_STAT
  ⟨0x040, 1, 4, 0x0, 0x0, 0x1f0f1f, 0x0, 0x1f, 0x3030f⟩, -- NFC_DRV_LVL
  ⟨0x044, 1, 4, 0x0, 0x0, 0x3f, 0x0, 0x0, 0x14⟩, -- NFC_MODIDX
  ⟨0x048, 1, 4, 0x0, 0x0, 0x9fff0fff, 0x0, 0x0, 0x80800414⟩, -- NFC_TUNE_CFG
  ⟨0x04c, 1, 4, 0x0, 0x0, 0xffffffff, 0x0, 0x0, 0x3200fa⟩, -- NFC_COMET_IVL
  ⟨0x050, 1, 4, 0x0, 0x0, 0xf0f0f, 0x0, 0x0, 0x30808⟩, -- NFC_COMET_BURST
  ⟨0x054, 1, 4, 0x0, 0x0, 0xf03ff, 0x0, 0x0, 0x10029⟩, -- NFC_CARD_THR
  ⟨0x058, 1, 4, 0x0, 0x0, 0xfff07ff, 0x0, 0x0, 0x2140017⟩, -- NFC_HAND_THR
  ⟨0x05c, 1, 4, 0x0, 0x0, 0x10f07, 0x0, 0x0, 0x304⟩, -- NFC_COMET_CFG
  ⟨0x060, 1, 4, 0x0, 0x0, 0x80000fff, 0x0, 0x80000000, 0x80000040⟩, -- NFC_EXT_CFG
  ⟨0x080, 1, 4, 0x3f, 0x0, 0x0, 0x0, 0x0, 0x20⟩, -- NFC_TUNE_S0
  ⟨0x084, 1, 4, 0x3f, 0x0, 0x0, 0x0, 0x0, 0x20⟩, -- NFC_TUNE_S1
  ⟨0x088, 1, 4, 0x3f, 0x0, 0x0, 0x0, 0x0, 0x20⟩, -- NFC_TUNE_P0
  ⟨0x08c, 1, 4, 0x3f, 0x0, 0x0, 0x0, 0x0, 0x20⟩, -- NFC_TUNE_P1
  ⟨0x090, 1, 4, 0xfff, 0x0, 0x0, 0x0, 0x0, 0x0⟩, -- NFC_BASE_AMP
  ⟨0x094, 1, 4, 0xfff, 0x0, 0x0, 0x0, 0x0, 0x0⟩, -- NFC_BASE_PH
  ⟨0x098, 1, 4, 0x0, 0x0, 0x0, 0x7, 0x0, 0x0⟩ -- NFC_CMD
]

/-- Registers of the NFC page (R469). -/
def rowsNFC_1 : List RegRow := [
  ⟨0x1c0, 1, 4, 0x0, 0x0, 0x0, 0x0, 0x0, 0x0⟩, -- NFC_CNT
  ⟨0x1c4, 1, 4, 0x0, 0x0, 0x0, 0x0, 0x0, 0x0⟩ -- NFC_TUNE_LAST
]

/-- Registers of the NFC page, all parts. -/
def rowsNFC : List RegRow := rowsNFC_0 ++ rowsNFC_1

/-- Registers of the NFP page (R488, R489, R490, R491, R492). -/
def rowsNFP : List RegRow := [
  ⟨0x030, 1, 4, 0x0, 0x100, 0x0, 0x0, 0x0, 0x0⟩, -- NFP_STAT
  ⟨0x034, 1, 4, 0x0, 0x0, 0x0, 0x0, 0x0, 0x0⟩, -- NFP_LAST
  ⟨0x038, 1, 4, 0x0, 0x80000000, 0x0, 0x0, 0x0, 0x0⟩, -- NFP_TAGLIST_CNT
  ⟨0x03c, 1, 4, 0x0, 0x0, 0x0, 0x0, 0x0, 0x0⟩, -- NFP_ISO4STAT
  ⟨0x040, 1, 4, 0x0, 0x0, 0x3, 0x0, 0x0, 0x0⟩, -- NFP_TECH
  ⟨0x044, 1, 4, 0x0, 0x0, 0x703, 0x0, 0x0, 0x0⟩, -- NFP_RATE
  ⟨0x048, 1, 4, 0x0, 0x0, 0xffffffff, 0x0, 0x0, 0x1a7c0400⟩, -- NFP_FDT
  ⟨0x04c, 1, 4, 0x0, 0x0, 0x100fffff, 0x0, 0x0, 0x6a⟩, -- NFP_FWT
  ⟨0x050, 1, 4, 0x0, 0x0, 0xffff77ff, 0x0, 0x0, 0x33002288⟩, -- NFP_POLL_CFG
  ⟨0x080, 1, 4, 0x0, 0x0, 0x0, 0x7, 0x0, 0x0⟩, -- NFP_CMD
  ⟨0x084, 1, 4, 0x3f, 0x0, 0x0, 0x0, 0x0, 0x0⟩, -- NFP_TAGSEL
  ⟨0x0a0, 8, 4, 0x0, 0x0, 0x0, 0x0, 0x0, 0x0⟩, -- NFP_TAGWIN
  ⟨0x1c0, 1, 4, 0x0, 0x0, 0x0, 0x0, 0x0, 0x0⟩, -- NFP_CNT
  ⟨0x1c4, 1, 4, 0x0, 0x0, 0x0, 0x0, 0x0, 0x0⟩ -- NFP_POLLCNT
]

/-- Registers of the WIR page (R390, R391, R392). -/
def rowsWIR_0 : List RegRow := [
  ⟨0x030, 1, 4, 0x0, 0x0, 0x0, 0x0, 0x0, 0x4000⟩, -- WIR_STAT
  ⟨0x034, 1, 4, 0x0, 0x0, 0x0, 0x0, 0x0, 0x0⟩, -- WIR_CDR_STAT
  ⟨0x038, 1, 4, 0x0, 0x0, 0x0, 0x0, 0x0, 0x0⟩, -- WIR_EC_RES
  ⟨0x03c, 1, 4, 0x0, 0x0, 0x0, 0x0, 0x0, 0x0⟩, -- WIR_ISNS
  ⟨0x040, 1, 4, 0x0, 0x0, 0x7, 0x0, 0x0, 0x4⟩, -- WIR_GEN
  ⟨0x044, 1, 4, 0x0, 0x0, 0xff003fff, 0x0, 0x0, 0x140003e8⟩, -- WIR_CYCLE
  ⟨0x048, 1, 4, 0x0, 0x0, 0xffffffff, 0x0, 0x0, 0x0⟩, -- WIR_WIN_M1
  ⟨0x04c, 1, 4, 0x0, 0x0, 0xffffffff, 0x0, 0x0, 0x0⟩, -- WIR_WIN_M2
  ⟨0x050, 1, 4, 0x0, 0x0, 0xffffffff, 0x0, 0x0, 0x320384⟩, -- WIR_WIN_M3
  ⟨0x054, 1, 4, 0x0, 0x0, 0xf, 0x0, 0xf, 0xa⟩, -- WIR_TXAMP
  ⟨0x058, 1, 4, 0x0, 0x0, 0x800fffff, 0x0, 0x0, 0x800a1e28⟩, -- WIR_EC_CTRL
  ⟨0x05c, 1, 4, 0x0, 0x0, 0x3, 0x0, 0x3, 0x0⟩, -- WIR_POL
  ⟨0x060, 1, 4, 0x0, 0x0, 0xff3fff, 0x0, 0xff3fff, 0x320a0a⟩, -- WIR_PWR_CFG
  ⟨0x064, 1, 4, 0x0, 0x0, 0xff3f, 0x0, 0x0, 0x1004⟩, -- WIR_PLUG_CFG
  ⟨0x068, 1, 4, 0x0, 0x0, 0xf0f, 0x0, 0x0, 0x203⟩, -- WIR_CDR_CFG
  ⟨0x06c, 1, 4, 0x0, 0x0, 0xffff, 0x0, 0x0, 0x4004⟩, -- WIR_CSMA
  ⟨0x070, 1, 4, 0x0, 0x0, 0x3, 0x0, 0x0, 0x0⟩, -- WIR_CFG
  ⟨0x080, 1, 4, 0x0, 0x0, 0x0, 0x3f, 0x0, 0x0⟩, -- WIR_CMD
  ⟨0x084, 1, 4, 0x0, 0x80000000, 0x0, 0x0, 0x0, 0x0⟩, -- WIR_ANN_INFO
  ⟨0x088, 1, 4, 0x0, 0x0, 0x0, 0x0, 0x0, 0x0⟩ -- WIR_ANN_UID_LO
]

/-- Registers of the WIR page (R392, R393, R394). -/
def rowsWIR_1 : List RegRow := [
  ⟨0x08c, 1, 4, 0x0, 0x0, 0x0, 0x0, 0x0, 0x0⟩, -- WIR_ANN_UID_HI
  ⟨0x0a0, 8, 4, 0x0, 0x0, 0x0, 0x0, 0x0, 0x0⟩, -- WIR_PRESENT
  ⟨0x1c0, 1, 4, 0x0, 0x0, 0x0, 0x0, 0x0, 0x0⟩, -- WIR_CNT
  ⟨0x1c4, 1, 4, 0x0, 0x0, 0x0, 0x0, 0x0, 0x0⟩ -- WIR_CNT2
]

/-- Registers of the WIR page, all parts. -/
def rowsWIR : List RegRow := rowsWIR_0 ++ rowsWIR_1

/-- Registers of the RAD page (R415, R416, R417). -/
def rowsRAD_0 : List RegRow := [
  ⟨0x030, 1, 4, 0x0, 0xc00, 0x0, 0x0, 0x0, 0x0⟩, -- RAD_STATE
  ⟨0x034, 1, 4, 0x0, 0x0, 0x0, 0x0, 0x0, 0x0⟩, -- RAD_CAL_STAT
  ⟨0x038, 1, 4, 0x0, 0x0, 0x0, 0x0, 0x0, 0x0⟩, -- RAD_CAL_FREQ
  ⟨0x03c, 1, 4, 0x0, 0x0, 0x0, 0x0, 0x0, 0x0⟩, -- RAD_TXSTAT
  ⟨0x040, 1, 4, 0x0, 0x0, 0x3ffffff, 0x0, 0x3ffffff, 0x200457a⟩, -- RAD_FREQ
  ⟨0x044, 1, 4, 0x0, 0x0, 0xffff, 0x0, 0xffff, 0x1e2d⟩, -- RAD_CHAN
  ⟨0x048, 1, 4, 0x0, 0x0, 0x1, 0x0, 0x0, 0x0⟩, -- RAD_CFG
  ⟨0x04c, 1, 4, 0x0, 0x0, 0x1f07, 0x0, 0x1f00, 0x1902⟩, -- RAD_PASTEP
  ⟨0x050, 1, 4, 0x0, 0x0, 0x1f, 0x0, 0x0, 0x0⟩, -- RAD_EXTPA_LEAD
  ⟨0x054, 1, 4, 0x0, 0x0, 0x1f, 0x0, 0x0, 0x0⟩, -- RAD_EXTPA_LAG
  ⟨0x058, 1, 4, 0x0, 0x0, 0xf, 0x0, 0xf, 0x8⟩, -- RAD_EXTPA_CFG
  ⟨0x05c, 1, 4, 0x0, 0x0, 0x3ff, 0x0, 0x3ff, 0x28⟩, -- RAD_TXTO
  ⟨0x060, 1, 4, 0x0, 0x0, 0x1f3f00ff, 0x0, 0x0, 0xf040020⟩, -- RAD_CAL_DT
  ⟨0x064, 1, 4, 0x0, 0x0, 0xf0f, 0x0, 0x0, 0x406⟩, -- RAD_ACKCFG
  ⟨0x068, 1, 4, 0x0, 0x0, 0xfffff, 0x0, 0x0, 0x30a04⟩, -- RAD_LBT
  ⟨0x06c, 1, 4, 0x0, 0x0, 0x3f3fff, 0x0, 0x3f3fff, 0x3c0064⟩, -- RAD_DUTY_CFG
  ⟨0x080, 1, 4, 0x0, 0x0, 0x3f3f01ff, 0x0, 0x3f3f01ff, 0xd8⟩, -- RAD_PATAB0
  ⟨0x084, 1, 4, 0x0, 0x0, 0x3f3f01ff, 0x0, 0x3f3f01ff, 0xdc⟩, -- RAD_PATAB1
  ⟨0x088, 1, 4, 0x0, 0x0, 0x3f3f01ff, 0x0, 0x3f3f01ff, 0xe0⟩, -- RAD_PATAB2
  ⟨0x08c, 1, 4, 0x0, 0x0, 0x3f3f01ff, 0x0, 0x3f3f01ff, 0xe4⟩ -- RAD_PATAB3
]

/-- Registers of the RAD page (R417). -/
def rowsRAD_1 : List RegRow := [
  ⟨0x090, 1, 4, 0x0, 0x0, 0x3f3f01ff, 0x0, 0x3f3f01ff, 0xe6⟩, -- RAD_PATAB4
  ⟨0x094, 1, 4, 0x0, 0x0, 0x3f3f01ff, 0x0, 0x3f3f01ff, 0xe8⟩, -- RAD_PATAB5
  ⟨0x098, 1, 4, 0x0, 0x0, 0x3f3f01ff, 0x0, 0x3f3f01ff, 0xea⟩, -- RAD_PATAB6
  ⟨0x09c, 1, 4, 0x0, 0x0, 0x3f3f01ff, 0x0, 0x3f3f01ff, 0xec⟩, -- RAD_PATAB7
  ⟨0x0a0, 1, 4, 0x0, 0x0, 0x3f3f01ff, 0x0, 0x3f3f01ff, 0xee⟩, -- RAD_PATAB8
  ⟨0x0a4, 1, 4, 0x0, 0x0, 0x3f3f01ff, 0x0, 0x3f3f01ff, 0xf0⟩, -- RAD_PATAB9
  ⟨0x0a8, 1, 4, 0x0, 0x0, 0x3f3f01ff, 0x0, 0x3f3f01ff, 0xf2⟩, -- RAD_PATAB10
  ⟨0x0ac, 1, 4, 0x0, 0x0, 0x3f3f01ff, 0x0, 0x3f3f01ff, 0xf4⟩, -- RAD_PATAB11
  ⟨0x0b0, 1, 4, 0x0, 0x0, 0x3f3f01ff, 0x0, 0x3f3f01ff, 0xf6⟩, -- RAD_PATAB12
  ⟨0x0b4, 1, 4, 0x0, 0x0, 0x3f3f01ff, 0x0, 0x3f3f01ff, 0xf8⟩, -- RAD_PATAB13
  ⟨0x0b8, 1, 4, 0x0, 0x0, 0x3f3f01ff, 0x0, 0x3f3f01ff, 0xfa⟩, -- RAD_PATAB14
  ⟨0x0bc, 1, 4, 0x0, 0x0, 0x3f3f01ff, 0x0, 0x3f3f01ff, 0xfc⟩, -- RAD_PATAB15
  ⟨0x0c0, 1, 4, 0x0, 0x0, 0x3f3f01ff, 0x0, 0x3f3f01ff, 0xfe⟩, -- RAD_PATAB16
  ⟨0x0c4, 1, 4, 0x0, 0x0, 0x3f3f01ff, 0x0, 0x3f3f01ff, 0x0⟩, -- RAD_PATAB17
  ⟨0x0c8, 1, 4, 0x0, 0x0, 0x3f3f01ff, 0x0, 0x3f3f01ff, 0x2⟩, -- RAD_PATAB18
  ⟨0x0cc, 1, 4, 0x0, 0x0, 0x3f3f01ff, 0x0, 0x3f3f01ff, 0x4⟩, -- RAD_PATAB19
  ⟨0x0d0, 1, 4, 0x0, 0x0, 0x3f3f01ff, 0x0, 0x3f3f01ff, 0x6⟩, -- RAD_PATAB20
  ⟨0x0d4, 1, 4, 0x0, 0x0, 0x3f3f01ff, 0x0, 0x3f3f01ff, 0x8⟩, -- RAD_PATAB21
  ⟨0x0d8, 1, 4, 0x0, 0x0, 0x3f3f01ff, 0x0, 0x3f3f01ff, 0xa⟩, -- RAD_PATAB22
  ⟨0x0dc, 1, 4, 0x0, 0x0, 0x3f3f01ff, 0x0, 0x3f3f01ff, 0xc⟩ -- RAD_PATAB23
]

/-- Registers of the RAD page (R417, R418, R419). -/
def rowsRAD_2 : List RegRow := [
  ⟨0x0e0, 1, 4, 0x0, 0x0, 0x3f3f01ff, 0x0, 0x3f3f01ff, 0xe⟩, -- RAD_PATAB24
  ⟨0x0e4, 1, 4, 0x0, 0x0, 0x3f3f01ff, 0x0, 0x3f3f01ff, 0x10⟩, -- RAD_PATAB25
  ⟨0x0e8, 1, 4, 0x0, 0x0, 0x3f3f01ff, 0x0, 0x3f3f01ff, 0x12⟩, -- RAD_PATAB26
  ⟨0x0ec, 1, 4, 0x0, 0x0, 0x3f3f01ff, 0x0, 0x3f3f01ff, 0x14⟩, -- RAD_PATAB27
  ⟨0x0f0, 1, 4, 0x0, 0x0, 0x3f3f01ff, 0x0, 0x3f3f01ff, 0x16⟩, -- RAD_PATAB28
  ⟨0x0f4, 1, 4, 0x0, 0x0, 0x3f3f01ff, 0x0, 0x3f3f01ff, 0x18⟩, -- RAD_PATAB29
  ⟨0x0f8, 1, 4, 0x0, 0x0, 0x3f3f01ff, 0x0, 0x3f3f01ff, 0x1a⟩, -- RAD_PATAB30
  ⟨0x0fc, 1, 4, 0x0, 0x0, 0x3f3f01ff, 0x0, 0x3f3f01ff, 0x1c⟩, -- RAD_PATAB31
  ⟨0x100, 1, 4, 0x0, 0x0, 0x0, 0x7, 0x0, 0x0⟩, -- RAD_CMD
  ⟨0x1c0, 1, 4, 0x0, 0x80000000, 0x0, 0x0, 0x0, 0x80⟩, -- RAD_CCA_STAT
  ⟨0x1c4, 1, 4, 0x0, 0x0, 0x0, 0x0, 0x0, 0x0⟩, -- RAD_DUTY_USED
  ⟨0x1c8, 1, 4, 0x0, 0x0, 0x0, 0x0, 0x0, 0x0⟩ -- RAD_CNT
]

/-- Registers of the RAD page, all parts. -/
def rowsRAD : List RegRow := rowsRAD_0 ++ rowsRAD_1 ++ rowsRAD_2

/-- Registers of the RDM page (R440, R441, R442, R443). -/
def rowsRDM_0 : List RegRow := [
  ⟨0x030, 1, 4, 0x0, 0xff, 0x0, 0x0, 0x0, 0x0⟩, -- RDM_STAT
  ⟨0x034, 1, 4, 0x0, 0x0, 0x0, 0x0, 0x0, 0x8080⟩, -- RDM_RSSI
  ⟨0x038, 1, 4, 0x0, 0x0, 0x0, 0x0, 0x0, 0x0⟩, -- RDM_AFC
  ⟨0x03c, 1, 4, 0x0, 0x0, 0x0, 0x0, 0x0, 0x0⟩, -- RDM_RXINFO
  ⟨0x040, 1, 4, 0x0, 0x0, 0x8000030f, 0x0, 0x0, 0x100⟩, -- RDM_LANE0
  ⟨0x044, 1, 4, 0x0, 0x0, 0x8000030f, 0x0, 0x0, 0x80000101⟩, -- RDM_LANE1
  ⟨0x048, 1, 4, 0x0, 0x0, 0x8000030f, 0x0, 0x0, 0x102⟩, -- RDM_LANE2
  ⟨0x04c, 1, 4, 0x0, 0x0, 0x8000030f, 0x0, 0x0, 0x103⟩, -- RDM_LANE3
  ⟨0x050, 1, 4, 0x0, 0x0, 0x8000030f, 0x0, 0x0, 0x104⟩, -- RDM_LANE4
  ⟨0x054, 1, 4, 0x0, 0x0, 0x8000030f, 0x0, 0x0, 0x105⟩, -- RDM_LANE5
  ⟨0x058, 1, 4, 0x0, 0x0, 0x8000030f, 0x0, 0x0, 0x106⟩, -- RDM_LANE6
  ⟨0x05c, 1, 4, 0x0, 0x0, 0x8000030f, 0x0, 0x0, 0x107⟩, -- RDM_LANE7
  ⟨0x060, 1, 4, 0x0, 0x0, 0x80011fff, 0x0, 0x0, 0x80000628⟩, -- RDM_CFG
  ⟨0x064, 1, 4, 0x0, 0x0, 0xff, 0x0, 0xff, 0xa6⟩, -- RDM_CCA_THR
  ⟨0x068, 1, 4, 0x0, 0x0, 0xffffff, 0x0, 0xff, 0xc49c00⟩, -- RDM_RSSI_CFG
  ⟨0x06c, 1, 4, 0x0, 0x0, 0xf0f, 0x0, 0x0, 0x101⟩, -- RDM_TXMODE
  ⟨0x070, 1, 4, 0x0, 0x0, 0xffffffff, 0x0, 0x0, 0x0⟩, -- RDM_BCN_CFG
  ⟨0x074, 1, 4, 0x0, 0x0, 0x1ff, 0x0, 0x1ff, 0x0⟩, -- RDM_HUB
  ⟨0x080, 1, 4, 0x0, 0x0, 0x0, 0x7, 0x0, 0x0⟩, -- RDM_CMD
  ⟨0x090, 1, 4, 0x0, 0x80000000, 0x0, 0x0, 0x0, 0x0⟩ -- RDM_BCN_STAT
]

/-- Registers of the RDM page (R443, R444, R445). -/
def rowsRDM_1 : List RegRow := [
  ⟨0x094, 1, 4, 0x0, 0x0, 0x0, 0x0, 0x0, 0x0⟩, -- RDM_BCN_TMARK
  ⟨0x098, 1, 4, 0x0, 0x0, 0x0, 0x0, 0x0, 0x0⟩, -- RDM_BCN_RX
  ⟨0x0a0, 1, 4, 0x0, 0x80000000, 0x0, 0x0, 0x0, 0x0⟩, -- RDM_ANN_INFO
  ⟨0x0a4, 1, 4, 0x0, 0x0, 0x0, 0x0, 0x0, 0x0⟩, -- RDM_ANN_UID_LO
  ⟨0x0a8, 1, 4, 0x0, 0x0, 0x0, 0x0, 0x0, 0x0⟩, -- RDM_ANN_UID_HI
  ⟨0x1c0, 1, 4, 0x0, 0x0, 0x0, 0x0, 0x0, 0x0⟩ -- RDM_CNT
]

/-- Registers of the RDM page, all parts. -/
def rowsRDM : List RegRow := rowsRDM_0 ++ rowsRDM_1

/-- Registers of the GPI page (R536, R537, R538, R539). -/
def rowsGPI : List RegRow := [
  ⟨0x030, 1, 4, 0x0, 0x0, 0x0, 0x0, 0x0, 0x0⟩, -- GPI_LEVEL
  ⟨0x034, 1, 4, 0x0, 0x0, 0x0, 0x0, 0x0, 0x0⟩, -- GPI_KNOBCNT
  ⟨0x038, 1, 4, 0x0, 0xfff0fff, 0x0, 0x0, 0x0, 0x0⟩, -- GPI_EVPIN
  ⟨0x03c, 1, 4, 0x0, 0x10fff, 0x0, 0x0, 0x0, 0x0⟩, -- GPI_PLUGCHG
  ⟨0x040, 12, 4, 0x0, 0x0, 0xff873fc0, 0x0, 0x70840, 0x0⟩, -- GPI_CFG
  ⟨0x070, 1, 4, 0x0, 0x0, 0x3f3f, 0x0, 0x0, 0x3113⟩, -- GPI_DEB
  ⟨0x074, 1, 4, 0x0, 0x0, 0x8001110f, 0x0, 0x80000000, 0x3⟩, -- GPI_KNOB
  ⟨0x078, 1, 4, 0x0, 0x0, 0xff00ffff, 0x0, 0x0, 0x1400320a⟩, -- GPI_LONG
  ⟨0x080, 1, 4, 0xfff, 0x0, 0x0, 0x0, 0x0, 0x0⟩, -- GPI_OUT
  ⟨0x084, 1, 4, 0x0, 0x0, 0x0, 0x10fff, 0x0, 0x0⟩ -- GPI_CMD
]

/-- Registers of the LE page (R325, R326, R327, R328, R329). -/
def rowsLE : List RegRow := [
  ⟨0x030, 1, 4, 0x0, 0x4, 0x0, 0x0, 0x0, 0x0⟩, -- LE_STAT
  ⟨0x034, 1, 4, 0x0, 0x0, 0x0, 0x0, 0x0, 0x0⟩, -- LE_TXN_STAT
  ⟨0x038, 1, 4, 0x0, 0x0, 0x0, 0x0, 0x0, 0x0⟩, -- LE_TXN_PEER
  ⟨0x03c, 1, 4, 0x0, 0x0, 0x0, 0x0, 0x0, 0x100008⟩, -- LE_CREDSTAT
  ⟨0x040, 1, 4, 0x0, 0x0, 0x73, 0x0, 0x73, 0x0⟩, -- LE_BIND
  ⟨0x044, 1, 4, 0x0, 0x0, 0x7f007f, 0x0, 0x0, 0x20008⟩, -- LE_TXCRED
  ⟨0x048, 1, 4, 0x0, 0x0, 0x7f007f, 0x0, 0x0, 0x20010⟩, -- LE_RXCRED
  ⟨0x04c, 1, 4, 0x0, 0x0, 0xff07, 0x0, 0x7, 0x3⟩, -- LE_RETRY_MAX
  ⟨0x050, 1, 4, 0x0, 0x0, 0xfff, 0x0, 0x0, 0xfa⟩, -- LE_ACKTO
  ⟨0x054, 1, 4, 0x0, 0x0, 0x80000107, 0x0, 0x80000007, 0x0⟩, -- LE_FWD
  ⟨0x058, 1, 4, 0x0, 0x0, 0x1f070107, 0x0, 0x1f000100, 0x20001⟩, -- LE_CFG
  ⟨0x05c, 1, 4, 0x0, 0x0, 0xff, 0x0, 0xff, 0x0⟩, -- LE_EPOCH
  ⟨0x080, 1, 4, 0x0, 0x80000000, 0x0, 0x0, 0x0, 0x0⟩, -- LE_FAILINFO
  ⟨0x1c0, 1, 4, 0x0, 0x0, 0x0, 0x0, 0x0, 0x0⟩, -- LE_DUPRX
  ⟨0x1c4, 1, 4, 0x0, 0x0, 0x0, 0x0, 0x0, 0x0⟩, -- LE_CNT
  ⟨0x1c8, 1, 4, 0x0, 0x0, 0x0, 0x0, 0x0, 0x0⟩, -- LE_TXCNT
  ⟨0x1cc, 1, 4, 0x0, 0x0, 0x0, 0x0, 0x0, 0x0⟩ -- LE_FWDCNT
]

/-- The block registers of a page, by page number (R68: the page map). -/
def pageRows : Nat → List RegRow
  | 0 => rowsSYS
  | 1 => rowsPWR
  | 2 => rowsTHM
  | 3 => rowsCLK
  | 4 => rowsSCH
  | 5 => rowsEVR
  | 6 => rowsIRQ
  | 7 => rowsCAL
  | 8 => rowsHIF
  | 9 => rowsQMX
  | 10 => rowsSEC
  | 11 => rowsFEC
  | 12 => rowsNFC
  | 13 => rowsNFP
  | 14 => rowsWIR
  | 15 => rowsRAD
  | 16 => rowsRDM
  | 17 => rowsGPI
  | p => if 24 ≤ p ∧ p ≤ 31 then rowsLE else []

/-! Field constants, in the manual's names: the register, then the field. An array register takes its index, a header
word its page and a link-engine register its engine. -/

/-- The address of PG_ID. -/
def Adr.PG_ID (p : Nat) : Nat := 0x400 * p + 0x000
def Fld.PG_ID_REV (p : Nat) : Fld := ⟨Adr.PG_ID p, 23, 16⟩
def Fld.PG_ID_PAGE (p : Nat) : Fld := ⟨Adr.PG_ID p, 4, 0⟩
/-- The address of PG_CAPS. -/
def Adr.PG_CAPS (p : Nat) : Nat := 0x400 * p + 0x004
def Fld.PG_CAPS_HASQ (p : Nat) : Fld := ⟨Adr.PG_CAPS p, 31, 31⟩
def Fld.PG_CAPS_HASRS (p : Nat) : Fld := ⟨Adr.PG_CAPS p, 30, 30⟩
def Fld.PG_CAPS_HASRL (p : Nat) : Fld := ⟨Adr.PG_CAPS p, 29, 29⟩
def Fld.PG_CAPS_NEVT (p : Nat) : Fld := ⟨Adr.PG_CAPS p, 23, 16⟩
def Fld.PG_CAPS_BLOCK (p : Nat) : Fld := ⟨Adr.PG_CAPS p, 15, 0⟩
/-- The address of PG_CTRL. -/
def Adr.PG_CTRL (p : Nat) : Nat := 0x400 * p + 0x008
def Fld.PG_CTRL_SAFE (p : Nat) : Fld := ⟨Adr.PG_CTRL p, 2, 2⟩
def Fld.PG_CTRL_SRST (p : Nat) : Fld := ⟨Adr.PG_CTRL p, 1, 1⟩
def Fld.PG_CTRL_EN (p : Nat) : Fld := ⟨Adr.PG_CTRL p, 0, 0⟩
/-- The address of PG_STAT. -/
def Adr.PG_STAT (p : Nat) : Nat := 0x400 * p + 0x00c
def Fld.PG_STAT_BLOCK (p : Nat) : Fld := ⟨Adr.PG_STAT p, 31, 16⟩
def Fld.PG_STAT_DRAINHOLD (p : Nat) : Fld := ⟨Adr.PG_STAT p, 4, 4⟩
def Fld.PG_STAT_LOCKED (p : Nat) : Fld := ⟨Adr.PG_STAT p, 3, 3⟩
def Fld.PG_STAT_SAFEPT (p : Nat) : Fld := ⟨Adr.PG_STAT p, 2, 2⟩
def Fld.PG_STAT_BUSY (p : Nat) : Fld := ⟨Adr.PG_STAT p, 1, 1⟩
def Fld.PG_STAT_ENABLED (p : Nat) : Fld := ⟨Adr.PG_STAT p, 0, 0⟩
/-- The address of PG_EVT_RAW. -/
def Adr.PG_EVT_RAW (p : Nat) : Nat := 0x400 * p + 0x010
def Fld.PG_EVT_RAW_EVT (p : Nat) : Fld := ⟨Adr.PG_EVT_RAW p, 31, 0⟩
/-- The address of PG_EVT_PEND. -/
def Adr.PG_EVT_PEND (p : Nat) : Nat := 0x400 * p + 0x014
def Fld.PG_EVT_PEND_EVT (p : Nat) : Fld := ⟨Adr.PG_EVT_PEND p, 31, 0⟩
/-- The address of PG_EVT_EN. -/
def Adr.PG_EVT_EN (p : Nat) : Nat := 0x400 * p + 0x018
def Fld.PG_EVT_EN_EVT (p : Nat) : Fld := ⟨Adr.PG_EVT_EN p, 31, 0⟩
/-- The address of PG_EVT_FORCE. -/
def Adr.PG_EVT_FORCE (p : Nat) : Nat := 0x400 * p + 0x01c
def Fld.PG_EVT_FORCE_EVT (p : Nat) : Fld := ⟨Adr.PG_EVT_FORCE p, 31, 0⟩
/-- The address of PG_LOCK. -/
def Adr.PG_LOCK (p : Nat) : Nat := 0x400 * p + 0x020
def Fld.PG_LOCK_LOCKED (p : Nat) : Fld := ⟨Adr.PG_LOCK p, 0, 0⟩
/-- The address of PG_COMMIT. -/
def Adr.PG_COMMIT (p : Nat) : Nat := 0x400 * p + 0x024
def Fld.PG_COMMIT_REVERT (p : Nat) : Fld := ⟨Adr.PG_COMMIT p, 1, 1⟩
def Fld.PG_COMMIT_GO (p : Nat) : Fld := ⟨Adr.PG_COMMIT p, 0, 0⟩
/-- The address of PG_CFGSTAT. -/
def Adr.PG_CFGSTAT (p : Nat) : Nat := 0x400 * p + 0x028
def Fld.PG_CFGSTAT_GEN (p : Nat) : Fld := ⟨Adr.PG_CFGSTAT p, 15, 8⟩
def Fld.PG_CFGSTAT_INGROUP (p : Nat) : Fld := ⟨Adr.PG_CFGSTAT p, 3, 3⟩
def Fld.PG_CFGSTAT_TIMEOUT (p : Nat) : Fld := ⟨Adr.PG_CFGSTAT p, 2, 2⟩
def Fld.PG_CFGSTAT_PENDING (p : Nat) : Fld := ⟨Adr.PG_CFGSTAT p, 1, 1⟩
def Fld.PG_CFGSTAT_DIRTY (p : Nat) : Fld := ⟨Adr.PG_CFGSTAT p, 0, 0⟩
/-- The address of PG_ERR. -/
def Adr.PG_ERR (p : Nat) : Nat := 0x400 * p + 0x02c
def Fld.PG_ERR_FIRSTW (p : Nat) : Fld := ⟨Adr.PG_ERR p, 23, 16⟩
def Fld.PG_ERR_LOCKDISC (p : Nat) : Fld := ⟨Adr.PG_ERR p, 4, 4⟩
def Fld.PG_ERR_RANGE (p : Nat) : Fld := ⟨Adr.PG_ERR p, 3, 3⟩
def Fld.PG_ERR_PENDWR (p : Nat) : Fld := ⟨Adr.PG_ERR p, 2, 2⟩
def Fld.PG_ERR_LOCKV (p : Nat) : Fld := ⟨Adr.PG_ERR p, 1, 1⟩
def Fld.PG_ERR_ACC (p : Nat) : Fld := ⟨Adr.PG_ERR p, 0, 0⟩
/-- The address of SYS_PARTID. -/
def Adr.SYS_PARTID : Nat := 0x0040
def Fld.SYS_PARTID_PART : Fld := ⟨Adr.SYS_PARTID, 31, 0⟩
/-- The address of SYS_STEPID. -/
def Adr.SYS_STEPID : Nat := 0x0044
def Fld.SYS_STEPID_MAJOR : Fld := ⟨Adr.SYS_STEPID, 15, 8⟩
def Fld.SYS_STEPID_MINOR : Fld := ⟨Adr.SYS_STEPID, 7, 0⟩
/-- The address of SYS_UID_LO. -/
def Adr.SYS_UID_LO : Nat := 0x0048
def Fld.SYS_UID_LO_UID : Fld := ⟨Adr.SYS_UID_LO, 31, 0⟩
/-- The address of SYS_UID_HI. -/
def Adr.SYS_UID_HI : Nat := 0x004c
def Fld.SYS_UID_HI_UID : Fld := ⟨Adr.SYS_UID_HI, 31, 0⟩
/-- The address of SYS_ROLE. -/
def Adr.SYS_ROLE : Nat := 0x0050
def Fld.SYS_ROLE_ROLE : Fld := ⟨Adr.SYS_ROLE, 0, 0⟩
/-- The address of SYS_NODE_ID. -/
def Adr.SYS_NODE_ID : Nat := 0x0054
def Fld.SYS_NODE_ID_ID : Fld := ⟨Adr.SYS_NODE_ID, 7, 0⟩
/-- The address of SYS_CMT_MASK. -/
def Adr.SYS_CMT_MASK : Nat := 0x0060
def Fld.SYS_CMT_MASK_LE : Fld := ⟨Adr.SYS_CMT_MASK, 31, 24⟩
def Fld.SYS_CMT_MASK_PAGES : Fld := ⟨Adr.SYS_CMT_MASK, 17, 0⟩
/-- The address of SYS_CMT_MODE. -/
def Adr.SYS_CMT_MODE : Nat := 0x0064
def Fld.SYS_CMT_MODE_MODE : Fld := ⟨Adr.SYS_CMT_MODE, 0, 0⟩
/-- The address of SYS_CMT_GO. -/
def Adr.SYS_CMT_GO : Nat := 0x0068
def Fld.SYS_CMT_GO_CANCEL : Fld := ⟨Adr.SYS_CMT_GO, 2, 2⟩
def Fld.SYS_CMT_GO_DRAIN : Fld := ⟨Adr.SYS_CMT_GO, 1, 1⟩
def Fld.SYS_CMT_GO_GO : Fld := ⟨Adr.SYS_CMT_GO, 0, 0⟩
/-- The address of SYS_CMT_TIMEOUT. -/
def Adr.SYS_CMT_TIMEOUT : Nat := 0x006c
def Fld.SYS_CMT_TIMEOUT_TO : Fld := ⟨Adr.SYS_CMT_TIMEOUT, 11, 0⟩
/-- The address of SYS_STALL_TO. -/
def Adr.SYS_STALL_TO : Nat := 0x0070
def Fld.SYS_STALL_TO_RESET : Fld := ⟨Adr.SYS_STALL_TO, 31, 31⟩
def Fld.SYS_STALL_TO_TO : Fld := ⟨Adr.SYS_STALL_TO, 7, 0⟩
/-- The address of SYS_SWEVT. -/
def Adr.SYS_SWEVT : Nat := 0x0074
def Fld.SYS_SWEVT_SW : Fld := ⟨Adr.SYS_SWEVT, 0, 0⟩
/-- The address of SYS_ACC_INFO. -/
def Adr.SYS_ACC_INFO : Nat := 0x0078
def Fld.SYS_ACC_INFO_VALID : Fld := ⟨Adr.SYS_ACC_INFO, 31, 31⟩
def Fld.SYS_ACC_INFO_WRITE : Fld := ⟨Adr.SYS_ACC_INFO, 30, 30⟩
def Fld.SYS_ACC_INFO_CAUSE : Fld := ⟨Adr.SYS_ACC_INFO, 29, 28⟩
def Fld.SYS_ACC_INFO_ADDR : Fld := ⟨Adr.SYS_ACC_INFO, 15, 0⟩
/-- The address of SYS_SWRST. -/
def Adr.SYS_SWRST : Nat := 0x007c
def Fld.SYS_SWRST_KEY : Fld := ⟨Adr.SYS_SWRST, 31, 0⟩
/-- The address of SYS_CMT_STAT. -/
def Adr.SYS_CMT_STAT : Nat := 0x01c0
def Fld.SYS_CMT_STAT_APPLIED : Fld := ⟨Adr.SYS_CMT_STAT, 31, 0⟩
/-- The address of SYS_CMT_FAIL. -/
def Adr.SYS_CMT_FAIL : Nat := 0x01c4
def Fld.SYS_CMT_FAIL_FAILED : Fld := ⟨Adr.SYS_CMT_FAIL, 31, 0⟩
/-- The address of SYS_CMT_INFO. -/
def Adr.SYS_CMT_INFO : Nat := 0x01c8
def Fld.SYS_CMT_INFO_BUSY : Fld := ⟨Adr.SYS_CMT_INFO, 31, 31⟩
def Fld.SYS_CMT_INFO_PARTIAL : Fld := ⟨Adr.SYS_CMT_INFO, 30, 30⟩
def Fld.SYS_CMT_INFO_DRAINING : Fld := ⟨Adr.SYS_CMT_INFO, 29, 29⟩
def Fld.SYS_CMT_INFO_SEQ : Fld := ⟨Adr.SYS_CMT_INFO, 7, 0⟩
/-- The address of RST_CAUSE. -/
def Adr.RST_CAUSE : Nat := 0x01cc
def Fld.RST_CAUSE_COUNT : Fld := ⟨Adr.RST_CAUSE, 15, 8⟩
def Fld.RST_CAUSE_CAUSE : Fld := ⟨Adr.RST_CAUSE, 2, 0⟩
/-- The address of PWR_MODE. -/
def Adr.PWR_MODE : Nat := 0x0430
def Fld.PWR_MODE_DAMPER : Fld := ⟨Adr.PWR_MODE, 7, 7⟩
def Fld.PWR_MODE_FORCED : Fld := ⟨Adr.PWR_MODE, 6, 6⟩
def Fld.PWR_MODE_DWELL : Fld := ⟨Adr.PWR_MODE, 5, 5⟩
def Fld.PWR_MODE_TXLOW : Fld := ⟨Adr.PWR_MODE, 4, 4⟩
def Fld.PWR_MODE_MODE : Fld := ⟨Adr.PWR_MODE, 0, 0⟩
/-- The address of PWR_BANK_LEVEL. -/
def Adr.PWR_BANK_LEVEL : Nat := 0x0434
def Fld.PWR_BANK_LEVEL_LEVEL : Fld := ⟨Adr.PWR_BANK_LEVEL, 23, 0⟩
/-- The address of PWR_VMEAS. -/
def Adr.PWR_VMEAS : Nat := 0x0438
def Fld.PWR_VMEAS_VMAIN : Fld := ⟨Adr.PWR_VMEAS, 27, 16⟩
def Fld.PWR_VMEAS_VSTORE : Fld := ⟨Adr.PWR_VMEAS, 11, 0⟩
/-- The address of PWR_LASTDIP. -/
def Adr.PWR_LASTDIP : Nat := 0x043c
def Fld.PWR_LASTDIP_MINV : Fld := ⟨Adr.PWR_LASTDIP, 27, 16⟩
def Fld.PWR_LASTDIP_DUR : Fld := ⟨Adr.PWR_LASTDIP, 15, 0⟩
/-- The address of PWR_WARN_LVL. -/
def Adr.PWR_WARN_LVL : Nat := 0x0440
def Fld.PWR_WARN_LVL_LVL : Fld := ⟨Adr.PWR_WARN_LVL, 4, 0⟩
/-- The address of PWR_DAMP_DWELL. -/
def Adr.PWR_DAMP_DWELL : Nat := 0x0444
def Fld.PWR_DAMP_DWELL_DWELL : Fld := ⟨Adr.PWR_DAMP_DWELL, 5, 0⟩
/-- The address of PWR_DAMP_ALLOW. -/
def Adr.PWR_DAMP_ALLOW : Nat := 0x0448
def Fld.PWR_DAMP_ALLOW_ALLOW : Fld := ⟨Adr.PWR_DAMP_ALLOW, 15, 0⟩
/-- The address of PWR_BANK_KIND. -/
def Adr.PWR_BANK_KIND : Nat := 0x044c
def Fld.PWR_BANK_KIND_KIND : Fld := ⟨Adr.PWR_BANK_KIND, 1, 0⟩
/-- The address of PWR_BANK_CAP. -/
def Adr.PWR_BANK_CAP : Nat := 0x0450
def Fld.PWR_BANK_CAP_CAP : Fld := ⟨Adr.PWR_BANK_CAP, 23, 0⟩
/-- The address of PWR_BANK_RATE. -/
def Adr.PWR_BANK_RATE : Nat := 0x0454
def Fld.PWR_BANK_RATE_RATE : Fld := ⟨Adr.PWR_BANK_RATE, 19, 0⟩
/-- The address of PWR_BANK_STORE. -/
def Adr.PWR_BANK_STORE : Nat := 0x0458
def Fld.PWR_BANK_STORE_C_MF : Fld := ⟨Adr.PWR_BANK_STORE, 27, 16⟩
def Fld.PWR_BANK_STORE_VFLOOR : Fld := ⟨Adr.PWR_BANK_STORE, 11, 0⟩
/-- The address of PWR_BANK_THR. -/
def Adr.PWR_BANK_THR : Nat := 0x045c
def Fld.PWR_BANK_THR_LOW : Fld := ⟨Adr.PWR_BANK_THR, 31, 16⟩
def Fld.PWR_BANK_THR_CRIT : Fld := ⟨Adr.PWR_BANK_THR, 15, 0⟩
/-- The address of PWR_RESV0. -/
def Adr.PWR_RESV0 : Nat := 0x0460
def Fld.PWR_RESV0_RESV : Fld := ⟨Adr.PWR_RESV0, 23, 0⟩
/-- The address of PWR_RESV1. -/
def Adr.PWR_RESV1 : Nat := 0x0464
def Fld.PWR_RESV1_RESV : Fld := ⟨Adr.PWR_RESV1, 23, 0⟩
/-- The address of PWR_RESV2. -/
def Adr.PWR_RESV2 : Nat := 0x0468
def Fld.PWR_RESV2_RESV : Fld := ⟨Adr.PWR_RESV2, 23, 0⟩
/-- The address of PWR_RESV3. -/
def Adr.PWR_RESV3 : Nat := 0x046c
def Fld.PWR_RESV3_RESV : Fld := ⟨Adr.PWR_RESV3, 23, 0⟩
/-- The address of PWR_LINE_ILIM. -/
def Adr.PWR_LINE_ILIM : Nat := 0x0470
def Fld.PWR_LINE_ILIM_ILIM : Fld := ⟨Adr.PWR_LINE_ILIM, 6, 0⟩
/-- The address of PWR_DAMP_CTRL. -/
def Adr.PWR_DAMP_CTRL : Nat := 0x0480
def Fld.PWR_DAMP_CTRL_CLRCNT : Fld := ⟨Adr.PWR_DAMP_CTRL, 8, 8⟩
def Fld.PWR_DAMP_CTRL_RELEASE : Fld := ⟨Adr.PWR_DAMP_CTRL, 1, 1⟩
def Fld.PWR_DAMP_CTRL_FORCE : Fld := ⟨Adr.PWR_DAMP_CTRL, 0, 0⟩
/-- The address of PWR_BANK_ADJ. -/
def Adr.PWR_BANK_ADJ : Nat := 0x0484
def Fld.PWR_BANK_ADJ_OP : Fld := ⟨Adr.PWR_BANK_ADJ, 31, 31⟩
def Fld.PWR_BANK_ADJ_VALUE : Fld := ⟨Adr.PWR_BANK_ADJ, 23, 0⟩
/-- The address of PWR_MEAS_CTRL. -/
def Adr.PWR_MEAS_CTRL : Nat := 0x0488
def Fld.PWR_MEAS_CTRL_GO : Fld := ⟨Adr.PWR_MEAS_CTRL, 0, 0⟩
/-- The address of PWR_EMBER. -/
def Adr.PWR_EMBER : Nat := 0x048c
def Fld.PWR_EMBER_HOLDOFF : Fld := ⟨Adr.PWR_EMBER, 15, 8⟩
def Fld.PWR_EMBER_REQ : Fld := ⟨Adr.PWR_EMBER, 0, 0⟩
/-- The address of PWR_KEEP i. -/
def Adr.PWR_KEEP (i : Nat) : Nat := 0x0500 + 4 * i
def Fld.PWR_KEEP_WORD (i : Nat) : Fld := ⟨Adr.PWR_KEEP i, 31, 0⟩
/-- The address of PWR_DIP_COUNT. -/
def Adr.PWR_DIP_COUNT : Nat := 0x05c0
def Fld.PWR_DIP_COUNT_COUNT : Fld := ⟨Adr.PWR_DIP_COUNT, 7, 0⟩
/-- The address of THM_TEMP. -/
def Adr.THM_TEMP : Nat := 0x0830
def Fld.THM_TEMP_FILT : Fld := ⟨Adr.THM_TEMP, 31, 16⟩
def Fld.THM_TEMP_TEMP : Fld := ⟨Adr.THM_TEMP, 15, 0⟩
/-- The address of FLUE_BIAS. -/
def Adr.FLUE_BIAS : Nat := 0x0834
def Fld.FLUE_BIAS_BIAS : Fld := ⟨Adr.FLUE_BIAS, 15, 0⟩
/-- The address of THM_CMP_STAT. -/
def Adr.THM_CMP_STAT : Nat := 0x0838
def Fld.THM_CMP_STAT_TRIPPED (c : Nat) : Fld := ⟨Adr.THM_CMP_STAT, 8 * c + 7, 8 * c + 7⟩
def Fld.THM_CMP_STAT_CNT (c : Nat) : Fld := ⟨Adr.THM_CMP_STAT, 8 * c + 5, 8 * c⟩
/-- The address of THM_FLAGS. -/
def Adr.THM_FLAGS : Nat := 0x083c
def Fld.THM_FLAGS_FLUEOVER : Fld := ⟨Adr.THM_FLAGS, 2, 2⟩
def Fld.THM_FLAGS_HEAT : Fld := ⟨Adr.THM_FLAGS, 1, 1⟩
def Fld.THM_FLAGS_OT : Fld := ⟨Adr.THM_FLAGS, 0, 0⟩
/-- The address of THM_CFG. -/
def Adr.THM_CFG : Nat := 0x0840
def Fld.THM_CFG_SAMPLEEVT : Fld := ⟨Adr.THM_CFG, 16, 16⟩
def Fld.THM_CFG_OTRESET : Fld := ⟨Adr.THM_CFG, 8, 8⟩
def Fld.THM_CFG_FILT : Fld := ⟨Adr.THM_CFG, 1, 0⟩
/-- The address of THM_LVL i. -/
def Adr.THM_LVL (i : Nat) : Nat := 0x0844 + 4 * i
def Fld.THM_LVL_POL (i : Nat) : Fld := ⟨Adr.THM_LVL i, 20, 20⟩
def Fld.THM_LVL_EVT (i : Nat) : Fld := ⟨Adr.THM_LVL i, 17, 16⟩
def Fld.THM_LVL_LVL (i : Nat) : Fld := ⟨Adr.THM_LVL i, 10, 0⟩
/-- The address of THM_HYST i. -/
def Adr.THM_HYST (i : Nat) : Nat := 0x0854 + 4 * i
def Fld.THM_HYST_HYST (i : Nat) : Fld := ⟨Adr.THM_HYST i, 5, 0⟩
/-- The address of THM_DWELL i. -/
def Adr.THM_DWELL (i : Nat) : Nat := 0x0864 + 4 * i
def Fld.THM_DWELL_DWELL (i : Nat) : Fld := ⟨Adr.THM_DWELL i, 5, 0⟩
/-- The address of FLUE_K i. -/
def Adr.FLUE_K (i : Nat) : Nat := 0x0874 + 4 * i
def Fld.FLUE_K_K (i : Nat) : Fld := ⟨Adr.FLUE_K i, 15, 0⟩
/-- The address of FLUE_TAU i. -/
def Adr.FLUE_TAU (i : Nat) : Nat := 0x0880 + 4 * i
def Fld.FLUE_TAU_TAU (i : Nat) : Fld := ⟨Adr.FLUE_TAU i, 15, 0⟩
/-- The address of FLUE_LIMIT. -/
def Adr.FLUE_LIMIT : Nat := 0x088c
def Fld.FLUE_LIMIT_CLRHYS : Fld := ⟨Adr.FLUE_LIMIT, 23, 16⟩
def Fld.FLUE_LIMIT_LIMIT : Fld := ⟨Adr.FLUE_LIMIT, 11, 0⟩
/-- The address of FLUE_PWR. -/
def Adr.FLUE_PWR : Nat := 0x0890
def Fld.FLUE_PWR_EXT : Fld := ⟨Adr.FLUE_PWR, 31, 16⟩
def Fld.FLUE_PWR_BASE : Fld := ⟨Adr.FLUE_PWR, 15, 0⟩
/-- The address of THM_AIN_CTRL. -/
def Adr.THM_AIN_CTRL : Nat := 0x08a0
def Fld.THM_AIN_CTRL_PERIOD : Fld := ⟨Adr.THM_AIN_CTRL, 23, 16⟩
def Fld.THM_AIN_CTRL_SNAPAIN : Fld := ⟨Adr.THM_AIN_CTRL, 2, 2⟩
def Fld.THM_AIN_CTRL_CH1EN : Fld := ⟨Adr.THM_AIN_CTRL, 1, 1⟩
def Fld.THM_AIN_CTRL_CH0EN : Fld := ⟨Adr.THM_AIN_CTRL, 0, 0⟩
/-- The address of THM_CMD. -/
def Adr.THM_CMD : Nat := 0x08a4
def Fld.THM_CMD_AIN : Fld := ⟨Adr.THM_CMD, 2, 2⟩
def Fld.THM_CMD_SNAP : Fld := ⟨Adr.THM_CMD, 1, 1⟩
def Fld.THM_CMD_SAMPLE : Fld := ⟨Adr.THM_CMD, 0, 0⟩
/-- The address of THM_HEAT. -/
def Adr.THM_HEAT : Nat := 0x08a8
def Fld.THM_HEAT_MAXT : Fld := ⟨Adr.THM_HEAT, 15, 8⟩
def Fld.THM_HEAT_LEVEL : Fld := ⟨Adr.THM_HEAT, 5, 4⟩
def Fld.THM_HEAT_EN : Fld := ⟨Adr.THM_HEAT, 0, 0⟩
/-- The address of FLUE_X i. -/
def Adr.FLUE_X (i : Nat) : Nat := 0x08b0 + 4 * i
def Fld.FLUE_X_XI (i : Nat) : Fld := ⟨Adr.FLUE_X i, 31, 0⟩
/-- The address of THM_AIN i. -/
def Adr.THM_AIN (i : Nat) : Nat := 0x09c0 + 4 * i
def Fld.THM_AIN_VALID (i : Nat) : Fld := ⟨Adr.THM_AIN i, 31, 31⟩
def Fld.THM_AIN_CODE (i : Nat) : Fld := ⟨Adr.THM_AIN i, 13, 0⟩
/-- The address of FLUE_SNAP. -/
def Adr.FLUE_SNAP : Nat := 0x09c8
def Fld.FLUE_SNAP_TEMP : Fld := ⟨Adr.FLUE_SNAP, 31, 16⟩
def Fld.FLUE_SNAP_BIAS : Fld := ⟨Adr.FLUE_SNAP, 15, 0⟩
/-- The address of FLUE_PSTAT. -/
def Adr.FLUE_PSTAT : Nat := 0x09cc
def Fld.FLUE_PSTAT_P : Fld := ⟨Adr.FLUE_PSTAT, 15, 0⟩
/-- The address of THM_OTCOUNT. -/
def Adr.THM_OTCOUNT : Nat := 0x09d0
def Fld.THM_OTCOUNT_COUNT : Fld := ⟨Adr.THM_OTCOUNT, 7, 0⟩
/-- The address of CLK_STAT. -/
def Adr.CLK_STAT : Nat := 0x0c30
def Fld.CLK_STAT_HREF : Fld := ⟨Adr.CLK_STAT, 13, 12⟩
def Fld.CLK_STAT_WSRC : Fld := ⟨Adr.CLK_STAT, 9, 8⟩
def Fld.CLK_STAT_CDR : Fld := ⟨Adr.CLK_STAT, 6, 6⟩
def Fld.CLK_STAT_CALSRC : Fld := ⟨Adr.CLK_STAT, 5, 5⟩
def Fld.CLK_STAT_LXO : Fld := ⟨Adr.CLK_STAT, 4, 3⟩
def Fld.CLK_STAT_XO : Fld := ⟨Adr.CLK_STAT, 1, 0⟩
/-- The address of CLK_GATE_STAT. -/
def Adr.CLK_GATE_STAT : Nat := 0x0c34
def Fld.CLK_GATE_STAT_STATE0 : Fld := ⟨Adr.CLK_GATE_STAT, 1, 0⟩
def Fld.CLK_GATE_STAT_STATE1 : Fld := ⟨Adr.CLK_GATE_STAT, 5, 4⟩
def Fld.CLK_GATE_STAT_STATE2 : Fld := ⟨Adr.CLK_GATE_STAT, 9, 8⟩
def Fld.CLK_GATE_STAT_STATE3 : Fld := ⟨Adr.CLK_GATE_STAT, 13, 12⟩
def Fld.CLK_GATE_STAT_STATE4 : Fld := ⟨Adr.CLK_GATE_STAT, 17, 16⟩
def Fld.CLK_GATE_STAT_STATE5 : Fld := ⟨Adr.CLK_GATE_STAT, 21, 20⟩
def Fld.CLK_GATE_STAT_STATE6 : Fld := ⟨Adr.CLK_GATE_STAT, 25, 24⟩
/-- The address of CLK_XO_CNT. -/
def Adr.CLK_XO_CNT : Nat := 0x0c38
def Fld.CLK_XO_CNT_OUT : Fld := ⟨Adr.CLK_XO_CNT, 31, 24⟩
def Fld.CLK_XO_CNT_N : Fld := ⟨Adr.CLK_XO_CNT, 9, 0⟩
/-- The address of CLK_FEC_DIV. -/
def Adr.CLK_FEC_DIV : Nat := 0x0c3c
def Fld.CLK_FEC_DIV_RAMP : Fld := ⟨Adr.CLK_FEC_DIV, 8, 8⟩
def Fld.CLK_FEC_DIV_DIV : Fld := ⟨Adr.CLK_FEC_DIV, 2, 0⟩
/-- The address of CLK_XO_TOL. -/
def Adr.CLK_XO_TOL : Nat := 0x0c40
def Fld.CLK_XO_TOL_STARTTO : Fld := ⟨Adr.CLK_XO_TOL, 15, 8⟩
def Fld.CLK_XO_TOL_TOL : Fld := ⟨Adr.CLK_XO_TOL, 4, 0⟩
/-- The address of CLK_FAILPOL. -/
def Adr.CLK_FAILPOL : Nat := 0x0c44
def Fld.CLK_FAILPOL_WIR : Fld := ⟨Adr.CLK_FAILPOL, 2, 2⟩
def Fld.CLK_FAILPOL_MDM : Fld := ⟨Adr.CLK_FAILPOL, 1, 1⟩
def Fld.CLK_FAILPOL_NFC : Fld := ⟨Adr.CLK_FAILPOL, 0, 0⟩
/-- The address of CLK_WIRE_SRC. -/
def Adr.CLK_WIRE_SRC : Nat := 0x0c48
def Fld.CLK_WIRE_SRC_HOLD : Fld := ⟨Adr.CLK_WIRE_SRC, 15, 8⟩
def Fld.CLK_WIRE_SRC_SRC : Fld := ⟨Adr.CLK_WIRE_SRC, 1, 0⟩
/-- The address of CLK_RAMP_STEP. -/
def Adr.CLK_RAMP_STEP : Nat := 0x0c4c
def Fld.CLK_RAMP_STEP_STEP : Fld := ⟨Adr.CLK_RAMP_STEP, 4, 0⟩
/-- The address of CLK_XO_CFG. -/
def Adr.CLK_XO_CFG : Nat := 0x0c50
def Fld.CLK_XO_CFG_MODE : Fld := ⟨Adr.CLK_XO_CFG, 1, 0⟩
/-- The address of CLK_LXO_CFG. -/
def Adr.CLK_LXO_CFG : Nat := 0x0c54
def Fld.CLK_LXO_CFG_AUTORESTORE : Fld := ⟨Adr.CLK_LXO_CFG, 1, 1⟩
def Fld.CLK_LXO_CFG_PRESENT : Fld := ⟨Adr.CLK_LXO_CFG, 0, 0⟩
/-- The address of CLK_HFRC_CFG. -/
def Adr.CLK_HFRC_CFG : Nat := 0x0c58
def Fld.CLK_HFRC_CFG_DISC : Fld := ⟨Adr.CLK_HFRC_CFG, 1, 0⟩
/-- The address of CLK_XO_CTRL. -/
def Adr.CLK_XO_CTRL : Nat := 0x0c80
def Fld.CLK_XO_CTRL_KEEP : Fld := ⟨Adr.CLK_XO_CTRL, 0, 0⟩
/-- The address of CLK_CMD. -/
def Adr.CLK_CMD : Nat := 0x0c84
def Fld.CLK_CMD_HFRC_TRIM : Fld := ⟨Adr.CLK_CMD, 3, 3⟩
def Fld.CLK_CMD_LFRC_CAL : Fld := ⟨Adr.CLK_CMD, 2, 2⟩
def Fld.CLK_CMD_RESTORE : Fld := ⟨Adr.CLK_CMD, 1, 1⟩
def Fld.CLK_CMD_FALLBACK : Fld := ⟨Adr.CLK_CMD, 0, 0⟩
/-- The address of CLK_LFRC_CAL. -/
def Adr.CLK_LFRC_CAL : Nat := 0x0c88
def Fld.CLK_LFRC_CAL_DONE : Fld := ⟨Adr.CLK_LFRC_CAL, 31, 31⟩
def Fld.CLK_LFRC_CAL_NOREF : Fld := ⟨Adr.CLK_LFRC_CAL, 30, 30⟩
def Fld.CLK_LFRC_CAL_TRIM : Fld := ⟨Adr.CLK_LFRC_CAL, 9, 0⟩
/-- The address of CLK_HFRC_STAT. -/
def Adr.CLK_HFRC_STAT : Nat := 0x0dc0
def Fld.CLK_HFRC_STAT_TRIM : Fld := ⟨Adr.CLK_HFRC_STAT, 11, 0⟩
/-- The address of CLK_FAILCNT. -/
def Adr.CLK_FAILCNT : Nat := 0x0dc4
def Fld.CLK_FAILCNT_WIRE : Fld := ⟨Adr.CLK_FAILCNT, 23, 16⟩
def Fld.CLK_FAILCNT_LXO : Fld := ⟨Adr.CLK_FAILCNT, 15, 8⟩
def Fld.CLK_FAILCNT_XO : Fld := ⟨Adr.CLK_FAILCNT, 7, 0⟩
/-- The address of SCH_TIME. -/
def Adr.SCH_TIME : Nat := 0x1030
def Fld.SCH_TIME_TIME : Fld := ⟨Adr.SCH_TIME, 31, 0⟩
/-- The address of SCH_STAT. -/
def Adr.SCH_STAT : Nat := 0x1034
def Fld.SCH_STAT_NFREE : Fld := ⟨Adr.SCH_STAT, 30, 24⟩
def Fld.SCH_STAT_NDEFER : Fld := ⟨Adr.SCH_STAT, 22, 16⟩
def Fld.SCH_STAT_NREADY : Fld := ⟨Adr.SCH_STAT, 14, 8⟩
def Fld.SCH_STAT_NRUN : Fld := ⟨Adr.SCH_STAT, 6, 0⟩
/-- The address of SCH_RES. -/
def Adr.SCH_RES : Nat := 0x1038
def Fld.SCH_RES_BLOCKED : Fld := ⟨Adr.SCH_RES, 12, 8⟩
def Fld.SCH_RES_HELD : Fld := ⟨Adr.SCH_RES, 4, 0⟩
/-- The address of SCH_LAST. -/
def Adr.SCH_LAST : Nat := 0x103c
def Fld.SCH_LAST_START : Fld := ⟨Adr.SCH_LAST, 29, 24⟩
def Fld.SCH_LAST_END : Fld := ⟨Adr.SCH_LAST, 21, 16⟩
def Fld.SCH_LAST_DEFER : Fld := ⟨Adr.SCH_LAST, 13, 8⟩
def Fld.SCH_LAST_PREEMPTED : Fld := ⟨Adr.SCH_LAST, 5, 0⟩
/-- The address of SCH_CFG. -/
def Adr.SCH_CFG : Nat := 0x1040
def Fld.SCH_CFG_ORBITEVT : Fld := ⟨Adr.SCH_CFG, 8, 8⟩
def Fld.SCH_CFG_PREEMPT : Fld := ⟨Adr.SCH_CFG, 0, 0⟩
/-- The address of SCH_MUTEX. -/
def Adr.SCH_MUTEX : Nat := 0x1044
def Fld.SCH_MUTEX_RADIO_LINE : Fld := ⟨Adr.SCH_MUTEX, 2, 2⟩
def Fld.SCH_MUTEX_FIELD_LINE : Fld := ⟨Adr.SCH_MUTEX, 1, 1⟩
def Fld.SCH_MUTEX_FIELD_RADIO : Fld := ⟨Adr.SCH_MUTEX, 0, 0⟩
/-- The address of SCH_QLOW. -/
def Adr.SCH_QLOW : Nat := 0x1048
def Fld.SCH_QLOW_LOW : Fld := ⟨Adr.SCH_QLOW, 6, 0⟩
/-- The address of SCH_COST_E i. -/
def Adr.SCH_COST_E (i : Nat) : Nat := 0x1080 + 4 * i
def Fld.SCH_COST_E_E (i : Nat) : Fld := ⟨Adr.SCH_COST_E i, 23, 0⟩
/-- The address of SCH_COST_H i. -/
def Adr.SCH_COST_H (i : Nat) : Nat := 0x10c0 + 4 * i
def Fld.SCH_COST_H_D (i : Nat) : Fld := ⟨Adr.SCH_COST_H i, 31, 16⟩
def Fld.SCH_COST_H_P (i : Nat) : Fld := ⟨Adr.SCH_COST_H i, 15, 0⟩
/-- The address of SCH_SLOTCMD. -/
def Adr.SCH_SLOTCMD : Nat := 0x1100
def Fld.SCH_SLOTCMD_OP : Fld := ⟨Adr.SCH_SLOTCMD, 10, 8⟩
def Fld.SCH_SLOTCMD_SLOT : Fld := ⟨Adr.SCH_SLOTCMD, 5, 0⟩
/-- The address of SCH_TRIG. -/
def Adr.SCH_TRIG : Nat := 0x1104
def Fld.SCH_TRIG_LINE : Fld := ⟨Adr.SCH_TRIG, 15, 0⟩
/-- The address of SCH_WIN i. -/
def Adr.SCH_WIN (i : Nat) : Nat := 0x1120 + 4 * i
def Fld.SCH_WIN_WORD (i : Nat) : Fld := ⟨Adr.SCH_WIN i, 31, 0⟩
/-- The address of SCH_WIN7. -/
def Adr.SCH_WIN7 : Nat := 0x113c
def Fld.SCH_WIN7_STATE : Fld := ⟨Adr.SCH_WIN7, 31, 28⟩
def Fld.SCH_WIN7_LASTEND : Fld := ⟨Adr.SCH_WIN7, 27, 24⟩
def Fld.SCH_WIN7_CAUSE : Fld := ⟨Adr.SCH_WIN7, 23, 20⟩
def Fld.SCH_WIN7_REASON : Fld := ⟨Adr.SCH_WIN7, 19, 16⟩
def Fld.SCH_WIN7_DEFERS : Fld := ⟨Adr.SCH_WIN7, 15, 8⟩
def Fld.SCH_WIN7_SKIP : Fld := ⟨Adr.SCH_WIN7, 7, 0⟩
/-- The address of SCH_SLOTSTATE i. -/
def Adr.SCH_SLOTSTATE (i : Nat) : Nat := 0x11c0 + 4 * i
def Fld.SCH_SLOTSTATE_STATES (i : Nat) : Fld := ⟨Adr.SCH_SLOTSTATE i, 31, 0⟩
/-- The address of SCH_ENDPEND i. -/
def Adr.SCH_ENDPEND (i : Nat) : Nat := 0x11e0 + 4 * i
def Fld.SCH_ENDPEND_PEND (i : Nat) : Fld := ⟨Adr.SCH_ENDPEND i, 31, 0⟩
/-- The address of SCH_CNT. -/
def Adr.SCH_CNT : Nat := 0x11e8
def Fld.SCH_CNT_MISSED : Fld := ⟨Adr.SCH_CNT, 31, 24⟩
def Fld.SCH_CNT_ABORT : Fld := ⟨Adr.SCH_CNT, 23, 16⟩
def Fld.SCH_CNT_PREEMPT : Fld := ⟨Adr.SCH_CNT, 15, 8⟩
def Fld.SCH_CNT_LONG : Fld := ⟨Adr.SCH_CNT, 7, 0⟩
/-- The address of SCH_ERRINFO. -/
def Adr.SCH_ERRINFO : Nat := 0x11ec
def Fld.SCH_ERRINFO_VALID : Fld := ⟨Adr.SCH_ERRINFO, 31, 31⟩
def Fld.SCH_ERRINFO_SLOT : Fld := ⟨Adr.SCH_ERRINFO, 13, 8⟩
def Fld.SCH_ERRINFO_CAUSE : Fld := ⟨Adr.SCH_ERRINFO, 3, 0⟩
/-- The address of EVR_STAT. -/
def Adr.EVR_STAT : Nat := 0x1430
def Fld.EVR_STAT_OVRTASK : Fld := ⟨Adr.EVR_STAT, 30, 24⟩
def Fld.EVR_STAT_REFTASK : Fld := ⟨Adr.EVR_STAT, 22, 16⟩
def Fld.EVR_STAT_LOCKCH : Fld := ⟨Adr.EVR_STAT, 12, 8⟩
/-- The address of EVR_GRP_STAT. -/
def Adr.EVR_GRP_STAT : Nat := 0x1434
def Fld.EVR_GRP_STAT_STATE : Fld := ⟨Adr.EVR_GRP_STAT, 7, 0⟩
/-- The address of EVR_CH i. -/
def Adr.EVR_CH (i : Nat) : Nat := 0x1440 + 4 * i
def Fld.EVR_CH_LOCK (i : Nat) : Fld := ⟨Adr.EVR_CH i, 31, 31⟩
def Fld.EVR_CH_EN (i : Nat) : Fld := ⟨Adr.EVR_CH i, 30, 30⟩
def Fld.EVR_CH_GROUPS (i : Nat) : Fld := ⟨Adr.EVR_CH i, 23, 16⟩
def Fld.EVR_CH_TASK (i : Nat) : Fld := ⟨Adr.EVR_CH i, 14, 8⟩
def Fld.EVR_CH_SRC (i : Nat) : Fld := ⟨Adr.EVR_CH i, 7, 0⟩
/-- The address of EVR_GRP i. -/
def Adr.EVR_GRP (i : Nat) : Nat := 0x14c0 + 4 * i
def Fld.EVR_GRP_LOCK (i : Nat) : Fld := ⟨Adr.EVR_GRP i, 31, 31⟩
def Fld.EVR_GRP_DIS_SRC (i : Nat) : Fld := ⟨Adr.EVR_GRP i, 15, 8⟩
def Fld.EVR_GRP_EN_SRC (i : Nat) : Fld := ⟨Adr.EVR_GRP i, 7, 0⟩
/-- The address of EVR_GRPCMD. -/
def Adr.EVR_GRPCMD : Nat := 0x14e0
def Fld.EVR_GRPCMD_DISABLE : Fld := ⟨Adr.EVR_GRPCMD, 15, 8⟩
def Fld.EVR_GRPCMD_ENABLE : Fld := ⟨Adr.EVR_GRPCMD, 7, 0⟩
/-- The address of EVR_SWFIRE. -/
def Adr.EVR_SWFIRE : Nat := 0x14e4
def Fld.EVR_SWFIRE_FIRE : Fld := ⟨Adr.EVR_SWFIRE, 31, 0⟩
/-- The address of EVR_CNT. -/
def Adr.EVR_CNT : Nat := 0x15c0
def Fld.EVR_CNT_OVR : Fld := ⟨Adr.EVR_CNT, 31, 16⟩
def Fld.EVR_CNT_REF : Fld := ⟨Adr.EVR_CNT, 15, 0⟩
/-- The address of IRQ_PAGESUM. -/
def Adr.IRQ_PAGESUM : Nat := 0x1830
def Fld.IRQ_PAGESUM_SUM : Fld := ⟨Adr.IRQ_PAGESUM, 31, 0⟩
/-- The address of IRQ_SUM i. -/
def Adr.IRQ_SUM (i : Nat) : Nat := 0x1840 + 4 * i
def Fld.IRQ_SUM_PEND (i : Nat) : Fld := ⟨Adr.IRQ_SUM i, 31, 0⟩
/-- The address of IRQ_ROUTE. -/
def Adr.IRQ_ROUTE : Nat := 0x1858
def Fld.IRQ_ROUTE_TOB : Fld := ⟨Adr.IRQ_ROUTE, 31, 0⟩
/-- The address of IRQ_PINCFG. -/
def Adr.IRQ_PINCFG : Nat := 0x185c
def Fld.IRQ_PINCFG_B_RETRIG : Fld := ⟨Adr.IRQ_PINCFG, 11, 11⟩
def Fld.IRQ_PINCFG_B_POL : Fld := ⟨Adr.IRQ_PINCFG, 10, 10⟩
def Fld.IRQ_PINCFG_B_DRV : Fld := ⟨Adr.IRQ_PINCFG, 9, 9⟩
def Fld.IRQ_PINCFG_B_EN : Fld := ⟨Adr.IRQ_PINCFG, 8, 8⟩
def Fld.IRQ_PINCFG_A_RETRIG : Fld := ⟨Adr.IRQ_PINCFG, 3, 3⟩
def Fld.IRQ_PINCFG_A_POL : Fld := ⟨Adr.IRQ_PINCFG, 2, 2⟩
def Fld.IRQ_PINCFG_A_DRV : Fld := ⟨Adr.IRQ_PINCFG, 1, 1⟩
def Fld.IRQ_PINCFG_A_EN : Fld := ⟨Adr.IRQ_PINCFG, 0, 0⟩
/-- The address of IRQ_RTR. -/
def Adr.IRQ_RTR : Nat := 0x1860
def Fld.IRQ_RTR_B : Fld := ⟨Adr.IRQ_RTR, 1, 1⟩
def Fld.IRQ_RTR_A : Fld := ⟨Adr.IRQ_RTR, 0, 0⟩
/-- The address of IRQ_PINSTAT. -/
def Adr.IRQ_PINSTAT : Nat := 0x19c0
def Fld.IRQ_PINSTAT_B : Fld := ⟨Adr.IRQ_PINSTAT, 1, 1⟩
def Fld.IRQ_PINSTAT_A : Fld := ⟨Adr.IRQ_PINSTAT, 0, 0⟩
/-- The address of CAL_STAT. -/
def Adr.CAL_STAT : Nat := 0x1c30
def Fld.CAL_STAT_VALID : Fld := ⟨Adr.CAL_STAT, 31, 31⟩
def Fld.CAL_STAT_ADJPEND : Fld := ⟨Adr.CAL_STAT, 30, 30⟩
def Fld.CAL_STAT_TWR : Fld := ⟨Adr.CAL_STAT, 5, 5⟩
def Fld.CAL_STAT_DWR : Fld := ⟨Adr.CAL_STAT, 4, 4⟩
def Fld.CAL_STAT_WRAP : Fld := ⟨Adr.CAL_STAT, 0, 0⟩
/-- The address of CAL_ERRCODE. -/
def Adr.CAL_ERRCODE : Nat := 0x1c34
def Fld.CAL_ERRCODE_ALARM : Fld := ⟨Adr.CAL_ERRCODE, 8, 8⟩
def Fld.CAL_ERRCODE_ALM : Fld := ⟨Adr.CAL_ERRCODE, 6, 4⟩
def Fld.CAL_ERRCODE_FIELD : Fld := ⟨Adr.CAL_ERRCODE, 3, 0⟩
/-- The address of CAL_SYNCSTAT. -/
def Adr.CAL_SYNCSTAT : Nat := 0x1c38
def Fld.CAL_SYNCSTAT_VALID : Fld := ⟨Adr.CAL_SYNCSTAT, 31, 31⟩
def Fld.CAL_SYNCSTAT_NOMARK : Fld := ⟨Adr.CAL_SYNCSTAT, 30, 30⟩
def Fld.CAL_SYNCSTAT_STEPPED : Fld := ⟨Adr.CAL_SYNCSTAT, 29, 29⟩
def Fld.CAL_SYNCSTAT_OFS : Fld := ⟨Adr.CAL_SYNCSTAT, 15, 0⟩
/-- The address of CAL_ALMSTAT. -/
def Adr.CAL_ALMSTAT : Nat := 0x1c3c
def Fld.CAL_ALMSTAT_DONE : Fld := ⟨Adr.CAL_ALMSTAT, 15, 8⟩
def Fld.CAL_ALMSTAT_FIRED : Fld := ⟨Adr.CAL_ALMSTAT, 7, 0⟩
/-- The address of CAL_TIME. -/
def Adr.CAL_TIME : Nat := 0x1c40
def Fld.CAL_TIME_HOUR : Fld := ⟨Adr.CAL_TIME, 21, 16⟩
def Fld.CAL_TIME_MINUTE : Fld := ⟨Adr.CAL_TIME, 14, 8⟩
def Fld.CAL_TIME_SECOND : Fld := ⟨Adr.CAL_TIME, 6, 0⟩
/-- The address of CAL_DATE. -/
def Adr.CAL_DATE : Nat := 0x1c44
def Fld.CAL_DATE_WDAY : Fld := ⟨Adr.CAL_DATE, 30, 28⟩
def Fld.CAL_DATE_CENT : Fld := ⟨Adr.CAL_DATE, 25, 24⟩
def Fld.CAL_DATE_YEAR : Fld := ⟨Adr.CAL_DATE, 23, 16⟩
def Fld.CAL_DATE_MONTH : Fld := ⟨Adr.CAL_DATE, 12, 8⟩
def Fld.CAL_DATE_DAY : Fld := ⟨Adr.CAL_DATE, 5, 0⟩
/-- The address of CAL_SUBSEC. -/
def Adr.CAL_SUBSEC : Nat := 0x1c48
def Fld.CAL_SUBSEC_SUB : Fld := ⟨Adr.CAL_SUBSEC, 14, 0⟩
/-- The address of CAL_CFG. -/
def Adr.CAL_CFG : Nat := 0x1c4c
def Fld.CAL_CFG_MINEVT : Fld := ⟨Adr.CAL_CFG, 1, 1⟩
def Fld.CAL_CFG_SECEVT : Fld := ⟨Adr.CAL_CFG, 0, 0⟩
/-- The address of CAL_SYNC. -/
def Adr.CAL_SYNC : Nat := 0x1c50
def Fld.CAL_SYNC_FULL : Fld := ⟨Adr.CAL_SYNC, 4, 4⟩
def Fld.CAL_SYNC_AUTO : Fld := ⟨Adr.CAL_SYNC, 3, 3⟩
def Fld.CAL_SYNC_SRC : Fld := ⟨Adr.CAL_SYNC, 1, 0⟩
/-- The address of CAL_ALM i. -/
def Adr.CAL_ALM (i : Nat) : Nat := 0x1c60 + 8 * i
def Fld.CAL_ALM_WDAY (i : Nat) : Fld := ⟨Adr.CAL_ALM i, 26, 24⟩
def Fld.CAL_ALM_HOUR (i : Nat) : Fld := ⟨Adr.CAL_ALM i, 21, 16⟩
def Fld.CAL_ALM_MINUTE (i : Nat) : Fld := ⟨Adr.CAL_ALM i, 14, 8⟩
def Fld.CAL_ALM_SECOND (i : Nat) : Fld := ⟨Adr.CAL_ALM i, 6, 0⟩
/-- The address of CAL_ALMMASK i. -/
def Adr.CAL_ALMMASK (i : Nat) : Nat := 0x1c64 + 8 * i
def Fld.CAL_ALMMASK_EN (i : Nat) : Fld := ⟨Adr.CAL_ALMMASK i, 31, 31⟩
def Fld.CAL_ALMMASK_ONCE (i : Nat) : Fld := ⟨Adr.CAL_ALMMASK i, 30, 30⟩
def Fld.CAL_ALMMASK_MONTH (i : Nat) : Fld := ⟨Adr.CAL_ALMMASK i, 28, 24⟩
def Fld.CAL_ALMMASK_DAY (i : Nat) : Fld := ⟨Adr.CAL_ALMMASK i, 21, 16⟩
def Fld.CAL_ALMMASK_MWDAY (i : Nat) : Fld := ⟨Adr.CAL_ALMMASK i, 5, 5⟩
def Fld.CAL_ALMMASK_MMONTH (i : Nat) : Fld := ⟨Adr.CAL_ALMMASK i, 4, 4⟩
def Fld.CAL_ALMMASK_MDAY (i : Nat) : Fld := ⟨Adr.CAL_ALMMASK i, 3, 3⟩
def Fld.CAL_ALMMASK_MHOUR (i : Nat) : Fld := ⟨Adr.CAL_ALMMASK i, 2, 2⟩
def Fld.CAL_ALMMASK_MMIN (i : Nat) : Fld := ⟨Adr.CAL_ALMMASK i, 1, 1⟩
def Fld.CAL_ALMMASK_MSEC (i : Nat) : Fld := ⟨Adr.CAL_ALMMASK i, 0, 0⟩
/-- The address of CAL_ADJ. -/
def Adr.CAL_ADJ : Nat := 0x1cc0
def Fld.CAL_ADJ_OP : Fld := ⟨Adr.CAL_ADJ, 1, 0⟩
/-- The address of CAL_SNAPTIME. -/
def Adr.CAL_SNAPTIME : Nat := 0x1dc0
def Fld.CAL_SNAPTIME_HOUR : Fld := ⟨Adr.CAL_SNAPTIME, 21, 16⟩
def Fld.CAL_SNAPTIME_MINUTE : Fld := ⟨Adr.CAL_SNAPTIME, 14, 8⟩
def Fld.CAL_SNAPTIME_SECOND : Fld := ⟨Adr.CAL_SNAPTIME, 6, 0⟩
/-- The address of CAL_SNAPDATE. -/
def Adr.CAL_SNAPDATE : Nat := 0x1dc4
def Fld.CAL_SNAPDATE_WDAY : Fld := ⟨Adr.CAL_SNAPDATE, 30, 28⟩
def Fld.CAL_SNAPDATE_CENT : Fld := ⟨Adr.CAL_SNAPDATE, 25, 24⟩
def Fld.CAL_SNAPDATE_YEAR : Fld := ⟨Adr.CAL_SNAPDATE, 23, 16⟩
def Fld.CAL_SNAPDATE_MONTH : Fld := ⟨Adr.CAL_SNAPDATE, 12, 8⟩
def Fld.CAL_SNAPDATE_DAY : Fld := ⟨Adr.CAL_SNAPDATE, 5, 0⟩
/-- The address of CAL_SNAPSUB. -/
def Adr.CAL_SNAPSUB : Nat := 0x1dc8
def Fld.CAL_SNAPSUB_SUB : Fld := ⟨Adr.CAL_SNAPSUB, 14, 0⟩
/-- The address of HIF_STAT. -/
def Adr.HIF_STAT : Nat := 0x2030
def Fld.HIF_STAT_I2CADDR : Fld := ⟨Adr.HIF_STAT, 22, 16⟩
def Fld.HIF_STAT_STRAP : Fld := ⟨Adr.HIF_STAT, 9, 8⟩
def Fld.HIF_STAT_BADCMD : Fld := ⟨Adr.HIF_STAT, 5, 5⟩
def Fld.HIF_STAT_STATUS : Fld := ⟨Adr.HIF_STAT, 4, 0⟩
/-- The address of HIF_WAIT. -/
def Adr.HIF_WAIT : Nat := 0x2040
def Fld.HIF_WAIT_MODE : Fld := ⟨Adr.HIF_WAIT, 16, 16⟩
def Fld.HIF_WAIT_MAXB : Fld := ⟨Adr.HIF_WAIT, 15, 8⟩
def Fld.HIF_WAIT_BYTES : Fld := ⟨Adr.HIF_WAIT, 1, 0⟩
/-- The address of HIF_CRC_EN. -/
def Adr.HIF_CRC_EN : Nat := 0x2044
def Fld.HIF_CRC_EN_EN : Fld := ⟨Adr.HIF_CRC_EN, 0, 0⟩
/-- The address of HIF_VIEW. -/
def Adr.HIF_VIEW : Nat := 0x2048
def Fld.HIF_VIEW_VIEW : Fld := ⟨Adr.HIF_VIEW, 0, 0⟩
/-- The address of HIF_QCTL. -/
def Adr.HIF_QCTL : Nat := 0x204c
def Fld.HIF_QCTL_OP : Fld := ⟨Adr.HIF_QCTL, 8, 8⟩
def Fld.HIF_QCTL_Q : Fld := ⟨Adr.HIF_QCTL, 3, 0⟩
/-- The address of HIF_QSTAT. -/
def Adr.HIF_QSTAT : Nat := 0x2050
def Fld.HIF_QSTAT_HELD : Fld := ⟨Adr.HIF_QSTAT, 24, 16⟩
def Fld.HIF_QSTAT_OPEN : Fld := ⟨Adr.HIF_QSTAT, 8, 0⟩
/-- The address of HIF_CNT. -/
def Adr.HIF_CNT : Nat := 0x21c0
def Fld.HIF_CNT_UND : Fld := ⟨Adr.HIF_CNT, 23, 16⟩
def Fld.HIF_CNT_OVR : Fld := ⟨Adr.HIF_CNT, 15, 8⟩
def Fld.HIF_CNT_CRC : Fld := ⟨Adr.HIF_CNT, 7, 0⟩
/-- The address of QMX_FREECELLS. -/
def Adr.QMX_FREECELLS : Nat := 0x2430
def Fld.QMX_FREECELLS_MINFREE : Fld := ⟨Adr.QMX_FREECELLS, 24, 16⟩
def Fld.QMX_FREECELLS_FREE : Fld := ⟨Adr.QMX_FREECELLS, 8, 0⟩
/-- The address of QMX_XLOST. -/
def Adr.QMX_XLOST : Nat := 0x2434
def Fld.QMX_XLOST_LASTX : Fld := ⟨Adr.QMX_XLOST, 20, 16⟩
def Fld.QMX_XLOST_COUNT : Fld := ⟨Adr.QMX_XLOST, 15, 0⟩
/-- The address of QMX_DROPCNT. -/
def Adr.QMX_DROPCNT : Nat := 0x2438
def Fld.QMX_DROPCNT_COUNT : Fld := ⟨Adr.QMX_DROPCNT, 15, 0⟩
/-- The address of QMX_STALLINFO. -/
def Adr.QMX_STALLINFO : Nat := 0x243c
def Fld.QMX_STALLINFO_VALID : Fld := ⟨Adr.QMX_STALLINFO, 31, 31⟩
def Fld.QMX_STALLINFO_PAGE : Fld := ⟨Adr.QMX_STALLINFO, 20, 16⟩
def Fld.QMX_STALLINFO_XING : Fld := ⟨Adr.QMX_STALLINFO, 5, 0⟩
/-- The address of QMX_CRED i. -/
def Adr.QMX_CRED (i : Nat) : Nat := 0x2440 + 4 * i
def Fld.QMX_CRED_LOW (i : Nat) : Fld := ⟨Adr.QMX_CRED i, 21, 16⟩
def Fld.QMX_CRED_INIT (i : Nat) : Fld := ⟨Adr.QMX_CRED i, 5, 0⟩
/-- The address of QMX_DROPQ. -/
def Adr.QMX_DROPQ : Nat := 0x2480
def Fld.QMX_DROPQ_EN : Fld := ⟨Adr.QMX_DROPQ, 31, 31⟩
def Fld.QMX_DROPQ_CELLS : Fld := ⟨Adr.QMX_DROPQ, 4, 0⟩
/-- The address of QMX_ECCSTAT. -/
def Adr.QMX_ECCSTAT : Nat := 0x2490
def Fld.QMX_ECCSTAT_UNCORR : Fld := ⟨Adr.QMX_ECCSTAT, 31, 24⟩
def Fld.QMX_ECCSTAT_LASTCELL : Fld := ⟨Adr.QMX_ECCSTAT, 20, 12⟩
def Fld.QMX_ECCSTAT_FIXED : Fld := ⟨Adr.QMX_ECCSTAT, 11, 0⟩
/-- The address of QMX_CNT_CLR. -/
def Adr.QMX_CNT_CLR : Nat := 0x24a0
def Fld.QMX_CNT_CLR_MINFREE : Fld := ⟨Adr.QMX_CNT_CLR, 5, 5⟩
def Fld.QMX_CNT_CLR_XSTAT : Fld := ⟨Adr.QMX_CNT_CLR, 4, 4⟩
def Fld.QMX_CNT_CLR_ECC : Fld := ⟨Adr.QMX_CNT_CLR, 3, 3⟩
def Fld.QMX_CNT_CLR_STALL : Fld := ⟨Adr.QMX_CNT_CLR, 2, 2⟩
def Fld.QMX_CNT_CLR_DROP : Fld := ⟨Adr.QMX_CNT_CLR, 1, 1⟩
def Fld.QMX_CNT_CLR_XLOST : Fld := ⟨Adr.QMX_CNT_CLR, 0, 0⟩
/-- The address of QMX_XSTAT i. -/
def Adr.QMX_XSTAT (i : Nat) : Nat := 0x25c0 + 4 * i
def Fld.QMX_XSTAT_LOST (i : Nat) : Fld := ⟨Adr.QMX_XSTAT i, 31, 24⟩
def Fld.QMX_XSTAT_RESYNC (i : Nat) : Fld := ⟨Adr.QMX_XSTAT i, 21, 21⟩
def Fld.QMX_XSTAT_OPEN (i : Nat) : Fld := ⟨Adr.QMX_XSTAT i, 20, 20⟩
def Fld.QMX_XSTAT_REPOCH (i : Nat) : Fld := ⟨Adr.QMX_XSTAT i, 19, 18⟩
def Fld.QMX_XSTAT_LEPOCH (i : Nat) : Fld := ⟨Adr.QMX_XSTAT i, 17, 16⟩
def Fld.QMX_XSTAT_CUR (i : Nat) : Fld := ⟨Adr.QMX_XSTAT i, 5, 0⟩
/-- The address of SEC_SLOTS. -/
def Adr.SEC_SLOTS : Nat := 0x2830
def Fld.SEC_SLOTS_FULL : Fld := ⟨Adr.SEC_SLOTS, 31, 0⟩
/-- The address of SEC_SINK. -/
def Adr.SEC_SINK : Nat := 0x2834
def Fld.SEC_SINK_ARMED : Fld := ⟨Adr.SEC_SINK, 31, 31⟩
def Fld.SEC_SINK_BUSY : Fld := ⟨Adr.SEC_SINK, 30, 30⟩
def Fld.SEC_SINK_SLOT : Fld := ⟨Adr.SEC_SINK, 28, 24⟩
def Fld.SEC_SINK_RESULT : Fld := ⟨Adr.SEC_SINK, 19, 16⟩
/-- The address of SEC_LAST. -/
def Adr.SEC_LAST : Nat := 0x2838
def Fld.SEC_LAST_VALID : Fld := ⟨Adr.SEC_LAST, 31, 31⟩
def Fld.SEC_LAST_CAUSE : Fld := ⟨Adr.SEC_LAST, 27, 24⟩
def Fld.SEC_LAST_PEER : Fld := ⟨Adr.SEC_LAST, 23, 16⟩
def Fld.SEC_LAST_SLOT : Fld := ⟨Adr.SEC_LAST, 12, 8⟩
/-- The address of SEC_CHECK. -/
def Adr.SEC_CHECK : Nat := 0x283c
def Fld.SEC_CHECK_CV : Fld := ⟨Adr.SEC_CHECK, 31, 0⟩
/-- The address of SEC_CFG. -/
def Adr.SEC_CFG : Nat := 0x2840
def Fld.SEC_CFG_NOWRAP : Fld := ⟨Adr.SEC_CFG, 31, 31⟩
def Fld.SEC_CFG_FWD : Fld := ⟨Adr.SEC_CFG, 13, 8⟩
def Fld.SEC_CFG_BACK : Fld := ⟨Adr.SEC_CFG, 5, 0⟩
/-- The address of SEC_SYSID. -/
def Adr.SEC_SYSID : Nat := 0x2844
def Fld.SEC_SYSID_ID : Fld := ⟨Adr.SEC_SYSID, 31, 0⟩
/-- The address of SEC_KEY i. -/
def Adr.SEC_KEY (i : Nat) : Nat := 0x2880 + 4 * i
def Fld.SEC_KEY_KEY (i : Nat) : Fld := ⟨Adr.SEC_KEY i, 31, 0⟩
/-- The address of SEC_KEYCMD. -/
def Adr.SEC_KEYCMD : Nat := 0x2890
def Fld.SEC_KEYCMD_OP : Fld := ⟨Adr.SEC_KEYCMD, 10, 8⟩
def Fld.SEC_KEYCMD_SLOT : Fld := ⟨Adr.SEC_KEYCMD, 4, 0⟩
/-- The address of SEC_KEYLOCK. -/
def Adr.SEC_KEYLOCK : Nat := 0x2894
def Fld.SEC_KEYLOCK_LOCK : Fld := ⟨Adr.SEC_KEYLOCK, 31, 0⟩
/-- The address of SEC_SINKCFG. -/
def Adr.SEC_SINKCFG : Nat := 0x2898
def Fld.SEC_SINKCFG_GUARD : Fld := ⟨Adr.SEC_SINKCFG, 31, 31⟩
def Fld.SEC_SINKCFG_LOCK : Fld := ⟨Adr.SEC_SINKCFG, 24, 24⟩
def Fld.SEC_SINKCFG_SLOT : Fld := ⟨Adr.SEC_SINKCFG, 20, 16⟩
def Fld.SEC_SINKCFG_TO : Fld := ⟨Adr.SEC_SINKCFG, 7, 0⟩
/-- The address of SEC_WRAP i. -/
def Adr.SEC_WRAP (i : Nat) : Nat := 0x28a0 + 4 * i
def Fld.SEC_WRAP_WORD (i : Nat) : Fld := ⟨Adr.SEC_WRAP i, 31, 0⟩
/-- The address of SEC_CTRSEL. -/
def Adr.SEC_CTRSEL : Nat := 0x28c0
def Fld.SEC_CTRSEL_KIND : Fld := ⟨Adr.SEC_CTRSEL, 9, 8⟩
def Fld.SEC_CTRSEL_PEER : Fld := ⟨Adr.SEC_CTRSEL, 7, 0⟩
/-- The address of SEC_CTRVAL. -/
def Adr.SEC_CTRVAL : Nat := 0x28c4
def Fld.SEC_CTRVAL_COUNTER : Fld := ⟨Adr.SEC_CTRVAL, 31, 0⟩
/-- The address of SEC_CTREP. -/
def Adr.SEC_CTREP : Nat := 0x28c8
def Fld.SEC_CTREP_VALID : Fld := ⟨Adr.SEC_CTREP, 31, 31⟩
def Fld.SEC_CTREP_WARNED : Fld := ⟨Adr.SEC_CTREP, 30, 30⟩
def Fld.SEC_CTREP_EPOCH : Fld := ⟨Adr.SEC_CTREP, 7, 0⟩
/-- The address of SEC_CTR_WARN. -/
def Adr.SEC_CTR_WARN : Nat := 0x28cc
def Fld.SEC_CTR_WARN_VALID : Fld := ⟨Adr.SEC_CTR_WARN, 31, 31⟩
def Fld.SEC_CTR_WARN_KIND : Fld := ⟨Adr.SEC_CTR_WARN, 9, 8⟩
def Fld.SEC_CTR_WARN_PEER : Fld := ⟨Adr.SEC_CTR_WARN, 7, 0⟩
/-- The address of SEC_CNT. -/
def Adr.SEC_CNT : Nat := 0x29c0
def Fld.SEC_CNT_AUTH : Fld := ⟨Adr.SEC_CNT, 31, 24⟩
def Fld.SEC_CNT_REPLAY : Fld := ⟨Adr.SEC_CNT, 23, 16⟩
def Fld.SEC_CNT_EPOCHNEW : Fld := ⟨Adr.SEC_CNT, 15, 8⟩
def Fld.SEC_CNT_SINKFAIL : Fld := ⟨Adr.SEC_CNT, 7, 0⟩
/-- The address of FEC_STAT. -/
def Adr.FEC_STAT : Nat := 0x2c30
def Fld.FEC_STAT_DECHELD : Fld := ⟨Adr.FEC_STAT, 18, 16⟩
def Fld.FEC_STAT_ENCHELD : Fld := ⟨Adr.FEC_STAT, 13, 12⟩
def Fld.FEC_STAT_BURST : Fld := ⟨Adr.FEC_STAT, 8, 8⟩
def Fld.FEC_STAT_BUSY : Fld := ⟨Adr.FEC_STAT, 0, 0⟩
/-- The address of FEC_LAST. -/
def Adr.FEC_LAST : Nat := 0x2c34
def Fld.FEC_LAST_CODE : Fld := ⟨Adr.FEC_LAST, 29, 28⟩
def Fld.FEC_LAST_NCW : Fld := ⟨Adr.FEC_LAST, 26, 24⟩
def Fld.FEC_LAST_ITERS : Fld := ⟨Adr.FEC_LAST, 21, 16⟩
def Fld.FEC_LAST_RESULT : Fld := ⟨Adr.FEC_LAST, 3, 0⟩
/-- The address of FEC_CODE. -/
def Adr.FEC_CODE : Nat := 0x2c40
def Fld.FEC_CODE_LINE : Fld := ⟨Adr.FEC_CODE, 13, 12⟩
def Fld.FEC_CODE_RADIO : Fld := ⟨Adr.FEC_CODE, 9, 8⟩
def Fld.FEC_CODE_ACCEPT : Fld := ⟨Adr.FEC_CODE, 3, 0⟩
/-- The address of FEC_ITER_MAX. -/
def Adr.FEC_ITER_MAX : Nat := 0x2c44
def Fld.FEC_ITER_MAX_MAX : Fld := ⟨Adr.FEC_ITER_MAX, 5, 0⟩
/-- The address of FEC_CFG. -/
def Adr.FEC_CFG : Nat := 0x2c48
def Fld.FEC_CFG_NORM : Fld := ⟨Adr.FEC_CFG, 1, 0⟩
/-- The address of FEC_CWCNT. -/
def Adr.FEC_CWCNT : Nat := 0x2dc0
def Fld.FEC_CWCNT_OK : Fld := ⟨Adr.FEC_CWCNT, 31, 16⟩
def Fld.FEC_CWCNT_FAIL : Fld := ⟨Adr.FEC_CWCNT, 15, 0⟩
/-- The address of FEC_ITERSUM. -/
def Adr.FEC_ITERSUM : Nat := 0x2dc4
def Fld.FEC_ITERSUM_ITERS : Fld := ⟨Adr.FEC_ITERSUM, 31, 0⟩
/-- The address of FEC_FRMCNT. -/
def Adr.FEC_FRMCNT : Nat := 0x2dc8
def Fld.FEC_FRMCNT_PHR : Fld := ⟨Adr.FEC_FRMCNT, 31, 24⟩
def Fld.FEC_FRMCNT_HDR : Fld := ⟨Adr.FEC_FRMCNT, 23, 16⟩
def Fld.FEC_FRMCNT_CRC : Fld := ⟨Adr.FEC_FRMCNT, 15, 8⟩
def Fld.FEC_FRMCNT_FULL : Fld := ⟨Adr.FEC_FRMCNT, 7, 0⟩
/-- The address of FEC_FRMCNT2. -/
def Adr.FEC_FRMCNT2 : Nat := 0x2dcc
def Fld.FEC_FRMCNT2_BADHDR : Fld := ⟨Adr.FEC_FRMCNT2, 15, 8⟩
def Fld.FEC_FRMCNT2_NOTACC : Fld := ⟨Adr.FEC_FRMCNT2, 7, 0⟩
/-- The address of NFC_STAT. -/
def Adr.NFC_STAT : Nat := 0x3030
def Fld.NFC_STAT_EXTF : Fld := ⟨Adr.NFC_STAT, 31, 31⟩
def Fld.NFC_STAT_STATE : Fld := ⟨Adr.NFC_STAT, 9, 8⟩
def Fld.NFC_STAT_BASEV : Fld := ⟨Adr.NFC_STAT, 6, 6⟩
def Fld.NFC_STAT_TUNING : Fld := ⟨Adr.NFC_STAT, 5, 5⟩
def Fld.NFC_STAT_FORCED : Fld := ⟨Adr.NFC_STAT, 4, 4⟩
def Fld.NFC_STAT_NOREARM : Fld := ⟨Adr.NFC_STAT, 3, 3⟩
def Fld.NFC_STAT_SAG : Fld := ⟨Adr.NFC_STAT, 2, 2⟩
def Fld.NFC_STAT_FIELD : Fld := ⟨Adr.NFC_STAT, 0, 0⟩
/-- The address of NFC_DRV_STAT. -/
def Adr.NFC_DRV_STAT : Nat := 0x3034
def Fld.NFC_DRV_STAT_I : Fld := ⟨Adr.NFC_DRV_STAT, 24, 16⟩
def Fld.NFC_DRV_STAT_VTX : Fld := ⟨Adr.NFC_DRV_STAT, 12, 0⟩
/-- The address of NFC_MISMATCH_Q. -/
def Adr.NFC_MISMATCH_Q : Nat := 0x3038
def Fld.NFC_MISMATCH_Q_VALID : Fld := ⟨Adr.NFC_MISMATCH_Q, 31, 31⟩
def Fld.NFC_MISMATCH_Q_CNT : Fld := ⟨Adr.NFC_MISMATCH_Q, 23, 16⟩
def Fld.NFC_MISMATCH_Q_SIGN : Fld := ⟨Adr.NFC_MISMATCH_Q, 15, 15⟩
def Fld.NFC_MISMATCH_Q_Q : Fld := ⟨Adr.NFC_MISMATCH_Q, 7, 0⟩
/-- The address of NFC_COMET_STAT. -/
def Adr.NFC_COMET_STAT : Nat := 0x303c
def Fld.NFC_COMET_STAT_CLASS : Fld := ⟨Adr.NFC_COMET_STAT, 30, 28⟩
def Fld.NFC_COMET_STAT_AMP : Fld := ⟨Adr.NFC_COMET_STAT, 27, 16⟩
def Fld.NFC_COMET_STAT_PH : Fld := ⟨Adr.NFC_COMET_STAT, 11, 0⟩
/-- The address of NFC_DRV_LVL. -/
def Adr.NFC_DRV_LVL : Nat := 0x3040
def Fld.NFC_DRV_LVL_SAGV : Fld := ⟨Adr.NFC_DRV_LVL, 20, 16⟩
def Fld.NFC_DRV_LVL_RAMP : Fld := ⟨Adr.NFC_DRV_LVL, 11, 8⟩
def Fld.NFC_DRV_LVL_LVL : Fld := ⟨Adr.NFC_DRV_LVL, 4, 0⟩
/-- The address of NFC_MODIDX. -/
def Adr.NFC_MODIDX : Nat := 0x3044
def Fld.NFC_MODIDX_IDX : Fld := ⟨Adr.NFC_MODIDX, 5, 0⟩
/-- The address of NFC_TUNE_CFG. -/
def Adr.NFC_TUNE_CFG : Nat := 0x3048
def Fld.NFC_TUNE_CFG_AUTO : Fld := ⟨Adr.NFC_TUNE_CFG, 31, 31⟩
def Fld.NFC_TUNE_CFG_SLVL : Fld := ⟨Adr.NFC_TUNE_CFG, 28, 24⟩
def Fld.NFC_TUNE_CFG_MAXSTEPS : Fld := ⟨Adr.NFC_TUNE_CFG, 23, 16⟩
def Fld.NFC_TUNE_CFG_MCONF : Fld := ⟨Adr.NFC_TUNE_CFG, 11, 8⟩
def Fld.NFC_TUNE_CFG_QTHR : Fld := ⟨Adr.NFC_TUNE_CFG, 7, 0⟩
/-- The address of NFC_COMET_IVL. -/
def Adr.NFC_COMET_IVL : Nat := 0x304c
def Fld.NFC_COMET_IVL_FAST : Fld := ⟨Adr.NFC_COMET_IVL, 31, 16⟩
def Fld.NFC_COMET_IVL_IVL : Fld := ⟨Adr.NFC_COMET_IVL, 15, 0⟩
/-- The address of NFC_COMET_BURST. -/
def Adr.NFC_COMET_BURST : Nat := 0x3050
def Fld.NFC_COMET_BURST_CLVL : Fld := ⟨Adr.NFC_COMET_BURST, 19, 16⟩
def Fld.NFC_COMET_BURST_SETTLE : Fld := ⟨Adr.NFC_COMET_BURST, 11, 8⟩
def Fld.NFC_COMET_BURST_MEAS : Fld := ⟨Adr.NFC_COMET_BURST, 3, 0⟩
/-- The address of NFC_CARD_THR. -/
def Adr.NFC_CARD_THR : Nat := 0x3054
def Fld.NFC_CARD_THR_CONF : Fld := ⟨Adr.NFC_CARD_THR, 19, 16⟩
def Fld.NFC_CARD_THR_REL : Fld := ⟨Adr.NFC_CARD_THR, 9, 0⟩
/-- The address of NFC_HAND_THR. -/
def Adr.NFC_HAND_THR : Nat := 0x3058
def Fld.NFC_HAND_THR_CONF : Fld := ⟨Adr.NFC_HAND_THR, 27, 24⟩
def Fld.NFC_HAND_THR_REL : Fld := ⟨Adr.NFC_HAND_THR, 23, 16⟩
def Fld.NFC_HAND_THR_PH : Fld := ⟨Adr.NFC_HAND_THR, 10, 0⟩
/-- The address of NFC_COMET_CFG. -/
def Adr.NFC_COMET_CFG : Nat := 0x305c
def Fld.NFC_COMET_CFG_DONEEVT : Fld := ⟨Adr.NFC_COMET_CFG, 16, 16⟩
def Fld.NFC_COMET_CFG_REL : Fld := ⟨Adr.NFC_COMET_CFG, 11, 8⟩
def Fld.NFC_COMET_CFG_TRK : Fld := ⟨Adr.NFC_COMET_CFG, 2, 0⟩
/-- The address of NFC_EXT_CFG. -/
def Adr.NFC_EXT_CFG : Nat := 0x3060
def Fld.NFC_EXT_CFG_EN : Fld := ⟨Adr.NFC_EXT_CFG, 31, 31⟩
def Fld.NFC_EXT_CFG_THR : Fld := ⟨Adr.NFC_EXT_CFG, 11, 0⟩
/-- The address of NFC_TUNE_S0. -/
def Adr.NFC_TUNE_S0 : Nat := 0x3080
def Fld.NFC_TUNE_S0_C : Fld := ⟨Adr.NFC_TUNE_S0, 5, 0⟩
/-- The address of NFC_TUNE_S1. -/
def Adr.NFC_TUNE_S1 : Nat := 0x3084
def Fld.NFC_TUNE_S1_C : Fld := ⟨Adr.NFC_TUNE_S1, 5, 0⟩
/-- The address of NFC_TUNE_P0. -/
def Adr.NFC_TUNE_P0 : Nat := 0x3088
def Fld.NFC_TUNE_P0_C : Fld := ⟨Adr.NFC_TUNE_P0, 5, 0⟩
/-- The address of NFC_TUNE_P1. -/
def Adr.NFC_TUNE_P1 : Nat := 0x308c
def Fld.NFC_TUNE_P1_C : Fld := ⟨Adr.NFC_TUNE_P1, 5, 0⟩
/-- The address of NFC_BASE_AMP. -/
def Adr.NFC_BASE_AMP : Nat := 0x3090
def Fld.NFC_BASE_AMP_AMP : Fld := ⟨Adr.NFC_BASE_AMP, 11, 0⟩
/-- The address of NFC_BASE_PH. -/
def Adr.NFC_BASE_PH : Nat := 0x3094
def Fld.NFC_BASE_PH_PH : Fld := ⟨Adr.NFC_BASE_PH, 11, 0⟩
/-- The address of NFC_CMD. -/
def Adr.NFC_CMD : Nat := 0x3098
def Fld.NFC_CMD_FIELDOFF : Fld := ⟨Adr.NFC_CMD, 2, 2⟩
def Fld.NFC_CMD_SAFE : Fld := ⟨Adr.NFC_CMD, 1, 1⟩
def Fld.NFC_CMD_BASEINV : Fld := ⟨Adr.NFC_CMD, 0, 0⟩
/-- The address of NFC_CNT. -/
def Adr.NFC_CNT : Nat := 0x31c0
def Fld.NFC_CNT_CARD : Fld := ⟨Adr.NFC_CNT, 31, 24⟩
def Fld.NFC_CNT_HAND : Fld := ⟨Adr.NFC_CNT, 23, 16⟩
def Fld.NFC_CNT_EXTF : Fld := ⟨Adr.NFC_CNT, 15, 8⟩
def Fld.NFC_CNT_OVERCUR : Fld := ⟨Adr.NFC_CNT, 7, 0⟩
/-- The address of NFC_TUNE_LAST. -/
def Adr.NFC_TUNE_LAST : Nat := 0x31c4
def Fld.NFC_TUNE_LAST_RESULT : Fld := ⟨Adr.NFC_TUNE_LAST, 31, 30⟩
def Fld.NFC_TUNE_LAST_PROBES : Fld := ⟨Adr.NFC_TUNE_LAST, 23, 16⟩
def Fld.NFC_TUNE_LAST_QSTART : Fld := ⟨Adr.NFC_TUNE_LAST, 15, 8⟩
def Fld.NFC_TUNE_LAST_QEND : Fld := ⟨Adr.NFC_TUNE_LAST, 7, 0⟩
/-- The address of NFP_STAT. -/
def Adr.NFP_STAT : Nat := 0x3430
def Fld.NFP_STAT_PHASE : Fld := ⟨Adr.NFP_STAT, 18, 16⟩
def Fld.NFP_STAT_CURTECH : Fld := ⟨Adr.NFP_STAT, 13, 12⟩
def Fld.NFP_STAT_STOPPED : Fld := ⟨Adr.NFP_STAT, 8, 8⟩
/-- The address of NFP_LAST. -/
def Adr.NFP_LAST : Nat := 0x3434
def Fld.NFP_LAST_ERR : Fld := ⟨Adr.NFP_LAST, 29, 24⟩
def Fld.NFP_LAST_TAG : Fld := ⟨Adr.NFP_LAST, 15, 8⟩
/-- The address of NFP_TAGLIST_CNT. -/
def Adr.NFP_TAGLIST_CNT : Nat := 0x3438
def Fld.NFP_TAGLIST_CNT_FULL : Fld := ⟨Adr.NFP_TAGLIST_CNT, 31, 31⟩
def Fld.NFP_TAGLIST_CNT_LOST : Fld := ⟨Adr.NFP_TAGLIST_CNT, 22, 16⟩
def Fld.NFP_TAGLIST_CNT_NEW : Fld := ⟨Adr.NFP_TAGLIST_CNT, 14, 8⟩
def Fld.NFP_TAGLIST_CNT_COUNT : Fld := ⟨Adr.NFP_TAGLIST_CNT, 6, 0⟩
/-- The address of NFP_ISO4STAT. -/
def Adr.NFP_ISO4STAT : Nat := 0x343c
def Fld.NFP_ISO4STAT_WTXPEND : Fld := ⟨Adr.NFP_ISO4STAT, 31, 31⟩
def Fld.NFP_ISO4STAT_WTXM : Fld := ⟨Adr.NFP_ISO4STAT, 5, 0⟩
/-- The address of NFP_TECH. -/
def Adr.NFP_TECH : Nat := 0x3440
def Fld.NFP_TECH_TECH : Fld := ⟨Adr.NFP_TECH, 1, 0⟩
/-- The address of NFP_RATE. -/
def Adr.NFP_RATE : Nat := 0x3444
def Fld.NFP_RATE_VASK : Fld := ⟨Adr.NFP_RATE, 10, 10⟩
def Fld.NFP_RATE_VSUB : Fld := ⟨Adr.NFP_RATE, 9, 9⟩
def Fld.NFP_RATE_VCOD : Fld := ⟨Adr.NFP_RATE, 8, 8⟩
def Fld.NFP_RATE_RATE : Fld := ⟨Adr.NFP_RATE, 1, 0⟩
/-- The address of NFP_FDT. -/
def Adr.NFP_FDT : Nat := 0x3448
def Fld.NFP_FDT_GAP : Fld := ⟨Adr.NFP_FDT, 31, 16⟩
def Fld.NFP_FDT_RXMIN : Fld := ⟨Adr.NFP_FDT, 15, 0⟩
/-- The address of NFP_FWT. -/
def Adr.NFP_FWT : Nat := 0x344c
def Fld.NFP_FWT_ISO4 : Fld := ⟨Adr.NFP_FWT, 28, 28⟩
def Fld.NFP_FWT_FWT : Fld := ⟨Adr.NFP_FWT, 19, 0⟩
/-- The address of NFP_POLL_CFG. -/
def Adr.NFP_POLL_CFG : Nat := 0x3450
def Fld.NFP_POLL_CFG_GT : Fld := ⟨Adr.NFP_POLL_CFG, 31, 24⟩
def Fld.NFP_POLL_CFG_AFI : Fld := ⟨Adr.NFP_POLL_CFG, 23, 16⟩
def Fld.NFP_POLL_CFG_BSLOTS : Fld := ⟨Adr.NFP_POLL_CFG, 14, 12⟩
def Fld.NFP_POLL_CFG_FSLOTS : Fld := ⟨Adr.NFP_POLL_CFG, 10, 8⟩
def Fld.NFP_POLL_CFG_COLLBIT : Fld := ⟨Adr.NFP_POLL_CFG, 7, 7⟩
def Fld.NFP_POLL_CFG_AMAX : Fld := ⟨Adr.NFP_POLL_CFG, 6, 0⟩
/-- The address of NFP_CMD. -/
def Adr.NFP_CMD : Nat := 0x3480
def Fld.NFP_CMD_STOP : Fld := ⟨Adr.NFP_CMD, 2, 2⟩
def Fld.NFP_CMD_ABORT : Fld := ⟨Adr.NFP_CMD, 1, 1⟩
def Fld.NFP_CMD_CLRLIST : Fld := ⟨Adr.NFP_CMD, 0, 0⟩
/-- The address of NFP_TAGSEL. -/
def Adr.NFP_TAGSEL : Nat := 0x3484
def Fld.NFP_TAGSEL_ENTRY : Fld := ⟨Adr.NFP_TAGSEL, 5, 0⟩
/-- The address of NFP_TAGWIN i. -/
def Adr.NFP_TAGWIN (i : Nat) : Nat := 0x34a0 + 4 * i
def Fld.NFP_TAGWIN_WORD (i : Nat) : Fld := ⟨Adr.NFP_TAGWIN i, 31, 0⟩
/-- The address of NFP_CNT. -/
def Adr.NFP_CNT : Nat := 0x35c0
def Fld.NFP_CNT_TIMEOUT : Fld := ⟨Adr.NFP_CNT, 31, 24⟩
def Fld.NFP_CNT_CRC : Fld := ⟨Adr.NFP_CNT, 23, 16⟩
def Fld.NFP_CNT_COLL : Fld := ⟨Adr.NFP_CNT, 15, 8⟩
def Fld.NFP_CNT_FDTVIOL : Fld := ⟨Adr.NFP_CNT, 7, 0⟩
/-- The address of NFP_POLLCNT. -/
def Adr.NFP_POLLCNT : Nat := 0x35c4
def Fld.NFP_POLLCNT_POLLS : Fld := ⟨Adr.NFP_POLLCNT, 15, 0⟩
/-- The address of WIR_STAT. -/
def Adr.WIR_STAT : Nat := 0x3830
def Fld.WIR_STAT_CYCNO : Fld := ⟨Adr.WIR_STAT, 31, 16⟩
def Fld.WIR_STAT_WIN : Fld := ⟨Adr.WIR_STAT, 14, 12⟩
def Fld.WIR_STAT_INV : Fld := ⟨Adr.WIR_STAT, 8, 8⟩
def Fld.WIR_STAT_LAYOUT : Fld := ⟨Adr.WIR_STAT, 7, 7⟩
def Fld.WIR_STAT_TRAINFAIL : Fld := ⟨Adr.WIR_STAT, 6, 6⟩
def Fld.WIR_STAT_ECOK : Fld := ⟨Adr.WIR_STAT, 5, 5⟩
def Fld.WIR_STAT_TRAINING : Fld := ⟨Adr.WIR_STAT, 4, 4⟩
def Fld.WIR_STAT_HELD : Fld := ⟨Adr.WIR_STAT, 3, 3⟩
def Fld.WIR_STAT_PWR : Fld := ⟨Adr.WIR_STAT, 1, 0⟩
/-- The address of WIR_CDR_STAT. -/
def Adr.WIR_CDR_STAT : Nat := 0x3834
def Fld.WIR_CDR_STAT_LOCK : Fld := ⟨Adr.WIR_CDR_STAT, 31, 31⟩
def Fld.WIR_CDR_STAT_ACQ : Fld := ⟨Adr.WIR_CDR_STAT, 30, 30⟩
def Fld.WIR_CDR_STAT_MISSED : Fld := ⟨Adr.WIR_CDR_STAT, 27, 24⟩
def Fld.WIR_CDR_STAT_PHERR : Fld := ⟨Adr.WIR_CDR_STAT, 23, 16⟩
def Fld.WIR_CDR_STAT_FOFS : Fld := ⟨Adr.WIR_CDR_STAT, 15, 0⟩
/-- The address of WIR_EC_RES. -/
def Adr.WIR_EC_RES : Nat := 0x3838
def Fld.WIR_EC_RES_RES : Fld := ⟨Adr.WIR_EC_RES, 15, 0⟩
/-- The address of WIR_ISNS. -/
def Adr.WIR_ISNS : Nat := 0x383c
def Fld.WIR_ISNS_BASE : Fld := ⟨Adr.WIR_ISNS, 25, 16⟩
def Fld.WIR_ISNS_I : Fld := ⟨Adr.WIR_ISNS, 9, 0⟩
/-- The address of WIR_GEN. -/
def Adr.WIR_GEN : Nat := 0x3840
def Fld.WIR_GEN_EN : Fld := ⟨Adr.WIR_GEN, 2, 0⟩
/-- The address of WIR_CYCLE. -/
def Adr.WIR_CYCLE : Nat := 0x3844
def Fld.WIR_CYCLE_LEAD : Fld := ⟨Adr.WIR_CYCLE, 31, 24⟩
def Fld.WIR_CYCLE_LEN : Fld := ⟨Adr.WIR_CYCLE, 13, 0⟩
/-- The address of WIR_WIN_M1. -/
def Adr.WIR_WIN_M1 : Nat := 0x3848
def Fld.WIR_WIN_M1_START : Fld := ⟨Adr.WIR_WIN_M1, 31, 16⟩
def Fld.WIR_WIN_M1_LEN : Fld := ⟨Adr.WIR_WIN_M1, 15, 0⟩
/-- The address of WIR_WIN_M2. -/
def Adr.WIR_WIN_M2 : Nat := 0x384c
def Fld.WIR_WIN_M2_START : Fld := ⟨Adr.WIR_WIN_M2, 31, 16⟩
def Fld.WIR_WIN_M2_LEN : Fld := ⟨Adr.WIR_WIN_M2, 15, 0⟩
/-- The address of WIR_WIN_M3. -/
def Adr.WIR_WIN_M3 : Nat := 0x3850
def Fld.WIR_WIN_M3_START : Fld := ⟨Adr.WIR_WIN_M3, 31, 16⟩
def Fld.WIR_WIN_M3_LEN : Fld := ⟨Adr.WIR_WIN_M3, 15, 0⟩
/-- The address of WIR_TXAMP. -/
def Adr.WIR_TXAMP : Nat := 0x3854
def Fld.WIR_TXAMP_AMP : Fld := ⟨Adr.WIR_TXAMP, 3, 0⟩
/-- The address of WIR_EC_CTRL. -/
def Adr.WIR_EC_CTRL : Nat := 0x3858
def Fld.WIR_EC_CTRL_AUTO : Fld := ⟨Adr.WIR_EC_CTRL, 31, 31⟩
def Fld.WIR_EC_CTRL_MU : Fld := ⟨Adr.WIR_EC_CTRL, 19, 16⟩
def Fld.WIR_EC_CTRL_DIVTHR : Fld := ⟨Adr.WIR_EC_CTRL, 15, 8⟩
def Fld.WIR_EC_CTRL_CONVTHR : Fld := ⟨Adr.WIR_EC_CTRL, 7, 0⟩
/-- The address of WIR_POL. -/
def Adr.WIR_POL : Nat := 0x385c
def Fld.WIR_POL_MODE : Fld := ⟨Adr.WIR_POL, 1, 0⟩
/-- The address of WIR_PWR_CFG. -/
def Adr.WIR_PWR_CFG : Nat := 0x3860
def Fld.WIR_PWR_CFG_SETTLE : Fld := ⟨Adr.WIR_PWR_CFG, 23, 16⟩
def Fld.WIR_PWR_CFG_INRUSH : Fld := ⟨Adr.WIR_PWR_CFG, 13, 8⟩
def Fld.WIR_PWR_CFG_OCT : Fld := ⟨Adr.WIR_PWR_CFG, 7, 0⟩
/-- The address of WIR_PLUG_CFG. -/
def Adr.WIR_PLUG_CFG : Nat := 0x3864
def Fld.WIR_PLUG_CFG_DWELL : Fld := ⟨Adr.WIR_PLUG_CFG, 15, 8⟩
def Fld.WIR_PLUG_CFG_STEP : Fld := ⟨Adr.WIR_PLUG_CFG, 5, 0⟩
/-- The address of WIR_CDR_CFG. -/
def Adr.WIR_CDR_CFG : Nat := 0x3868
def Fld.WIR_CDR_CFG_LOCKN : Fld := ⟨Adr.WIR_CDR_CFG, 11, 8⟩
def Fld.WIR_CDR_CFG_MISS : Fld := ⟨Adr.WIR_CDR_CFG, 3, 0⟩
/-- The address of WIR_CSMA. -/
def Adr.WIR_CSMA : Nat := 0x386c
def Fld.WIR_CSMA_CWMAX : Fld := ⟨Adr.WIR_CSMA, 15, 8⟩
def Fld.WIR_CSMA_CWMIN : Fld := ⟨Adr.WIR_CSMA, 7, 0⟩
/-- The address of WIR_CFG. -/
def Adr.WIR_CFG : Nat := 0x3870
def Fld.WIR_CFG_WINEVT : Fld := ⟨Adr.WIR_CFG, 1, 1⟩
def Fld.WIR_CFG_CYCEVT : Fld := ⟨Adr.WIR_CFG, 0, 0⟩
/-- The address of WIR_CMD. -/
def Adr.WIR_CMD : Nat := 0x3880
def Fld.WIR_CMD_HOLD : Fld := ⟨Adr.WIR_CMD, 5, 5⟩
def Fld.WIR_CMD_POLCHECK : Fld := ⟨Adr.WIR_CMD, 4, 4⟩
def Fld.WIR_CMD_PROBE : Fld := ⟨Adr.WIR_CMD, 3, 3⟩
def Fld.WIR_CMD_SOFTOFF : Fld := ⟨Adr.WIR_CMD, 2, 2⟩
def Fld.WIR_CMD_OFF : Fld := ⟨Adr.WIR_CMD, 1, 1⟩
def Fld.WIR_CMD_ON : Fld := ⟨Adr.WIR_CMD, 0, 0⟩
/-- The address of WIR_ANN_INFO. -/
def Adr.WIR_ANN_INFO : Nat := 0x3884
def Fld.WIR_ANN_INFO_VALID : Fld := ⟨Adr.WIR_ANN_INFO, 31, 31⟩
def Fld.WIR_ANN_INFO_REPEAT : Fld := ⟨Adr.WIR_ANN_INFO, 30, 30⟩
def Fld.WIR_ANN_INFO_LEGACY : Fld := ⟨Adr.WIR_ANN_INFO, 29, 29⟩
def Fld.WIR_ANN_INFO_GENS : Fld := ⟨Adr.WIR_ANN_INFO, 18, 16⟩
def Fld.WIR_ANN_INFO_STEP : Fld := ⟨Adr.WIR_ANN_INFO, 15, 8⟩
def Fld.WIR_ANN_INFO_ID : Fld := ⟨Adr.WIR_ANN_INFO, 7, 0⟩
/-- The address of WIR_ANN_UID_LO. -/
def Adr.WIR_ANN_UID_LO : Nat := 0x3888
def Fld.WIR_ANN_UID_LO_UID : Fld := ⟨Adr.WIR_ANN_UID_LO, 31, 0⟩
/-- The address of WIR_ANN_UID_HI. -/
def Adr.WIR_ANN_UID_HI : Nat := 0x388c
def Fld.WIR_ANN_UID_HI_UID : Fld := ⟨Adr.WIR_ANN_UID_HI, 31, 0⟩
/-- The address of WIR_PRESENT i. -/
def Adr.WIR_PRESENT (i : Nat) : Nat := 0x38a0 + 4 * i
def Fld.WIR_PRESENT_BITS (i : Nat) : Fld := ⟨Adr.WIR_PRESENT i, 31, 0⟩
/-- The address of WIR_CNT. -/
def Adr.WIR_CNT : Nat := 0x39c0
def Fld.WIR_CNT_COLL : Fld := ⟨Adr.WIR_CNT, 31, 24⟩
def Fld.WIR_CNT_RXERR : Fld := ⟨Adr.WIR_CNT, 23, 16⟩
def Fld.WIR_CNT_SHORT : Fld := ⟨Adr.WIR_CNT, 15, 8⟩
def Fld.WIR_CNT_OVERCUR : Fld := ⟨Adr.WIR_CNT, 7, 0⟩
/-- The address of WIR_CNT2. -/
def Adr.WIR_CNT2 : Nat := 0x39c4
def Fld.WIR_CNT2_ECDIV : Fld := ⟨Adr.WIR_CNT2, 15, 8⟩
def Fld.WIR_CNT2_DARK : Fld := ⟨Adr.WIR_CNT2, 7, 0⟩
/-- The address of RAD_STATE. -/
def Adr.RAD_STATE : Nat := 0x3c30
def Fld.RAD_STATE_PA : Fld := ⟨Adr.RAD_STATE, 20, 16⟩
def Fld.RAD_STATE_BADFREQ : Fld := ⟨Adr.RAD_STATE, 11, 11⟩
def Fld.RAD_STATE_NOCAL : Fld := ⟨Adr.RAD_STATE, 10, 10⟩
def Fld.RAD_STATE_LOCK : Fld := ⟨Adr.RAD_STATE, 9, 9⟩
def Fld.RAD_STATE_STATE : Fld := ⟨Adr.RAD_STATE, 2, 0⟩
/-- The address of RAD_CAL_STAT. -/
def Adr.RAD_CAL_STAT : Nat := 0x3c34
def Fld.RAD_CAL_STAT_TCAL : Fld := ⟨Adr.RAD_CAL_STAT, 31, 16⟩
def Fld.RAD_CAL_STAT_VALID : Fld := ⟨Adr.RAD_CAL_STAT, 15, 15⟩
def Fld.RAD_CAL_STAT_TRIPPED : Fld := ⟨Adr.RAD_CAL_STAT, 14, 14⟩
/-- The address of RAD_CAL_FREQ. -/
def Adr.RAD_CAL_FREQ : Nat := 0x3c38
def Fld.RAD_CAL_FREQ_N : Fld := ⟨Adr.RAD_CAL_FREQ, 25, 0⟩
/-- The address of RAD_TXSTAT. -/
def Adr.RAD_TXSTAT : Nat := 0x3c3c
def Fld.RAD_TXSTAT_CAUSE : Fld := ⟨Adr.RAD_TXSTAT, 31, 28⟩
def Fld.RAD_TXSTAT_END : Fld := ⟨Adr.RAD_TXSTAT, 26, 24⟩
def Fld.RAD_TXSTAT_SENT : Fld := ⟨Adr.RAD_TXSTAT, 15, 0⟩
/-- The address of RAD_FREQ. -/
def Adr.RAD_FREQ : Nat := 0x3c40
def Fld.RAD_FREQ_N : Fld := ⟨Adr.RAD_FREQ, 25, 0⟩
/-- The address of RAD_CHAN. -/
def Adr.RAD_CHAN : Nat := 0x3c44
def Fld.RAD_CHAN_SPACE : Fld := ⟨Adr.RAD_CHAN, 15, 0⟩
/-- The address of RAD_CFG. -/
def Adr.RAD_CFG : Nat := 0x3c48
def Fld.RAD_CFG_STATEEVT : Fld := ⟨Adr.RAD_CFG, 0, 0⟩
/-- The address of RAD_PASTEP. -/
def Adr.RAD_PASTEP : Nat := 0x3c4c
def Fld.RAD_PASTEP_DEF : Fld := ⟨Adr.RAD_PASTEP, 12, 8⟩
def Fld.RAD_PASTEP_STEP : Fld := ⟨Adr.RAD_PASTEP, 2, 0⟩
/-- The address of RAD_EXTPA_LEAD. -/
def Adr.RAD_EXTPA_LEAD : Nat := 0x3c50
def Fld.RAD_EXTPA_LEAD_LEAD : Fld := ⟨Adr.RAD_EXTPA_LEAD, 4, 0⟩
/-- The address of RAD_EXTPA_LAG. -/
def Adr.RAD_EXTPA_LAG : Nat := 0x3c54
def Fld.RAD_EXTPA_LAG_LAG : Fld := ⟨Adr.RAD_EXTPA_LAG, 4, 0⟩
/-- The address of RAD_EXTPA_CFG. -/
def Adr.RAD_EXTPA_CFG : Nat := 0x3c58
def Fld.RAD_EXTPA_CFG_ANTPOL : Fld := ⟨Adr.RAD_EXTPA_CFG, 3, 3⟩
def Fld.RAD_EXTPA_CFG_ANTEN : Fld := ⟨Adr.RAD_EXTPA_CFG, 2, 2⟩
def Fld.RAD_EXTPA_CFG_LNAEN : Fld := ⟨Adr.RAD_EXTPA_CFG, 1, 1⟩
def Fld.RAD_EXTPA_CFG_PAEN : Fld := ⟨Adr.RAD_EXTPA_CFG, 0, 0⟩
/-- The address of RAD_TXTO. -/
def Adr.RAD_TXTO : Nat := 0x3c5c
def Fld.RAD_TXTO_TO : Fld := ⟨Adr.RAD_TXTO, 9, 0⟩
/-- The address of RAD_CAL_DT. -/
def Adr.RAD_CAL_DT : Nat := 0x3c60
def Fld.RAD_CAL_DT_DWELL : Fld := ⟨Adr.RAD_CAL_DT, 28, 24⟩
def Fld.RAD_CAL_DT_HYST : Fld := ⟨Adr.RAD_CAL_DT, 21, 16⟩
def Fld.RAD_CAL_DT_LVL : Fld := ⟨Adr.RAD_CAL_DT, 7, 0⟩
/-- The address of RAD_ACKCFG. -/
def Adr.RAD_ACKCFG : Nat := 0x3c64
def Fld.RAD_ACKCFG_WAIT : Fld := ⟨Adr.RAD_ACKCFG, 11, 8⟩
def Fld.RAD_ACKCFG_GAP : Fld := ⟨Adr.RAD_ACKCFG, 3, 0⟩
/-- The address of RAD_LBT. -/
def Adr.RAD_LBT : Nat := 0x3c68
def Fld.RAD_LBT_TRIES : Fld := ⟨Adr.RAD_LBT, 19, 16⟩
def Fld.RAD_LBT_RAND : Fld := ⟨Adr.RAD_LBT, 15, 8⟩
def Fld.RAD_LBT_MIN : Fld := ⟨Adr.RAD_LBT, 7, 0⟩
/-- The address of RAD_DUTY_CFG. -/
def Adr.RAD_DUTY_CFG : Nat := 0x3c6c
def Fld.RAD_DUTY_CFG_SPAN : Fld := ⟨Adr.RAD_DUTY_CFG, 21, 16⟩
def Fld.RAD_DUTY_CFG_LIMIT : Fld := ⟨Adr.RAD_DUTY_CFG, 13, 0⟩
/-- The address of RAD_PATAB i. -/
def Adr.RAD_PATAB (i : Nat) : Nat := 0x3c80 + 4 * i
def Fld.RAD_PATAB_CAS (i : Nat) : Fld := ⟨Adr.RAD_PATAB i, 29, 24⟩
def Fld.RAD_PATAB_DRV (i : Nat) : Fld := ⟨Adr.RAD_PATAB i, 21, 16⟩
def Fld.RAD_PATAB_HP (i : Nat) : Fld := ⟨Adr.RAD_PATAB i, 8, 8⟩
def Fld.RAD_PATAB_DBM (i : Nat) : Fld := ⟨Adr.RAD_PATAB i, 7, 0⟩
/-- The address of RAD_CMD. -/
def Adr.RAD_CMD : Nat := 0x3d00
def Fld.RAD_CMD_CCA : Fld := ⟨Adr.RAD_CMD, 2, 2⟩
def Fld.RAD_CMD_SLEEP : Fld := ⟨Adr.RAD_CMD, 1, 1⟩
def Fld.RAD_CMD_PAOFF : Fld := ⟨Adr.RAD_CMD, 0, 0⟩
/-- The address of RAD_CCA_STAT. -/
def Adr.RAD_CCA_STAT : Nat := 0x3dc0
def Fld.RAD_CCA_STAT_VALID : Fld := ⟨Adr.RAD_CCA_STAT, 31, 31⟩
def Fld.RAD_CCA_STAT_BUSY : Fld := ⟨Adr.RAD_CCA_STAT, 30, 30⟩
def Fld.RAD_CCA_STAT_RSSI : Fld := ⟨Adr.RAD_CCA_STAT, 7, 0⟩
/-- The address of RAD_DUTY_USED. -/
def Adr.RAD_DUTY_USED : Nat := 0x3dc4
def Fld.RAD_DUTY_USED_USED : Fld := ⟨Adr.RAD_DUTY_USED, 31, 0⟩
/-- The address of RAD_CNT. -/
def Adr.RAD_CNT : Nat := 0x3dc8
def Fld.RAD_CNT_TXABORT : Fld := ⟨Adr.RAD_CNT, 31, 24⟩
def Fld.RAD_CNT_TIMEOUT : Fld := ⟨Adr.RAD_CNT, 23, 16⟩
def Fld.RAD_CNT_CCABUSY : Fld := ⟨Adr.RAD_CNT, 15, 8⟩
def Fld.RAD_CNT_LOCKLOST : Fld := ⟨Adr.RAD_CNT, 7, 0⟩
/-- The address of RDM_STAT. -/
def Adr.RDM_STAT : Nat := 0x4030
def Fld.RDM_STAT_CAPT : Fld := ⟨Adr.RDM_STAT, 9, 9⟩
def Fld.RDM_STAT_SEARCH : Fld := ⟨Adr.RDM_STAT, 8, 8⟩
def Fld.RDM_STAT_SYNCED : Fld := ⟨Adr.RDM_STAT, 7, 0⟩
/-- The address of RDM_RSSI. -/
def Adr.RDM_RSSI : Nat := 0x4034
def Fld.RDM_RSSI_NOW : Fld := ⟨Adr.RDM_RSSI, 15, 8⟩
def Fld.RDM_RSSI_FRAME : Fld := ⟨Adr.RDM_RSSI, 7, 0⟩
/-- The address of RDM_AFC. -/
def Adr.RDM_AFC : Nat := 0x4038
def Fld.RDM_AFC_OFS : Fld := ⟨Adr.RDM_AFC, 15, 0⟩
/-- The address of RDM_RXINFO. -/
def Adr.RDM_RXINFO : Nat := 0x403c
def Fld.RDM_RXINFO_KIND : Fld := ⟨Adr.RDM_RXINFO, 29, 28⟩
def Fld.RDM_RXINFO_LANE : Fld := ⟨Adr.RDM_RXINFO, 26, 24⟩
def Fld.RDM_RXINFO_MODE : Fld := ⟨Adr.RDM_RXINFO, 19, 16⟩
def Fld.RDM_RXINFO_ERR : Fld := ⟨Adr.RDM_RXINFO, 10, 8⟩
/-- The address of RDM_LANE i. -/
def Adr.RDM_LANE (i : Nat) : Nat := 0x4040 + 4 * i
def Fld.RDM_LANE_EN (i : Nat) : Fld := ⟨Adr.RDM_LANE i, 31, 31⟩
def Fld.RDM_LANE_SYNCERR (i : Nat) : Fld := ⟨Adr.RDM_LANE i, 9, 8⟩
def Fld.RDM_LANE_MODE (i : Nat) : Fld := ⟨Adr.RDM_LANE i, 3, 0⟩
/-- The address of RDM_CFG. -/
def Adr.RDM_CFG : Nat := 0x4060
def Fld.RDM_CFG_PREEMPT : Fld := ⟨Adr.RDM_CFG, 31, 31⟩
def Fld.RDM_CFG_MANUAL : Fld := ⟨Adr.RDM_CFG, 16, 16⟩
def Fld.RDM_CFG_PREDB : Fld := ⟨Adr.RDM_CFG, 12, 8⟩
def Fld.RDM_CFG_AFCMAX : Fld := ⟨Adr.RDM_CFG, 7, 0⟩
/-- The address of RDM_CCA_THR. -/
def Adr.RDM_CCA_THR : Nat := 0x4064
def Fld.RDM_CCA_THR_THR : Fld := ⟨Adr.RDM_CCA_THR, 7, 0⟩
/-- The address of RDM_RSSI_CFG. -/
def Adr.RDM_RSSI_CFG : Nat := 0x4068
def Fld.RDM_RSSI_CFG_HI : Fld := ⟨Adr.RDM_RSSI_CFG, 23, 16⟩
def Fld.RDM_RSSI_CFG_LO : Fld := ⟨Adr.RDM_RSSI_CFG, 15, 8⟩
def Fld.RDM_RSSI_CFG_OFS : Fld := ⟨Adr.RDM_RSSI_CFG, 7, 0⟩
/-- The address of RDM_TXMODE. -/
def Adr.RDM_TXMODE : Nat := 0x406c
def Fld.RDM_TXMODE_BMODE : Fld := ⟨Adr.RDM_TXMODE, 11, 8⟩
def Fld.RDM_TXMODE_MODE : Fld := ⟨Adr.RDM_TXMODE, 3, 0⟩
/-- The address of RDM_BCN_CFG. -/
def Adr.RDM_BCN_CFG : Nat := 0x4070
def Fld.RDM_BCN_CFG_IVL : Fld := ⟨Adr.RDM_BCN_CFG, 31, 16⟩
def Fld.RDM_BCN_CFG_RXOFS : Fld := ⟨Adr.RDM_BCN_CFG, 15, 0⟩
/-- The address of RDM_HUB. -/
def Adr.RDM_HUB : Nat := 0x4074
def Fld.RDM_HUB_ANYHUB : Fld := ⟨Adr.RDM_HUB, 8, 8⟩
def Fld.RDM_HUB_HUBID : Fld := ⟨Adr.RDM_HUB, 7, 0⟩
/-- The address of RDM_CMD. -/
def Adr.RDM_CMD : Nat := 0x4080
def Fld.RDM_CMD_START : Fld := ⟨Adr.RDM_CMD, 2, 2⟩
def Fld.RDM_CMD_STOP : Fld := ⟨Adr.RDM_CMD, 1, 1⟩
def Fld.RDM_CMD_ANN : Fld := ⟨Adr.RDM_CMD, 0, 0⟩
/-- The address of RDM_BCN_STAT. -/
def Adr.RDM_BCN_STAT : Nat := 0x4090
def Fld.RDM_BCN_STAT_VALID : Fld := ⟨Adr.RDM_BCN_STAT, 31, 31⟩
def Fld.RDM_BCN_STAT_TVALID : Fld := ⟨Adr.RDM_BCN_STAT, 30, 30⟩
def Fld.RDM_BCN_STAT_SRC : Fld := ⟨Adr.RDM_BCN_STAT, 23, 16⟩
def Fld.RDM_BCN_STAT_BNO : Fld := ⟨Adr.RDM_BCN_STAT, 15, 0⟩
/-- The address of RDM_BCN_TMARK. -/
def Adr.RDM_BCN_TMARK : Nat := 0x4094
def Fld.RDM_BCN_TMARK_TIME : Fld := ⟨Adr.RDM_BCN_TMARK, 31, 0⟩
/-- The address of RDM_BCN_RX. -/
def Adr.RDM_BCN_RX : Nat := 0x4098
def Fld.RDM_BCN_RX_IVL : Fld := ⟨Adr.RDM_BCN_RX, 31, 16⟩
def Fld.RDM_BCN_RX_RXOFS : Fld := ⟨Adr.RDM_BCN_RX, 15, 0⟩
/-- The address of RDM_ANN_INFO. -/
def Adr.RDM_ANN_INFO : Nat := 0x40a0
def Fld.RDM_ANN_INFO_VALID : Fld := ⟨Adr.RDM_ANN_INFO, 31, 31⟩
def Fld.RDM_ANN_INFO_REPEAT : Fld := ⟨Adr.RDM_ANN_INFO, 30, 30⟩
def Fld.RDM_ANN_INFO_LEGACY : Fld := ⟨Adr.RDM_ANN_INFO, 29, 29⟩
def Fld.RDM_ANN_INFO_GENS : Fld := ⟨Adr.RDM_ANN_INFO, 18, 16⟩
def Fld.RDM_ANN_INFO_STEP : Fld := ⟨Adr.RDM_ANN_INFO, 15, 8⟩
def Fld.RDM_ANN_INFO_ID : Fld := ⟨Adr.RDM_ANN_INFO, 7, 0⟩
/-- The address of RDM_ANN_UID_LO. -/
def Adr.RDM_ANN_UID_LO : Nat := 0x40a4
def Fld.RDM_ANN_UID_LO_UID : Fld := ⟨Adr.RDM_ANN_UID_LO, 31, 0⟩
/-- The address of RDM_ANN_UID_HI. -/
def Adr.RDM_ANN_UID_HI : Nat := 0x40a8
def Fld.RDM_ANN_UID_HI_UID : Fld := ⟨Adr.RDM_ANN_UID_HI, 31, 0⟩
/-- The address of RDM_CNT. -/
def Adr.RDM_CNT : Nat := 0x41c0
def Fld.RDM_CNT_PREEMPT : Fld := ⟨Adr.RDM_CNT, 31, 24⟩
def Fld.RDM_CNT_LANEOVR : Fld := ⟨Adr.RDM_CNT, 23, 16⟩
def Fld.RDM_CNT_RXERR : Fld := ⟨Adr.RDM_CNT, 15, 8⟩
def Fld.RDM_CNT_SRCHTO : Fld := ⟨Adr.RDM_CNT, 7, 0⟩
/-- The address of GPI_LEVEL. -/
def Adr.GPI_LEVEL : Nat := 0x4430
def Fld.GPI_LEVEL_RAW : Fld := ⟨Adr.GPI_LEVEL, 27, 16⟩
def Fld.GPI_LEVEL_DEB : Fld := ⟨Adr.GPI_LEVEL, 11, 0⟩
/-- The address of GPI_KNOBCNT. -/
def Adr.GPI_KNOBCNT : Nat := 0x4434
def Fld.GPI_KNOBCNT_SUB : Fld := ⟨Adr.GPI_KNOBCNT, 27, 24⟩
def Fld.GPI_KNOBCNT_LASTDIR : Fld := ⟨Adr.GPI_KNOBCNT, 23, 23⟩
def Fld.GPI_KNOBCNT_ERR : Fld := ⟨Adr.GPI_KNOBCNT, 22, 16⟩
def Fld.GPI_KNOBCNT_COUNT : Fld := ⟨Adr.GPI_KNOBCNT, 15, 0⟩
/-- The address of GPI_EVPIN. -/
def Adr.GPI_EVPIN : Nat := 0x4438
def Fld.GPI_EVPIN_RPT : Fld := ⟨Adr.GPI_EVPIN, 27, 16⟩
def Fld.GPI_EVPIN_LONG : Fld := ⟨Adr.GPI_EVPIN, 11, 0⟩
/-- The address of GPI_PLUGCHG. -/
def Adr.GPI_PLUGCHG : Nat := 0x443c
def Fld.GPI_PLUGCHG_NOPULSE : Fld := ⟨Adr.GPI_PLUGCHG, 16, 16⟩
def Fld.GPI_PLUGCHG_CHG : Fld := ⟨Adr.GPI_PLUGCHG, 11, 0⟩
/-- The address of GPI_CFG i. -/
def Adr.GPI_CFG (i : Nat) : Nat := 0x4440 + 4 * i
def Fld.GPI_CFG_PW (i : Nat) : Fld := ⟨Adr.GPI_CFG i, 31, 24⟩
def Fld.GPI_CFG_UNIT (i : Nat) : Fld := ⟨Adr.GPI_CFG i, 23, 23⟩
def Fld.GPI_CFG_MODE (i : Nat) : Fld := ⟨Adr.GPI_CFG i, 18, 16⟩
def Fld.GPI_CFG_PULL (i : Nat) : Fld := ⟨Adr.GPI_CFG i, 13, 12⟩
def Fld.GPI_CFG_POL (i : Nat) : Fld := ⟨Adr.GPI_CFG i, 11, 11⟩
def Fld.GPI_CFG_EDGE (i : Nat) : Fld := ⟨Adr.GPI_CFG i, 10, 9⟩
def Fld.GPI_CFG_LONGEN (i : Nat) : Fld := ⟨Adr.GPI_CFG i, 8, 8⟩
def Fld.GPI_CFG_RPTEN (i : Nat) : Fld := ⟨Adr.GPI_CFG i, 7, 7⟩
def Fld.GPI_CFG_DRV (i : Nat) : Fld := ⟨Adr.GPI_CFG i, 6, 6⟩
/-- The address of GPI_DEB. -/
def Adr.GPI_DEB : Nat := 0x4470
def Fld.GPI_DEB_PLUG : Fld := ⟨Adr.GPI_DEB, 13, 8⟩
def Fld.GPI_DEB_BTN : Fld := ⟨Adr.GPI_DEB, 5, 0⟩
/-- The address of GPI_KNOB. -/
def Adr.GPI_KNOB : Nat := 0x4474
def Fld.GPI_KNOB_EN : Fld := ⟨Adr.GPI_KNOB, 31, 31⟩
def Fld.GPI_KNOB_X4 : Fld := ⟨Adr.GPI_KNOB, 16, 16⟩
def Fld.GPI_KNOB_DIR : Fld := ⟨Adr.GPI_KNOB, 12, 12⟩
def Fld.GPI_KNOB_DETENT : Fld := ⟨Adr.GPI_KNOB, 8, 8⟩
def Fld.GPI_KNOB_FILT : Fld := ⟨Adr.GPI_KNOB, 3, 0⟩
/-- The address of GPI_LONG. -/
def Adr.GPI_LONG : Nat := 0x4478
def Fld.GPI_LONG_LONG : Fld := ⟨Adr.GPI_LONG, 31, 24⟩
def Fld.GPI_LONG_RDLY : Fld := ⟨Adr.GPI_LONG, 15, 8⟩
def Fld.GPI_LONG_RIVL : Fld := ⟨Adr.GPI_LONG, 7, 0⟩
/-- The address of GPI_OUT. -/
def Adr.GPI_OUT : Nat := 0x4480
def Fld.GPI_OUT_ACT : Fld := ⟨Adr.GPI_OUT, 11, 0⟩
/-- The address of GPI_CMD. -/
def Adr.GPI_CMD : Nat := 0x4484
def Fld.GPI_CMD_KNOBCLR : Fld := ⟨Adr.GPI_CMD, 16, 16⟩
def Fld.GPI_CMD_PULSE : Fld := ⟨Adr.GPI_CMD, 11, 0⟩
/-- The address of LE_STAT. -/
def Adr.LE_STAT (n : Nat) : Nat := 0x6000 + 0x400 * n + 0x030
def Fld.LE_STAT_BSEQ (n : Nat) : Fld := ⟨Adr.LE_STAT n, 15, 8⟩
def Fld.LE_STAT_LEGACY (n : Nat) : Fld := ⟨Adr.LE_STAT n, 5, 5⟩
def Fld.LE_STAT_FWDBAD (n : Nat) : Fld := ⟨Adr.LE_STAT n, 4, 4⟩
def Fld.LE_STAT_FWDACT (n : Nat) : Fld := ⟨Adr.LE_STAT n, 3, 3⟩
def Fld.LE_STAT_DUPBIND (n : Nat) : Fld := ⟨Adr.LE_STAT n, 2, 2⟩
def Fld.LE_STAT_HELD (n : Nat) : Fld := ⟨Adr.LE_STAT n, 1, 1⟩
/-- The address of LE_TXN_STAT. -/
def Adr.LE_TXN_STAT (n : Nat) : Nat := 0x6000 + 0x400 * n + 0x034
def Fld.LE_TXN_STAT_TRIES0 (n : Nat) : Fld := ⟨Adr.LE_TXN_STAT n, 7, 4⟩
def Fld.LE_TXN_STAT_STATE0 (n : Nat) : Fld := ⟨Adr.LE_TXN_STAT n, 3, 0⟩
def Fld.LE_TXN_STAT_TRIES1 (n : Nat) : Fld := ⟨Adr.LE_TXN_STAT n, 15, 12⟩
def Fld.LE_TXN_STAT_STATE1 (n : Nat) : Fld := ⟨Adr.LE_TXN_STAT n, 11, 8⟩
def Fld.LE_TXN_STAT_TRIES2 (n : Nat) : Fld := ⟨Adr.LE_TXN_STAT n, 23, 20⟩
def Fld.LE_TXN_STAT_STATE2 (n : Nat) : Fld := ⟨Adr.LE_TXN_STAT n, 19, 16⟩
def Fld.LE_TXN_STAT_TRIES3 (n : Nat) : Fld := ⟨Adr.LE_TXN_STAT n, 31, 28⟩
def Fld.LE_TXN_STAT_STATE3 (n : Nat) : Fld := ⟨Adr.LE_TXN_STAT n, 27, 24⟩
/-- The address of LE_TXN_PEER. -/
def Adr.LE_TXN_PEER (n : Nat) : Nat := 0x6000 + 0x400 * n + 0x038
def Fld.LE_TXN_PEER_DST0 (n : Nat) : Fld := ⟨Adr.LE_TXN_PEER n, 7, 0⟩
def Fld.LE_TXN_PEER_DST1 (n : Nat) : Fld := ⟨Adr.LE_TXN_PEER n, 15, 8⟩
def Fld.LE_TXN_PEER_DST2 (n : Nat) : Fld := ⟨Adr.LE_TXN_PEER n, 23, 16⟩
def Fld.LE_TXN_PEER_DST3 (n : Nat) : Fld := ⟨Adr.LE_TXN_PEER n, 31, 24⟩
/-- The address of LE_CREDSTAT. -/
def Adr.LE_CREDSTAT (n : Nat) : Nat := 0x6000 + 0x400 * n + 0x03c
def Fld.LE_CREDSTAT_RXCUR (n : Nat) : Fld := ⟨Adr.LE_CREDSTAT n, 22, 16⟩
def Fld.LE_CREDSTAT_TXCUR (n : Nat) : Fld := ⟨Adr.LE_CREDSTAT n, 6, 0⟩
/-- The address of LE_BIND. -/
def Adr.LE_BIND (n : Nat) : Nat := 0x6000 + 0x400 * n + 0x040
def Fld.LE_BIND_GEN (n : Nat) : Fld := ⟨Adr.LE_BIND n, 6, 4⟩
def Fld.LE_BIND_PHY (n : Nat) : Fld := ⟨Adr.LE_BIND n, 1, 0⟩
/-- The address of LE_TXCRED. -/
def Adr.LE_TXCRED (n : Nat) : Nat := 0x6000 + 0x400 * n + 0x044
def Fld.LE_TXCRED_LOW (n : Nat) : Fld := ⟨Adr.LE_TXCRED n, 22, 16⟩
def Fld.LE_TXCRED_INIT (n : Nat) : Fld := ⟨Adr.LE_TXCRED n, 6, 0⟩
/-- The address of LE_RXCRED. -/
def Adr.LE_RXCRED (n : Nat) : Nat := 0x6000 + 0x400 * n + 0x048
def Fld.LE_RXCRED_LOW (n : Nat) : Fld := ⟨Adr.LE_RXCRED n, 22, 16⟩
def Fld.LE_RXCRED_INIT (n : Nat) : Fld := ⟨Adr.LE_RXCRED n, 6, 0⟩
/-- The address of LE_RETRY_MAX. -/
def Adr.LE_RETRY_MAX (n : Nat) : Nat := 0x6000 + 0x400 * n + 0x04c
def Fld.LE_RETRY_MAX_JITTER (n : Nat) : Fld := ⟨Adr.LE_RETRY_MAX n, 15, 8⟩
def Fld.LE_RETRY_MAX_MAX (n : Nat) : Fld := ⟨Adr.LE_RETRY_MAX n, 2, 0⟩
/-- The address of LE_ACKTO. -/
def Adr.LE_ACKTO (n : Nat) : Nat := 0x6000 + 0x400 * n + 0x050
def Fld.LE_ACKTO_TO (n : Nat) : Fld := ⟨Adr.LE_ACKTO n, 11, 0⟩
/-- The address of LE_FWD. -/
def Adr.LE_FWD (n : Nat) : Nat := 0x6000 + 0x400 * n + 0x054
def Fld.LE_FWD_EN (n : Nat) : Fld := ⟨Adr.LE_FWD n, 31, 31⟩
def Fld.LE_FWD_BCAST (n : Nat) : Fld := ⟨Adr.LE_FWD n, 8, 8⟩
def Fld.LE_FWD_PARTNER (n : Nat) : Fld := ⟨Adr.LE_FWD n, 2, 0⟩
/-- The address of LE_CFG. -/
def Adr.LE_CFG (n : Nat) : Nat := 0x6000 + 0x400 * n + 0x058
def Fld.LE_CFG_BKEY (n : Nat) : Fld := ⟨Adr.LE_CFG n, 28, 24⟩
def Fld.LE_CFG_HOPS (n : Nat) : Fld := ⟨Adr.LE_CFG n, 18, 16⟩
def Fld.LE_CFG_STRANGER (n : Nat) : Fld := ⟨Adr.LE_CFG n, 8, 8⟩
def Fld.LE_CFG_PERPEER (n : Nat) : Fld := ⟨Adr.LE_CFG n, 2, 0⟩
/-- The address of LE_EPOCH. -/
def Adr.LE_EPOCH (n : Nat) : Nat := 0x6000 + 0x400 * n + 0x05c
def Fld.LE_EPOCH_EPOCH (n : Nat) : Fld := ⟨Adr.LE_EPOCH n, 7, 0⟩
/-- The address of LE_FAILINFO. -/
def Adr.LE_FAILINFO (n : Nat) : Nat := 0x6000 + 0x400 * n + 0x080
def Fld.LE_FAILINFO_VALID (n : Nat) : Fld := ⟨Adr.LE_FAILINFO n, 31, 31⟩
def Fld.LE_FAILINFO_CAUSE (n : Nat) : Fld := ⟨Adr.LE_FAILINFO n, 29, 24⟩
def Fld.LE_FAILINFO_DST (n : Nat) : Fld := ⟨Adr.LE_FAILINFO n, 23, 16⟩
def Fld.LE_FAILINFO_TAG (n : Nat) : Fld := ⟨Adr.LE_FAILINFO n, 15, 8⟩
def Fld.LE_FAILINFO_COUNT (n : Nat) : Fld := ⟨Adr.LE_FAILINFO n, 7, 0⟩
/-- The address of LE_DUPRX. -/
def Adr.LE_DUPRX (n : Nat) : Nat := 0x6000 + 0x400 * n + 0x1c0
def Fld.LE_DUPRX_DUP (n : Nat) : Fld := ⟨Adr.LE_DUPRX n, 15, 0⟩
/-- The address of LE_CNT. -/
def Adr.LE_CNT (n : Nat) : Nat := 0x6000 + 0x400 * n + 0x1c4
def Fld.LE_CNT_STALE (n : Nat) : Fld := ⟨Adr.LE_CNT n, 31, 24⟩
def Fld.LE_CNT_UNKNOWN (n : Nat) : Fld := ⟨Adr.LE_CNT n, 23, 16⟩
def Fld.LE_CNT_OLD (n : Nat) : Fld := ⟨Adr.LE_CNT n, 15, 8⟩
def Fld.LE_CNT_STRAYACK (n : Nat) : Fld := ⟨Adr.LE_CNT n, 7, 0⟩
/-- The address of LE_TXCNT. -/
def Adr.LE_TXCNT (n : Nat) : Nat := 0x6000 + 0x400 * n + 0x1c8
def Fld.LE_TXCNT_DONE (n : Nat) : Fld := ⟨Adr.LE_TXCNT n, 31, 16⟩
def Fld.LE_TXCNT_RETRY (n : Nat) : Fld := ⟨Adr.LE_TXCNT n, 15, 0⟩
/-- The address of LE_FWDCNT. -/
def Adr.LE_FWDCNT (n : Nat) : Nat := 0x6000 + 0x400 * n + 0x1cc
def Fld.LE_FWDCNT_FWD (n : Nat) : Fld := ⟨Adr.LE_FWDCNT n, 31, 16⟩
def Fld.LE_FWDCNT_DROP (n : Nat) : Fld := ⟨Adr.LE_FWDCNT n, 15, 0⟩

end Sys2Proof.Machine
end

