-- ==== Sys2Proof/Machine/RegFile.lean ====
section
/-! DEFINITION. The register file and the memory of the part as sparse lists in one canonical form, and what an unlisted
register word reads as: its reset value. -/

namespace Sys2Proof.Machine

/-! ### The register file -/

/-- The register rows of a page with its header. -/
def pageAll (p : Nat) : List RegRow := rowsHeader ++ pageRows p

/-- The row of a page that holds an offset, twins not included. -/
def findRow (rows : List RegRow) (off : Nat) : Option RegRow :=
  rows.find? fun r => decide (r.off ≤ off) && decide (off < r.off + r.n * r.stride) && (off - r.off) % r.stride == 0

/-- The row of a register address or, for a staged register, of its twin's address (R71). -/
def rowAt (a : Nat) : Option RegRow :=
  let rows := pageAll (a / 0x400)
  let off := a % 0x400
  match findRow rows off with
  | some r => some r
  | none =>
    if 0x200 ≤ off then
      match findRow rows (off - 0x200) with
      | some r => if r.rs = 0 then none else some r
      | none => none
    else none

/-- Pages whose PG_CTRL.EN resets to 1 (R88 and the blocks' chapters). -/
def enReset (p : Nat) : Bool := p ≤ 3 || (6 ≤ p && p ≤ 10)

/-- A word's value at reset: the register map's, the values that OTP supplies (R95, R253, R417), the page number of
PG_ID and the enables. -/
def resetWord (a : Nat) : Word :=
  let off := a % 0x400
  let p := a / 0x400
  if a = Adr.SYS_UID_LO then BitVec.setWidth 32 Config.uid
  else if a = Adr.SYS_UID_HI then BitVec.setWidth 32 (Config.uid >>> 32)
  else if a = Adr.CLK_LFRC_CAL then BitVec.setWidth 32 Config.lfrcTrim <<< Fld.CLK_LFRC_CAL_TRIM.lo
  else if a = Adr.CLK_HFRC_STAT then BitVec.setWidth 32 Config.hfrcTrim <<< Fld.CLK_HFRC_STAT_TRIM.lo
  else if off = 0 then BitVec.ofNat 32 (0x210000 + p)
  else if off = 8 then BitVec.ofNat 32 (enReset p).toNat
  else match rowAt a with
    | none => 0
    | some r =>
      let w : Word := BitVec.ofNat 32 r.reset
      if p = 15 ∧ 0x80 ≤ off % 0x200 ∧ off % 0x200 < 0x100 then
        w ||| (Config.paTrim ((off % 0x200 - 0x80) / 4) &&& 0x3F3F0100)
      else w

/-- The register file: the words that differ from their reset value, addresses rising. -/
abbrev RegFile := List (Nat × Word)

/-- The word at a register or twin address. -/
def RegFile.get (r : RegFile) (a : Nat) : Word :=
  match r.find? fun e => e.1 == a with
  | some e => e.2
  | none => resetWord a

/-- A word put into a sorted sparse list whose unlisted entries read `d`. -/
def sparseSet {α : Type} [DecidableEq α] (d : α) (a : Nat) (v : α) : List (Nat × α) → List (Nat × α)
  | [] => if v = d then [] else [(a, v)]
  | (b, w) :: r =>
    if a < b then (if v = d then (b, w) :: r else (a, v) :: (b, w) :: r)
    else if a = b then (if v = d then r else (a, v) :: r)
    else (b, w) :: sparseSet d a v r

/-- A word stored at a register or twin address. -/
def RegFile.set (r : RegFile) (a : Nat) (w : Word) : RegFile := sparseSet (resetWord a) a w r

/-! ### The packet store and the peer table (R37, R316) -/

/-- The bytes of 0x8000 to 0xDFFF (packet store) and 0xE000 to 0xEFFF (peer table) that are not 0, addresses rising.
An unlisted byte reads 0 (R38: every cell is cleared; R316: all words reset to 0). -/
abbrev Memory := List Host.Cell

/-- The byte at an address. -/
def Memory.read (m : Memory) (a : Nat) : Byte :=
  match m.find? fun e => e.1 == a with
  | some e => e.2
  | none => 0

/-- A byte stored, the canonical form kept. -/
def Memory.write (m : Memory) (a : Nat) (b : Byte) : Memory := sparseSet 0 a b m

/-- Whether a sparse list is in canonical form: addresses strictly rising, no entry equal to its default. -/
def sparseWf {α : Type} [DecidableEq α] (d : Nat → α) : List (Nat × α) → Bool
  | [] => true
  | [e] => e.2 != d e.1
  | e :: f :: r => e.2 != d e.1 && decide (e.1 < f.1) && sparseWf d (f :: r)

/-- The memory's canonical form. -/
def Memory.wf (m : Memory) : Bool := sparseWf (fun _ => (0 : Byte)) m

/-- The register file's canonical form. -/
def RegFile.wf (r : RegFile) : Bool := sparseWf resetWord r

end Sys2Proof.Machine
end

