-- ==== Sys2Proof/Machine/State.lean ====
section
/-! DEFINITION. The state of the part: the register file, the packet store, and the working state of each block beside
its registers. Plain data; `State.reset` is the part at the release of a power-on reset. -/

namespace Sys2Proof.Machine

/-! ### Why a command stops -/

/-- Reasons for a fault. No command of this part faults: every command answers a next state. -/
inductive Fault where
  /-- Raised by no command; the part has no machine fault. Safe. -/
  | none
  deriving DecidableEq, Repr

/-- Reasons for a refusal. -/
inductive Refusal where
  /-- Raised by an arm of `exec` for a command that has no meaning yet. Safe: nothing can be proved of such a run. -/
  | notModelled (mnemonic : String)
  deriving DecidableEq, Repr

/-! ### Crossings and queues (R39 to R52, R300 to R304) -/

/-- An item on a crossing or a queue. -/
structure Item where
  /-- The item's number, unlike every other item's of this run. -/
  id    : Nat
  /-- Credits that the item takes (R39). -/
  cost  : Nat
  /-- Its cells of the packet store. -/
  cells : List Nat
  /-- The words of a queue item (R47, R300, R301, R472, R473). An item of soft bits holds one word, 1 in the frame's last
  item (R428); a decoded codeword holds its iterations and its success (R347). -/
  words : List Word
  /-- The soft bits of an item from a receiver or of a codeword (R346); the bits, 0 or 1, of a codeword that has been
  decoded or encoded. -/
  llrs  : List Int
  /-- The frame that it belongs to, 0 for none. -/
  frame : Nat
  /-- The bytes of the received frame that the item came from, as received, for the drop queue (R47). -/
  raw   : List Byte := []
  deriving DecidableEq, Repr

/-- One crossing or queue: 0 to 12 as in R41, 15 the drop queue, 16 + 2n and 17 + 2n the queues of LEn (R58). -/
structure Xing where
  /-- Queued at the producer, not handed across. -/
  waiting : List Item
  /-- Handed across, not acknowledged (R40). In a receive queue of a link engine: not yet popped. -/
  unacked : List Item
  /-- Owned by the consumer (R40, R585). -/
  owned   : List Item
  /-- Epochs of the fabric side and of the far side (R48, R65). -/
  lepoch  : Nat
  repoch  : Nat
  /-- QMX_XSTATn.LOST. -/
  lost    : Nat
  /-- A token of the fabric side, of the far side, that the other side has not seen (R49). -/
  tokL    : Bool
  tokR    : Bool
  /-- A token in answer, to the fabric side, to the far side. -/
  repL    : Bool
  repR    : Bool
  /-- The fabric side, the far side, accepts no item until its answer has come. -/
  waitL   : Bool
  waitR   : Bool
  /-- Items that the fabric side, the far side, discarded and that are not counted yet (R49). -/
  goneL   : Nat
  goneR   : Nat
  /-- Credits of items that a side has discarded and that the producer has not reloaded yet (R49). -/
  debt    : Nat
  /-- The consumer's acknowledgement stays out: what is handed across stays unacknowledged (R40, R53). -/
  slow    : Bool
  /-- QMX_CRED_LOW may be raised (R45). -/
  lowArmed : Bool
  /-- The count has been 0 (R56: QMX_HOSTQ_SPACE). -/
  empty    : Bool
  deriving DecidableEq, Repr

/-- A crossing at reset. -/
def Xing.reset : Xing :=
  { waiting := [], unacked := [], owned := [], lepoch := 0, repoch := 0, lost := 0, tokL := false, tokR := false,
    repL := false, repR := false, waitL := false, waitR := false, goneL := 0, goneR := 0, debt := 0, slow := false, lowArmed := true,
    empty := false }

/-! ### Commits (R70 to R81) -/

/-- The outstanding group and the timers of the commits under way. -/
structure Commit where
  /-- The group runs in DRAIN mode (R79, R80). -/
  drain    : Bool
  /-- Members of the outstanding group, and of these the ones not yet applied. -/
  members  : List Nat
  open_    : List Nat
  /-- Members re-issued alone by their own PG_COMMIT.GO (R589). -/
  alone    : List Nat
  /-- Members of a DRAIN issue that have reached their safe point and hold there (R80), and the calendar-island cycle
  of the issue. -/
  reached  : List Nat
  issued   : Nat
  /-- SYS_CMT_PARTIAL has been raised for the outstanding group. -/
  partialRaised : Bool
  deriving DecidableEq, Repr

/-- No commit under way. -/
def Commit.reset : Commit := { drain := false, members := [], open_ := [], alone := [], reached := [], issued := 0, partialRaised := false }

/-! ### Supplies, Damper and the Hearth bank (R142 to R173, R590) -/

/-- Where the part stands between reset and running (R148, R149, R157, R553). -/
inductive Phase where
  /-- Held in reset, or waiting for the supply or RESET_N; Kindling has not run. -/
  | inReset
  /-- Kindling held at its CLK step until VDD_IO is up (R553). -/
  | waitIo
  /-- Held in reset after the third failed self-check; only POR or RESET_N starts Kindling again (R149). -/
  | held
  /-- In reset for over-temperature until the comparator reads below 115 °C (R181). -/
  | hot
  /-- Running, the fabric at its IDLE level. -/
  | up
  /-- In Ember (R145). -/
  | ember
  /-- Out of Ember, the fabric not yet at its IDLE level (R146). -/
  | waking
  deriving DecidableEq, Repr

/-- The supply block's working state beside its registers. -/
structure Power where
  phase     : Phase
  /-- The reset that Kindling ends is a POR (R148, R158). -/
  por       : Bool
  /-- VDD_IO at or above 1.50 V (R143). -/
  ioUp      : Bool
  /-- VDD_LINE within its range (R143). -/
  lineUp    : Bool
  /-- A supply-caused engagement is outstanding (R156). -/
  supplyEng : Bool
  /-- Lowest VDD_MAIN of that engagement, in mV (R167). -/
  minV      : Nat
  /-- Unwrapped SCH_TIME of its VWARN crossing, in µs (R167). -/
  dipUs     : Nat
  /-- Unwrapped SCH_TIME at which the running dwell started, in µs (R155). -/
  dwellUs   : Nat
  /-- The part of the LINE refill below 1 µJ, in nJ (R161). -/
  bankFrac  : Nat
  /-- PWR_BANK_LOW, PWR_BANK_CRIT may be raised (R164). -/
  lowArmed  : Bool
  critArmed : Bool
  /-- A requested measurement is under way (R162). -/
  measuring : Bool
  /-- Orbits at which the Ember conditions have held (R145). -/
  emberCount : Nat
  /-- A condition of R145 has failed since the last orbit. -/
  emberBroken : Bool
  /-- The WAKE pin is high (R131). -/
  wakeHigh  : Bool
  /-- VDD_MAIN in mV as the last command that carried its level gave it (R151). -/
  mainMv    : Nat
  /-- Unwrapped SCH_TIME of the last periodic measurement, of SYS_READY before the first (R162). -/
  measUs    : Nat
  deriving DecidableEq, Repr

/-- The supply block at the release of a POR (log entry 5). -/
def Power.reset : Power :=
  { phase := .inReset, por := true, ioUp := false, lineUp := true,
    supplyEng := false, minV := 0, dipUs := 0, dwellUs := 0, bankFrac := 0, lowArmed := true, critArmed := true, measuring := false,
    emberCount := 0, emberBroken := false, wakeHigh := false, mainMv := 0, measUs := 0 }

/-! ### Temperature and the Flue ledger (R174 to R199) -/

/-- The thermal block's working state beside its registers. Temperatures are in 1/16 °C. -/
structure Thermal where
  /-- The most recent periodic samples, newest first, at most 8 (R175). -/
  hist      : List Int
  /-- The next periodic sample fills the filter (R175). -/
  refill    : Bool
  /-- A periodic and a requested sample under way (R174, R176). -/
  sampling  : Bool
  extra     : Bool
  /-- Calendar-island cycle at which the last periodic sample started, of SYS_READY before the first (R174). -/
  start     : Nat
  /-- Time in µs of the last ledger update, the start of the present interval (R182). -/
  lastUs    : Nat
  /-- Heat of the present interval that has ended already, of tasks and of the heater, in 1/16 mW × µs (R182). -/
  heatAcc   : Nat
  /-- Time in µs since which the heater dissipates. -/
  heatSince : Nat
  /-- Time in µs for which the heater had dissipated before that, since EN was last written from 0 to 1 (R188). -/
  heatRun   : Nat
  /-- Values written to FLUE_X1 to FLUE_X3 that wait for the next update (R191). -/
  xWrite    : List (Option Nat)
  /-- Periodic samples since the AIN count restarted (R187). -/
  ainCount  : Nat
  /-- AIN channels with a conversion under way (R187). -/
  ainBusy   : List Nat
  deriving DecidableEq, Repr

/-- The thermal block after reset. -/
def Thermal.reset : Thermal :=
  { hist := [], refill := false, sampling := false, extra := false, start := 0, lastUs := 0, heatAcc := 0, heatSince := 0, heatRun := 0,
    xWrite := [none, none, none], ainCount := 0, ainBusy := [] }

/-! ### Scheduler (R200 to R227) -/

/-- The state of a task slot, in the order of its codes (R208). -/
inductive SlotState where
  | free | waiting | ready | deferE | deferH | deferM | running | done | missed | aborted
  deriving DecidableEq, Repr

/-- One task slot: its descriptor words 0 to 6 (R203), its state and its STATUS record (R225). -/
structure Slot where
  st      : SlotState
  words   : List Word
  /-- The earliest start in SCH_TIME µs, once it is known (R209, R210). -/
  estart  : Option Nat
  /-- TBASE 1: the slot does not become READY on the present calendar day (R209, and R227's corner on hour steps). -/
  skipDay : Bool
  lastEnd : Nat
  cause   : Nat
  reason  : Nat
  defers  : Nat
  skip    : Nat
  /-- SCH_TIME at which the running task was admitted. -/
  started : Nat
  /-- Heat power in 1/16 mW and duration in ms with which the running task started (R219). -/
  power   : Nat
  durMs   : Nat
  /-- SCH_CNT.LONG has counted this run (R204). -/
  long    : Bool
  /-- Asked to stop at its pre-emption point (R216). -/
  preempt : Bool
  /-- Stopped by the host at the block's earliest stopping point (R218). -/
  abort   : Bool
  /-- Line cycles that had started when the slot became READY (R368). -/
  cycles  : Nat
  deriving DecidableEq, Repr

/-- The scheduler's working state. -/
structure Sched where
  slots   : List Slot
  /-- A pass has been requested and has not run (R201). -/
  passReq : Bool
  /-- SCH_QUEUE_LOW may be raised again (R217). -/
  lowArmed : Bool
  /-- Orbits since the end of Kindling (R200). -/
  orbit   : Nat
  deriving DecidableEq, Repr

/-- A slot that holds no task. -/
def Slot.empty : Slot :=
  { st := .free, words := List.replicate 7 0, estart := none, skipDay := false, lastEnd := 0, cause := 0, reason := 0,
    defers := 0, skip := 0, started := 0, power := 0, durMs := 0, long := false, preempt := false, abort := false, cycles := 0 }

/-- The scheduler after reset (R221, R225, R226). -/
def Sched.reset : Sched := { slots := List.replicate 64 Slot.empty, passReq := false, lowArmed := true, orbit := 0 }

/-! ### Clock islands and oscillators (R228 to R254) -/

/-- The clock block's working state beside its registers. -/
structure Clock where
  /-- Consecutive windows in tolerance, and windows since the XO start or the last bad window (R234). -/
  xoRun    : Nat
  xoSince  : Nat
  /-- Consecutive windows out of tolerance while good (R236). -/
  xoBad    : Nat
  /-- The forced states of R237 hold. -/
  xoForced : Bool
  /-- Consecutive LXO windows in and out of tolerance (R249). -/
  lxoRun   : Nat
  lxoBad   : Nat
  /-- The LXO has been judged good and the calendar island may return to it (R249). -/
  lxoBack  : Bool
  /-- A requested switch of the wire island's source, as the WSRC code it leads to (R241, R242). -/
  wireReq  : Option Nat
  /-- The wire island stands between its switch point and its restart (R243); the source that it restarts on. -/
  wireStop : Bool
  wireTo   : Nat
  /-- The M3 void symbol slot of a switch runs (R243). -/
  voidSlot : Bool
  /-- An LFRC calibration runs; the reference it started with: none, XO or line (R248). -/
  lfrcCal  : Option Nat
  /-- An HFRC trim requested by router task or register runs (R247). -/
  hfrcTrim : Bool
  /-- Clock recovery lock has been regained since the last loss and its hold runs (R241). -/
  holdRun  : Bool
  deriving DecidableEq, Repr

/-- The clock block after reset. -/
def Clock.reset : Clock :=
  { xoRun := 0, xoSince := 0, xoBad := 0, xoForced := false, lxoRun := 0, lxoBad := 0, lxoBack := false,
    wireReq := none, wireStop := false, wireTo := 0, voidSlot := false, lfrcCal := none, hfrcTrim := false,
    holdRun := false }

/-! ### Calendar (R276 to R296) -/

/-- The running calendar, in plain numbers; its registers read it in BCD (R277). `year` counts from 2000. -/
structure Calendar where
  year   : Nat
  month  : Nat
  day    : Nat
  hour   : Nat
  minute : Nat
  second : Nat
  sub    : Nat
  /-- A requested hour step: true forward, false back (R284). -/
  step   : Option Bool
  /-- A hub time mark waiting to be applied whole at a safe point: the calendar it names (R291). -/
  align  : Option (List Nat)
  /-- The current second was made longer (R290): so many passes of SUB from 32767 to 0 are no boundary. -/
  stretch : Nat
  deriving DecidableEq, Repr

/-- The calendar after POR: 2000-01-01 00:00:00 (R280). -/
def Calendar.reset : Calendar :=
  { year := 0, month := 1, day := 1, hour := 0, minute := 0, second := 0, sub := 0, step := none, align := none,
    stretch := 0 }

/-! ### Link engines and frames (R297 to R356) -/

/-- States of a window place, in the order of their codes (R307). -/
inductive PlaceState where
  | free | due | air | waitAck | jitter | report
  deriving DecidableEq, Repr

/-- One window place of a link engine (R305, R307). -/
structure Place where
  st    : PlaceState
  dst   : Nat
  seq   : Nat
  tag   : Nat
  /-- Transmissions so far. -/
  tries : Nat
  bcast : Bool
  noack : Bool
  /-- The item of the transmit queue. -/
  item  : Nat
  /-- Order of first opening (R308). -/
  order : Nat
  /-- Unwrapped SCH_TIME at which the acknowledgement timeout or the delay ends (R309). -/
  due   : Nat
  /-- The frame's protected bytes, fixed at its first hand-over (R495): header, payload and MIC with RETRY 0. -/
  bytes : List Byte
  /-- The report that waits for receive credit (R307). -/
  report : Word
  /-- LE_RETRY_MAX.MAX and JITTER as they stood when the running timeout started (R324). -/
  most   : Nat
  jitter : Nat
  deriving DecidableEq, Repr

/-- A free window place. -/
def Place.free : Place :=
  { st := .free, dst := 0, seq := 0, tag := 0, tries := 0, bcast := false, noack := false, item := 0, order := 0,
    due := 0, bytes := [], report := 0, most := 0, jitter := 0 }

/-- A link engine's working state. -/
structure Engine where
  places : List Place
  /-- Openings so far. -/
  opened : Nat
  /-- Peers that this engine owes an acknowledgement to, the eldest first (R314). -/
  owed   : List Nat
  /-- Forwarded frames that wait for an opportunity (R320): the transmit queue's item and the frame's bytes. -/
  fwd    : List (Nat × List Byte)
  /-- Unwrapped SCH_TIME at which SAFE was set (R325). -/
  safeAt : Nat
  deriving DecidableEq, Repr

/-- A link engine after reset. -/
def Engine.reset : Engine :=
  { places := List.replicate 4 Place.free, opened := 0, owed := [], fwd := [], safeAt := 0 }

/-- What a frame that is being sent is. -/
inductive TxKind where
  | data (place item : Nat)
  | ack (peer : Nat)
  | forward (item : Nat)
  | beacon
  | pageAck
  | announce
  deriving DecidableEq, Repr

/-- A frame on its way from a link engine or a PHY page to the line or the air. -/
structure TxFrame where
  id    : Nat
  eng   : Nat
  kind  : TxKind
  /-- PHY and generation (R297). -/
  phy   : Nat
  gen   : Nat
  /-- The radio mode (R431). -/
  mode  : Nat
  /-- The frame's bytes before whitening and coding, check sequence included. -/
  bytes : List Byte
  /-- LDPC code of a coded frame (R342). -/
  code  : Nat
  /-- Codewords handed to the encoder and codewords encoded (R350). -/
  fed   : Nat
  cws   : List (List Bool)
  deriving DecidableEq, Repr

/-- Where a received frame stands. -/
inductive RxStage where
  /-- Items still cross from the PHY island, or codewords wait for the decoder. -/
  | coming
  /-- A whole frame whose item is handed across and not acknowledged (R40). -/
  | handed
  /-- SEC has it (R507). -/
  | sec
  /-- The link engine judges it next (R312). -/
  | link
  deriving DecidableEq, Repr

/-- A received frame in the fabric. -/
structure RxFrame where
  id     : Nat
  /-- Crossing that it arrived on, generation, and the radio mode. -/
  xing   : Nat
  gen    : Nat
  mode   : Nat
  stage  : RxStage
  /-- PHR byte 0 of a coded frame (R333). -/
  phr    : Nat
  /-- Soft bits across so far, and codewords offered to FEC. -/
  llrs   : List Int
  offered : Nat
  /-- The last item has crossed. -/
  ended  : Bool
  /-- Decoded information bits of the codewords so far, still whitened, and most iterations of one. -/
  info   : List Bool
  done   : Nat
  iters  : Nat
  /-- The frame's bytes as received, without whitening. -/
  bytes  : List Byte
  /-- The key with which SEC's present operation on this frame began (R501); `none` before it begins. -/
  key    : Option (Option (List Byte)) := none
  /-- The payload that SEC has decrypted (R507). -/
  plain  : Option (List Byte)
  /-- Cells of the packet store that hold the frame's decoded codewords (R47, R57). -/
  cells  : List Nat
  /-- RSSI for the receive item, 0x80 for none (R301). -/
  rssi   : Nat
  /-- SEC's verdict: the counter found, and whether it lies above the record (R507). -/
  ctr    : Option Nat
  high   : Bool
  /-- Calendar-island cycle of the mark instant, for a beacon (R289, R437). -/
  mark   : Nat
  deriving DecidableEq, Repr

/-- The FEC island's working state beside the crossings (R349, R350). -/
structure FecIsland where
  /-- The codeword under work: true one that is being encoded, false one that is being decoded. -/
  work     : Option Bool
  /-- The last codeword worked on was an encoding: the next one to decode goes first (R350). -/
  lastEnc  : Bool
  /-- The decoder and the encoder have been idle since the present ramp step began (R244). -/
  idleStep : Bool
  deriving DecidableEq, Repr

def FecIsland.reset : FecIsland := { work := none, lastEnc := false, idleStep := true }

/-! ### Host interface and legacy view (R103 to R141) -/

/-- The legacy view's working state and its own registers (R125 to R128). -/
structure Legacy where
  /-- LE7 and slot 63 are under the legacy binding (R125). -/
  bound : Bool
  /-- L_CMD as it reads: the running command, 0x10 when idle. -/
  cmd   : Nat
  /-- A command that the running task still has to carry out. -/
  todo  : Option Nat
  /-- IDLE or FIELD_OFF has been written: the task ends after its present frame or command (R126). -/
  stop  : Bool
  ien   : Nat
  flags : Nat
  err   : Nat
  collpos  : Nat
  lastbits : Nat
  crccfg   : Nat
  /-- Transmit FIFO, and the received bytes that are left to read with their cells (R127, R128). -/
  txf   : List Byte
  rxf   : List Byte
  cells : List Nat
  deriving DecidableEq, Repr

def Legacy.reset : Legacy :=
  { bound := false, cmd := 0x10, todo := none, stop := false, ien := 0, flags := 0, err := 0, collpos := 0, lastbits := 0,
    crccfg := 0, txf := [], rxf := [], cells := [] }


/-- The pop position of one host queue (R119, R120). The current item is the one that the queue's far side owns. -/
structure Pop where
  /-- Words of the current item that have been read. -/
  pos  : Nat
  /-- The item has been popped whole and awaits release. -/
  held : Bool
  deriving DecidableEq, Repr

/-- The host interface's working state beside its registers. -/
structure Hif where
  /-- The previous transaction returned a late word, and the present one has (R110). -/
  late    : Bool
  lateNow : Bool
  /-- The level that HIF_MODE had when it was last sampled, as HIF_STAT.STRAP gives it: 0 before the first sample. The
  board ties the pin, so a reset does not change it (R104, R106). -/
  strap : Nat
  /-- Queues 0 to 8. -/
  pops : List Pop
  deriving DecidableEq, Repr

def Hif.reset : Hif := { late := false, lateNow := false, strap := 0, pops := List.replicate 9 { pos := 0, held := false } }

/-! ### The Morrun line (R357 to R394) -/

/-- An entry of an announce list (R386, R438). -/
structure Announce where
  id     : Nat
  uid    : Nat
  gens   : Nat
  step   : Nat
  legacy : Bool
  rep    : Bool
  acked  : Bool
  popped : Bool
  deriving DecidableEq, Repr

/-- The line page's working state. -/
structure Line where
  /-- Samples of LINE_ISNS since the last judgement, newest first, at most 64 (R361). -/
  samples  : List Nat
  /-- Consecutive samples above BASE + STEP, below BASE − STEP, above ILIM, and at 2 × ILIM (R359, R361). -/
  above    : Nat
  below    : Nat
  excess     : Nat
  twice    : Nat
  /-- The switch opens at the end of the cycle (R360). -/
  softOff  : Bool
  /-- The frame that is on the line. -/
  sending  : Option Nat
  /-- It ends with its present group (R153). -/
  cutting  : Bool
  /-- The contention window, 0 for CWMIN (R374). -/
  cw       : Nat
  /-- A draw of the backoff that has not been used up (R374, R376). -/
  backoff  : Option Nat
  /-- A frame that IDLE_C stopped: it goes out again as the same transmission (R375). -/
  again    : Option Nat
  /-- Hub: an upstream burst is under way; IDLE_C is due (R373, R375). -/
  upBusy   : Bool
  collided : Bool
  /-- XO cycles left in the present window (R377). -/
  room     : Nat
  /-- Cycle starts so far (R368). -/
  cycles   : Nat
  /-- The LINE_TRAIN task trains in the present M3 window (R379); its training has begun; the passes sent. -/
  trains   : Bool
  begun    : Bool
  passes   : Nat
  /-- The echo canceller's 64 taps in units of 2^−14 (R378). -/
  taps     : List Int
  /-- The node has announced in the present cycle (R385). -/
  annSent  : Bool
  /-- The M1 or M2 window's beacon has been sent or received (R372). -/
  winHeard : Bool
  /-- The next sync detection judges polarity (R384). -/
  judgePol : Bool
  /-- Consecutive marks within ±4 wire cycles (R382). -/
  marks    : Nat
  /-- SRC of the last beacon (R385). -/
  hubId    : Nat
  /-- The node announces (R385). -/
  announce : Bool
  /-- The announce list of a hub (R386). -/
  list     : List Announce
  /-- PROBE goes with the next beacon (R387). -/
  probe    : Bool
  /-- The frame that is being received. -/
  rxCur    : Option Nat
  deriving DecidableEq, Repr

def Line.reset : Line :=
  { samples := [], above := 0, below := 0, excess := 0, twice := 0, softOff := false, sending := Option.none,
    cutting := false, cw := 0, backoff := Option.none, again := Option.none, upBusy := false, collided := false, room := 0,
    cycles := 0, trains := false, begun := false, passes := 0, taps := List.replicate 64 0, annSent := false, winHeard := false, judgePol := true, marks := 0, hubId := 0,
    announce := true, list := [], probe := false, rxCur := Option.none }

/-! ### The radio and its modem (R395 to R445) -/

/-- An acknowledgement slot that lies ahead (R408). -/
structure AckSlot where
  /-- The received frame and its mode. -/
  frame : Nat
  mode  : Nat
  /-- Engine and peer of the acknowledgement, once the verdict calls for one. -/
  due   : Option (Nat × Nat)
  deriving DecidableEq, Repr

/-- The radio page's working state. -/
structure Radio where
  /-- The state that the transitions under way lead to. -/
  goal     : Option Nat
  /-- The frame in transition into TX or on the air, and whether its first symbol is out (R402, R412). -/
  tx       : Option Nat
  air      : Bool
  /-- The frame for which listen-before-talk runs (R407, R409). -/
  chosen   : Option Nat
  /-- A listen runs: true one of CCA_START, false one of listen-before-talk. -/
  listen   : Option Bool
  /-- Its drawn length in XO cycles (R409). -/
  listenXo : Nat
  /-- The highest RSSI sample of the listen. -/
  highest  : Option Int
  /-- Busy assessments before this transmission. -/
  tries    : Nat
  /-- CCA_START waits for its moment (R413). -/
  ccaReq   : Bool
  /-- The beacon of the running RAD_TX task is still to be sent (R406). -/
  beacon   : Bool
  /-- The running RAD_TX task started with an ANNOUNCE asked for that it has not sent yet (R438). -/
  announce : Bool
  /-- An acknowledgement wait runs, and a sync word has been detected in it (R408). -/
  wait     : Bool
  waitSync : Bool
  /-- The mode of the frame last sent. -/
  mode     : Nat
  /-- TO_STANDBY or TO_SYNTH ends the RAD_TX task at its next pre-emption point (R413). -/
  hostEnd  : Bool
  /-- The RAD_RX_WIN window: opened, at its end, with a lane synced in it. -/
  opened   : Bool
  closing  : Bool
  synced   : Bool
  /-- A frame has been accepted in it (R405 ONE). -/
  accepted : Bool
  /-- Parked in a state (R413). -/
  parked   : Option Nat
  slot     : Option AckSlot
  /-- TO_TX: owed acknowledgements go out at once (R413). -/
  flush    : Bool
  /-- Periodic samples of the RAD_CAL_NEEDED comparator's count (R399). -/
  calCount : Nat
  /-- ANT_SEL selects the transmit path (R402, R403). -/
  txPath   : Bool
  /-- Beacons sent since reset (R435). -/
  bno      : Nat
  /-- Air time in XO cycles of the 60 buckets, the present one first (R411). -/
  duty     : List Nat
  deriving DecidableEq, Repr

def Radio.reset : Radio :=
  { goal := none, tx := none, air := false, chosen := none, listen := none, listenXo := 0, highest := none, tries := 0, ccaReq := false,
    beacon := false, announce := false, wait := false, waitSync := false, mode := 0, hostEnd := false, opened := false, closing := false,
    synced := false, accepted := false, parked := none, slot := none, flush := false, calCount := 0, txPath := false, bno := 0,
    duty := List.replicate 60 0 }

/-- A captured frame (R425 to R430). -/
structure Capture where
  lane   : Nat
  mode   : Nat
  level  : Int
  /-- Its header window is open (R426). -/
  window : Bool
  /-- Its number, once its header has passed. -/
  frame  : Option Nat
  /-- Calendar-island cycle of its sync, the mark instant of a beacon (R436). -/
  mark   : Nat
  deriving DecidableEq, Repr

/-- The modem page's working state. -/
structure Modem where
  cap      : Option Capture
  /-- The search of the present window runs (R424). -/
  on       : Bool
  /-- RDM_RSSI_HI, RDM_RSSI_LO may be raised (R432). -/
  hiArmed  : Bool
  loArmed  : Bool
  /-- RDM_CMD.ANN waits for the next RAD_TX task (R438). -/
  annReq   : Bool
  /-- The announce list of a hub (R438). -/
  list     : List Announce
  deriving DecidableEq, Repr

def Modem.reset : Modem :=
  { cap := none, on := false, hiArmed := true, loArmed := true, annReq := false, list := [] }


/-! ### The NFC field, the tuner and Comet (R446 to R469) -/

/-- Where the field stands (R448, R449). -/
inductive FieldStage where
  | off | checking | ramping | on | falling
  deriving DecidableEq, Repr

/-- A tuner sweep under way (R455). -/
structure Sweep where
  /-- Q of probe 0, the best Q, and the probes made; probe 0 runs while `made` is 0. -/
  qstart : Nat
  best   : Nat
  made   : Nat
  step   : Nat
  /-- Bank in the order P0, S0, P1, S1, and direction: 0 up, 1 down. -/
  bank   : Nat
  dir    : Nat
  improved : Bool
  /-- The code that the present probe's bank had before. -/
  before : Nat
  deriving DecidableEq, Repr

/-- The NFC page's working state. -/
structure NfcField where
  stage  : FieldStage
  /-- A request that waits for the ramp-down. -/
  again  : Bool
  /-- This field-on raises NFC_FIELD_ON and NFC_FIELD_OFF (R448). -/
  loud   : Bool
  /-- NFC_TXSUP_SAG has been raised for this field (R450). -/
  sagged : Bool
  /-- NFC_MISMATCH may be raised (R454). -/
  armed  : Bool
  sweep  : Option Sweep
  /-- Comet: the measurement (AMP, PH) that waits for its classification (R457). -/
  meas   : Option (Nat × Nat)
  /-- Consecutive sweeps of class CARD, HAND and CLEAR (R459). -/
  cards  : Nat
  hands  : Nat
  clears : Nat
  /-- How far tracking has moved the baseline since the last NFC_BASELINE_UPD (R462). -/
  movedA : Int
  movedP : Int
  /-- Unwrapped SCH_TIME of the last Comet firing (R456). -/
  fired  : Nat
  /-- Reference and count of the watch of R460. -/
  ref    : Option Nat
  lows   : Nat
  deriving DecidableEq, Repr

def NfcField.reset : NfcField :=
  { stage := .off, again := false, loud := false, sagged := false, armed := true, sweep := none, meas := none,
    cards := 0, hands := 0, clears := 0, movedA := 0, movedP := 0, fired := 0, ref := none, lows := 0 }


/-! ### NFC protocols (R470 to R492) -/

/-- A tag list entry (R482). -/
structure Tag where
  valid   : Bool
  present : Bool
  keep    : Bool
  new     : Bool
  tech    : Nat
  info    : Nat
  pollno  : Nat
  /-- ID bytes in the order received. -/
  uid     : List Byte
  x0      : Word
  x1      : Word
  amp     : Nat
  deriving DecidableEq, Repr

/-- An invalid entry. -/
def Tag.none : Tag :=
  { valid := false, present := false, keep := false, new := false, tech := 0, info := 0, pollno := 0, uid := [], x0 := 0, x1 := 0, amp := 0 }

/-- A frame that NFP sends (R480 to R484). -/
inductive NfcFrame where
  /-- A host's or a legacy command: its descriptor (R472) and its bytes. -/
  | command (w : Word) (bytes : List Byte)
  | reqa
  | wupa
  /-- Anticollision at a cascade level with the known UID bits, in the order sent. -/
  | anticoll (level : Nat) (known : List Bool)
  | select (level : Nat) (uid : List Byte)
  | hlta
  | reqb (afi slots : Nat)
  | wupb
  | slotMarker (slot : Nat)
  | hltb (pupi : List Byte)
  | sensf (slots : Nat)
  | inventory (slots maskLen : Nat) (mask : Nat)
  | read2 (page : Nat)
  | read5 (uid : List Byte) (first blocks : Nat)
  deriving DecidableEq, Repr

/-- Whose exchange it is. -/
inductive NfcOwner where
  | engine (n place item : Nat)
  | legacy
  | step
  deriving DecidableEq, Repr

/-- Where an exchange stands (R476). -/
inductive NfcStage where
  /-- Waits for GAP or GT. -/
  | waiting
  | sending
  | blank
  | listening
  deriving DecidableEq, Repr

/-- The exchange under way. -/
structure Exchange where
  frame : NfcFrame
  owner : NfcOwner
  stage : NfcStage
  early : Bool
  /-- Carrier periods that it waits for the start of a response (R476, R477). -/
  wait  : Nat
  deriving DecidableEq, Repr

/-- Steps of a poll (R478). -/
inductive StepKind where
  | discovery (tech : Nat)
  | read
  | presence
  | inventory
  deriving DecidableEq, Repr

/-- The running step. -/
structure PollStep where
  kind    : StepKind
  /-- The step has ended; POLL_STEP_END moves on. -/
  isOver    : Bool
  /-- NFP_TECH_DETECT has been raised for it. -/
  detected : Bool
  /-- Tags found in it (Type A). -/
  found   : Nat
  /-- Type A: cascade level, UID so far, ATQA. -/
  level   : Nat
  uid     : List Byte
  atqa    : Nat
  /-- Slots of the round, slot, rounds made, and whether a slot failed (B, F). -/
  slots   : Nat
  slot    : Nat
  rounds  : Nat
  bad     : Bool
  /-- V: the inventories under way, the deepest first: mask length, mask, marked slots (R481). -/
  masks   : List (Nat × Nat × List Nat)
  /-- Presence: the entries still to check, and whether the first attempt failed (R483). -/
  entries : List Nat
  again   : Bool
  /-- Read: entry and bytes so far (R484). -/
  entry   : Nat
  bytes   : List Byte
  deriving DecidableEq, Repr

/-- An item for the host on its way from the NFC island (R474): its engine, its words, the transmit queue's item whose
transaction it ends, its own item on crossing 1, and the response as received. -/
structure HeldItem where
  eng   : Nat
  words : List Word
  ends  : Option Nat
  item  : Nat
  raw   : List Byte
  deriving DecidableEq, Repr

/-- The NFP page's working state. -/
structure Nfp where
  tags    : List Tag
  cur     : Option Exchange
  step    : Option PollStep
  todo    : List StepKind
  /-- GAP runs (R476), GT runs (R475, R478). -/
  gap     : Bool
  guard   : Bool
  /-- The task serves the engine's queue. -/
  serving : Bool
  /-- Commands that have ended in the running task (R475). -/
  ended   : Nat
  /-- POLL_STOP, NFP_TX_QUEUED, INVENTORY_START wait for a boundary (R479). -/
  stop    : Bool
  addTx   : Bool
  addInv  : Bool
  /-- NFP_TAGLIST_FULL has been raised in this poll. -/
  full    : Bool
  /-- Entries recorded by this poll, in order. -/
  recorded : List Nat
  /-- A response that the fabric holds for want of receive credit (R474). -/
  held    : Option HeldItem
  deriving DecidableEq, Repr

def Nfp.reset : Nfp :=
  { tags := List.replicate 64 Tag.none, cur := none, step := none, todo := [], gap := false, guard := false, serving := false,
    ended := 0, stop := false, addTx := false, addInv := false, full := false, recorded := [], held := none }


/-! ### Security (R493 to R521) -/

/-- A frame counter record (R503). -/
structure CtrRec where
  valid  : Bool
  epoch  : Nat
  ctr    : Nat
  /-- SEC_CTR_WARN has been raised for this record and EPOCH (R504). -/
  warned : Bool
  deriving DecidableEq, Repr

/-- A record that holds nothing. -/
def CtrRec.none : CtrRec := { valid := false, epoch := 0, ctr := 0, warned := false }

/-- SEC's keys, records and command beside its registers. -/
structure Security where
  /-- Keys of the 32 slots, 16 bytes each; no register reads them (R497). -/
  keys    : List (Option (List Byte))
  /-- SEC_KEY0 to SEC_KEY3 as written. -/
  keyIn   : List Word
  /-- Counter records that hold something: kind × 256 + peer, as in SEC_CTRSEL (R503, R520). -/
  records : List (Nat × CtrRec)
  /-- SEC_KEYCMD in progress: OP and slot (R502). -/
  cmd     : Option (Nat × Nat)
  /-- Unwrapped SCH_TIME at which the armed sink disarms (R512). -/
  sinkEnd : Option Nat
  /-- The key of its slot when the command in progress, or the last one, began (R501). -/
  cmdKey  : Option (List Byte)
  deriving DecidableEq, Repr

/-- SEC after reset: every slot empty and unlocked, every record VALID 0 (R497, R503). -/
def Security.reset : Security :=
  { keys := List.replicate 32 Option.none, keyIn := [0, 0, 0, 0], records := [], cmd := Option.none, sinkEnd := Option.none,
    cmdKey := Option.none }

/-! ### Buttons, knob and plugs (R522 to R539) -/

/-- What one GP pin's watch holds (R523, R526, R527, R532). Times are unwrapped µs of scheduler time. -/
structure GpPin where
  /-- The level at the pad, as the last orbit found it or VDD_IO's return gave it. -/
  level   : Bool
  /-- Consecutive samples that differ from the debounced state. -/
  count   : Nat
  /-- The orbit of the press whose long press and repeat are pending. -/
  press   : Option Nat
  /-- The long press of this press has been raised. -/
  longed  : Bool
  /-- The last repeat of this press. -/
  lastRpt : Option Nat
  /-- The end of the running pulse. -/
  pulse   : Option Nat
  deriving DecidableEq, Repr

/-- A pin with nothing pending. -/
def GpPin.reset : GpPin := { level := false, count := 0, press := none, longed := false, lastRpt := none, pulse := none }

/-- The pins and the knob's taken state (R529; `none`: the next taken state is adopted). -/
structure Gpi where
  pins : List GpPin
  /-- A and B of the last taken state. -/
  knob : Option (Bool × Bool)
  deriving DecidableEq, Repr

def Gpi.reset : Gpi := { pins := List.replicate 12 GpPin.reset, knob := none }

/-- What a GP pin does at its pad (R522, R532). -/
inductive PinDrive where
  | highZ | low | high
  deriving DecidableEq, Repr

/-! ### The whole part -/

/-- The state of the part. -/
structure State where
  /-- Commands that wait, first in first out (the model's own). -/
  pending : List Instr
  /-- Registers and staged twins (R8, R9, R71). -/
  regs    : RegFile
  /-- Packet store and peer table (R37, R316). -/
  mem     : Memory
  /-- Free values drawn so far (the model's own; log entry 1). -/
  ctr     : Nat
  /-- Calendar-island cycles since the end of Kindling (R200). -/
  cyc     : Nat
  /-- Occurrences that the present command has raised (R259). -/
  raised  : List Nat
  /-- Occurrences that wait for the router, the first in front (R257, R259). -/
  occ     : List Nat
  /-- Occurrences of island events not yet handed across crossing 12, the first in front (R256). -/
  evtWait : List Nat
  /-- Router tasks requested and not yet taken (R264, R265). -/
  latches : List Nat
  /-- RETRIG has released the pin (R130). -/
  irqReleasedA : Bool
  irqReleasedB : Bool
  /-- Numbers given to items and frames so far (the model's own). -/
  ids     : Nat
  /-- The crossings and queues. -/
  xings   : List Xing
  /-- Cells of the packet store in use (R57). -/
  used    : List Nat
  /-- Handshakes that stay open: page of the consumer, crossing, unwrapped SCH_TIME of the request (R53, R60). -/
  stuck   : List (Nat × Nat × Nat)
  /-- A stall has been raised with SYS_STALL_TO.RESET set (R54). -/
  stallReset : Bool
  /-- The bytes that the last host read returned, or the word of the last window read. -/
  hostOut : List Byte
  cmt     : Commit
  pwr     : Power
  thm     : Thermal
  sch     : Sched
  clk     : Clock
  cal     : Calendar
  engines : List Engine
  /-- Frames on their way out and in. -/
  tx      : List TxFrame
  rx      : List RxFrame
  fec     : FecIsland
  leg     : Legacy
  sec     : Security
  line    : Line
  rad     : Radio
  rdm     : Modem
  nfc     : NfcField
  nfp     : Nfp
  gpi     : Gpi
  hif     : Hif
  deriving DecidableEq, Repr

/-- The part at the release of a power-on reset, Kindling still to run (R148; log entry 5). -/
def State.reset : State :=
  { pending := [], regs := [], mem := [], ctr := 0, cyc := 0, raised := [], occ := [], evtWait := [], latches := [],
    irqReleasedA := false, irqReleasedB := false, ids := 0, xings := List.replicate 32 Xing.reset, used := [],
    stuck := [], stallReset := false, hostOut := [], cmt := Commit.reset, pwr := Power.reset, thm := Thermal.reset, sch := Sched.reset, clk := Clock.reset,
    cal := Calendar.reset, engines := List.replicate 8 Engine.reset, tx := [], rx := []
    , fec := FecIsland.reset
    , leg := Legacy.reset
    , sec := Security.reset
    , line := Line.reset
    , rad := Radio.reset
    , rdm := Modem.reset
    , nfc := NfcField.reset
    , nfp := Nfp.reset
    , gpi := Gpi.reset
    , hif := Hif.reset
  }

end Sys2Proof.Machine
end

