-- ==== Sys2Proof/Machine/Ops.lean ====
section
/-! DEFINITION. The named operations over the register file, the packet store, the events and the free values. Every
meaning reads and writes through them. -/

namespace Sys2Proof.Machine

/-! ### The register file -/

/-- A word's field (R8: bits [hi:lo]) as a number. -/
def Fld.of (f : Fld) (w : Word) : Nat := (w.toNat >>> f.lo) % 2 ^ f.width

/-- A word with a field replaced; the value is cut to the field's width. -/
def Fld.into (f : Fld) (w : Word) (v : Nat) : Word :=
  let m : Word := BitVec.ofNat 32 ((2 ^ f.width - 1) <<< f.lo)
  (w &&& ~~~m) ||| (BitVec.ofNat 32 ((v % 2 ^ f.width) <<< f.lo) &&& m)

/-- The word at a register or twin address. -/
def State.rd (s : State) (a : Nat) : Word := RegFile.get s.regs a

/-- A word stored at a register or twin address. -/
def State.wr (s : State) (a : Nat) (w : Word) : State := { s with regs := RegFile.set s.regs a w }

/-- A field's value. -/
def State.get (s : State) (f : Fld) : Nat := f.of (s.rd f.addr)

/-- A one-bit field read as a truth value. -/
def State.bit (s : State) (f : Fld) : Bool := s.get f != 0

/-- A field's staged value (R71). -/
def State.getTwin (s : State) (f : Fld) : Nat := s.get f.twin

/-- A field set to a value, every other bit of its word kept. -/
def State.put (s : State) (f : Fld) (v : Nat) : State := s.wr f.addr (f.into (s.rd f.addr) v)

/-- A one-bit field set to a truth value. -/
def State.putBit (s : State) (f : Fld) (b : Bool) : State := s.put f b.toNat

/-- A counter field raised by `k`, holding at its greatest value. -/
def State.sat (s : State) (f : Fld) (k : Nat := 1) : State := s.put f (min (s.get f + k) (2 ^ f.width - 1))

/-- A counter field raised by `k`, wrapping at its width. -/
def State.wrap (s : State) (f : Fld) (k : Nat := 1) : State := s.put f (s.get f + k)

/-- `s` changed by `f` where the condition holds. -/
def State.whenB (s : State) (c : Bool) (f : State → State) : State := if c then f s else s

/-- `f` applied for every element of a list, in order. -/
def State.forEach {α : Type} (s : State) (l : List α) (f : State → α → State) : State := l.foldl f s

/-! ### Free values -/

/-- The next free value, and the state in which it has been drawn (log entry 1). -/
def State.fresh (s : State) : Nat × State := (Config.freeNat s.ctr, { s with ctr := s.ctr + 1 })

/-- The next free value below `n` (0 where `n` is 0). -/
def State.freshBelow (s : State) (n : Nat) : Nat × State := ((Config.freeNat s.ctr) % n, { s with ctr := s.ctr + 1 })

/-! ### PHY codes, crossings, the legacy binding -/

/-- PHY codes of LE_BIND (R297). -/
def Phy.NONE : Nat := 0
def Phy.NFC : Nat := 1
def Phy.LINE : Nat := 2
def Phy.RADIO : Nat := 3

/-- Crossing or queue `n` (R41, R58). -/
def State.xing (s : State) (n : Nat) : Xing := s.xings.getD n Xing.reset

/-- Slot `i` is reserved by the legacy binding (R125). -/
def State.legacyHolds (s : State) (i : Nat) : Bool := s.leg.bound && i == 63

/-- The PHY and the generation that engine `n` is bound to: NFC for LE7 under the legacy binding (R125, R297). -/
def State.phyOf (s : State) (n : Nat) : Nat := if s.leg.bound && n == 7 then Phy.NFC else s.get (.LE_BIND_PHY n)
def State.genOf (s : State) (n : Nat) : Nat := if s.leg.bound && n == 7 then 0 else s.get (.LE_BIND_GEN n)

/-! ### Pages -/

/-- PG_CTRL.EN of a page (R88); 1 for LE7 under the legacy binding (R125). -/
def State.enabled (s : State) (p : Nat) : Bool := s.bit (.PG_CTRL_EN p) || (s.leg.bound && p == 31)

/-- PG_CTRL.SAFE of a page (R88). -/
def State.safe (s : State) (p : Nat) : Bool := s.bit (.PG_CTRL_SAFE p)

/-- PG_LOCK.LOCKED of a page (R91). -/
def State.locked (s : State) (p : Nat) : Bool := s.bit (.PG_LOCK_LOCKED p)

/-- PG_STAT.DRAINHOLD of a page (R80). -/
def State.drainHold (s : State) (p : Nat) : Bool := s.bit (.PG_STAT_DRAINHOLD p)

/-- The page has reached its safe point in a DRAIN issue and holds there (R80). -/
def State.pageHeld (s : State) (p : Nat) : Bool := s.drainHold p && s.cmt.reached.contains p

/-- A draining page that stands at its safe point holds there from now on (R70, R80). -/
def State.latch (s : State) (p : Nat) (safe : Bool) : State :=
  if s.drainHold p && safe && !s.cmt.reached.contains p then
    { s with cmt := { s.cmt with reached := s.cmt.reached ++ [p] } }
  else s

/-- The page runs and accepts new work: EN 1, SAFE 0 and no DRAIN hold (R80, R88). -/
def State.takesWork (s : State) (p : Nat) : Bool := s.enabled p && !s.safe p && !s.drainHold p

/-- Hub role (R18). -/
def State.hub (s : State) : Bool := s.bit .SYS_ROLE_ROLE

/-! ### Interrupt lines (R129, R130, R138, R140) -/

/-- PG_EVT_PEND of a page: PG_EVT_RAW AND PG_EVT_EN (R69). -/
def State.pend (s : State) (p : Nat) : Word := s.rd (Adr.PG_EVT_RAW p) &&& s.rd (Adr.PG_EVT_EN p)

/-- The pages that exist (R67). -/
def pages : List Nat := List.range 18 ++ (List.range 8).map (· + 24)

/-- Whether a page exists (R67). -/
def pageExists (p : Nat) : Bool := p < 18 || (24 ≤ p && p < 32)

/-- IRQ_PAGESUM: one bit per page with any PEND bit set (R138). -/
def State.pageSum (s : State) : Nat :=
  pages.foldl (fun m p => if s.pend p ≠ 0 then m ||| 2 ^ p else m) 0

/-- Whether the line of pin `b` (false IRQ_A, true IRQ_B) has an active request: a routed page's PEND bit, the router's
own bit IRQ_RTR, or on IRQ_A in the legacy view an enabled L_FLAGS bit (R129, R140, R141). -/
def State.irqRequest (s : State) (b : Bool) : Bool :=
  let routed := s.pageSum &&& (if b then s.get .IRQ_ROUTE_TOB else s.get .IRQ_ROUTE_TOB ^^^ (2 ^ 32 - 1))
  routed != 0 || s.bit (if b then .IRQ_RTR_B else .IRQ_RTR_A)
    || (!b && s.bit .HIF_VIEW_VIEW && (s.leg.flags &&& s.leg.ien) != 0)

/-- The pin is asserted: it has a request, and RETRIG has not released it (R129, R130). -/
def State.irqAsserted (s : State) (b : Bool) : Bool :=
  s.irqRequest b && !(if b then s.irqReleasedB else s.irqReleasedA)

/-! ### Events -/

/-- A PEND bit of page `p` that arises while the page's pin is asserted and RETRIG is set releases the pin (R130). -/
def State.retrigger (s : State) (p : Nat) (rising : Bool) : State :=
  let b := s.get .IRQ_ROUTE_TOB / 2 ^ p % 2 = 1
  let retrig := s.bit (if b then .IRQ_PINCFG_B_RETRIG else .IRQ_PINCFG_A_RETRIG)
  if rising && retrig && s.irqRequest b then
    if b then { s with irqReleasedB := true } else { s with irqReleasedA := true }
  else s

/-- One occurrence of event `e` (R69): its RAW bit sets, whatever EN holds, and the router receives it (R257). -/
def State.raise (s : State) (e : Nat) : State :=
  match eventHome e with
  | none => s
  | some (p, bit) =>
    let w := (s.rd (Adr.PG_EVT_RAW p)).toNat
    let s := s.retrigger p (w / 2 ^ bit % 2 = 0 && (s.rd (Adr.PG_EVT_EN p)).toNat / 2 ^ bit % 2 = 1)
    let s := s.wr (Adr.PG_EVT_RAW p) (BitVec.ofNat 32 (w ||| 2 ^ bit))
    { s with raised := s.raised ++ [e] }

/-- `raise` where a condition holds. -/
def State.raiseIf (s : State) (c : Bool) (e : Nat) : State := if c then s.raise e else s

/-- One event put in ascending order into a batch (R259: occurrences that arrive together). -/
def insertEvent (e : Nat) : List Nat → List Nat
  | [] => [e]
  | x :: xs => if e ≤ x then e :: x :: xs else x :: insertEvent e xs

/-- A batch in ascending event number (R259). -/
def sortEvents (l : List Nat) : List Nat := l.foldr insertEvent []

/-- The router takes occurrences only while the EVR page has EN 1 and SAFE 0 (R258, R269). -/
def State.routerOn (s : State) : Bool := s.enabled 5 && !s.safe 5

/-- The event is raised inside an island and crosses to the router on crossing 12 (R256): the pages CAL, FEC, NFC, NFP,
WIR, RAD and RDM. -/
def islandEvent (e : Nat) : Bool := match eventHome e with
  | some (p, _) => [7, 11, 12, 13, 14, 15, 16].contains p
  | none => false

/-- The time in µs by the calendar-island cycles since SYS_READY: ⌊n × 125 000 ÷ 4096⌋ (R200). -/
def State.usec (s : State) : Nat := s.cyc * 125000 / 4096

/-- The occurrences of one moment reach the router (R256, R259): those of the fabric, and of the islands' as many, the
eldest first, as crossing 12 has credits for; the rest wait in their islands. A handshake that a slow crossing 12
leaves open is watched from the first that waits (R53). A router that takes none holds none (R269). -/
def State.arrive (s : State) : State :=
  let island := s.evtWait ++ sortEvents (s.raised.filter islandEvent)
  let room := if (s.xing 12).slow then 0 else 8 - s.occ.countP islandEvent
  { s with
    occ := if s.routerOn then s.occ ++ sortEvents (s.raised.filter (!islandEvent ·) ++ island.take room) else []
    evtWait := if s.routerOn then island.drop room else []
    stuck := if (s.xing 12).slow && s.routerOn && !island.isEmpty && s.evtWait.isEmpty then s.stuck ++ [(5, 12, s.usec)] else s.stuck
    raised := [] }

/-- The end of a command: its last occurrences reach the router. -/
def State.finish (s : State) : State := s.arrive

/-- A command's next state. -/
def done (s : State) : Host.Outcome State Fault Refusal := .next s.finish

/-! ### Access errors (R85, R94, R100) and lock violations (R84) -/

/-- A PG_ERR flag of a page sets; FIRSTW takes `off / 4` while no flag is set (R94). An address of the packet store
window, which has no offset in the QMX page, counts modulo 0x400 (log entry 62). -/
def State.pgErr (s : State) (p : Nat) (flag : Fld) (off : Nat) : State :=
  let clear := s.get (.PG_ERR_ACC p) + s.get (.PG_ERR_LOCKV p) + s.get (.PG_ERR_PENDWR p) + s.get (.PG_ERR_RANGE p)
    + s.get (.PG_ERR_LOCKDISC p) = 0
  let s := if clear then s.put (.PG_ERR_FIRSTW p) (off % 0x400 / 4) else s
  s.put flag 1

/-- The page whose address range holds an address, bits [1:0] taken as 0b00; the packet store window belongs to QMX;
the peer table and reserved space to none (R85). -/
def pageOf (a : Nat) : Option Nat :=
  if a < 0x8000 then (if pageExists (a / 0x400) then some (a / 0x400) else none)
  else if a < 0xE000 then some 9 else none

/-- SYS_ACC_ERR with its record (R85, R100): CAUSE 1 of a refused twin write or REVERT marks PENDWR, every other case
marks ACC. -/
def State.accErr (s : State) (a : Nat) (write : Bool) (cause : Nat) (pendwr : Bool := false) : State :=
  let s := s.raise Ev.SYS_ACC_ERR
  let s := if s.bit .SYS_ACC_INFO_VALID then s else
    (((s.put .SYS_ACC_INFO_VALID 1).putBit .SYS_ACC_INFO_WRITE write).put .SYS_ACC_INFO_CAUSE cause).put
      .SYS_ACC_INFO_ADDR a
  match pageOf a with
  | none => s
  | some p => s.pgErr p (if pendwr then .PG_ERR_PENDWR p else .PG_ERR_ACC p) a

/-- SYS_LOCK_VIOL with PG_ERR.LOCKV of the page (R84). -/
def State.lockViol (s : State) (p a : Nat) : State := (s.raise Ev.SYS_LOCK_VIOL).pgErr p (.PG_ERR_LOCKV p) a

/-! ### Frame records -/

/-- A transmit frame record by its number. -/
def State.txFrame (s : State) (id : Nat) : Option TxFrame := s.tx.find? fun f => f.id == id

/-! ### The packet store and the peer table -/

/-- The byte at an address of the packet store or the peer table. -/
def State.byteAt (s : State) (a : Nat) : Byte := Memory.read s.mem a

/-- A byte stored. -/
def State.putByte (s : State) (a : Nat) (b : Byte) : State := { s with mem := Memory.write s.mem a b }

/-- Bytes stored from an address upwards. -/
def State.putBytes (s : State) (a : Nat) : List Byte → State
  | [] => s
  | b :: bs => (s.putByte a b).putBytes (a + 1) bs

/-- The word at an address: its first byte in [31:24] (R8). -/
def State.memWord (s : State) (a : Nat) : Word :=
  s.byteAt a ++ s.byteAt (a + 1) ++ s.byteAt (a + 2) ++ s.byteAt (a + 3)

/-- The four bytes of a word, the byte of [31:24] first. -/
def wordBytes (w : Word) : List Byte :=
  [w.extractLsb' 24 8, w.extractLsb' 16 8, w.extractLsb' 8 8, w.extractLsb' 0 8]

/-- A word stored in the packet store or the peer table. -/
def State.putMemWord (s : State) (a : Nat) (w : Word) : State := s.putBytes a (wordBytes w)

/-- Bytes gathered into words, the last one filled with zeros. -/
def bytesWords : List Byte → List Word
  | a :: b :: c :: d :: r => (a ++ b ++ c ++ d) :: bytesWords r
  | [a, b, c] => [a ++ b ++ c ++ 0#8]
  | [a, b] => [a ++ b ++ 0#16]
  | [a] => [a ++ 0#24]
  | [] => []

/-- Words laid out as bytes. -/
def wordsBytes (l : List Word) : List Byte := l.flatMap wordBytes

end Sys2Proof.Machine
end

