-- ==== Sys2Proof/Machine/Sched.lean ====
section
/-! DEFINITION. The scheduler's shared operations: scheduler time, slots and descriptors, trigger and kind firings, task
ends (R200 to R217). The admission pass is in Pass.lean. -/

namespace Sys2Proof.Machine

/-! ### Time (R200) -/

/-- SCH_TIME (R200). -/
def State.schTime (s : State) : Nat := s.usec % 2 ^ 32

/-- Whether moment `e` of SCH_TIME has arrived, both modulo 2^32. -/
def State.arrived (s : State) (e : Nat) : Bool := (s.schTime + 2 ^ 32 - e % 2 ^ 32) % 2 ^ 32 < 2 ^ 31

/-- The first calendar-island cycle at which the unwrapped time is at least `t` µs. -/
def cycleAt (t : Nat) : Nat := (t * 4096 + 124999) / 125000

/-! ### Descriptors (R203) -/

/-- Descriptor word `i` of a slot. -/
def Slot.word (t : Slot) (i : Nat) : Word := t.words.getD i 0

/-- Bits [hi:lo] of a word as a number. -/
def bits (w : Word) (hi lo : Nat) : Nat := (w.toNat >>> lo) % 2 ^ (hi + 1 - lo)

def Slot.kind (t : Slot) : Nat := bits (t.word 0) 31 28
def Slot.engine (t : Slot) : Nat := bits (t.word 0) 27 24
def Slot.trig (t : Slot) : Nat := bits (t.word 0) 23 20
def Slot.trigen (t : Slot) : Bool := bits (t.word 0) 19 19 == 1
def Slot.tbase (t : Slot) : Bool := bits (t.word 0) 18 18 == 1
def Slot.cls (t : Slot) : Nat := bits (t.word 0) 17 16
def Slot.eovr (t : Slot) : Bool := bits (t.word 0) 15 15 == 1
def Slot.hovr (t : Slot) : Bool := bits (t.word 0) 14 14 == 1
/-- TXIN, implied for RAD_TX. -/
def Slot.txin (t : Slot) : Bool := bits (t.word 0) 13 13 == 1 || t.kind == 4
def Slot.once (t : Slot) : Bool := bits (t.word 0) 12 12 == 1
def Slot.start (t : Slot) : Nat := (t.word 1).toNat
def Slot.deadline (t : Slot) : Nat := (t.word 2).toNat
def Slot.period (t : Slot) : Nat := (t.word 3).toNat
def Slot.param (t : Slot) : Word := t.word 6

/-! ### Kinds (R205) -/

def Kind.COMET : Nat := 0
def Kind.NFC_POLL : Nat := 1
def Kind.NFC_TXN : Nat := 2
def Kind.RAD_RX_WIN : Nat := 3
def Kind.RAD_TX : Nat := 4
def Kind.RAD_CAL : Nat := 5
def Kind.LINE_CYCLE : Nat := 6
def Kind.LINE_TRAIN : Nat := 7
def Kind.FEC_BURST : Nat := 8
def Kind.TUNE_SWEEP : Nat := 9
def Kind.MEAS : Nat := 10
def Kind.USER : Nat := 11

/-- A resource that a task holds (R205). -/
inductive Resource where
  | field | radio | line | decoder
  deriving DecidableEq, Repr

/-- The resource of a kind (R205). -/
def kindResource : Nat → Option Resource
  | 0 | 1 | 2 | 9 => some .field
  | 3 | 4 | 5 => some .radio
  | 6 | 7 => some .line
  | 8 => some .decoder
  | _ => none

/-- The PHY code of LE_BIND that a kind's engine must have (R213 step 1, R297): 1 NFC, 2 line, 3 radio. -/
def kindPhy : Nat → Option Nat
  | 0 | 1 | 2 | 9 => some Phy.NFC
  | 3 | 4 | 5 => some Phy.RADIO
  | 6 | 7 => some Phy.LINE
  | _ => none

/-- The kinds without a pre-emption point (R205). -/
def kindRunsToEnd (k : Nat) : Bool := k == 0 || k == 2 || k == 5 || k == 7 || k == 10

/-! ### Slots -/

/-- Slot `i`. -/
def State.slot (s : State) (i : Nat) : Slot := s.sch.slots.getD i Slot.empty

/-- The states that SCH_IDLE watches: READY, deferred or RUNNING (R217). -/
def SlotState.active : SlotState → Bool
  | .ready | .deferE | .deferH | .deferM | .running => true
  | _ => false

/-- The deferred states. -/
def SlotState.deferred : SlotState → Bool
  | .deferE | .deferH | .deferM => true
  | _ => false

/-- Whether any slot is READY, deferred or RUNNING. -/
def State.anyActive (s : State) : Bool := s.sch.slots.any fun t => t.st.active

/-- The number of FREE slots. -/
def State.freeSlots (s : State) : Nat := s.sch.slots.countP fun t => t.st == .free

/-- SCH_QUEUE_LOW when the number of FREE slots falls to LOW or below, once until it has risen above (R217). A commit of
LOW is no fall. -/
def State.judgeQueueLow (s : State) (fell : Bool) : State :=
  if s.freeSlots ≤ s.get .SCH_QLOW_LOW then
    if s.sch.lowArmed && fell then ({ s with sch := { s.sch with lowArmed := false } }).raise Ev.SCH_QUEUE_LOW else s
  else { s with sch := { s.sch with lowArmed := true } }

/-- A mark that no condition of R145 has failed is lost: the count restarts at the next orbit. -/
def State.breakEmber (s : State) : State := { s with pwr := { s.pwr with emberBroken := true } }

/-- Any wake source brings the fabric out of Ember (R146). -/
def State.leaveEmber (s : State) : State :=
  if s.pwr.phase = .ember then { s with pwr := { s.pwr with phase := .waking, emberBroken := true, emberCount := 0 } }
  else s.breakEmber

/-- The slot keeps the part out of Ember: READY or RUNNING, of another kind than COMET (R145). -/
def Slot.barsEmber (t : Slot) : Bool := (t.st == .ready || t.st == .running) && t.kind != Kind.COMET

/-- Slot `i` replaced. SCH_IDLE when the last active slot leaves those states; SCH_QUEUE_LOW by the FREE count (R217). A
slot that keeps the part out of Ember breaks the count of R145. -/
def State.setSlot (s : State) (i : Nat) (t : Slot) : State :=
  let was := s.anyActive
  let wasFree := s.freeSlots
  let s := { s.whenB t.barsEmber State.breakEmber with sch := { s.sch with slots := s.sch.slots.set i t } }
  let s := s.raiseIf (was && !s.anyActive) Ev.SCH_IDLE
  if s.freeSlots = wasFree then s else s.judgeQueueLow (decide (s.freeSlots < wasFree))

/-- Slot numbers 0 to 63. -/
def slotNumbers : List Nat := List.range 64

/-- The RUNNING slots that satisfy a condition, in slot order. -/
def State.runningSlots (s : State) (p : Slot → Bool) : List Nat :=
  slotNumbers.filter fun i => (s.slot i).st == .running && p (s.slot i)

/-- The first RUNNING slot of a kind. -/
def State.runningKind (s : State) (k : Nat) : Option Nat := (s.runningSlots fun t => t.kind == k).head?

/-- The RUNNING slot that holds a resource. -/
def State.holder (s : State) (r : Resource) : Option Nat := (s.runningSlots fun t => kindResource t.kind == some r).head?

/-- A pass is requested (R201). -/
def State.requestPass (s : State) : State := { s with sch := { s.sch with passReq := true } }

/-- In hub role no LINE_CYCLE slot is made READY while the line's power is not ON (R360). -/
def State.lineBars (s : State) (t : Slot) : Bool := t.kind == Kind.LINE_CYCLE && s.hub && s.get .WIR_STAT_PWR != 3

/-- A WAITING slot becomes READY, and a pass is requested (R201, R209); one of another kind than COMET ends Ember (R146).
The moment itself is the earliest start of a slot that the calendar starts. -/
def State.makeReady (s : State) (i : Nat) : State :=
  let t := s.slot i
  if t.st = .waiting ∧ ¬ s.lineBars t then
    ((s.whenB (t.kind != Kind.COMET) State.leaveEmber).setSlot i { t with st := .ready, skipDay := true, estart := some (t.estart.getD s.schTime), cycles := s.line.cycles }).requestPass
  else s

/-- A trigger firing on line `m` (R210): every WAITING slot with TRIGEN on that line takes the present moment plus START
as its earliest start. -/
def State.fireTrigger (s : State) (m : Nat) : State :=
  { s with sch := { s.sch with slots := s.sch.slots.map fun t =>
      if t.st = .waiting ∧ t.trigen ∧ t.trig = m then { t with estart := some ((s.schTime + t.start) % 2 ^ 32) } else t } }

/-- A kind firing (R210) on every WAITING slot of kind `k`: with TRIGEN the firing's moment plus START, else the moment
itself. -/
def State.fireKind (s : State) (k : Nat) : State :=
  { s with sch := { s.sch with slots := s.sch.slots.map fun t =>
      if t.st = .waiting ∧ t.kind = k then
        { t with estart := some (if t.trigen then (s.schTime + t.start) % 2 ^ 32 else s.schTime) } else t } }

/-- Whether any slot of a kind is WAITING (R266). -/
def State.kindWaiting (s : State) (k : Nat) : Bool := s.sch.slots.any fun t => t.st == .waiting && t.kind == k

/-! ### Task ends (R211) -/

/-- How a task ends (R211, STATUS.LASTEND of R225). -/
inductive TaskEnd where
  | done | missed | aborted (cause : Nat) | preempted
  deriving DecidableEq, Repr

/-! Abort causes of STATUS.CAUSE (R225). -/
def Cause.SUPPLY : Nat := 1
def Cause.OVERTEMP : Nat := 2
def Cause.CLOCK : Nat := 3
def Cause.HOST : Nat := 4
def Cause.BIND : Nat := 5
def Cause.BLOCK : Nat := 6

/-- The next periodic earliest start after `e` at time `now`: the previous one plus PERIOD, whole periods added until it
lies in the future, with the number of periods skipped (R211). A start equal to the present time has passed (log
entry 4). -/
def nextPeriod (e period now : Nat) : Nat × Nat :=
  let late := (now + 2 ^ 32 - e % 2 ^ 32) % 2 ^ 32
  if late < 2 ^ 31 then
    let k := late / period + 1
    ((e + k * period) % 2 ^ 32, k - 1)
  else ((e + period) % 2 ^ 32, 0)

/-- Where a slot moves on to after an end (R211): its end state, or WAITING again. -/
def Slot.moveOn (t : Slot) (endSt : SlotState) (now : Nat) : Slot :=
  let t := { t with preempt := false, abort := false, long := false }
  if t.once ∨ (¬ t.trigen ∧ t.period = 0) then { t with st := endSt }
  else if t.trigen then { t with st := .waiting, estart := none }
  else if t.tbase then { t with st := .waiting, estart := none, skipDay := true }
  else
    let n := nextPeriod (t.estart.getD now) t.period now
    { t with st := .waiting, estart := some n.1, skip := min 0xFF (t.skip + n.2) }

/-- The end event, the counter and the STATUS codes of an end (R211, R225, R227). -/
def TaskEnd.lastEnd : TaskEnd → Nat
  | .done => 1
  | .missed => 2
  | .aborted _ => 3
  | .preempted => 4

def TaskEnd.event : TaskEnd → Nat
  | .done => Ev.SCH_TASK_DONE
  | .missed => Ev.SCH_TASK_MISSED
  | .aborted _ => Ev.SCH_TASK_ABORT
  | .preempted => Ev.SCH_PREEMPT

def TaskEnd.state : TaskEnd → SlotState
  | .done => .done
  | .missed => .missed
  | _ => .aborted

def TaskEnd.cause : TaskEnd → Nat
  | .aborted c => c
  | _ => 0

/-- The end's count in SCH_CNT (R227). -/
def State.countEnd (s : State) (e : TaskEnd) : State :=
  match e with
  | .done => s
  | .missed => s.sat .SCH_CNT_MISSED
  | .aborted _ => s.sat .SCH_CNT_ABORT
  | .preempted => s.sat .SCH_CNT_PREEMPT

/-- The SCH_ENDPEND bit of slot `i` sets (R226). -/
def State.setEndPend (s : State) (i : Nat) : State :=
  s.wr (Adr.SCH_ENDPEND (i / 32)) (s.rd (Adr.SCH_ENDPEND (i / 32)) ||| BitVec.ofNat 32 (2 ^ (i % 32)))

/-- The running task of slot `i` has run longer than its declared duration (R204). -/
def State.ranLong (s : State) (t : Slot) : Bool :=
  t.st == .running && t.kind != Kind.USER && !t.long
    && t.durMs * 1000 < (s.schTime + 2 ^ 32 - t.started) % 2 ^ 32

/-- The task of slot `i` ends (R211): ENDPEND, STATUS, event, count, the move on, and a pass (R201). A slot that
SCH_SLOTCMD aborts does not repeat (R218). -/
def State.endTask (s : State) (i : Nat) (e : TaskEnd) : State :=
  let t := s.slot i
  let s := s.whenB (s.ranLong t) fun s => s.sat .SCH_CNT_LONG
  let s := ((s.setEndPend i).countEnd e).put .SCH_LAST_END i
  let s := s.whenB (e == .preempted) fun s => s.put .SCH_LAST_PREEMPTED i
  let t := { t with lastEnd := e.lastEnd, cause := e.cause }
  let t := if t.abort then { t with st := .aborted, preempt := false, abort := false, long := false }
    else t.moveOn e.state s.schTime
  ((s.raise e.event).setSlot i t).requestPass

/-- The end of every RUNNING task that satisfies a condition. -/
def State.endTasks (s : State) (p : Slot → Bool) (e : TaskEnd) : State :=
  s.forEach (s.runningSlots p) fun s i => s.endTask i e

/-- A running class-3 task that has been asked to stop, or that the host stops, at its stopping point: its end (R216,
R218). -/
def Slot.stopEnd (t : Slot) : Option TaskEnd :=
  if t.abort then some (.aborted Cause.HOST) else if t.preempt then some .preempted else none

/-! ### Costs (R204) -/

/-- The energy cost of a slot's task in µJ. -/
def State.taskEnergy (s : State) (t : Slot) : Nat :=
  if t.eovr then bits (t.word 4) 23 0 else s.get (.SCH_COST_E_E t.kind)

/-- The heat power of a slot's task in 1/16 mW. -/
def State.taskPower (s : State) (t : Slot) : Nat :=
  if t.hovr then bits (t.word 5) 15 0 else s.get (.SCH_COST_H_P t.kind)

/-- The declared duration of a slot's task in ms. -/
def State.taskDur (s : State) (t : Slot) : Nat :=
  if t.hovr then bits (t.word 5) 31 16 else s.get (.SCH_COST_H_D t.kind)

/-! ### Slot commands (R218, R224, R227) -/

/-- A refused SCH_SLOTCMD: SCH_SLOT_ERR, and the first one is recorded in SCH_ERRINFO (R217, R227). -/
def State.slotRefuse (s : State) (i cause : Nat) : State :=
  let s := s.raise Ev.SCH_SLOT_ERR
  if s.bit .SCH_ERRINFO_VALID then s else
    ((s.put .SCH_ERRINFO_VALID 1).put .SCH_ERRINFO_SLOT i).put .SCH_ERRINFO_CAUSE cause

/-- SCH_SLOTSTATE code of a state (R208). -/
def SlotState.code : SlotState → Nat
  | .free => 0 | .waiting => 1 | .ready => 2 | .deferE => 3 | .deferH => 4 | .deferM => 5
  | .running => 6 | .done => 7 | .missed => 8 | .aborted => 9

/-- STATUS, descriptor word 7 (R225). -/
def Slot.status (t : Slot) : Word :=
  BitVec.ofNat 32 (t.st.code * 2 ^ 28 + t.lastEnd * 2 ^ 24 + t.cause * 2 ^ 20 + t.reason * 2 ^ 16 + t.defers * 2 ^ 8 + t.skip)

/-- LOAD: the slot's words into SCH_WIN0 to SCH_WIN7 (R218). -/
def State.slotLoad (s : State) (i : Nat) : State :=
  let t := s.slot i
  (s.forEach (List.range 7) fun s k => s.wr (Adr.SCH_WIN k) (t.word k)).wr Adr.SCH_WIN7 t.status

/-- The range check of words 0 to 6 at ARM, with the SCH_ERRINFO cause of the first that fails (R203, R218, R227). -/
def descriptorFault (t : Slot) : Option Nat :=
  if 12 ≤ t.kind then some 2
  else if 8 ≤ t.engine ∧ t.engine ≠ 15 then some 3
  else if t.tbase ∧ t.trigen then some 4
  else if ¬ t.tbase ∧ 0x7FFFFFFF < t.start then some 4
  else if t.tbase ∧ 86400 ≤ t.start / 2 ^ 15 then some 4
  else if t.deadline = 0 ∨ (0x7FFFFFFF < t.deadline ∧ t.deadline ≠ 0xFFFFFFFF) then some 4
  else if ¬ t.tbase ∧ t.period ≠ 0 ∧ (t.period < 1000 ∨ 0x7FFFFFFF < t.period) then some 4
  else if t.hovr ∧ bits (t.word 5) 31 16 = 0 then some 7
  else none

/-- The time of day of the calendar in 1/32 768 s (R203, R209). -/
def State.timeOfDay (s : State) : Nat :=
  ((s.cal.hour * 60 + s.cal.minute) * 60 + s.cal.second) * 2 ^ 15 + s.cal.sub

/-- ARM (R218, R209). -/
def State.slotArm (s : State) (i : Nat) : State :=
  let old := s.slot i
  let t : Slot := { Slot.empty with st := .waiting, words := (List.range 7).map fun k => s.rd (Adr.SCH_WIN k) }
  if s.legacyHolds i then s.slotRefuse i 5
  else if old.st = .free ∨ old.st = .done ∨ old.st = .missed ∨ old.st = .aborted then
    match descriptorFault t with
    | some c => s.slotRefuse i c
    | none =>
      let now := s.schTime
      let t := if t.trigen then t
        else if t.tbase then { t with skipDay := t.start ≤ s.timeOfDay }
        else { t with estart := some ((now + t.start) % 2 ^ 32) }
      s.setSlot i t
  else s.slotRefuse i 1

/-- FREE (R218). -/
def State.slotFree (s : State) (i : Nat) : State :=
  if s.legacyHolds i then s.slotRefuse i 5
  else if (s.slot i).st = .running then s.slotRefuse i 1
  else s.setSlot i Slot.empty

/-- A WAITING slot whose earliest start has arrived, or that a calendar time of day has reached (R209). -/
def State.slotDue (s : State) (i : Nat) : Bool :=
  let t := s.slot i
  t.st == .waiting && !s.lineBars t && (match t.estart with
    | some e => s.arrived e
    | none => !t.trigen && t.tbase && !t.skipDay && decide (t.start ≤ s.timeOfDay))

/-- Every due slot becomes READY (R209: on the first calendar-island cycle at which its earliest start has arrived). -/
def State.readyDue (s : State) : State :=
  s.forEach slotNumbers fun s i => if s.slotDue i then s.makeReady i else s

end Sys2Proof.Machine
end

