-- ==== Sys2Proof/Machine/Islands.lean ====
section
/-! DEFINITION. Gating of the clock islands and the need for the XO (R231, R232, R246), and the end of a task with the
gating that follows from it. -/

namespace Sys2Proof.Machine

/-! Islands of CLK_GATE_STAT (R251). -/
def Island.NFC : Nat := 0
def Island.MODEM : Nat := 1
def Island.WIRE : Nat := 2
def Island.FEC : Nat := 3

/-! Island states (R251). -/
def Gate.GATED : Nat := 0
def Gate.STARTING : Nat := 1
def Gate.RUN : Nat := 2
def Gate.WAIT : Nat := 3

/-- CLK_GATE_STAT's field of island `i`. -/
def Fld.gate (i : Nat) : Fld := ⟨Adr.CLK_GATE_STAT, 4 * i + 1, 4 * i⟩

/-- The island is in CLK_ISL_WAIT (R238). -/
def State.islandWaits (s : State) (i : Nat) : Bool := s.get (.gate i) == Gate.WAIT

/-- The XO is judged good (R234). -/
def State.xoGood (s : State) : Bool := s.get .CLK_STAT_XO == 2

/-- The fallback source of a node (R230), as a WSRC code. -/
def State.wireFallbackSrc (s : State) : Nat := if s.get .CLK_XO_CFG_MODE ≠ 2 && s.xoGood then 2 else 3

/-- The source CLK_WIRE_SRC calls for by the state of clock recovery, without the hold of AUTO (R241). -/
def State.wireWanted (s : State) : Nat :=
  if s.hub then 0
  else if s.get .CLK_WIRE_SRC_SRC = 2 then s.wireFallbackSrc
  else if s.bit .CLK_STAT_CDR then 1 else s.wireFallbackSrc

/-- Whether anything is queued on a crossing. -/
def State.xingBusy (s : State) (n : Nat) : Bool :=
  let x := s.xing n
  !x.waiting.isEmpty || !x.unacked.isEmpty || !x.owned.isEmpty

/-- The condition that keeps an island awake (R246). The FEC island follows R244 and is not judged here. -/
def State.islandWanted (s : State) (i : Nat) : Bool :=
  if i = Island.NFC then
    (s.holder .field).isSome || s.xingBusy 0 || s.xingBusy 1 || s.bit .NFC_STAT_FIELD
  else if i = Island.MODEM then (s.holder .radio).isSome || s.xingBusy 4 || s.xingBusy 5
  else if i = Island.WIRE then s.enabled 0xE
  else s.get (.gate i) != Gate.GATED

/-- Whether an island's source is the XO: NFC and modem always; wire in hub role (R228) or on XO/8 fallback (R231). -/
def State.islandOnXo (s : State) (i : Nat) : Bool :=
  i = Island.NFC || i = Island.MODEM || (i = Island.WIRE && (s.hub || s.get .CLK_STAT_WSRC == 2))

/-- The HFRC's reference (R247): 0 none, 1 XO, 2 recovered line clock. -/
def State.hfrcRef (s : State) : Nat :=
  let d := s.get .CLK_HFRC_CFG_DISC
  if (d = 1 || d = 3) && s.xoGood then 1
  else if (d = 2 || d = 3) && s.bit .CLK_STAT_CDR then 2 else 0

/-- The conditions that keep the XO running (R231). -/
def State.xoNeeded (s : State) : Bool :=
  s.get .CLK_XO_CFG_MODE != 2 &&
    (s.bit .CLK_XO_CTRL_KEEP
      || [Island.NFC, Island.MODEM, Island.WIRE].any (fun i => s.islandOnXo i && s.get (.gate i) != Gate.GATED)
      || s.clk.lfrcCal == some 1 || (s.clk.hfrcTrim && s.hfrcRef == 1))

/-- The XO starts, with its judgement from the beginning, or stops (R231, R232). -/
def State.syncXo (s : State) : State :=
  if s.xoNeeded then
    if s.get .CLK_STAT_XO = 0 then
      { s.put .CLK_STAT_XO 1 with clk := { s.clk with xoRun := 0, xoSince := 0, xoBad := 0 } }
    else s
  else if s.get .CLK_STAT_XO = 0 then s
  else s.put .CLK_STAT_XO 0

/-- One island gated or ungated (R246); an island that needs the XO stays STARTING until it is good (R232). WAIT ends
only with the XO (R238). The wire island starts on the source that R241 calls for, which settles a switch that is still
due (log entry 17). An island that ungates breaks the count of R145. -/
def State.syncIsland (s : State) (i : Nat) : State :=
  let st := s.get (.gate i)
  if st = Gate.WAIT then s
  else if s.islandWanted i then
    if st = Gate.GATED then
      let s := if i = Island.WIRE then
          { s.put .CLK_STAT_WSRC s.wireWanted with clk := { s.clk with wireReq := none, wireStop := false } } else s
      (s.breakEmber.put (.gate i) (if s.islandOnXo i && !s.xoGood then Gate.STARTING else Gate.RUN)).syncXo
    else s
  else if st = Gate.GATED then s
  else s.put (.gate i) Gate.GATED

/-- Gating of the NFC, modem and wire islands, then the XO (R231, R246). -/
def State.syncIslands (s : State) : State :=
  (((s.syncIsland Island.NFC).syncIsland Island.MODEM).syncIsland Island.WIRE).syncXo

/-- The end of slot `i`'s task (R211), with the gating it leads to. A task that SCH_SLOTCMD aborts ends ABORTED with
cause HOST whatever ends it (R218); one that held slot 63 when the legacy view took the slot leaves it FREE (R125). -/
def State.taskEnds (s : State) (i : Nat) (e : TaskEnd) : State :=
  let t := s.slot i
  let us := (s.schTime + 2 ^ 32 - t.started) % 2 ^ 32
  let since := s.usec - s.thm.lastUs
  let s := if t.st = .running then
      { s with thm := { s.thm with heatAcc := s.thm.heatAcc + t.power * min us since } } else s
  let stopped := s.legacyHolds i && t.abort
  let e := if t.abort then .aborted Cause.HOST else e
  let s := (s.endTask i e).syncIslands
  if stopped then s.setSlot i Slot.empty else s

/-- The end of every RUNNING task that satisfies a condition. -/
def State.tasksEnd (s : State) (p : Slot → Bool) (e : TaskEnd) : State :=
  s.forEach (s.runningSlots p) fun s i => s.taskEnds i e

/-- Whether the part runs: Kindling is over (R148). -/
def State.up (s : State) : Bool :=
  s.pwr.phase == .up || s.pwr.phase == .ember || s.pwr.phase == .waking

/-- What pin `b` (false IRQ_A, true IRQ_B) drives (R129, R130, R143): high impedance with EN 0, without VDD_IO and in
reset; in open-drain drive a level to be driven high is released. -/
def State.irqPin (s : State) (b : Bool) : PinDrive :=
  if !s.up || !s.pwr.ioUp || !s.bit (if b then .IRQ_PINCFG_B_EN else .IRQ_PINCFG_A_EN) then .highZ
  else if s.irqAsserted b == s.bit (if b then .IRQ_PINCFG_B_POL else .IRQ_PINCFG_A_POL) then
    (if s.bit (if b then .IRQ_PINCFG_B_DRV else .IRQ_PINCFG_A_DRV) then .high else .highZ)
  else .low

/-- The wake by a WAKE edge or the first host access raises HIF_WAKE (R131). -/
def State.hostWake (s : State) : State :=
  if s.pwr.phase = .ember then s.leaveEmber.raise Ev.HIF_WAKE else s.breakEmber

/-- A meaning that acts only while the part runs; in reset the command finds nothing to act on. -/
def State.live (s : State) (f : State → State) : State := if s.up then f s else s

/-- What of a change `t` of the part in reset survives it: the Ember domain's own, the calendar, the LXO's judgement and
their registers. No event is raised, the page's counters stand, and SCH_TIME does not run (R11, R249). -/
def State.emberOnly (s t : State) : State :=
  let t := (t.wr (Adr.PG_EVT_RAW 3) (s.rd (Adr.PG_EVT_RAW 3))).wr (Adr.PG_EVT_RAW 7) (s.rd (Adr.PG_EVT_RAW 7))
  let t := t.wr Fld.CLK_FAILCNT_XO.addr (s.rd Fld.CLK_FAILCNT_XO.addr)
  { s with regs := t.regs, cal := t.cal, clk := t.clk }

/-- A meaning of the Ember domain, which acts in reset too. -/
def State.always (s : State) (f : State → State) : State := if s.up then f s else s.emberOnly (f s)

end Sys2Proof.Machine
end

