-- ==== Sys2Proof/Machine/Bank.lean ====
section
/-! DEFINITION. The Hearth bank and the supply measurements (R160 to R166). -/

namespace Sys2Proof.Machine

/-- PWR_BANK_LEVEL.LEVEL in µJ. -/
def State.bankLevel (s : State) : Nat := s.get .PWR_BANK_LEVEL_LEVEL

/-- PWR_BANK_LOW, PWR_BANK_CRIT and PWR_BANK_OK on the level as it stands (R164). -/
def State.judgeBank (s : State) : State :=
  let level := s.bankLevel
  let low := 16 * s.get .PWR_BANK_THR_LOW
  let crit := 16 * s.get .PWR_BANK_THR_CRIT
  let s := if s.pwr.lowArmed && level < low then
      ({ s with pwr := { s.pwr with lowArmed := false } }).raise Ev.PWR_BANK_LOW else s
  let s := if s.pwr.critArmed && level < crit then
      ({ s with pwr := { s.pwr with critArmed := false } }).raise Ev.PWR_BANK_CRIT else s
  if (!s.pwr.lowArmed || !s.pwr.critArmed) && low + low / 8 ≤ level then
    ({ s with pwr := { s.pwr with lowArmed := true, critArmed := true } }).raise Ev.PWR_BANK_OK
  else s

/-- A level change: between 0 and 0xFF_FFFF (R160), judged under R164. -/
def State.setBank (s : State) (v : Nat) : State := (s.put .PWR_BANK_LEVEL_LEVEL (min v 0xFFFFFF)).judgeBank

/-- The refill of an orbit (R161): in kind LINE, RATE × 1 ms up to CAP, the part below 1 µJ carried. A level above CAP
(a commit lowered it) is kept (log entry 6). -/
def State.refillBank (s : State) : State :=
  if s.get .PWR_BANK_KIND_KIND = 0 then
    let nj := s.get .PWR_BANK_RATE_RATE + s.pwr.bankFrac
    let cap := s.get .PWR_BANK_CAP_CAP
    let level := s.bankLevel
    let s := { s with pwr := { s.pwr with bankFrac := nj % 1000 } }
    s.setBank (if cap ≤ level then level else min cap (level + nj / 1000))
  else s.judgeBank

/-- The SUPERCAP level of a store voltage in mV: C × (V² − Vfloor²) ÷ 2000, 0 at or below the floor (R161). -/
def State.capLevel (s : State) (v : Nat) : Nat :=
  let f := s.get .PWR_BANK_STORE_VFLOOR
  if v ≤ f then 0 else s.get .PWR_BANK_STORE_C_MF * (v * v - f * f) / 2000

/-- The level of VDD_MAIN that a command last told, in mV. -/
def State.mainAt (s : State) (mv : Nat) : State := { s with pwr := { s.pwr with mainMv := mv } }

/-- A measurement of VDD_MAIN and VSTORE_SNS in mV (R162): a store above 3.60 V reads 3600 mV; a SUPERCAP level is
replaced (R161). -/
def State.measure (s : State) (vmain vstore : Nat) : State :=
  let v := min vstore 3600
  let s := ((s.mainAt vmain).put .PWR_VMEAS_VMAIN vmain).put .PWR_VMEAS_VSTORE v
  if s.get .PWR_BANK_KIND_KIND = 1 then s.setBank (s.capLevel v) else s

/-- The level at the start of the bank after a reset (R163): CAP in LINE, 0 in BATTERY, a measurement in SUPERCAP. The
thresholds are judged at SYS_READY by the caller. -/
def State.startBank (s : State) (vmain vstore : Nat) : State :=
  let k := s.get .PWR_BANK_KIND_KIND
  if k = 0 then s.put .PWR_BANK_LEVEL_LEVEL (s.get .PWR_BANK_CAP_CAP)
  else if k = 1 then
    let v := min vstore 3600
    ((s.put .PWR_VMEAS_VMAIN vmain).put .PWR_VMEAS_VSTORE v).put .PWR_BANK_LEVEL_LEVEL (min (s.capLevel v) 0xFFFFFF)
  else s.put .PWR_BANK_LEVEL_LEVEL 0

/-- The level on a change of KIND by a commit (R163), then the judgement after every application (R164). The command that
commits carries no supply level, so the voltages of SUPERCAP's immediate measurement are free values. A BATTERY or LINE
level above a smaller CAP that applies with KIND unchanged is kept: BATTERY's until the next PWR_BANK_ADJ clamps it (log
entry 6). -/
def State.bankApplied (s : State) (kindChanged : Bool) : State :=
  if kindChanged then
    if s.get .PWR_BANK_KIND_KIND = 1 then
      let a := s.freshBelow 4096
      let b := a.2.freshBelow 3601
      b.2.measure a.1 b.1
    else s.setBank (min s.bankLevel (s.get .PWR_BANK_CAP_CAP))
  else s.judgeBank

/-- PWR_BANK_ADJ (R170): OP 0 adds VALUE, saturating at CAP; OP 1 sets the level, clamped to CAP; BATTERY kind only. -/
def State.bankAdjust (s : State) (op : Bool) (v : Nat) : State :=
  if s.get .PWR_BANK_KIND_KIND = 2 then
    s.setBank (min (s.get .PWR_BANK_CAP_CAP) (if op then v else s.bankLevel + v))
  else s.accErr Adr.PWR_BANK_ADJ true 1

/-- VWARN in mV (R151). -/
def State.vwarn (s : State) : Nat := 1900 + 50 * s.get .PWR_WARN_LVL_LVL

/-- The range checks of the PWR page (R165), by twin offset. -/
def pwrRange (s : State) : List (Nat × Bool) :=
  let kind := s.getTwin .PWR_BANK_KIND_KIND
  [(0x240, s.getTwin .PWR_WARN_LVL_LVL == 31),
   (0x24C, kind == 3),
   (0x250, s.getTwin .PWR_BANK_CAP_CAP == 0),
   (0x258, kind == 1 && (s.getTwin .PWR_BANK_STORE_C_MF == 0 || 3600 < s.getTwin .PWR_BANK_STORE_VFLOOR)),
   (0x25C, s.getTwin .PWR_BANK_THR_LOW < s.getTwin .PWR_BANK_THR_CRIT),
   (0x260, s.getTwin .PWR_RESV1_RESV < s.getTwin .PWR_RESV0_RESV),
   (0x264, s.getTwin .PWR_RESV2_RESV < s.getTwin .PWR_RESV1_RESV),
   (0x268, s.getTwin .PWR_RESV3_RESV < s.getTwin .PWR_RESV2_RESV),
   (0x270, s.getTwin .PWR_LINE_ILIM_ILIM < 5 || 80 < s.getTwin .PWR_LINE_ILIM_ILIM)]

end Sys2Proof.Machine
end

