-- ==== Sys2Proof/Machine/Thermal.lean ====
section
/-! DEFINITION. Temperature samples, the threshold comparators, the Flue ledger, the analogue inputs and the heater
(R174 to R199). The over-temperature trip is in Forced.lean. -/

namespace Sys2Proof.Machine

/-- A field read as a two's complement number. -/
def State.getS (s : State) (f : Fld) : Int :=
  let v := s.get f
  if v < 2 ^ (f.width - 1) then (v : Int) else (v : Int) - 2 ^ f.width

/-- A field set to a two's complement number, cut to its width. -/
def State.putS (s : State) (f : Fld) (i : Int) : State := s.put f (i % (2 ^ f.width : Nat)).toNat

/-- The mean of a list of samples, truncated towards minus infinity (R175). -/
def mean (l : List Int) : Int := if l.isEmpty then 0 else l.foldl (· + ·) 0 / (l.length : Int)

/-- FILT of a history of periodic samples, newest first (R175). -/
def filtOf (cfg : Nat) (temp : Int) (hist : List Int) : Int :=
  if cfg = 1 then mean (hist.take 4) else if cfg = 2 then mean (hist.take 8) else temp

/-- A sample that fills the filter (R175): at Kindling, and after a commit that changed THM_CFG.FILT. -/
def State.fillFilter (s : State) (t : Int) : State :=
  ({ s with thm := { s.thm with hist := List.replicate 8 t, refill := false } }.putS .THM_TEMP_TEMP t).putS
    .THM_TEMP_FILT t

/-- TEMP and FILT at a periodic sample (R174 items 1 and 2, R175). -/
def State.takeSample (s : State) (t : Int) : State :=
  if s.thm.refill then s.fillFilter t
  else
    let h := (t :: s.thm.hist).take 8
    ({ s with thm := { s.thm with hist := h } }.putS .THM_TEMP_TEMP t).putS .THM_TEMP_FILT
      (filtOf (s.get .THM_CFG_FILT) t h)

/-- One step of R177 for a comparator of the given level, hysteresis (1/16 °C) and dwell: the new TRIPPED and count. -/
def comparatorStep (below : Bool) (l h : Int) (d : Nat) (tripped : Bool) (count : Nat) (filt : Int) : Bool × Nat :=
  let hit := if tripped then (if below then decide (l + h ≤ filt) else decide (filt ≤ l - h))
    else (if below then decide (filt ≤ l) else decide (l ≤ filt))
  if hit then (if d ≤ count + 1 then (!tripped, 0) else (tripped, count + 1)) else (tripped, 0)

/-- Comparator `c` steps on FILT and raises THM_A to THM_D as EVT selects (R177, R178). -/
def State.stepComparator (s : State) (c : Nat) : State :=
  let evt := s.get (.THM_LVL_EVT c)
  if evt = 0 then (s.put (.THM_CMP_STAT_TRIPPED c) 0).put (.THM_CMP_STAT_CNT c) 0
  else
    let was := s.bit (.THM_CMP_STAT_TRIPPED c)
    let r := comparatorStep (s.bit (.THM_LVL_POL c)) (4 * s.getS (.THM_LVL_LVL c)) (4 * (s.get (.THM_HYST_HYST c) : Int))
      (s.get (.THM_DWELL_DWELL c) + 1) was (s.get (.THM_CMP_STAT_CNT c)) (s.getS .THM_TEMP_FILT)
    let s := (s.putBit (.THM_CMP_STAT_TRIPPED c) r.1).put (.THM_CMP_STAT_CNT c) r.2
    s.raiseIf (r.1 != was && (evt == 3 || evt == (if r.1 then 1 else 2))) (Ev.THM_A + c)

/-! ### The heater (R188) -/

/-- The heater's power in 1/16 mW (R188). -/
def State.heaterPower (s : State) : Nat := 160 * 2 ^ s.get .THM_HEAT_LEVEL

/-- MAXT in µs; 0 acts as 1 (R188, R196). -/
def State.heatLimit (s : State) : Nat := max 1 (s.get .THM_HEAT_MAXT) * 60000000

/-- THM_FLAGS.HEAT follows EN, the Damper and over-temperature; heat of a run that ends is kept for the interval. -/
def State.syncHeater (s : State) : State :=
  let on := s.bit .THM_HEAT_EN && !s.bit .PWR_MODE_DAMPER && !s.bit .THM_FLAGS_OT
  let was := s.bit .THM_FLAGS_HEAT
  if on = was then s
  else if on then { s.put .THM_FLAGS_HEAT 1 with thm := { s.thm with heatSince := s.usec } }
  else
    { s.put .THM_FLAGS_HEAT 0 with
      thm := { s.thm with
        heatAcc := s.thm.heatAcc + s.heaterPower * (s.usec - max s.thm.heatSince s.thm.lastUs)
        heatRun := s.thm.heatRun + (s.usec - s.thm.heatSince) } }

/-! ### The Flue ledger (R182 to R185) -/

/-- `num / den` where the manual states no rounding: exact where it divides, else either neighbour (a free value). -/
def State.roundFree (s : State) (num den : Nat) : Nat × State :=
  if num % den = 0 then (num / den, s) else let r := s.freshBelow 2; (num / den + r.1, r.2)

/-- `num / den` rounded to the nearest unit, halves away from zero (R183). -/
def roundHalf (num : Int) (den : Nat) : Int :=
  if num < 0 then -((-num * 2 + den) / (2 * den)) else (num * 2 + den) / (2 * den)

/-- The dissipation P of the interval that ends now, in 1/16 mW (R182). The base power counts for the whole interval
by the mode at its end, and an interval of no length counts each running task and the heater in full (log entry 65).
-/
def State.fluePower (s : State) : Nat × State :=
  let now := s.usec
  let len := now - s.thm.lastUs
  let base := if s.pwr.phase = .ember then 0 else s.get .FLUE_PWR_BASE
  let run := s.runningSlots fun _ => true
  let part := fun (st : Nat) => min ((s.schTime + 2 ^ 32 - st) % 2 ^ 32) len
  let heat := if s.bit .THM_FLAGS_HEAT then s.heaterPower else 0
  if len = 0 then
    (base + s.get .FLUE_PWR_EXT + heat + (run.map fun i => (s.slot i).power).sum, s)
  else
    let acc := s.thm.heatAcc + (run.map fun i => (s.slot i).power * part (s.slot i).started).sum
      + heat * (now - max s.thm.heatSince s.thm.lastUs)
    let r := s.roundFree acc len
    (base + s.get .FLUE_PWR_EXT + r.1, r.2)

/-- One stage of R183: K in Q8.8 mK/mW, P in 1/16 mW, x in 1/256 mK, Δt/τ as a fraction. -/
def flueStage (k p x dtNum dtDen : Nat) : Nat :=
  let kp := roundHalf (k * p : Nat) 16
  let num := min dtNum dtDen
  ((x : Int) + roundHalf ((kp - x) * num) dtDen).toNat

/-- FLUE_K1 to FLUE_K3 and FLUE_TAU1 to FLUE_TAU3. -/
def State.flueK (s : State) (i : Nat) : Nat := s.get (.FLUE_K_K i)
def State.flueTau (s : State) (i : Nat) : Nat := s.get (.FLUE_TAU_TAU i)

/-- FLUE_BIAS of the stage states (R183). -/
def State.flueSum (s : State) : Nat := min 0xFFFF ((s.get (.FLUE_X_XI 0) + s.get (.FLUE_X_XI 1) + s.get (.FLUE_X_XI 2)) / 256)

/-- The ledger's update at a periodic sample (R183, R185, R191). The interval of an update that spans the entry to
Ember or the exit is the one of the mode at the sample's completion, waking counting as IDLE (log entry 65). -/
def State.flueUpdate (s : State) : State :=
  let s := s.forEach (List.range 3) fun s i => match s.thm.xWrite.getD i none with
    | some v => s.put (.FLUE_X_XI i) v
    | none => s
  let r := s.fluePower
  let s := r.2
  let dt := if s.pwr.phase = .ember then 100 else 1
  let s := s.forEach (List.range 3) fun s i =>
    s.put (.FLUE_X_XI i) (flueStage (s.flueK i) r.1 (s.get (.FLUE_X_XI i)) dt (10 * s.flueTau i))
  let s := { s with thm := { s.thm with xWrite := [none, none, none], lastUs := s.usec, heatAcc := 0 } }
  let s := (s.put .FLUE_PSTAT_P (min r.1 0xFFFF)).put .FLUE_BIAS_BIAS s.flueSum
  let bias := s.get .FLUE_BIAS_BIAS
  let limit := s.get .FLUE_LIMIT_LIMIT
  if s.bit .THM_FLAGS_FLUEOVER then
    if bias + s.get .FLUE_LIMIT_CLRHYS ≤ limit then (s.put .THM_FLAGS_FLUEOVER 0).raise Ev.THM_FLUE_CLEAR else s
  else if limit < bias then (s.put .THM_FLAGS_FLUEOVER 1).raise Ev.THM_FLUE_LIMIT else s

/-- ΔB of a task with heat power p (1/16 mW) and duration d (ms), rounded up to whole mK (R184, R214). -/
def State.deltaB (s : State) (p d : Nat) : Nat :=
  let term := fun i => (s.flueK i * p * min d (100 * s.flueTau i), 4096 * 100 * s.flueTau i)
  let a := term 0; let b := term 1; let c := term 2
  let den := a.2 * b.2 * c.2
  let num := a.1 * b.2 * c.2 + b.1 * a.2 * c.2 + c.1 * a.2 * b.2
  (num + den - 1) / den

/-! ### Analogue inputs (R186, R187) -/

/-- One conversion of each enabled AIN channel starts. -/
def State.startAin (s : State) : State :=
  let ch := (if s.bit .THM_AIN_CTRL_CH0EN then [0] else []) ++ (if s.bit .THM_AIN_CTRL_CH1EN then [1] else [])
  { s with thm := { s.thm with ainBusy := s.thm.ainBusy ++ ch.filter fun c => !s.thm.ainBusy.contains c } }

/-- The PERIOD count of R187 at a periodic sample. -/
def State.ainPeriodic (s : State) : State :=
  let p := s.get .THM_AIN_CTRL_PERIOD
  if p = 0 then s
  else if p ≤ s.thm.ainCount + 1 then ({ s with thm := { s.thm with ainCount := 0 } }).startAin
  else { s with thm := { s.thm with ainCount := s.thm.ainCount + 1 } }

/-- CODE of an input at `v` against VDD_ANA at `vdd`, in one unit: floor(16384 v / vdd), 16383 at or above VDD_ANA
(R187). -/
def ainCode (v vdd : Nat) : Nat := if vdd ≤ v then 16383 else 16384 * v / vdd

/-- A conversion's result: CODE, VALID set (R187). -/
def State.ainResult (s : State) (c code : Nat) : State :=
  if s.thm.ainBusy.contains c then
    let s := { s with thm := { s.thm with ainBusy := s.thm.ainBusy.filter (· != c) } }
    (s.put (.THM_AIN_CODE c) code).put (.THM_AIN_VALID c) 1
  else s

/-- FLUE_SNAPSHOT (R186). -/
def State.flueSnapshot (s : State) : State :=
  let s := (s.put .FLUE_SNAP_TEMP (s.get .THM_TEMP_TEMP)).put .FLUE_SNAP_BIAS (s.get .FLUE_BIAS_BIAS)
  if s.bit .THM_AIN_CTRL_SNAPAIN then s.startAin else s

/-- TEMP_SAMPLE (R176): a requested sample starts. -/
def State.startExtraSample (s : State) : State := { s with thm := { s.thm with extra := true } }

/-- The range checks of the THM page (R190), by twin offset. -/
def thmRange (s : State) : List (Nat × Bool) :=
  let lvl := fun c => let v := s.getS (Fld.THM_LVL_LVL c).twin; decide (v < -160) || decide (600 < v)
  let hyst := fun c => let v := s.getTwin (.THM_HYST_HYST c); v == 0 || decide (32 < v)
  let tau := fun i => let v := s.getTwin (.FLUE_TAU_TAU i); v == 0 || decide (40000 < v)
  [(0x240, s.getTwin .THM_CFG_FILT == 3)]
    ++ (List.range 4).map (fun c => (0x244 + 4 * c, lvl c))
    ++ (List.range 4).map (fun c => (0x254 + 4 * c, hyst c))
    ++ (List.range 3).map (fun i => (0x280 + 4 * i, tau i))

/-- What an application of the THM page does beside the copy (R175, R189): a comparator whose fields changed becomes
ARMED with count 0; a changed FILT fills the filter at the next periodic sample. -/
def State.thmApplied (s old : State) : State :=
  let s := s.forEach (List.range 4) fun s c =>
    if s.rd (Adr.THM_LVL c) ≠ old.rd (Adr.THM_LVL c) ∨ s.rd (Adr.THM_HYST c) ≠ old.rd (Adr.THM_HYST c)
        ∨ s.rd (Adr.THM_DWELL c) ≠ old.rd (Adr.THM_DWELL c) then
      (s.put (.THM_CMP_STAT_TRIPPED c) 0).put (.THM_CMP_STAT_CNT c) 0
    else s
  if s.get .THM_CFG_FILT = old.get .THM_CFG_FILT then s else { s with thm := { s.thm with refill := true } }

end Sys2Proof.Machine
end

