-- ==== Sys2Proof/Machine/Calendar.lean ====
section
/-! DEFINITION. The calendar: Gregorian date and time, alarms, hour steps, snapshots and following hub time
(R276 to R296). -/

namespace Sys2Proof.Machine

/-! ### Dates (R277, R278) -/

/-- A number below 100 in BCD. -/
def toBcd (n : Nat) : Nat := n / 10 % 10 * 16 + n % 10

/-- A BCD value as a number. -/
def fromBcd (n : Nat) : Nat := n / 16 * 10 + n % 16

/-- Whether a BCD value has a digit above 9. -/
def badBcd (n : Nat) : Bool := decide (9 < n % 16) || decide (9 < n / 16 % 16)

/-- Leap years of the Gregorian rule; `y` counts from 2000 (R278). -/
def leapYear (y : Nat) : Bool := y % 4 == 0 && (y % 100 != 0 || y % 400 == 0)

/-- The length of a month (R278). -/
def monthDays (y m : Nat) : Nat :=
  if m = 2 then (if leapYear y then 29 else 28)
  else if m = 4 ∨ m = 6 ∨ m = 9 ∨ m = 11 then 30 else 31

/-- Days of the year before month `m`. -/
def daysBefore (y m : Nat) : Nat := ((List.range (m - 1)).map fun i => monthDays y (i + 1)).sum

/-- The weekday of a date, 1 Monday to 7 Sunday; 2000-01-01 is a Saturday (R277, R280). -/
def weekday (y m d : Nat) : Nat :=
  let days := 365 * y + (y + 3) / 4 - (y + 99) / 100 + (y + 399) / 400 + daysBefore y m + (d - 1)
  (days + 5) % 7 + 1

/-- The date one day later, with the wrap after 2399-12-31 (R279). -/
def Calendar.nextDay (c : Calendar) : Calendar :=
  if c.day < monthDays c.year c.month then { c with day := c.day + 1 }
  else if c.month < 12 then { c with month := c.month + 1, day := 1 }
  else { c with year := (c.year + 1) % 400, month := 1, day := 1 }

/-- The date one day earlier. -/
def Calendar.prevDay (c : Calendar) : Calendar :=
  if 1 < c.day then { c with day := c.day - 1 }
  else if 1 < c.month then { c with month := c.month - 1, day := monthDays c.year (c.month - 1) }
  else { c with year := (c.year + 399) % 400, month := 12, day := 31 }

/-- The time one second later, with the carry into the date. -/
def Calendar.nextSecond (c : Calendar) : Calendar :=
  if c.second < 59 then { c with second := c.second + 1 }
  else if c.minute < 59 then { c with second := 0, minute := c.minute + 1 }
  else if c.hour < 23 then { c with second := 0, minute := 0, hour := c.hour + 1 }
  else { c with second := 0, minute := 0, hour := 0 }.nextDay

/-- The time one hour later or earlier, with carries and borrows through the date (R284). -/
def Calendar.hourStep (c : Calendar) (forward : Bool) : Calendar :=
  if forward then (if c.hour < 23 then { c with hour := c.hour + 1 } else { c with hour := 0 }.nextDay)
  else if 0 < c.hour then { c with hour := c.hour - 1 } else { c with hour := 23 }.prevDay

/-- The first day of the calendar's range. -/
def Calendar.firstDay (c : Calendar) : Bool := c.year == 0 && c.month == 1 && c.day == 1

/-- The last day of the calendar's range. -/
def Calendar.lastDay (c : Calendar) : Bool := c.year == 399 && c.month == 12 && c.day == 31

/-! ### The registers' view (R277, R293, R296) -/

/-- CAL_TIME. -/
def Calendar.timeWord (c : Calendar) : Word :=
  BitVec.ofNat 32 (toBcd c.hour * 2 ^ 16 + toBcd c.minute * 2 ^ 8 + toBcd c.second)

/-- CAL_DATE, WDAY computed. -/
def Calendar.dateWord (c : Calendar) : Word :=
  BitVec.ofNat 32 (weekday c.year c.month c.day * 2 ^ 28 + c.year / 100 * 2 ^ 24 + toBcd (c.year % 100) * 2 ^ 16
    + toBcd c.month * 2 ^ 8 + toBcd c.day)

/-- The snapshot of R281 into CAL_SNAPTIME, CAL_SNAPDATE and CAL_SNAPSUB. -/
def State.calSnapshot (s : State) : State :=
  ((s.wr Adr.CAL_SNAPTIME s.cal.timeWord).wr Adr.CAL_SNAPDATE s.cal.dateWord).put .CAL_SNAPSUB_SUB s.cal.sub

/-! ### Alarms (R286 to R288) -/

/-- Whether alarm `n` matches the present time and date (R286). -/
def State.alarmMatches (s : State) (n : Nat) : Bool :=
  let c := s.cal
  let cmp := fun (m f : Fld) (v : Nat) => !s.bit m || s.get f == v
  s.bit (.CAL_ALMMASK_EN n)
    && cmp (.CAL_ALMMASK_MWDAY n) (.CAL_ALM_WDAY n) (weekday c.year c.month c.day)
    && cmp (.CAL_ALMMASK_MMONTH n) (.CAL_ALMMASK_MONTH n) (toBcd c.month)
    && cmp (.CAL_ALMMASK_MDAY n) (.CAL_ALMMASK_DAY n) (toBcd c.day)
    && cmp (.CAL_ALMMASK_MHOUR n) (.CAL_ALM_HOUR n) (toBcd c.hour)
    && cmp (.CAL_ALMMASK_MMIN n) (.CAL_ALM_MINUTE n) (toBcd c.minute)
    && cmp (.CAL_ALMMASK_MSEC n) (.CAL_ALM_SECOND n) (toBcd c.second)

/-- Bit `n` of a field. -/
def State.bitAt (s : State) (f : Fld) (n : Nat) : Bool := s.get f / 2 ^ n % 2 == 1

/-- Bit `n` of a field set or cleared. -/
def State.setBitAt (s : State) (f : Fld) (n : Nat) (b : Bool) : State :=
  s.put f (if b then s.get f ||| 2 ^ n else s.get f &&& (2 ^ 32 - 1 - 2 ^ n))

/-- Alarm `n` evaluated at a boundary. -/
def State.evalAlarm (s : State) (n : Nat) : State :=
  let once := s.bit (.CAL_ALMMASK_ONCE n)
  if s.alarmMatches n && !(once && s.bitAt .CAL_ALMSTAT_DONE n) then
    let s := s.setBitAt .CAL_ALMSTAT_FIRED n true
    let s := if once then s.setBitAt .CAL_ALMSTAT_DONE n true else s
    s.raise (Ev.CAL_ALARM n)
  else s

/-! ### The boundary (R276, R279, R284) -/

/-- TBASE 1 slots may become READY again on a new date; one whose time of day a forward step across midnight passes over
takes the step as its earliest start (R209, corner on hour steps). -/
def State.dayBegins (s : State) (passed : Bool) : State :=
  { s with sch := { s.sch with slots := s.sch.slots.map fun t =>
      if passed && t.st == .waiting && t.tbase && !t.trigen && !t.skipDay && t.estart.isNone then
        { t with estart := some s.schTime }
      else { t with skipDay := false } } }

/-- SUB has passed from 32767 to 0: one second, with a pending hour step, ticks, wrap and alarms. `sub` is the count
after the boundary. -/
def State.secondBoundary (s : State) (sub : Nat) : State :=
  let old := s.cal
  let c := old.nextSecond
  let stepped := match old.step with
    | some f => c.hourStep f
    | none => c
  let fwd := old.step == some true
  let s := { s with cal := { stepped with sub := sub, step := none } }
  let s := s.put .CAL_STAT_ADJPEND 0
  let s := s.raiseIf (s.bit .CAL_CFG_SECEVT) Ev.CAL_TICK_SEC
  let s := s.raiseIf (s.bit .CAL_CFG_MINEVT && stepped.second == 0) Ev.CAL_TICK_MIN
  let wrapped := (old.lastDay && c.firstDay) || (fwd && c.lastDay && stepped.firstDay)
  let s := if wrapped then (s.put .CAL_STAT_WRAP 1).raise Ev.CAL_WRAP else s
  let newDay := decide ((old.day, old.month, old.year) ≠ (c.day, c.month, c.year) ∧ old.step ≠ some false)
    || (fwd && decide ((c.day, c.month, c.year) ≠ (stepped.day, stepped.month, stepped.year)))
  let passed := fwd && decide ((c.day, c.month, c.year) ≠ (stepped.day, stepped.month, stepped.year))
  let s := if newDay then (s.put .CAL_ALMSTAT_DONE 0).dayBegins passed else s
  s.forEach (List.range 8) fun s n => s.evalAlarm n

/-! ### Hour steps (R284) -/

/-- A CAL_ADJ request: refused when a step is pending or a backward step would fall before 2000-01-01. -/
def State.requestStep (s : State) (forward : Bool) : State :=
  let next := s.cal.nextSecond
  if s.cal.step.isSome || (!forward && next.firstDay && next.hour == 0) then
    (((s.put .CAL_ERRCODE_FIELD 8).put .CAL_ERRCODE_ALARM 0).put .CAL_ERRCODE_ALM 0).raise Ev.CAL_ERR
  else { s with cal := { s.cal with step := some forward } }.put .CAL_STAT_ADJPEND 1

/-! ### Setting (R282, R283) -/

/-- The check of a BCD date's DAY: a digit above 9, 0, or beyond the month's length. -/
def badDay (year month day : Nat) : Bool :=
  badBcd day || fromBcd day == 0 || decide (monthDays year (fromBcd month) < fromBcd day)

/-- BCD month: a digit above 9, 0 or above 12. -/
def badMonth (m : Nat) : Bool := badBcd m || fromBcd m == 0 || decide (12 < fromBcd m)

/-- The field checks of R283 in their order: the FIELD code, the alarm it belongs to, and the twin offset. -/
def State.calFault (s : State) : Option (Nat × Option Nat × Nat) :=
  let dwr := s.bit .CAL_STAT_DWR
  let twr := s.bit .CAL_STAT_TWR
  let y := s.getTwin .CAL_DATE_CENT * 100 + fromBcd (s.getTwin .CAL_DATE_YEAR)
  let chk := fun (c : Bool) (f : Nat) (a : Option Nat) (off : Nat) => if c then some (f, a, off) else none
  let alarm := fun (n : Nat) =>
    let off := 0x260 + 8 * n
    let on := fun (m f : Fld) (bad : Nat → Bool) => s.bit m.twin && bad (s.getTwin f)
    let mm := s.getTwin (.CAL_ALMMASK_MONTH n)
    let withMonth := s.bit (Fld.CAL_ALMMASK_MMONTH n).twin
    let badD := fun d => if withMonth then badDay 0 mm d else badBcd d || fromBcd d == 0 || decide (31 < fromBcd d)
    [chk (on (.CAL_ALMMASK_MMONTH n) (.CAL_ALMMASK_MONTH n) badMonth) 2 (some n) (off + 4),
     chk (on (.CAL_ALMMASK_MDAY n) (.CAL_ALMMASK_DAY n) badD) 3 (some n) (off + 4),
     chk (on (.CAL_ALMMASK_MHOUR n) (.CAL_ALM_HOUR n) fun v => badBcd v || decide (23 < fromBcd v)) 4 (some n) off,
     chk (on (.CAL_ALMMASK_MMIN n) (.CAL_ALM_MINUTE n) fun v => badBcd v || decide (59 < fromBcd v)) 5 (some n) off,
     chk (on (.CAL_ALMMASK_MSEC n) (.CAL_ALM_SECOND n) fun v => badBcd v || decide (59 < fromBcd v)) 6 (some n) off,
     chk (on (.CAL_ALMMASK_MWDAY n) (.CAL_ALM_WDAY n) fun v => v == 0) 7 (some n) off]
  ([chk (dwr && badBcd (s.getTwin .CAL_DATE_YEAR)) 1 none 0x244,
    chk (dwr && badMonth (s.getTwin .CAL_DATE_MONTH)) 2 none 0x244,
    chk (dwr && badDay y (s.getTwin .CAL_DATE_MONTH) (s.getTwin .CAL_DATE_DAY)) 3 none 0x244,
    chk (twr && (badBcd (s.getTwin .CAL_TIME_HOUR) || decide (23 < fromBcd (s.getTwin .CAL_TIME_HOUR)))) 4 none 0x240,
    chk (twr && (badBcd (s.getTwin .CAL_TIME_MINUTE) || decide (59 < fromBcd (s.getTwin .CAL_TIME_MINUTE)))) 5 none 0x240,
    chk (twr && (badBcd (s.getTwin .CAL_TIME_SECOND) || decide (59 < fromBcd (s.getTwin .CAL_TIME_SECOND)))) 6 none 0x240]
    ++ (List.range 8).flatMap alarm).findSome? id

/-- The effects of an application of the time or the date (R282, R288): VALID sets, a pending hour step is cancelled,
a date clears DONE. -/
def State.calSet (s : State) (date : Bool) : State :=
  let s := { s with cal := { s.cal with step := none } }
  let s := (s.put .CAL_STAT_ADJPEND 0).put .CAL_STAT_VALID 1
  if date then s.put .CAL_ALMSTAT_DONE 0 else s

/-- A date set by an application is a new calendar day where it differs from the one before. -/
def State.newDate (s : State) (old : Calendar) : State :=
  if (s.cal.day, s.cal.month, s.cal.year) = (old.day, old.month, old.year) then s else s.dayBegins false

/-- What an application of the CAL page does beside the copy (R282, R288): CAL_TIME with SUB and CAL_DATE where their
twins were written; a changed alarm's DONE clears. `old` is the state before. -/
def State.calApplied (s old : State) : State :=
  let twr := s.bit .CAL_STAT_TWR
  let dwr := s.bit .CAL_STAT_DWR
  let s := if twr then
      { s with cal := { s.cal with
          hour := fromBcd (s.getTwin .CAL_TIME_HOUR), minute := fromBcd (s.getTwin .CAL_TIME_MINUTE),
          second := fromBcd (s.getTwin .CAL_TIME_SECOND), sub := s.getTwin .CAL_SUBSEC_SUB, stretch := 0 } }
    else s
  let s := if dwr then
      { s with cal := { s.cal with
          year := s.getTwin .CAL_DATE_CENT * 100 + fromBcd (s.getTwin .CAL_DATE_YEAR),
          month := fromBcd (s.getTwin .CAL_DATE_MONTH), day := fromBcd (s.getTwin .CAL_DATE_DAY) } }
    else s
  let s := if twr || dwr then (s.calSet dwr).newDate old.cal else s
  let s := (s.put .CAL_STAT_TWR 0).put .CAL_STAT_DWR 0
  s.forEach (List.range 8) fun s n =>
    if s.rd (Adr.CAL_ALM n) ≠ old.rd (Adr.CAL_ALM n) ∨ s.rd (Adr.CAL_ALMMASK n) ≠ old.rd (Adr.CAL_ALMMASK n) then
      s.setBitAt .CAL_ALMSTAT_DONE n false
    else s

/-! ### Following hub time (R289 to R291) -/

/-- CAL_SUBSEC_SYNC (R290): OFS applied to SUB; a boundary where the result passes 32768; NOMARK without a mark. A
result below 0 makes the current second longer: one more of its passes from 32767 to 0 is no boundary (log entry 52). -/
def State.subsecSync (s : State) : State :=
  if s.hub || !s.bit .CAL_SYNCSTAT_VALID then s.put .CAL_SYNCSTAT_NOMARK 1
  else
    let r := (s.cal.sub : Int) + s.getS .CAL_SYNCSTAT_OFS
    let s := s.put .CAL_SYNCSTAT_VALID 0
    if 32768 ≤ r then
      if 0 < s.cal.stretch then
        { s with cal := { s.cal with sub := r.toNat - 32768, stretch := s.cal.stretch - 1 } }
      else s.secondBoundary (r.toNat - 32768)
    else if r < 0 then
      { s with cal := { s.cal with sub := (r + 32768).toNat, stretch := s.cal.stretch + 1 } }
    else { s with cal := { s.cal with sub := r.toNat } }

/-- The whole seconds from 2000-01-01 00:00:00 to a calendar's time. -/
def secondsOf (c : Calendar) : Nat :=
  let y := c.year
  let days := 365 * y + (y + 3) / 4 - (y + 99) / 100 + (y + 399) / 400 + daysBefore y c.month + (c.day - 1)
  ((days * 24 + c.hour) * 60 + c.minute) * 60 + c.second

/-- The hub's date and time of a mark, as a calendar. -/
def Calendar.ofList (l : List Nat) : Calendar :=
  { Calendar.reset with
    year := l.getD 0 0, month := l.getD 1 1, day := l.getD 2 1, hour := l.getD 3 0
    minute := l.getD 4 0, second := l.getD 5 0, sub := l.getD 6 0 }

/-- A calendar `n` cycles later. -/
def Calendar.later (c : Calendar) (n : Nat) : Calendar :=
  let t := c.sub + n
  { (List.range (t / 32768)).foldl (fun c _ => c.nextSecond) c with sub := t % 32768 }

/-- A hub time mark from PHY `src` (1 line, 2 radio), `elapsed` cycles after its instant (R289 to R291): ignored in hub
role, from another PHY than CAL_SYNC.SRC selects, or from a hub whose own VALID is 0. -/
def State.timeMark (s : State) (src : Nat) (hubValid : Bool) (atMark : Calendar) (elapsed : Nat) : State :=
  if s.hub || s.get .CAL_SYNC_SRC ≠ src || !hubValid then s
  else
    let hub := atMark.later elapsed
    let d : Int := (hub.sub : Int) - s.cal.sub
    let ofs := (d + 16384) % 32768 - 16384
    let here : Int := (secondsOf s.cal * 32768 + s.cal.sub : Nat) - (32768 * s.cal.stretch : Nat)
    let there : Int := (secondsOf hub * 32768 + hub.sub : Nat)
    let s := (s.putS .CAL_SYNCSTAT_OFS ofs).put .CAL_SYNCSTAT_VALID 1
    if s.bit .CAL_SYNC_FULL && (here + 32768 ≤ there || there + 32768 ≤ here) then
      let l := [hub.year, hub.month, hub.day, hub.hour, hub.minute, hub.second, hub.sub]
      { s with cal := { s.cal with align := some l } }
    else if s.bit .CAL_SYNC_AUTO then s.subsecSync else s

/-- The present cycle is a safe point of the CAL page: any but the last of a second (R282). -/
def State.calSafe (s : State) : Bool := s.cal.sub != 32767 || decide (0 < s.cal.stretch)

/-- The full alignment at the first safe point after the mark (R282, R291). -/
def State.fullAlign (s : State) : State :=
  match s.cal.align with
  | none => s
  | some l =>
    if !s.calSafe then s
    else
      let h := Calendar.ofList l
      let old := s.cal
      let s := { s with cal := { h with step := none, align := none } }
      (((s.calSet true).newDate old).put .CAL_SYNCSTAT_VALID 0).put .CAL_SYNCSTAT_STEPPED 1

/-! ### Cycles -/

/-- One calendar-island cycle (R276): SUB counts, and a boundary at its wrap. -/
def State.calendarCycle (s : State) : State :=
  let s := s.arrive
  let s := { s with cyc := s.cyc + 1, cal := { s.cal with align := s.cal.align.map fun l =>
    let h := (Calendar.ofList l).later 1
    [h.year, h.month, h.day, h.hour, h.minute, h.second, h.sub] } }
  (if s.cal.sub < 32767 then { s with cal := { s.cal with sub := s.cal.sub + 1 } }
    else if 0 < s.cal.stretch then { s with cal := { s.cal with sub := 0, stretch := s.cal.stretch - 1 } }
    else s.secondBoundary 0).fullAlign

/-- `k` cycles in which SUB meets neither its wrap nor a waiting alignment. -/
def State.skipCycles (s : State) (k : Nat) : State :=
  { s with cyc := s.cyc + k, cal := { s.cal with sub := s.cal.sub + k } }

/-- `n` calendar-island cycles, the stretches without a boundary taken at once; `fuel` bounds the stretches. -/
def State.cyclesFrom (s : State) : Nat → Nat → State
  | 0, _ => s
  | _ + 1, 0 => s
  | fuel + 1, n + 1 =>
    if s.cal.align.isSome ∨ 32767 ≤ s.cal.sub then (s.calendarCycle).cyclesFrom fuel n
    else
      let k := min (n + 1) (32767 - s.cal.sub)
      (s.skipCycles k).cyclesFrom fuel (n + 1 - k)

/-- `n` calendar-island cycles pass (R200, R276). -/
def State.calendarCycles (s : State) (n : Nat) : State := if n = 0 then s else s.arrive.cyclesFrom (n / 16384 + 8) n

/-- Time moves on to `t` µs, never back (log entry 3). -/
def State.advanceTo (s : State) (t : Nat) : State := s.calendarCycles (cycleAt t - s.cyc)

/-- The cycles up to and with the next boundary of a second. -/
def State.toGo (s : State) : Nat := 32768 - s.cal.sub + 32768 * s.cal.stretch

/-- Time moves on to the next boundary of a second, which passes (R276). A waiting alignment applies first where it has
its safe point before the boundary (R291). -/
def State.toBoundary (s : State) : State :=
  let s := if s.cal.align.isSome && decide (2 < s.toGo) then s.calendarCycles 1 else s
  s.calendarCycles s.toGo

end Sys2Proof.Machine
end

