-- ==== Sys2Proof/Machine/Clock.lean ====
section
/-! DEFINITION. Oscillators and clock islands: window judgements, the wire island's source, the FEC ramp and the
calibrations (R228 to R254). What an XO failure forces is in Forced.lean. -/

namespace Sys2Proof.Machine

/-- Whether a window count is within tolerance `tol` × 0.5 % of 867.84 (R233): ⌈867.84 (1 − t)⌉ ≤ N ≤ ⌊867.84 (1 + t)⌋. -/
def xoInTol (tol n : Nat) : Bool :=
  decide (86784 * (200 - tol) ≤ n * 20000) && decide (n * 20000 ≤ 86784 * (200 + tol))

/-- One window's count taken by the monitor (R233 to R236): the new counters. -/
def State.countWindow (s : State) (n : Nat) : State :=
  let ok := xoInTol (s.get .CLK_XO_TOL_TOL) n
  let good := s.xoGood
  let s := s.put .CLK_XO_CNT_N (min n 1023)
  let s := if good && !ok then s.sat .CLK_XO_CNT_OUT else s
  { s with clk := { s.clk with
      xoRun := if ok then s.clk.xoRun + 1 else 0
      xoSince := if ok then s.clk.xoSince + 1 else 0
      xoBad := if ok then 0 else if good then s.clk.xoBad + 1 else 0 } }

/-- The judgement of R234: a run of 4 windows, at least 150 µs (in windows of 32 µs) after the start or the last bad
window. -/
def State.xoJudgedGood (s : State) : Bool := 4 ≤ s.clk.xoRun && 150 ≤ 32 * s.clk.xoSince

/-! ### The wire island's source (R230, R241 to R243) -/

/-- The source that the island runs on or is switching to. -/
def State.wireSrc (s : State) : Nat := if s.clk.wireStop then s.clk.wireTo else s.get .CLK_STAT_WSRC

/-- The source that the part itself calls for (R241): a switch to it waits, unless the island runs on it or is switching
to it; a switch that waits to another source is dropped. -/
def State.requestWire (s : State) (src : Nat) : State :=
  { s with clk := { s.clk with wireReq := if s.wireSrc = src then none else some src } }

/-- WIRE_FALLBACK (R241): node role only; ignored where the source in use is a fallback. -/
def State.wireFallback (s : State) : State :=
  if s.hub || 2 ≤ s.get .CLK_STAT_WSRC then s else s.requestWire s.wireFallbackSrc

/-- WIRE_RESTORE (R241): node role only; ignored while recovery is not locked, or the recovered clock is the source in
use. -/
def State.wireRestore (s : State) : State :=
  if s.hub || !s.bit .CLK_STAT_CDR || s.get .CLK_STAT_WSRC == 1 then s else s.requestWire 1

/-- Clock recovery locks (R241): CLK_CDR_LOCK; under RECOVERED the return follows at once, under AUTO the hold starts. -/
def State.cdrLock (s : State) : State :=
  let s := ((s.put .CLK_STAT_CDR 1).put .WIR_CDR_STAT_LOCK 1).raise Ev.CLK_CDR_LOCK
  if s.hub then s
  else if s.get .CLK_WIRE_SRC_SRC = 1 then s.requestWire 1
  else if s.get .CLK_WIRE_SRC_SRC = 2 then s
  else { s with clk := { s.clk with holdRun := true } }

/-- Clock recovery is lost (R241): CLK_CDR_LOSS; AUTO and RECOVERED fall back. -/
def State.cdrLoss (s : State) : State :=
  let s := ((s.put .CLK_STAT_CDR 0).put .WIR_CDR_STAT_LOCK 0).raise Ev.CLK_CDR_LOSS
  let s := { s with clk := { s.clk with holdRun := false } }
  if s.hub || s.get .CLK_WIRE_SRC_SRC = 2 || s.wireSrc ≠ 1 then
    { s with clk := { s.clk with wireReq := if s.clk.wireReq = some 1 then none else s.clk.wireReq } }
  else s.requestWire s.wireFallbackSrc

/-- The restart on the new source (R243): WSRC reads it; the event of the switch; FAILCNT.WIRE counts fallbacks. A switch
towards XO/8 with the XO no longer good completes on the HFRC (corner of R243). -/
def State.wireRestart (s : State) : State :=
  let src := if s.clk.wireTo = 2 && !s.xoGood then 3 else s.clk.wireTo
  let s : State := { s.put .CLK_STAT_WSRC src with clk := { s.clk with wireStop := false } }
  let s := if 2 ≤ src then (s.sat .CLK_FAILCNT_WIRE).raise Ev.CLK_WIRE_FALLBACK
    else s.raiseIf (src == 1) Ev.CLK_WIRE_RESTORE
  s.syncXo

/-! ### The FEC island's divider (R244, R245) -/

/-- The FEC island holds work: codewords to decode or to encode (log entry 53: a codeword held while no burst runs is work
too). -/
def State.fecWork (s : State) : Bool := !(s.xing 6).owned.isEmpty || !(s.xing 8).owned.isEmpty

/-- A codeword that the decoder, the encoder could work on: one is held, and for the decoder a FEC_BURST task runs
(R349). -/
def State.fecDecodes (s : State) : Bool := !(s.xing 6).owned.isEmpty && (s.runningKind Kind.FEC_BURST).isSome
def State.fecEncodes (s : State) : Bool := !(s.xing 8).owned.isEmpty

/-- Codewords of a frame that have left the encoder. -/
def State.encoded (s : State) (f : TxFrame) : Nat :=
  f.cws.length + (s.xing 9).unacked.countP (fun t => t.frame == f.id)

/-- The encoder stands between the first and the last codeword of the frame of its front item (R352). -/
def State.midFrame (s : State) : Bool :=
  match (s.xing 8).owned.head?.bind fun t => s.txFrame t.frame with
  | some f => decide (0 < s.encoded f)
  | none => false

/-- The FEC island turns to its next codeword where it works on none: encoding and decoding alternate, encoding first
(R350). What it has begun it goes on with while it holds it. A draining page begins no codeword but of a frame that it
has begun to encode (R80, R352). -/
def State.fecStart (s : State) : State :=
  let kept := match s.fec.work with
    | some true => s.fecEncodes
    | some false => s.fecDecodes
    | none => false
  if kept then s
  else
    let enc := s.fecEncodes && (!s.drainHold 11 || s.midFrame)
    let dec := s.fecDecodes && !s.drainHold 11
    let work := if enc && !(dec && s.fec.lastEnc) then some true else if dec then some false else none
    { s with fec := { s.fec with work := work, idleStep := s.fec.idleStep && work.isNone } }

/-- The codeword under work is finished. -/
def State.fecWorked (s : State) (enc : Bool) : State := { s with fec := { s.fec with work := none, lastEnc := enc } }

/-- Work arrives (R244): a gated island ungates at /16 and ramps up; a ramp down reverses. -/
def State.fecWake (s : State) : State :=
  let s := if s.get (.gate Island.FEC) = Gate.GATED then
      (s.breakEmber.put (.gate Island.FEC) Gate.RUN).put .CLK_FEC_DIV_DIV 4 else s
  if s.bit .PWR_MODE_DAMPER then s
  else if s.get .CLK_FEC_DIV_DIV = 0 then s
  else s.put .CLK_FEC_DIV_RAMP 1

/-- One step of the divider towards /1, CLK_RAMP_DONE when it is reached (R244). -/
def State.fecUp (s : State) : State :=
  let d := s.get .CLK_FEC_DIV_DIV
  if d = 0 then s.put .CLK_FEC_DIV_RAMP 0
  else if d = 1 then ((s.put .CLK_FEC_DIV_DIV 0).put .CLK_FEC_DIV_RAMP 0).raise Ev.CLK_RAMP_DONE
  else (s.put .CLK_FEC_DIV_DIV (d - 1)).put .CLK_FEC_DIV_RAMP 1

/-- One step of the divider towards /16, CLK_RAMP_DONE when it is reached; the island gates after holding /16 (R244). -/
def State.fecDown (s : State) : State :=
  let d := s.get .CLK_FEC_DIV_DIV
  if d = 4 then (s.put (.gate Island.FEC) Gate.GATED).put .CLK_FEC_DIV_RAMP 0
  else if d = 3 then ((s.put .CLK_FEC_DIV_DIV 4).put .CLK_FEC_DIV_RAMP 0).raise Ev.CLK_RAMP_DONE
  else (s.put .CLK_FEC_DIV_DIV (d + 1)).put .CLK_FEC_DIV_RAMP 1

/-- One ramp step's hold expires (R244): down where decoder and encoder have been idle for the whole of it, up where the
island holds work; a ramp up in which the work has just ended goes on until it has been idle for one full step. At /1 no
hold runs, and the command is the end of an idle step. -/
def State.fecRampStep (s : State) : State :=
  if s.bit .PWR_MODE_DAMPER || s.get (.gate Island.FEC) ≠ Gate.RUN then s
  else
    let idle := !s.fecWork && (s.fec.idleStep || s.get .CLK_FEC_DIV_DIV == 0)
    let s := { s with fec := { s.fec with idleStep := s.fec.work.isNone } }
    if idle then s.fecDown else s.fecUp

/-- The Damper's hold on the divider (R245): /16 at once, no ramp. -/
def State.fecDamp (s : State) : State := (s.put .CLK_FEC_DIV_DIV 4).put .CLK_FEC_DIV_RAMP 0

/-- The Damper's release (R245): the ramp up begins with work queued, else the ramp down. -/
def State.fecUndamp (s : State) : State :=
  if s.get (.gate Island.FEC) = Gate.GATED then s
  else s.put .CLK_FEC_DIV_RAMP 1

/-! ### Calibrations (R247, R248) -/

/-- One trim against the present reference: the code it reaches is not stated (a free value); without a reference it is
held (R247). -/
def State.trimHfrc (s : State) : State :=
  let r := s.hfrcRef
  if r = 0 then s
  else let f := s.freshBelow 4096; f.2.put .CLK_HFRC_STAT_TRIM f.1

/-- LXO_CAL (R248): an LFRC calibration starts, with the XO as its reference unless MODE is ABSENT. -/
def State.startLfrcCal (s : State) : State :=
  let ref := if s.get .CLK_XO_CFG_MODE ≠ 2 then 1
    else if !s.hub && s.bit .CLK_STAT_CDR then 2 else 0
  ({ s with clk := { s.clk with lfrcCal := some ref } }).syncXo

/-- An LFRC calibration completes (R248): TRIM (a free value: its relation to the counts is not stated) and DONE, or
NOREF. -/
def State.lfrcCalDone (s : State) : State :=
  match s.clk.lfrcCal with
  | none => s
  | some ref =>
    let s := { s with clk := { s.clk with lfrcCal := none } }
    let ok := (ref == 1 && s.xoGood) || (ref == 2 && s.bit .CLK_STAT_CDR)
    let s := if ok then let f := s.freshBelow 1024; (f.2.put .CLK_LFRC_CAL_TRIM f.1).put .CLK_LFRC_CAL_DONE 1
      else s.put .CLK_LFRC_CAL_NOREF 1
    s.syncXo

/-! ### The LXO (R249) -/

/-- The calendar island leaves a failed LXO for the LFRC and inserts the cycles elapsed since the last edge. -/
def State.lxoFail (s : State) (elapsed : Nat) : State :=
  let s := ((s.put .CLK_STAT_LXO 3).sat .CLK_FAILCNT_LXO).raise Ev.CLK_LXO_FAIL
  let s := { s with clk := { s.clk with lxoRun := 0, lxoBad := 0, lxoBack := false } }
  if s.bit .CLK_STAT_CALSRC then s else (s.put .CLK_STAT_CALSRC 1).calendarCycles elapsed

/-- The end of a window of 256 LFRC periods with `n` LXO edges (R249): ±8 % of the nominal 256 edges. -/
def State.lxoWindow (s : State) (n elapsed : Nat) : State :=
  let st := s.get .CLK_STAT_LXO
  if st = 0 then s
  else
    let ok := decide (256 * 92 ≤ n * 100) && decide (n * 100 ≤ 256 * 108)
    let s := { s with clk := { s.clk with
      lxoRun := if ok then s.clk.lxoRun + 1 else 0, lxoBad := if ok then 0 else s.clk.lxoBad + 1 } }
    if ok then
      if st ≠ 2 && 8 ≤ s.clk.lxoRun then
        { s.put .CLK_STAT_LXO 2 with clk := { s.clk with lxoBack := true } }.raise Ev.CLK_LXO_OK
      else s
    else if st ≠ 3 && 2 ≤ s.clk.lxoBad then s.lxoFail elapsed else s

/-- The first LXO edge after CLK_LXO_OK with AUTORESTORE 1 (R249). -/
def State.lxoRestore (s : State) : State :=
  if s.clk.lxoBack && s.bit .CLK_LXO_CFG_AUTORESTORE && s.bit .CLK_LXO_CFG_PRESENT then
    { s.put .CLK_STAT_CALSRC 0 with clk := { s.clk with lxoBack := false } }
  else s

/-- The range checks of the CLK page (R233, R252), by twin offset. -/
def clkRange (s : State) : List (Nat × Bool) :=
  let tol := s.getTwin .CLK_XO_TOL_TOL
  [(0x240, decide (tol < 7) || decide (16 < tol) || s.getTwin .CLK_XO_TOL_STARTTO == 0),
   (0x24C, s.getTwin .CLK_RAMP_STEP_STEP == 0),
   (0x250, s.getTwin .CLK_XO_CFG_MODE == 3)]

/-- What an application of the CLK page does beside the copy (R249, R250): a source that CLK_WIRE_SRC now calls for, the
LXO's presence, the XO's need. -/
def State.clkApplied (s old : State) : State :=
  let s := if s.get .CLK_WIRE_SRC_SRC ≠ old.get .CLK_WIRE_SRC_SRC && s.get (.gate Island.WIRE) ≠ Gate.GATED then
      s.requestWire s.wireWanted else s
  -- the hold of AUTO ends where another choice applies
  let s := if s.get .CLK_WIRE_SRC_SRC = 1 ∨ s.get .CLK_WIRE_SRC_SRC = 2 then
      { s with clk := { s.clk with holdRun := false } } else s
  let p := s.bit .CLK_LXO_CFG_PRESENT
  let s := if p = old.bit .CLK_LXO_CFG_PRESENT then s
    else if p then { s.put .CLK_STAT_LXO 1 with clk := { s.clk with lxoRun := 0, lxoBad := 0 } }
    else { (s.put .CLK_STAT_LXO 0).put .CLK_STAT_CALSRC 1 with clk := { s.clk with lxoBack := false } }
  s.syncXo

end Sys2Proof.Machine
end

