-- ==== Sys2Proof/Machine/Peer.lean ====
section
/-! DEFINITION. The peer table's fields (R316), the window places of the link engines and their timers (R305, R307,
R309). -/

namespace Sys2Proof.Machine

/-! ### Peer entries (R316) -/

/-- A field of a peer entry: word and bits. -/
structure PeerFld where
  w  : Nat
  hi : Nat
  lo : Nat
  deriving DecidableEq, Repr

def Peer.TXSEQ : PeerFld := ⟨0, 31, 24⟩
def Peer.INFL : PeerFld := ⟨0, 23, 21⟩
def Peer.FAILS : PeerFld := ⟨0, 15, 8⟩
def Peer.ACKOWED : PeerFld := ⟨0, 7, 7⟩
def Peer.RXSEQ : PeerFld := ⟨1, 31, 24⟩
def Peer.RXEPOCH : PeerFld := ⟨1, 23, 16⟩
def Peer.BITMAP : PeerFld := ⟨1, 15, 0⟩
def Peer.VALID : PeerFld := ⟨2, 31, 31⟩
def Peer.RXVALID : PeerFld := ⟨2, 30, 30⟩
def Peer.SECREQ : PeerFld := ⟨2, 29, 29⟩
def Peer.MIC8 : PeerFld := ⟨2, 28, 28⟩
def Peer.ENG : PeerFld := ⟨2, 27, 24⟩
def Peer.KEY : PeerFld := ⟨2, 20, 16⟩
def Peer.ACKX : PeerFld := ⟨2, 15, 14⟩
def Peer.BSEQ : PeerFld := ⟨3, 31, 24⟩
def Peer.RSSI : PeerFld := ⟨3, 23, 16⟩
def Peer.DUPS : PeerFld := ⟨3, 15, 8⟩
def Peer.RETRIES : PeerFld := ⟨3, 7, 0⟩

/-- The address of word `w` of a peer entry. -/
def peerAddr (id w : Nat) : Nat := 0xE000 + 0x10 * id + 4 * w

/-- A field of peer `id`'s entry. -/
def State.peer (s : State) (id : Nat) (f : PeerFld) : Nat := Fld.of ⟨0, f.hi, f.lo⟩ (s.memWord (peerAddr id f.w))

/-- A field of peer `id`'s entry set. -/
def State.setPeer (s : State) (id : Nat) (f : PeerFld) (v : Nat) : State :=
  s.putMemWord (peerAddr id f.w) (Fld.into ⟨0, f.hi, f.lo⟩ (s.memWord (peerAddr id f.w)) v)

/-- A counter field of a peer entry raised by 1, saturating. -/
def State.satPeer (s : State) (id : Nat) (f : PeerFld) : State :=
  s.setPeer id f (min (s.peer id f + 1) (2 ^ (f.hi + 1 - f.lo) - 1))

/-! ### Engines and window places -/

/-- Link engine `n`. -/
def State.eng (s : State) (n : Nat) : Engine := s.engines.getD n Engine.reset

/-- Link engine `n` replaced. -/
def State.setEng (s : State) (n : Nat) (e : Engine) : State := { s with engines := s.engines.set n e }

/-- Window place `i` of engine `n`. -/
def State.place (s : State) (n i : Nat) : Place := (s.eng n).places.getD i Place.free

/-- Window place `i` of engine `n` replaced. -/
def State.setPlace (s : State) (n i : Nat) (p : Place) : State :=
  s.setEng n { s.eng n with places := (s.eng n).places.set i p }

/-- Whether an engine carries a legacy generation: M1, M2 or Elair 1 (R322). -/
def State.legacyGen (s : State) (n : Nat) : Bool :=
  let phy := s.phyOf n
  let gen := s.genOf n
  (phy == Phy.LINE && gen != 3) || (phy == Phy.RADIO && gen == 1)

/-- The acknowledgement timeout of a transaction to `dst`, in µs (R309). -/
def State.ackTime (s : State) (n dst : Nat) : Nat := s.get (.LE_ACKTO_TO n) * (s.peer dst Peer.ACKX + 1) * 1000

/-- A sent place waits for its acknowledgement from now on (R309), under the LE_ACKTO and LE_RETRY_MAX of this moment
(R324). -/
def State.startAckWait (s : State) (n i : Nat) : State :=
  let p := s.place n i
  if p.st = .air then
    s.setPlace n i { p with st := .waitAck, due := s.usec + s.ackTime n p.dst, most := s.get (.LE_RETRY_MAX_MAX n), jitter := s.get (.LE_RETRY_MAX_JITTER n) }
  else s

/-- A frame record removed. -/
def State.dropTx (s : State) (id : Nat) : State := { s with tx := s.tx.filter fun f => f.id != id }

end Sys2Proof.Machine
end

