-- ==== Sys2Proof/Machine/Fabric.lean ====
section
/-! DEFINITION. Crossings, credits, cells of the packet store, handing items across, the drop queue and SECDED errors
(R39 to R47, R51, R53, R57 to R66, R585, R588). Receive queues and reports are in Queues.lean, resynchronisation and
the stall monitor in Resync.lean. -/

namespace Sys2Proof.Machine

/-! ### Credits (R39, R41, R45, R585) -/

/-- Crossing `n` replaced, nothing judged. -/
def State.putXing (s : State) (n : Nat) (x : Xing) : State := { s with xings := s.xings.set n x }

/-- The initial credits of crossing or queue `n` (R41, R62, R302). -/
def State.initCredit (s : State) (n : Nat) : Nat :=
  if n < 10 then s.get (.QMX_CRED_INIT n)
  else if n = 10 then 2 else if n = 11 then 4 else if n = 12 then 8
  else if n = 15 then s.get .QMX_DROPQ_CELLS
  else if n < 16 then 0
  else if n % 2 = 0 then s.get (.LE_TXCRED_INIT ((n - 16) / 2)) else s.get (.LE_RXCRED_INIT ((n - 16) / 2))

/-- Credits of a list of items. -/
def itemsCost (l : List Item) : Nat := (l.map (·.cost)).sum

/-- Occurrences of island events that the router holds: entries of crossing 12 that it owns (R256). -/
def State.evtOwned (s : State) : Nat := s.occ.countP islandEvent

/-- The current credit count: the initial value less the credits of items handed across, of items that the consumer owns
and of discarded items that the producer has not reloaded, 0 where they need more (R39, R49, R585). -/
def State.credit (s : State) (n : Nat) : Nat :=
  s.initCredit n - itemsCost (s.xing n).unacked - itemsCost (s.xing n).owned - (s.xing n).debt
    - (if n = 12 then s.evtOwned else 0)

/-- The QMX_CRED_LOW threshold of a crossing or queue (R45, R302). -/
def State.lowCredit (s : State) (n : Nat) : Option Nat :=
  if n < 10 then some (s.get (.QMX_CRED_LOW n))
  else if n < 16 then none
  else if n % 2 = 0 then some (s.get (.LE_TXCRED_LOW ((n - 16) / 2))) else some (s.get (.LE_RXCRED_LOW ((n - 16) / 2)))

/-- QMX_CRED_LOW (R45) and QMX_HOSTQ_SPACE (R56) after a change of the count from `before`. -/
def State.judgeCredit (s : State) (n before : Nat) : State :=
  let now := s.credit n
  let x := s.xing n
  let s := match s.lowCredit n with
    | none => s
    | some low =>
      if low < now then s.putXing n { x with lowArmed := true }
      else if x.lowArmed && now < before then (s.putXing n { x with lowArmed := false }).raise Ev.QMX_CRED_LOW
      else s
  let x := s.xing n
  if now = 0 then s.putXing n { x with empty := true }
  else if x.empty then
    (s.putXing n { x with empty := false }).raiseIf (16 ≤ n && n % 2 == 0) Ev.QMX_HOSTQ_SPACE
  else s

/-- An item has come to crossing `n` or left it: the NFC or the modem island is kept awake, or no longer (R246). -/
def State.xingMoved (s : State) (n : Nat) : State := if n = 0 ∨ n = 1 ∨ n = 4 ∨ n = 5 then s.syncIslands else s

/-- Crossing `n` replaced, its credit count judged, its island gated or ungated. -/
def State.setXing (s : State) (n : Nat) (x : Xing) : State :=
  let before := s.credit n
  ((s.putXing n x).judgeCredit n before).xingMoved n

/-- The crossing accepts items (R38, R49, R65). -/
def State.xingOpen (s : State) (n : Nat) : Bool :=
  !(s.xing n).waitL && !(s.xing n).waitR && (s.enabled 9 || (10 ≤ n && n ≤ 12))

/-- The far side consumes on this crossing: the fabric produces (R41). -/
def farConsumes (n : Nat) : Bool := (n < 10 && n % 2 == 0) || (16 ≤ n && n % 2 == 1)

/-! ### Cells (R39, R43, R57) -/

/-- QMX_FREECELLS.FREE. -/
def State.freeCells (s : State) : Nat := 384 - s.used.length

/-- Cells taken one by one from the free pool; which ones is not stated (free values). -/
def State.pickCells (s : State) : Nat → List Nat × State
  | 0 => ([], s)
  | k + 1 =>
    let pool := (List.range 384).filter fun c => !s.used.contains c
    let f := s.freshBelow pool.length
    let c := pool.getD f.1 0
    let r := ({ f.2 with used := c :: f.2.used }).pickCells k
    (c :: r.1, r.2)

/-- `k` cells taken, where the pool holds as many: MINFREE follows, and QMX_STORE_FULL at 0 (R43, R57). -/
def State.takeCells (s : State) (k : Nat) : Option (List Nat × State) :=
  if s.freeCells < k then none
  else
    let r := s.pickCells k
    let s := r.2.put .QMX_FREECELLS_MINFREE (min (r.2.get .QMX_FREECELLS_MINFREE) r.2.freeCells)
    some (r.1, s.raiseIf (0 < k && s.freeCells == 0) Ev.QMX_STORE_FULL)

/-- Cells returned to the pool. -/
def State.giveCells (s : State) (l : List Nat) : State := { s with used := s.used.filter fun c => !l.contains c }

/-- The cells of items returned to the pool. -/
def State.freeItems (s : State) (l : List Item) : State := s.giveCells (l.flatMap (·.cells))

/-- Bytes stored along a chain of cells. -/
def State.fillCells (s : State) : List Nat → List Byte → State
  | [], _ => s
  | c :: cs, b => (s.putBytes (0x8000 + 0x40 * c) (b.take 64)).fillCells cs (b.drop 64)

/-- Cells that a number of bytes needs. -/
def cellsFor (bytes : Nat) : Nat := (bytes + 63) / 64

/-- A number that no item or frame of this run has. -/
def State.newId (s : State) : Nat × State := (s.ids + 1, { s with ids := s.ids + 1 })

/-! ### SECDED (R588) -/

/-- Errors that reads of cells found: the cell, and whether two bits are in error. -/
def State.ecc (s : State) (l : List (Nat × Bool)) : State :=
  s.forEach l fun s e =>
    let s := s.put .QMX_ECCSTAT_LASTCELL e.1
    if e.2 then (s.sat .QMX_ECCSTAT_UNCORR).raise Ev.QMX_ECC_UNCORR
    else (s.sat .QMX_ECCSTAT_FIXED).raise Ev.QMX_ECC_FIXED

/-- A double-bit error among the errors lies in one of these cells. -/
def eccHits (l : List (Nat × Bool)) (cells : List Nat) : Bool := l.any fun e => e.2 && cells.contains e.1

/-! ### Lost and dropped items (R44, R46, R49, R58, R59) -/

/-- `k` items lost at crossing `n` (R49, R58, R65). -/
def State.countLost (s : State) (n k : Nat) : State :=
  if k = 0 then s
  else
    let x := s.xing n
    ((s.putXing n { x with lost := min 0xFF (x.lost + k) }).sat .QMX_XLOST_COUNT k).put .QMX_XLOST_LASTX n

/-- A frame freed and counted (R44, R46). -/
def State.countDrop (s : State) : State := (s.sat .QMX_DROPCNT_COUNT).raise Ev.QMX_DROP

/-- A received frame that the fabric would discard (R46, R47): into the drop queue with its reason, crossing and bytes as
received, or freed and counted. `own` are the cells that the frame occupies: the drop queue takes the frame in them. An
item that needs more cells than these takes what the free pool has of the rest (log entry 16). -/
def State.dropFrame (s : State) (reason xing : Nat) (bytes : List Byte) (own : List Nat) : State :=
  let d : Word := BitVec.ofNat 32 (reason * 2 ^ 28 + xing * 2 ^ 24 + bytes.length)
  let k := cellsFor (4 + bytes.length)
  if s.bit .QMX_DROPQ_EN && s.xingOpen 15 && k ≤ s.credit 15 then
    let s := s.giveCells (own.drop k)
    let own := own.take k
    let r := (s.takeCells (min (k - own.length) s.freeCells)).getD ([], s)
    let cells := own ++ r.1
    let data := wordBytes d ++ bytes
    let data := data ++ List.replicate (64 * k - data.length) 0
    let i := (r.2.fillCells cells data).newId
    let x := i.2.xing 15
    i.2.setXing 15 { x with unacked := x.unacked ++
      [{ id := i.1, cost := k, cells := cells, words := bytesWords data, llrs := [], frame := 0 }] }
  else (s.giveCells own).countDrop

/-! ### Staged credits (R51, R302) -/

/-- Crossing `n` stands at its own safe point for a new INIT: nothing unacknowledged and the count at the initial value
(R51). -/
def State.creditIdle (s : State) (n : Nat) : Bool :=
  (s.xing n).unacked.isEmpty && s.credit n == s.initCredit n

/-- The crossings and queues whose INIT is staged: 0 to 9 and the link-engine queues (R51, R302); the drop queue's CELLS
applies with the page's set (R62). -/
def stagedXings : List Nat := List.range 10 ++ (List.range 16).map (· + 16)

/-- The INIT field of a crossing or queue. -/
def initFld (n : Nat) : Fld :=
  if n < 10 then .QMX_CRED_INIT n
  else if n % 2 = 0 then .LE_TXCRED_INIT ((n - 16) / 2) else .LE_RXCRED_INIT ((n - 16) / 2)

/-- The INIT of crossing or queue `n` is changing: its twin differs (R51). -/
def State.initChanging (s : State) (n : Nat) : Bool := s.getTwin (initFld n) != s.get (initFld n)

/-- The crossings or queues whose INIT belongs to a page. -/
def initXings (p : Nat) : List Nat :=
  if p = 9 then List.range 10 else if 24 ≤ p then [16 + 2 * (p - 24), 17 + 2 * (p - 24)] else []

/-- The page whose staged set holds the INIT of crossing or queue `n`. -/
def initPage (n : Nat) : Nat := if n < 10 then 9 else 24 + (n - 16) / 2

/-- A staged INIT becomes active at the crossing's safe point, under a pending commit of its page outside DRAIN (R51,
R80): the count follows by R585. -/
def State.applyInit (s : State) (n : Nat) : State :=
  let p := initPage n
  if s.bit (.PG_CFGSTAT_PENDING p) && !s.drainHold p && s.initChanging n then
    let before := s.credit n
    (s.put (initFld n) (s.getTwin (initFld n))).judgeCredit n before
  else s

/-- The range checks of the QMX page (R52, R61, R62), by twin offset. -/
def qmxRange (s : State) : List (Nat × Bool) :=
  let lo := [5, 5, 8, 8, 8, 8, 1, 1, 1, 1]
  let hi := [16, 16, 32, 32, 32, 32, 4, 8, 2, 8]
  ((List.range 10).map fun n =>
    let v := s.getTwin (.QMX_CRED_INIT n)
    (0x240 + 4 * n, decide (v < lo.getD n 0) || decide (hi.getD n 0 < v) || decide (32 < s.getTwin (.QMX_CRED_LOW n))))
  ++ [(0x280, decide (16 < s.getTwin .QMX_DROPQ_CELLS))]

/-! ### Handing items across (R39, R40, R43, R44, R53) -/

/-- The page of the far side of crossing or queue `n`, and of the fabric's side: a link engine for its queues, else QMX
(R60). -/
def farPage (n : Nat) : Nat := if n < 10 then [0xC, 0xC, 0xE, 0xE, 0x10, 0x10, 0xB, 0xB, 0xB, 0xB].getD n 9 else 8
def fabricPage (n : Nat) : Nat := if n < 16 then 9 else 24 + (n - 16) / 2

/-- The page of the consumer of crossing or queue `n` (R60): HIF consumes register accesses on crossing 10, the scheduler
entries of crossing 11 and the event router those of crossing 12. -/
def consumerPage (n : Nat) : Nat :=
  if 10 ≤ n ∧ n < 13 then [8, 4, 5].getD (n - 10) 9 else if farConsumes n then farPage n else fabricPage n

/-- The QMX or engine page has stopped crossing `n`: its INIT is changing in DRAIN (R51, R302). -/
def State.stopped (s : State) (n : Nat) : Bool :=
  stagedXings.contains n && s.drainHold (initPage n) && s.initChanging n

/-- Crossing `n` accepts an item that takes `k` credits (R39, R49, R51). -/
def State.accepts (s : State) (n k : Nat) : Bool := s.xingOpen n && !s.stopped n && decide (k ≤ s.credit n)

/-- A handshake of crossing `n` that page `page` has not acknowledged (R53). -/
def State.openShake (s : State) (page n : Nat) : State := { s with stuck := s.stuck ++ [(page, n, s.usec)] }

/-- No handshake of crossing `n` is open any more. -/
def State.closeShakes (s : State) (n : Nat) : State := { s with stuck := s.stuck.filter fun h => h.2.1 != n }

/-- ITEM_HANDOVER tells whether the consumer of crossing `n` acknowledges. -/
def State.setSlow (s : State) (n : Nat) (b : Bool) : State := s.putXing n { s.xing n with slow := b }

/-- Item `t` for crossing `n` takes credit and cells; with `acked`, and unless the consumer holds its acknowledgement
back or an earlier item still waits for its own, the consumer owns it, else the handshake stays open. False where the
producer has to wait (R39, R51), with QMX_STORE_FULL where it has credit and finds no free cell (R43). -/
def State.handItem (s : State) (n : Nat) (t : Item) (cells : Nat) (acked : Bool) : Bool × State :=
  if s.accepts n t.cost then
    match s.takeCells cells with
    | none => (false, s.raise Ev.QMX_STORE_FULL)
    | some (c, s) =>
      let t := { t with cells := c }
      let x := s.xing n
      (true, if acked && !x.slow && x.unacked.isEmpty then s.setXing n { x with owned := x.owned ++ [t] }
        else (s.setXing n { x with unacked := x.unacked ++ [t] }).openShake (consumerPage n) n)
  else (false, s)

/-- The consumer acknowledges the first item handed across (R40). -/
def State.ackItem (s : State) (n : Nat) : State :=
  let x := s.xing n
  match x.unacked with
  | [] => s
  | t :: r => (s.setXing n { x with unacked := r, owned := x.owned ++ [t] }).closeShakes n

/-- The consumer frees an item that it owns: credits and cells return (R39). -/
def State.freeOwned (s : State) (n id : Nat) : State :=
  let x := s.xing n
  let gone := x.owned.filter fun t => t.id == id
  (s.setXing n { x with owned := x.owned.filter fun t => t.id != id }).freeItems gone

/-- The producer's next item: one handed across is acknowledged, else the first that waits goes across (R39, R40). -/
def State.handWaiting (s : State) (n : Nat) (acked : Bool) : State :=
  let x := s.xing n
  if !x.unacked.isEmpty && acked then s.ackItem n
  else match x.waiting with
    | [] => s
    | t :: r =>
      let h := s.handItem n t t.cost acked
      if h.1 then (h.2.putXing n { h.2.xing n with waiting := r }).xingMoved n else h.2

end Sys2Proof.Machine
end

