-- ==== Sys2Proof/Machine/Queues.lean ====
section
/-! DEFINITION. The queues of the link engines, reports and the ends of transactions, and what becomes of a frame that is
lost before it is sent (R300 to R307, R328). -/

namespace Sys2Proof.Machine

/-! ### Queues (R300 to R304) -/

/-- The transmit and the receive queue of engine `n` (R58). -/
def txQ (n : Nat) : Nat := 16 + 2 * n
def rxQ (n : Nat) : Nat := 17 + 2 * n

/-- Cells that a queue item of `w` words needs. -/
def cellsOfWords (w : Nat) : Nat := (w + 15) / 16

/-- An item put into a receive queue, with credit and cells (R304, R315, R56): false where the queue does not accept it or
no cell is free, then with QMX_STORE_FULL (R43). The host island acknowledges an item when the host pops its first word
(R119). `raw` is the received frame that it was made from. -/
def State.queueRx (s : State) (n : Nat) (words : List Word) (raw : List Byte) : Bool × State :=
  let k := cellsOfWords words.length
  if s.accepts (rxQ n) k then
    match s.takeCells k with
    | none => (false, s.raise Ev.QMX_STORE_FULL)
    | some (cells, s) =>
      let i := (s.fillCells cells (wordsBytes words)).newId
      let x := i.2.xing (rxQ n)
      let t : Item := { id := i.1, cost := k, cells := cells, words := words, llrs := [], frame := 0, raw := raw }
      let s := (i.2.setXing (rxQ n) { x with unacked := x.unacked ++ [t] }).raise Ev.QMX_HOSTQ_READY
      (true, if x.slow then s.openShake (consumerPage (rxQ n)) (rxQ n) else s)
  else (false, s)

/-! ### Reports and ends (R301, R307) -/

/-- A place with an open transaction. -/
def Place.isOpen (p : Place) : Bool := p.st != .free && p.st != .report

/-- Causes of LE_FAILINFO (R328). -/
def LeCause.RETRIES : Nat := 1
def LeCause.NOPEER : Nat := 2
def LeCause.SELF : Nat := 3
def LeCause.BADITEM : Nat := 4
def LeCause.TOOBIG : Nat := 5
def LeCause.STOPPED : Nat := 6
def LeCause.NFC : Nat := 7
def LeCause.KEY : Nat := 8
def LeCause.LEGACY : Nat := 9

/-- LEn_FAIL with its record (R328). -/
def State.leFail (s : State) (n cause dst tag count : Nat) : State :=
  (((((s.put (.LE_FAILINFO_VALID n) 1).put (.LE_FAILINFO_CAUSE n) cause).put (.LE_FAILINFO_DST n) dst).put
    (.LE_FAILINFO_TAG n) tag).put (.LE_FAILINFO_COUNT n) count).raise (Ev.LE_FAIL n)

/-- The report word of KIND 1 (done) or 2 (failed) (R301). -/
def reportWord (cause dst tag seq : Nat) : Word :=
  BitVec.ofNat 32 ((if cause = 0 then 1 else 2) * 2 ^ 30 + cause * 2 ^ 24 + dst * 2 ^ 16 + tag * 2 ^ 8 + seq)

/-- A report queued, its place freed; where the queue does not take it the place holds it in REPORT (R43, R307). -/
def State.queueReport (s : State) (n i : Nat) (w : Word) : State :=
  let r := s.queueRx n [w] []
  r.2.setPlace n i (if r.1 then Place.free else { r.2.place n i with st := .report, report := w })

/-- The transaction of place `i` ends done (cause 0) or failed (R307). INFL, FAILS and TXSEQ belong to unicast on LINE and
RADIO (R305, R323). -/
def State.endTransaction (s : State) (n i cause : Nat) : State :=
  let p := s.place n i
  let nfc := s.phyOf n == Phy.NFC
  let s := s.freeOwned (txQ n) p.item
  let s := if nfc || p.bcast then s else s.setPeer p.dst Peer.INFL (s.peer p.dst Peer.INFL - 1)
  let s := if cause = 0 then
      let s := (s.sat (.LE_TXCNT_DONE n)).raise (Ev.LE_TX n)
      if nfc || p.bcast then s else s.setPeer p.dst Peer.FAILS 0
    else s.leFail n cause p.dst p.tag 1
  let s := if cause = LeCause.RETRIES && !nfc then s.satPeer p.dst Peer.FAILS else s
  s.queueReport n i (reportWord cause p.dst p.tag p.seq)

/-- The first place in REPORT offers its report to the receive queue again (R307). -/
def State.retryReport (s : State) (n : Nat) : State :=
  match (List.range 4).find? fun i => (s.place n i).st == .report with
  | none => s
  | some i => s.queueReport n i (s.place n i).report

/-! ### Lost frames (R49, R320, R323) -/

/-- A frame lost before it was sent whole. On LINE and RADIO its transaction recovers by its retry rules, so its
acknowledgement timeout runs from the loss (R49's corner; log entry 7); an NFC transaction ends failed with cause NFC
(R323); a forwarded frame's credits return (R320). -/
def State.txLost (s : State) (id : Nat) : State :=
  match s.txFrame id with
  | none => s
  | some f =>
    let s := s.dropTx id
    match f.kind with
    | .data i item =>
      if (s.place f.eng i).item = item ∧ (s.place f.eng i).st = .air then
        (if f.phy = Phy.NFC then s.endTransaction f.eng i LeCause.NFC else s.startAckWait f.eng i)
      else s
    | .forward item => s.freeOwned (txQ f.eng) item
    | _ => s

end Sys2Proof.Machine
end

