-- ==== Sys2Proof/Machine/Resync.lean ====
section
/-! DEFINITION. Side resets and resynchronisation of the crossings, the QMX page's enable, and the stall monitor (R38, R48
to R54, R60, R585, R586). -/

namespace Sys2Proof.Machine

/-! ### Resynchronisation (R48 to R50, R585) -/

/-- A side reset of the far side or of the fabric side of crossing `n`: its epoch advances, what it holds is discarded,
and it sends a token, which the other side has to take (R48, R53). The credits of what a consumer discards come back at
the producer's reload (R49). -/
def State.sideReset (s : State) (n : Nat) (far : Bool) : State :=
  let x := s.xing n
  let consumer := far == farConsumes n
  let gone := if consumer then x.owned else x.waiting
  let x := if consumer then { x with owned := [], debt := x.debt + itemsCost gone } else { x with waiting := [] }
  let x := if far then
      { x with repoch := (x.repoch + 1) % 4, waitR := true, tokR := true, repR := false, goneR := x.goneR + gone.length }
    else { x with lepoch := (x.lepoch + 1) % 4, waitL := true, tokL := true, repL := false, goneL := x.goneL + gone.length }
  let s := ((s.putXing n x).xingMoved n).freeItems gone
  let s := s.forEach gone fun s t => if n < 6 && n % 2 == 0 then s.txLost t.frame else s
  s.openShake (if far then fabricPage n else farPage n) n

/-- The far side or the fabric side of crossing `n` sees the other side's new epoch (R49, side B): items handed across
and not acknowledged are discarded, every lost item is counted once, a producer reloads its count, and a token goes
back. -/
def State.seeToken (s : State) (n : Nat) (far : Bool) : State :=
  let x := s.xing n
  if (if far then x.tokL else x.tokR) then
    let lost := x.unacked
    let k := lost.length + (if far then x.goneL else x.goneR)
    let x := { x with unacked := [], debt := if far == farConsumes n then x.debt + itemsCost lost else 0 }
    let x := if far then { x with tokL := false, repL := true, goneL := 0 } else { x with tokR := false, repR := true, goneR := 0 }
    let s := ((s.setXing n x).freeItems lost).countLost n k
    let s := s.forEach lost fun s t => if n < 6 && n % 2 == 0 then s.txLost t.frame else s
    ((s.closeShakes n).openShake (if far then fabricPage n else farPage n) n).raise Ev.QMX_XING_RESYNC
  else s

/-- The side that was reset receives the answer: a producer reloads its count, and the crossing opens (R49). -/
def State.seeReply (s : State) (n : Nat) (far : Bool) : State :=
  let x := s.xing n
  let x := if far == farConsumes n then x else { x with debt := 0 }
  if far then (if x.repR then (s.setXing n { x with repR := false, waitR := false }).closeShakes n else s)
  else if x.repL then (s.setXing n { x with repL := false, waitL := false }).closeShakes n else s

/-- The crossings and queues that stop with the QMX page (R38). -/
def qmxXings : List Nat := List.range 10 ++ [15] ++ (List.range 16).map (· + 16)

/-- QMX PG_CTRL.EN becomes 0 (R38): a side reset everywhere, every item discarded and counted, every cell free. What the
cells held for a forwarded frame, a response in the fabric or L_FIFO is gone with them. -/
def State.qmxDisable (s : State) : State :=
  let s := s.forEach qmxXings fun s n =>
    let x := s.xing n
    let k := x.waiting.length + x.unacked.length + x.owned.length + x.goneL + x.goneR
    let s := s.putXing n { x with
      waiting := [], unacked := [], owned := [], lepoch := (x.lepoch + 1) % 4, waitL := true, tokL := true,
      repL := false, goneL := 0, goneR := 0, debt := x.debt + itemsCost (x.unacked ++ x.owned) }
    s.countLost n k
  let s := s.forEach s.tx fun s f => s.txLost f.id
  let s : State := { s with engines := s.engines.map (fun e => { e with fwd := [] }), nfp := { s.nfp with held := none }, leg := { s.leg with rxf := [], cells := [] } }
  ({ (s.put (.PG_CTRL_EN 9) 0) with used := [], rx := [], stuck := [], fec := { s.fec with work := none } } : State).syncIslands

/-- QMX PG_CTRL.EN becomes 1 (R38): every cell is cleared, the crossings and queues reopen with their active initial
credits. -/
def State.qmxEnable (s : State) : State :=
  let s := s.forEach qmxXings fun s n =>
    s.setXing n { s.xing n with tokL := false, tokR := false, repL := false, repR := false, waitL := false, waitR := false, debt := 0 }
  { (s.put (.PG_CTRL_EN 9) 1) with mem := s.mem.filter fun e => 0xE000 ≤ e.1 }

/-- The pages that must be disabled before QMX may be (R38). -/
def qmxUsers : List Nat := [11, 12, 13, 14, 15, 16, 24, 25, 26, 27, 28, 29, 30, 31]

/-! ### The stall monitor (R53, R54, R60) -/

/-- The island of a crossing waits for its clock (R53). -/
def State.xingIslandWaits (s : State) (n : Nat) : Bool :=
  n < 6 && s.islandWaits ([Island.NFC, Island.NFC, Island.WIRE, Island.WIRE, Island.MODEM, Island.MODEM].getD n 0)

/-- One handshake has been open for SYS_STALL_TO.TO ms: SYS_STALL and its record (R54, R60). -/
def State.stall (s : State) (page xing : Nat) : State :=
  if s.get .SYS_STALL_TO_TO = 0 || s.pwr.phase = .ember || s.xingIslandWaits xing then s
  else
    let s := ((s.put .QMX_STALLINFO_VALID 1).put .QMX_STALLINFO_PAGE page).put .QMX_STALLINFO_XING xing
    { s.raise Ev.SYS_STALL with stallReset := s.stallReset || s.bit .SYS_STALL_TO_RESET }

/-- STALL_CHECK (R267): every open handshake against SYS_STALL_TO at once. -/
def State.stallCheck (s : State) : State :=
  s.forEach s.stuck fun s h => if s.get .SYS_STALL_TO_TO * 1000 ≤ s.usec - h.2.2 then s.stall h.1 h.2.1 else s

end Sys2Proof.Machine
end

