-- ==== Sys2Proof/Machine/Security.lean ====
section
/-! DEFINITION. Security: key slots, frame counters, protection and verification of link frames, the key sink
(R493 to R521). -/

namespace Sys2Proof.Machine

/-! ### Causes (R516) -/

def SecCause.AUTH : Nat := 1
def SecCause.NOKEY : Nat := 2
def SecCause.REPLAY : Nat := 3
def SecCause.EXHAUSTED : Nat := 4
def SecCause.LOCKED : Nat := 5
def SecCause.EMPTY : Nat := 6
def SecCause.UNWRAP : Nat := 7
def SecCause.NOWRAP : Nat := 8
def SecCause.BUSY : Nat := 9
def SecCause.SINK : Nat := 10

/-- A cause recorded in SEC_LAST. -/
def State.secLast (s : State) (cause peer slot : Nat) : State :=
  (((s.put .SEC_LAST_VALID 1).put .SEC_LAST_CAUSE cause).put .SEC_LAST_PEER peer).put .SEC_LAST_SLOT slot

/-- SEC_ERR with its cause. -/
def State.secErr (s : State) (cause peer slot : Nat) : State := (s.secLast cause peer slot).raise Ev.SEC_ERR

/-- SEC_AUTH_FAIL with its count and cause (R496, R506, R507). -/
def State.authFail (s : State) (cause peer slot : Nat) : State :=
  ((s.secLast cause peer slot).sat .SEC_CNT_AUTH).raise Ev.SEC_AUTH_FAIL

/-- SEC_REPLAY with its count and cause (R313, R507). -/
def State.replay (s : State) (peer slot : Nat) : State :=
  ((s.secLast SecCause.REPLAY peer slot).sat .SEC_CNT_REPLAY).raise Ev.SEC_REPLAY

/-! ### Key slots (R496 to R502) -/

/-- The key of a slot. -/
def State.keyOf (s : State) (slot : Nat) : Option (List Byte) := s.sec.keys.getD slot none

/-- Slot `n` is locked (R498). -/
def State.keyLocked (s : State) (n : Nat) : Bool := s.bitAt .SEC_KEYLOCK_LOCK n

/-- A slot's key set or zeroised; SEC_SLOTS follows. -/
def State.setKey (s : State) (slot : Nat) (k : Option (List Byte)) : State :=
  { s with sec := { s.sec with keys := s.sec.keys.set slot k } }.setBitAt .SEC_SLOTS_FULL slot k.isSome

/-- A slot locked until reset; SEC_KEY_LOCKED when it becomes locked (R498). -/
def State.lockKey (s : State) (slot : Nat) : State :=
  if s.keyLocked slot then s else (s.setBitAt .SEC_KEYLOCK_LOCK slot true).raise Ev.SEC_KEY_LOCKED

/-- The check value of a key: the first 4 bytes of the encryption of 16 zero bytes (R511). -/
def checkValue (key : List Byte) : List Byte := (aesEncrypt key (List.replicate 16 0)).take 4

/-- Four bytes as a word. -/
def bytesWord (l : List Byte) : Word := (bytesWords l).getD 0 0

/-- The sink disarmed with a result (R512, R513). -/
def State.disarmSink (s : State) : State :=
  { s.put .SEC_SINK_ARMED 0 with sec := { s.sec with sinkEnd := none } }

/-- Every unlocked slot zeroised and the sink disarmed (R499). -/
def State.zeroiseAll (s : State) : State :=
  (s.forEach (List.range 32) fun s n => if s.keyLocked n then s else s.setKey n none).disarmSink

/-- SEC works on no command and on no received frame (R515). -/
def State.secQuiet (s : State) : Bool := s.sec.cmd.isNone && s.rx.all fun f => f.stage != .sec || f.key.isNone

/-- A SEC_KEYCMD is written (R502): refused while one is in progress, else it begins. A draining page that stands at its
safe point holds there first (R80). -/
def State.keyCommand (s : State) (op slot : Nat) : State :=
  if s.sec.cmd.isSome then s.secErr SecCause.BUSY 0 slot
  else
    let s := s.latch 10 s.secQuiet
    { s.put .SEC_SINK_BUSY 1 with sec := { s.sec with cmd := some (op, slot), cmdKey := s.keyOf slot } }

/-- SEC_KEY0 to SEC_KEY3 cleared. -/
def State.clearKeyIn (s : State) : State := { s with sec := { s.sec with keyIn := [0, 0, 0, 0] } }

/-- What a command does at its completion: the state, or the cause of its refusal (R497 to R502, R511, R512). WRAP and CHECK
work on the key that the slot held when they began (R501). -/
def State.keyEffect (s : State) (op slot : Nat) : State ⊕ Nat :=
  if op = 0 then
    if s.keyLocked slot then .inr SecCause.LOCKED
    else .inl (((s.setKey slot (some (wordsBytes s.sec.keyIn))).clearKeyIn).raise Ev.SEC_KEY_LOADED)
  else if op = 1 then (if s.keyLocked slot then .inr SecCause.LOCKED else .inl (s.setKey slot none))
  else if op = 2 then .inl (s.lockKey slot)
  else if op = 3 then
    if s.bit .SEC_CFG_NOWRAP then .inr SecCause.NOWRAP
    else match s.sec.cmdKey with
      | none => .inr SecCause.EMPTY
      | some k =>
        let blob := bytesWords (keyWrap ((List.range 16).map Config.deviceKey) k)
        .inl (s.forEach (List.range 6) fun s i => s.put (.SEC_WRAP_WORD i) (blob.getD i 0).toNat)
  else if op = 4 then
    if s.keyLocked slot then .inr SecCause.LOCKED
    else match keyUnwrap ((List.range 16).map Config.deviceKey) (wordsBytes ((List.range 6).map fun i => s.rd (Adr.SEC_WRAP i))) with
      | none => .inr SecCause.UNWRAP
      | some k => .inl ((s.setKey slot (some k)).raise Ev.SEC_KEY_LOADED)
  else if op = 5 then
    match s.sec.cmdKey with
    | none => .inr SecCause.EMPTY
    | some k => .inl (s.put .SEC_CHECK_CV (bytesWord (checkValue k)).toNat)
  else if op = 6 then .inl s.disarmSink
  else .inl s.zeroiseAll

/-- The command in progress ends: SEC_DONE, or SEC_ERR with its cause (R502). -/
def State.keyEnds (s : State) : State :=
  match s.sec.cmd with
  | none => s
  | some (op, slot) =>
    let s := { s.put .SEC_SINK_BUSY 0 with sec := { s.sec with cmd := none } }
    match s.keyEffect op slot with
    | .inl s => s.raise Ev.SEC_DONE
    | .inr c => s.secErr c 0 slot

/-- KEYCMD_COMPLETE (R502). A command written while the page holds at its safe point in a DRAIN issue begins after the
issue (R80, R515). -/
def State.keyComplete (s : State) : State := if s.pageHeld 10 then s else s.keyEnds

/-! ### Counter records (R503, R504, R520) -/

/-- Record kinds of SEC_CTRSEL. -/
def Ctr.TXU : Nat := 0
def Ctr.RXU : Nat := 1
def Ctr.RXB : Nat := 2
def Ctr.TXB : Nat := 3

/-- The place of a record; TXB has no peer. -/
def ctrKey (kind peer : Nat) : Nat := if kind = Ctr.TXB then kind * 256 else kind * 256 + peer

/-- A counter record. -/
def State.ctrRec (s : State) (key : Nat) : CtrRec :=
  match s.sec.records.find? fun e => e.1 == key with
  | some e => e.2
  | none => CtrRec.none

/-- A counter record set. -/
def State.setCtrRec (s : State) (key : Nat) (r : CtrRec) : State :=
  { s with sec := { s.sec with records := sparseSet CtrRec.none key r s.sec.records } }

/-- The record that SEC_CTRSEL selects. -/
def State.ctrSelected (s : State) : Nat := ctrKey (s.get .SEC_CTRSEL_KIND) (s.get .SEC_CTRSEL_PEER)

/-- A record as SEC finds it for a frame of EPOCH `e`: restarted at 0 where it is not valid for that EPOCH (R504). -/
def CtrRec.forEpoch (r : CtrRec) (e : Nat) : CtrRec :=
  if r.valid ∧ r.epoch = e then r else { valid := true, epoch := e, ctr := 0, warned := false }

/-- The counter of the next frame to protect, or none where it is exhausted (R504). -/
def State.takeCounter (s : State) (kind peer e : Nat) : Option (Nat × State) :=
  let key := ctrKey kind peer
  let r := (s.ctrRec key).forEpoch e
  if r.ctr = 0xFFFFFFFF then none
  else
    let warn := r.ctr = 0x80000000 ∧ ¬ r.warned
    let s := s.setCtrRec key { r with ctr := r.ctr + 1, warned := r.warned || warn }
    some (r.ctr, if warn then
      (((s.put .SEC_CTR_WARN_VALID 1).put .SEC_CTR_WARN_KIND kind).put .SEC_CTR_WARN_PEER (key % 256)).raise Ev.SEC_CTR_WARN
      else s)

/-- Whether the next frame's counter is exhausted (R504). -/
def State.counterSpent (s : State) (kind peer e : Nat) : Bool := ((s.ctrRec (ctrKey kind peer)).forEpoch e).ctr == 0xFFFFFFFF

/-! ### Protection and verification (R493 to R496, R506) -/

/-- What the nonce takes from a frame (R494). -/
structure NonceOf where
  src    : Nat
  dst    : Nat
  epoch  : Nat
  bcast  : Bool
  ack    : Bool
  legacy : Bool
  mic8   : Bool
  deriving DecidableEq, Repr

/-- The nonce (R494). -/
def State.nonce (s : State) (f : NonceOf) (ctr : Nat) : List Byte :=
  wordBytes (s.rd Adr.SEC_SYSID)
    ++ [BitVec.ofNat 8 f.src, BitVec.ofNat 8 (if f.bcast then 0 else f.dst), BitVec.ofNat 8 (if f.legacy then 0 else f.epoch)]
    ++ be32 ctr
    ++ [BitVec.ofNat 8 (f.bcast.toNat * 128 + f.ack.toNat * 64 + f.legacy.toNat * 32), if f.mic8 then 6 else 5]

/-- MIC length of a frame (R493). -/
def micLen (sec mic8 : Bool) : Nat := if sec then (if mic8 then 8 else 4) else 0

/-- AES block operations of one trial over a frame of `len` payload bytes, 0.5 µs each in the worst corner, and tenths of a
microsecond for so many trials (R508). -/
def trialBlocks (len : Nat) : Nat := 3 + 2 * ((len + 15) / 16)
def verdictTenthsUs (trials len : Nat) : Nat := 5 * trials * trialBlocks len

/-- The candidate counters of R506, in order. -/
def candidates (r : CtrRec) (e fwd back : Nat) : List Nat :=
  let l := if r.valid ∧ r.epoch = e then
      (List.range fwd).map (fun i => r.ctr + 1 + i) ++ (List.range (min (back + 1) (r.ctr + 1))).map fun i => r.ctr - i
    else List.range fwd
  l.filter fun c => c ≤ 0xFFFFFFFE

/-- A secured frame tried against the candidates: the counter found, whether it counts as new, and the payload (R506,
R507). -/
def State.verifyFrame (s : State) (f : NonceOf) (rec : CtrRec) (key aad body mic : List Byte) :
    Option (Nat × Bool × List Byte) :=
  let fresh := !(decide (rec.valid ∧ rec.epoch = f.epoch))
  (candidates rec f.epoch (s.get .SEC_CFG_FWD) (s.get .SEC_CFG_BACK)).findSome? fun c =>
    (ccmVerify key (s.nonce f c) aad body mic).map fun p => (c, fresh || decide (rec.ctr < c), p)

/-! ### The key sink (R511 to R514) -/

/-- The sink armed for SEC_SINKCFG.SLOT (R512). -/
def State.armSink (s : State) : State :=
  let m := s.get .SEC_SINKCFG_TO
  let s := (s.put .SEC_SINK_ARMED 1).put .SEC_SINK_SLOT (s.get .SEC_SINKCFG_SLOT)
  { s with sec := { s.sec with sinkEnd := if m = 0 then none else some (s.usec + m * 60000000) } }

/-- A sink refusal (R513). -/
def State.sinkRefuse (s : State) (result : Nat) : State :=
  ((s.put .SEC_SINK_RESULT result).sat .SEC_CNT_SINKFAIL).secErr SecCause.SINK 0 (s.get .SEC_SINK_SLOT)

/-- The sink's examination of an automatic-read payload: the payload delivered, and the state (R513, R514). -/
def State.sinkExamine (s : State) (p : List Byte) : List Byte × State :=
  if p.head? ≠ some 0xC7 then (p, s)
  else if s.bit .SEC_SINK_ARMED then
    let slot := s.get .SEC_SINK_SLOT
    let kid := (p.drop 2).take 4
    let key := (p.drop 6).take 16
    let zero := fun (l : List Byte) => (l ++ List.replicate 8 0).take 8
    if p.getD 1 0 ≠ 1 ∨ p.length < 28 then (zero kid, s.sinkRefuse 2)
    else if crc16Bytes (p.take 26) ≠ (p.drop 26).take 2 then (zero kid, s.sinkRefuse 3)
    else if s.keyLocked slot then (zero kid, s.sinkRefuse 4)
    else if checkValue key ≠ (p.drop 22).take 4 then (zero kid, s.sinkRefuse 5)
    else
      let s := ((s.setKey slot (some key)).raise Ev.SEC_KEY_LOADED).disarmSink
      let s := if s.bit .SEC_SINKCFG_LOCK then s.lockKey slot else s
      let s := (s.put .SEC_SINK_RESULT 1).put .SEC_CHECK_CV (bytesWord (checkValue key)).toNat
      (kid ++ checkValue key, s)
  else if s.bit .SEC_SINKCFG_GUARD then
    (p.take 6 ++ List.replicate (min p.length 26 - min p.length 6) 0 ++ p.drop 26, s)
  else (p, s)

/-- SEC's page soft reset (R515). -/
def State.secSoftReset (s : State) : State :=
  (s.keyEnds.forEach (List.range 6) fun s i => s.put (.SEC_WRAP_WORD i) 0).disarmSink.clearKeyIn

/-- The range checks of the SEC page (R517), by twin offset. -/
def secRange (s : State) : List (Nat × Bool) :=
  let fwd := s.getTwin .SEC_CFG_FWD
  [(0x240, fwd == 0 || decide (32 < fwd) || decide (32 < s.getTwin .SEC_CFG_BACK))]

end Sys2Proof.Machine
end

