-- ==== Sys2Proof/Machine/Link.lean ====
section
/-! DEFINITION. The link engines: transactions, frames and their headers, timeouts, acknowledgements, the judgement of
received frames and forward mode (R297 to R330, R334 to R339). -/

namespace Sys2Proof.Machine

/-! ### The transmit queue (R305, R320) -/

/-- An item of engine `n`'s transmit queue. -/
def State.txItem (s : State) (n id : Nat) : Option Item := (s.xing (txQ n)).owned.find? fun t => t.id == id

/-- The item of engine `n`'s transmit queue belongs to a forwarded frame, waiting or handed over (R320). -/
def State.forwardItem (s : State) (n id : Nat) : Bool :=
  (s.eng n).fwd.any (fun f => f.1 == id) || s.tx.any fun f => f.eng == n && f.kind == .forward id

/-- The items of engine `n`'s transmit queue that are in no transaction and are not forwarded, in order (R305). -/
def State.queuedItems (s : State) (n : Nat) : List Item :=
  (s.xing (txQ n)).owned.filter fun t =>
    !((s.eng n).places.any fun p => p.st != .free && p.item == t.id) && !s.forwardItem n t.id

/-! ### The push item on LINE and RADIO (R300) -/

def pushDst (w : Word) : Nat := bits w 31 24
def pushBcast (w : Word) : Bool := bits w 23 23 == 1
/-- NOACK, implied by BCAST. -/
def pushNoack (w : Word) : Bool := bits w 22 22 == 1 || pushBcast w
def pushSec (w : Word) : Bool := bits w 21 21 == 1
def pushMic8 (w : Word) : Bool := bits w 20 20 == 1
def pushHops (w : Word) : Nat := bits w 18 16
def pushTag (w : Word) : Nat := bits w 15 8
def pushLen (w : Word) : Nat := bits w 7 0

/-- The first word of an item. -/
def Item.desc (t : Item) : Word := t.words.getD 0 0

/-- The payload of a push item. -/
def Item.payload (t : Item) : List Byte := (wordsBytes (t.words.drop 1)).take (pushLen t.desc)

/-- The destination that PERPEER counts, 256 for a broadcast (R305). -/
def Item.target (t : Item) : Nat := if pushBcast t.desc then 256 else pushDst t.desc

/-- The destination of a window place, 256 for a broadcast. -/
def Place.target (p : Place) : Nat := if p.bcast then 256 else p.dst

/-- Open transactions of an engine (PG_STAT.BLOCK). -/
def State.openCount (s : State) (n : Nat) : Nat := (s.eng n).places.countP Place.isOpen

/-- PERPEER, 1 on a legacy engine (R305, R322). -/
def State.perPeer (s : State) (n : Nat) : Nat := if s.legacyGen n then 1 else s.get (.LE_CFG_PERPEER n)

/-- The first free window place; a legacy or NFC engine has a window of 1 (R322, R323). -/
def State.freePlace (s : State) (n : Nat) : Option Nat :=
  let l := (s.eng n).places
  if s.legacyGen n || s.phyOf n == Phy.NFC then
    (if l.all fun p => p.st == .free then some 0 else none)
  else (List.range 4).find? fun i => (l.getD i Place.free).st == .free

/-- The first of the first 8 items whose DST has a transaction to spare (R305). -/
def State.eligible (s : State) (n : Nat) : Option Item :=
  ((s.queuedItems n).take 8).find? fun t =>
    s.phyOf n == Phy.NFC
      || decide ((s.eng n).places.countP (fun p => p.isOpen && p.target == t.target) < s.perPeer n)

/-- Every open transaction ends failed with cause STOPPED, without reports; LEn_FAIL once (R325). -/
def State.stopAll (s : State) (n : Nat) (nfc : Bool) : State :=
  let stopped := (List.range 4).filter fun i => (s.place n i).isOpen
  match stopped.head? with
  | none => s
  | some i0 =>
    let p0 := s.place n i0
    let k := stopped.length
    let s := s.forEach stopped fun s i =>
      let p := s.place n i
      let s := s.freeOwned (txQ n) p.item
      let s := if nfc || p.bcast then s else s.setPeer p.dst Peer.INFL (s.peer p.dst Peer.INFL - 1)
      s.setPlace n i Place.free
    s.leFail n LeCause.STOPPED p0.dst p0.tag k

/-- `stopAll` under the present binding. -/
def State.stopTransactions (s : State) (n : Nat) : State := s.stopAll n (s.phyOf n == Phy.NFC)

/-- An engine's page soft reset (R48, R325): both queues make a side reset, which counts what it discards (R50), and its
transactions stop. The peer table is not touched. -/
def State.engineSoftReset (s : State) (n : Nat) : State :=
  let s := (((s.sideReset (txQ n) false).sideReset (rxQ n) false).stopTransactions n).put (.LE_STAT_HELD n) 0
  s.setEng n { Engine.reset with opened := (s.eng n).opened }

/-! ### Opening (R305, R306) -/

/-- The key slot of a frame to send (R496). -/
def State.txKeySlot (s : State) (n : Nat) (bcast : Bool) (dst : Nat) : Nat :=
  if bcast then s.get (.LE_CFG_BKEY n) else s.peer dst Peer.KEY

/-- The counter record of a frame to send (R504). -/
def txCtrKind (bcast : Bool) : Nat := if bcast then Ctr.TXB else Ctr.TXU

/-- The EPOCH of a frame that engine `n` sends, 0 on a legacy engine (R318, R322, R510). -/
def State.txEpoch (s : State) (n : Nat) : Nat := if s.legacyGen n then 0 else s.get (.LE_EPOCH_EPOCH n)

/-- The cause for which an item is refused at opening on LINE and RADIO (R306, R504), the second component telling an
exhausted counter. -/
def State.openRefusal (s : State) (n : Nat) (t : Item) : Option (Nat × Bool) :=
  let w := t.desc
  let len := pushLen w
  let dst := pushDst w
  if 192 < len ∨ t.words.length ≠ 1 + (len + 3) / 4 then some (LeCause.BADITEM, false)
  else if dst = s.get .SYS_NODE_ID_ID ∧ ¬ pushBcast w then some (LeCause.SELF, false)
  else if s.peer dst Peer.VALID = 0 ∧ ¬ pushBcast w then some (LeCause.NOPEER, false)
  else if pushBcast w ∧ s.legacyGen n then some (LeCause.LEGACY, false)
  else if pushSec w ∧ s.keyOf (s.txKeySlot n (pushBcast w) dst) = none then some (LeCause.KEY, false)
  else if pushSec w ∧ s.counterSpent (txCtrKind (pushBcast w)) dst (s.txEpoch n) then some (LeCause.KEY, true)
  else none

/-- The cause for which an NFC item is refused (R472). -/
def nfcRefusal (t : Item) : Option Nat :=
  let w := t.desc
  if bits w 31 30 = 3 ∨ 252 < pushLen w ∨ t.words.length ≠ 1 + (pushLen w + 3) / 4 then some LeCause.BADITEM else none

/-- An item that fails at opening ends at once; its report waits in the free place where it must (R305 to R307). -/
def State.refuseItem (s : State) (n i : Nat) (t : Item) (cause : Nat) : State :=
  let s := s.freeOwned (txQ n) t.id
  let dst := if s.phyOf n = Phy.NFC then 0 else pushDst t.desc
  (s.leFail n cause dst (pushTag t.desc) 1).queueReport n i (reportWord cause dst (pushTag t.desc) 0)

/-- The opening of a transaction (R305). -/
def State.openPlace (s : State) (n i : Nat) (t : Item) : State :=
  let w := t.desc
  let dst := pushDst w
  let e := s.eng n
  let base : Place := { Place.free with
    st := .due, dst := dst, tag := pushTag w, bcast := pushBcast w, noack := pushNoack w, item := t.id, order := e.opened }
  let s := s.setEng n { e with opened := e.opened + 1 }
  if s.phyOf n = Phy.NFC then s.setPlace n i { base with dst := 0, bcast := false }
  else if pushBcast w then
    (s.setPlace n i { base with seq := s.get (.LE_STAT_BSEQ n) }).wrap (.LE_STAT_BSEQ n)
  else
    let m := if s.legacyGen n then 16 else 256
    let seq := s.peer dst Peer.TXSEQ % m
    ((s.setPlace n i { base with seq := seq }).setPeer dst Peer.TXSEQ ((seq + 1) % m)).setPeer dst Peer.INFL
      (s.peer dst Peer.INFL + 1)

/-- The pages of a PHY. -/
def phyPages (phy : Nat) : List Nat :=
  if phy = Phy.NFC then [12, 13] else if phy = Phy.LINE then [14] else if phy = Phy.RADIO then [15, 16] else []

/-- One opening, where a place and an item are there (R305); an engine without a PHY, or whose PHY pages are not enabled,
holds its items (R298). -/
def State.openOne (s : State) (n : Nat) : State :=
  let p := 24 + n
  let phy := s.phyOf n != Phy.NONE && (phyPages (s.phyOf n)).all s.enabled
  if s.takesWork p && phy && !s.bit (.LE_STAT_HELD n) then
    match s.freePlace n, s.eligible n with
    | some i, some t =>
      if s.phyOf n = Phy.NFC then
        match nfcRefusal t with
        | some c => s.refuseItem n i t c
        | none => s.openPlace n i t
      else match s.openRefusal n t with
        | some (c, spent) =>
          let s := if spent then s.secErr SecCause.EXHAUSTED (pushDst t.desc) (s.txKeySlot n (pushBcast t.desc) (pushDst t.desc)) else s
          s.refuseItem n i t c
        | none => s.openPlace n i t
    | _, _ => s
  else s

/-! ### Headers (R335, R338) -/

/-- What a link frame's header says. -/
structure Header where
  ftype : Nat
  bcast : Bool
  noack : Bool
  retry : Bool
  sec   : Bool
  mic8  : Bool
  dst   : Nat
  src   : Nat
  seq   : Nat
  epoch : Nat
  len   : Nat
  hops  : Nat
  deriving DecidableEq, Repr

/-- The 8 header bytes of a coded frame, HDRCHK included (R335). -/
def Header.coded (h : Header) : List Byte :=
  let b0 := h.ftype * 32 + h.bcast.toNat * 16 + h.noack.toNat * 8 + h.retry.toNat * 4 + h.sec.toNat * 2 + h.mic8.toNat
  let l : List Byte := [b0, if h.bcast then 0 else h.dst, h.src, h.seq, h.epoch, h.len].map (BitVec.ofNat 8)
  l ++ [BitVec.ofNat 8 (h.hops % 8), BitVec.ofNat 8 (crc8 l)]

/-- The 4 header bytes of a legacy frame (R338). -/
def Header.legacy (h : Header) : List Byte :=
  [h.ftype * 64 + h.noack.toNat * 32 + h.sec.toNat * 16 + h.seq % 16, h.dst, h.src, h.len].map (BitVec.ofNat 8)

/-- Byte `i` of a frame as a number. -/
def at8 (l : List Byte) (i : Nat) : Nat := (l.getD i 0).toNat

/-- The header of a coded frame's bytes. -/
def readCoded (l : List Byte) : Header :=
  let b := l.getD 0 0
  { ftype := at8 l 0 / 32, bcast := b.getLsbD 4, noack := b.getLsbD 3, retry := b.getLsbD 2, sec := b.getLsbD 1,
    mic8 := b.getLsbD 0, dst := at8 l 1, src := at8 l 2, seq := at8 l 3, epoch := at8 l 4, len := at8 l 5,
    hops := at8 l 6 % 8 }

/-- The header of a legacy frame's bytes: no broadcast, RETRY, EPOCH or HOPS (R339). -/
def readLegacy (l : List Byte) : Header :=
  let b := l.getD 0 0
  { ftype := at8 l 0 / 64, bcast := false, noack := b.getLsbD 5, retry := false, sec := b.getLsbD 4, mic8 := false,
    dst := at8 l 1, src := at8 l 2, seq := at8 l 0 % 16, epoch := 0, len := at8 l 3, hops := 0 }

/-- Bytes of the information stream or of a legacy frame (R334, R338). -/
def frameLen (legacy : Bool) (h : Header) : Nat :=
  if legacy then 4 + h.len + micLen h.sec false + 2 else 8 + h.len + micLen h.sec h.mic8 + 4

/-- A header's bytes in its generation's layout. -/
def Header.bytes (legacy : Bool) (h : Header) : List Byte := if legacy then h.legacy else h.coded

/-- The additional data of the MIC (R337, R339): header bytes 0 to 5 with RETRY taken as 0, or the legacy header. -/
def Header.aad (legacy : Bool) (h : Header) : List Byte :=
  if legacy then h.legacy else ({ h with retry := false }.coded).take 6

/-- What the nonce takes from a header. -/
def Header.nonceOf (legacy : Bool) (h : Header) : NonceOf :=
  { src := h.src, dst := h.dst, epoch := h.epoch, bcast := h.bcast, ack := h.ftype == 1, legacy := legacy, mic8 := h.mic8 }

/-- A header and payload protected where SEC is set (R495): header, payload and MIC. None where no key or counter is
left. -/
def State.protect (s : State) (n : Nat) (legacy : Bool) (h : Header) (payload : List Byte) : Option (List Byte × State) :=
  if h.sec then
    match s.keyOf (s.txKeySlot n h.bcast h.dst) with
    | none => none
    | some key =>
      match s.takeCounter (txCtrKind h.bcast) h.dst h.epoch with
      | none => none
      | some (c, s) =>
        some (h.bytes legacy ++ ccmProtect key (s.nonce (h.nonceOf legacy) c) (h.aad legacy) payload (micLen true h.mic8), s)
  else some (h.bytes legacy ++ payload, s)

/-- The check sequence appended (R334, R338). -/
def withCheck (legacy : Bool) (l : List Byte) : List Byte := if legacy then l ++ crc16Bytes l else l ++ crc32Bytes l

/-! ### Handing frames over (R308, R350) -/

/-- The crossing that feeds a PHY island. -/
def phyXing (phy : Nat) : Nat := if phy = Phy.NFC then 0 else if phy = Phy.LINE then 2 else 4

/-- A generation without LDPC: M1, M2, Elair 1 (R331). -/
def legacyOf (phy gen : Nat) : Bool := (phy == Phy.LINE && gen != 3) || (phy == Phy.RADIO && gen == 1)

/-- Codewords of a frame that is sent. -/
def TxFrame.ncw (f : TxFrame) : Nat := codewordsOf f.code (8 * f.bytes.length)

/-- Bits of a frame after its sync word: whitened, except M1, and coded with the PHR in front (R331, R332, R341). -/
def TxFrame.bits (f : TxFrame) : List Bool :=
  if f.phy = Phy.NFC then bytesBits f.bytes
  else if legacyOf f.phy f.gen then
    (if f.phy = Phy.LINE ∧ f.gen = 1 then bytesBits f.bytes else whiten (bytesBits f.bytes))
  else
    let b0 : Byte := BitVec.ofNat 8 (f.code * 64 + (f.ncw - 1) * 8)
    let phr := bytesBits [b0, BitVec.ofNat 8 (crc8 [b0])]
    phr ++ phr ++ phr ++ f.cws.flatten

/-- A frame queued for its PHY island, whole (R36). -/
def State.toPhy (s : State) (f : TxFrame) : State :=
  let n := phyXing f.phy
  let i := s.newId
  let x := i.2.xing n
  (i.2.putXing n { x with waiting := x.waiting ++
    [{ id := i.1, cost := cellsFor ((f.bits.length + 7) / 8), cells := [], words := [], llrs := [], frame := f.id }] }).xingMoved n

/-- A frame record replaced. -/
def State.setTx (s : State) (f : TxFrame) : State := { s with tx := s.tx.map fun g => if g.id = f.id then f else g }

/-- A frame that the encoder takes in codewords. -/
def TxFrame.coded (f : TxFrame) : Bool := !legacyOf f.phy f.gen && f.phy != Phy.NFC

/-- The transmit code of a frame whose encoding starts now (R352, R355). -/
def State.txCode (s : State) (phy : Nat) : Nat := if phy = Phy.LINE then s.get .FEC_CODE_LINE else s.get .FEC_CODE_RADIO

/-- The codewords that wait for the encoder go across crossing 8 while it takes them, frame by frame in order (R350). A
frame takes its transmit code with its first one. -/
def State.feedFrame (s : State) (f : TxFrame) : Nat → State
  | 0 => s
  | k + 1 =>
    let f := if f.fed = 0 then { f with code := s.txCode f.phy } else f
    let elder := s.tx.any fun g => g.id != f.id && g.id < f.id && g.coded && decide (g.fed < g.ncw)
    if f.fed < f.ncw && !elder && s.enabled 11 then
      let i := s.newId
      let t : Item := { id := i.1, cost := 1, cells := [], words := [], llrs := [], frame := f.id }
      let h := i.2.handItem 8 t 0 true
      if h.1 then
        let f := { f with fed := f.fed + 1 }
        (h.2.setTx f).feedFrame f k
      else s
    else s

/-- Every coded frame that waits offers its codewords to the encoder. -/
def State.feedEncoder (s : State) : State :=
  let s' := s.forEach s.tx fun s f =>
    if f.coded then match s.txFrame f.id with
      | none => s
      | some f => s.feedFrame f 8
    else s
  if (s.xing 8).owned.isEmpty && !(s'.xing 8).owned.isEmpty then s'.fecWake.fecStart else s'

/-- The radio mode of a frame whose encoding starts now (R431, R439). -/
def State.txMode (s : State) (phy gen : Nat) : Nat :=
  if phy = Phy.RADIO ∧ gen ≠ 1 then s.get .RDM_TXMODE_MODE else 0

/-- The encoding of a coded frame has started. -/
def State.encodingBegun (s : State) (f : TxFrame) : Bool :=
  !f.cws.isEmpty || (s.fec.work == some true && (s.xing 8).owned.head?.any fun t => t.frame == f.id)

/-- What an RDM page application does beside the copy (R439): a frame whose encoding has not started takes the new
RDM_TXMODE, but for a beacon and for a frame that the radio has begun to send. -/
def State.modemApplied (s : State) : State :=
  { s with tx := s.tx.map fun f =>
      if f.coded && f.phy == Phy.RADIO && f.kind != .beacon && s.rad.tx != some f.id && !s.encodingBegun f
      then { f with mode := s.txMode f.phy f.gen } else f }

/-- What a FEC page application does beside the copy (R352): a frame whose encoding has not started takes the new transmit
code, its codewords at the encoder cut anew. -/
def State.fecApplied (s : State) : State :=
  let anew := (s.tx.filter fun f => f.coded && 0 < f.fed && !s.encodingBegun f).map (·.id)
  let items := ((s.xing 8).owned.filter fun t => anew.contains t.frame).map (·.id)
  let s := s.forEach items fun s i => s.freeOwned 8 i
  ({ s with tx := s.tx.map fun f => if anew.contains f.id then { f with fed := 0 } else f } : State).feedEncoder

/-- A frame handed to FEC and the PHY (R308): a coded one to the encoder, any other whole to its PHY. -/
def State.handFrame (s : State) (n phy gen : Nat) (kind : TxKind) (bytes : List Byte) : State :=
  let i := s.newId
  let f : TxFrame :=
    { id := i.1, eng := n, kind := kind, phy := phy, gen := gen, mode := s.txMode phy gen, bytes := bytes, code := s.txCode phy,
      fed := 0, cws := [] }
  let s := { i.2 with tx := i.2.tx ++ [f] }
  if f.coded then s.feedEncoder else s.toPhy f

/-- The hop limit of a frame: 0 in the item takes LE_CFG.HOPS, and 0 there acts as 1 (R300, R327). -/
def State.hopLimit (s : State) (n item : Nat) : Nat :=
  if item = 0 then max 1 (s.get (.LE_CFG_HOPS n)) else item

/-- A place's frame handed over (R308, R310, R495): built and protected at the first hand-over, with RETRY at every
later one. -/
def State.sendPlace (s : State) (n i : Nat) : State :=
  let p := s.place n i
  let phy := s.phyOf n
  let gen := s.genOf n
  let legacy := s.legacyGen n
  match s.txItem n p.item with
  | none => s
  | some t =>
    let w := t.desc
    if phy = Phy.NFC then
      (s.setPlace n i { p with st := .air, tries := p.tries + 1 }).handFrame n phy gen (.data i p.item) (wordsBytes t.words)
    else
      let h : Header :=
        { ftype := 0, bcast := p.bcast, noack := p.noack, retry := false, sec := pushSec w,
          mic8 := pushSec w && pushMic8 w && !legacy, dst := p.dst, src := s.get .SYS_NODE_ID_ID, seq := p.seq,
          epoch := s.txEpoch n, len := pushLen w, hops := s.hopLimit n (pushHops w) }
      let r := if p.bytes.isEmpty then s.protect n legacy h t.payload else some (p.bytes, s)
      match r with
      | none => s
      | some (bytes, s) =>
        let out := if legacy ∨ p.tries = 0 then bytes
          else ({ readCoded bytes with retry := true }.coded) ++ bytes.drop 8
        (s.setPlace n i { p with st := .air, tries := p.tries + 1, bytes := bytes }).handFrame n phy gen (.data i p.item)
          (withCheck legacy out)

/-- A frame's transmission starts on its PHY: a retransmission is counted (R310). -/
def State.frameStarts (s : State) (f : TxFrame) : State :=
  match f.kind with
  | .data i item =>
    let p := s.place f.eng i
    if p.item = item ∧ p.st = .air ∧ 1 < p.tries ∧ f.phy ≠ Phy.NFC then
      let s := s.sat (.LE_TXCNT_RETRY f.eng)
      if p.bcast then s else s.satPeer p.dst Peer.RETRIES
    else s
  | _ => s

/-- An owed acknowledgement handed over (R311, R314, R336, R338), built from the entry's present RXSEQ and BITMAP. Its
NOACK bit is not stated (a free value). -/
def State.sendAck (s : State) (n peer : Nat) : State :=
  let legacy := s.legacyGen n
  let f := s.freshBelow 2
  let s := f.2
  let sec := s.peer peer Peer.SECREQ == 1
  let h : Header :=
    { ftype := 1, bcast := false, noack := f.1 == 1, retry := false, sec := sec,
      mic8 := sec && s.peer peer Peer.MIC8 == 1 && !legacy, dst := peer, src := s.get .SYS_NODE_ID_ID,
      seq := s.peer peer Peer.RXSEQ, epoch := s.txEpoch n, len := if legacy then 0 else 2, hops := s.hopLimit n 0 }
  let s := s.setPeer peer Peer.ACKOWED 0
  match s.protect n legacy h (if legacy then [] else be16 (s.peer peer Peer.BITMAP)) with
  | none => if sec && (s.keyOf (s.txKeySlot n false peer)).isSome then
      s.secErr SecCause.EXHAUSTED peer (s.txKeySlot n false peer) else s
  | some (bytes, s) =>
    s.handFrame n (s.phyOf n) (s.genOf n) (.ack peer) (withCheck legacy bytes)

/-- The place in DUE that was opened first (R308). -/
def State.firstDue (s : State) (n : Nat) : Option Nat :=
  (List.range 4).foldl (fun b i =>
    let p := s.place n i
    if p.st = .due then match b with
      | none => some i
      | some j => if p.order < (s.place n j).order then some i else b
    else b) none

/-- The peers whose entry shows an acknowledgement owed (ACKOWED, R308, R314), by number. -/
def State.owedPeers (s : State) : List Nat :=
  (s.mem.filter fun e => decide (0xE000 ≤ e.1) && e.1 % 16 == 3 && e.2.getLsbD 7).map fun e => (e.1 - 0xE000) / 16

/-- The acknowledgements that engine `n` owes, the eldest first: those that it knows of itself, then those of the peer
table alone, which a host has restored (R317) or a role change has kept (R20), for the peers that ENG gives this engine
(log entry 39). -/
def State.owedBy (s : State) (n : Nat) : List Nat :=
  let shown := s.owedPeers
  let mine := (s.eng n).owed.filter (shown.contains ·)
  let known := s.engines.flatMap (·.owed)
  mine ++ shown.filter fun i => !known.contains i && s.peer i Peer.ENG == n

/-- The forwarded frames that engine `n` may send: none as a hub (R22). -/
def State.forwards (s : State) (n : Nat) : List (Nat × List Byte) := if s.hub then [] else (s.eng n).fwd

/-- One frame at an opportunity: an owed acknowledgement, else a forwarded frame, else the first place in DUE (R308). -/
def State.transmitOne (s : State) (n : Nat) : State :=
  let e := s.eng n
  match s.owedBy n with
  | o :: _ => (s.setEng n { e with owed := e.owed.filter fun p => p != o }).sendAck n o
  | [] =>
    match s.forwards n with
    | (id, bytes) :: r =>
      (s.setEng n { e with fwd := r }).handFrame n (s.phyOf n) (s.genOf n) (.forward id) (withCheck false bytes)
    | [] =>
      match s.firstDue n with
      | some i => s.sendPlace n i
      | none => s

/-- Whether engine `n` has something to hand over. -/
def State.hasFrame (s : State) (n : Nat) : Bool :=
  !(s.owedBy n).isEmpty || !(s.forwards n).isEmpty || (s.firstDue n).isSome

/-- A task runs in which engine `n` may hand over frames (R308). -/
def State.mayTransmit (s : State) (n : Nat) : Bool :=
  let phy := s.phyOf n
  s.takesWork (24 + n) &&
    slotNumbers.any fun i =>
      let t := s.slot i
      t.st == .running &&
        ((phy == Phy.RADIO && t.kind == Kind.RAD_TX && t.engine == n)
          || (phy == Phy.NFC && (t.kind == Kind.NFC_TXN || t.kind == Kind.NFC_POLL) && t.engine == n)
          || (phy == Phy.LINE && t.kind == Kind.LINE_CYCLE))

/-- A frame's transmission on its PHY has completed (R307, R309): a place without acknowledgement ends done, any other
waits; a forwarded frame's credits return. -/
def State.frameSent (s : State) (f : TxFrame) : State :=
  let n := f.eng
  match f.kind with
  | .data i item =>
    let p := s.place n i
    if p.item = item ∧ p.st = .air ∧ f.phy ≠ Phy.NFC then
      (if p.noack then s.endTransaction n i 0 else s.startAckWait n i)
    else s
  | .forward item => s.freeOwned (txQ n) item
  | _ => s

/-! ### Timeouts (R309, R325) -/

/-- The acknowledgement timeout of a place expires at the first orbit at which SCH_TIME has reached it. -/
def State.ackTimeout (s : State) (n i : Nat) : State :=
  let p := s.place n i
  if p.st = .waitAck ∧ s.enabled (24 + n) ∧ ¬ s.safe (24 + n) then
    let s := s.advanceTo ((p.due + 999) / 1000 * 1000)
    if p.most < p.tries then s.endTransaction n i LeCause.RETRIES
    else
      let f := s.freshBelow (p.jitter + 1)
      if f.1 = 0 then f.2.setPlace n i { p with st := .due }
      else f.2.setPlace n i { p with st := .jitter, due := s.usec + f.1 * 1000 }
  else s

/-- A place's retransmission delay ends (R309). -/
def State.jitterExpiry (s : State) (n i : Nat) : State :=
  let p := s.place n i
  if p.st = .jitter ∧ s.enabled (24 + n) ∧ ¬ s.safe (24 + n) then (s.advanceTo p.due).setPlace n i { p with st := .due }
  else s

/-- SAFE set or released on an engine: its timeouts stand still (R325). -/
def State.engineSafe (s : State) (n : Nat) (set : Bool) : State :=
  let e := s.eng n
  if set then s.setEng n { e with safeAt := s.usec }
  else s.setEng n { e with places := e.places.map fun p => { p with due := p.due + (s.usec - e.safeAt) } }

/-- LEn_KICK (R308). -/
def State.kick (s : State) (n : Nat) : State :=
  let e := s.eng n
  (s.put (.LE_STAT_HELD n) 0).setEng n
    { e with places := e.places.map fun p => if p.st = .jitter then { p with st := .due } else p }

/-! ### Acknowledgements (R311) -/

/-- Modulo-256 comparison of R312. -/
def newer (a b : Nat) : Bool := let d := (a + 256 - b % 256) % 256; 1 ≤ d && d ≤ 127
def older (a b : Nat) : Bool := let d := (a + 256 - b % 256) % 256; 128 ≤ d

/-- The acknowledgement covers sequence number `q` (R311, R322). -/
def ackCovers (legacy : Bool) (ackseq bitmap q : Nat) : Bool :=
  if legacy then q % 16 == ackseq % 16
  else
    let d := (ackseq + 256 - q) % 256
    d == 0 || (1 ≤ d && d ≤ 15 && bitmap / 2 ^ d % 2 == 1)

/-- A received acknowledgement from `src` for engine `n`. -/
def State.ackReceived (s : State) (n : Nat) (h : Header) (bitmap : Nat) : State :=
  if !s.legacyGen n && older h.epoch (s.peer h.src Peer.RXEPOCH) then s.sat (.LE_CNT_STALE n)
  else
    let hit := (List.range 4).filter fun i =>
      let p := s.place n i
      p.isOpen && !p.bcast && p.dst == h.src && ackCovers (s.legacyGen n) h.seq bitmap p.seq
    if hit.isEmpty then s.sat (.LE_CNT_STRAYACK n)
    else s.forEach hit fun s i => s.endTransaction n i 0

/-! ### Forward mode (R319 to R321) -/

/-- Bound to a generation that forwards: M3 or Elair 2. -/
def State.forwardGen (s : State) (n : Nat) : Bool :=
  (s.phyOf n == Phy.LINE && s.genOf n == 3)
    || (s.phyOf n == Phy.RADIO && s.genOf n == 2)

/-- Forwarding is active in engine `n` (R319). -/
def State.fwdActive (s : State) (n : Nat) : Bool :=
  let m := s.get (.LE_FWD_PARTNER n)
  s.bit (.LE_FWD_EN n) && !s.hub && s.bit (.LE_FWD_EN m) && s.get (.LE_FWD_PARTNER m) == n && m != n
    && s.enabled (24 + n) && s.enabled (24 + m) && s.forwardGen n && s.forwardGen m

/-- A frame passed to the partner with HOPS − 1, or counted dropped (R320). `known` tells whether the DST condition
applies, `own` are the cells that the frame occupies: the queued copy takes the frame in them, so that it needs no cell of
the free pool. -/
def State.forward (s : State) (n : Nat) (h : Header) (bytes : List Byte) (known : Bool) (own : List Nat) : State :=
  let m := s.get (.LE_FWD_PARTNER n)
  let words := bytesWords bytes
  let k := cellsOfWords words.length
  let dstOk := !known || (s.peer h.dst Peer.VALID == 1 && s.peer h.dst Peer.ENG == m)
  if dstOk && 1 ≤ h.hops && s.accepts (txQ m) k then
    let s := s.giveCells (own.drop k)
    let own := own.take k
    let r := (s.takeCells (min (k - own.length) s.freeCells)).getD ([], s)
    let i := r.2.newId
    let x := i.2.xing (txQ m)
    let t : Item := { id := i.1, cost := k, cells := own ++ r.1, words := words, llrs := [], frame := 0 }
    let s := i.2.setXing (txQ m) { x with owned := x.owned ++ [t] }
    let copy := bytes.take 6 ++ [BitVec.ofNat 8 (h.hops - 1)] ++ (bytes.drop 7).take (bytes.length - 11)
    let e := s.eng m
    (s.setEng m { e with fwd := e.fwd ++ [(i.1, copy)] }).sat (.LE_FWDCNT_FWD n)
  else (s.giveCells own).sat (.LE_FWDCNT_DROP n)

/-! ### Received frames (R299, R312 to R315) -/

/-- The PHY of a receive crossing. -/
def xingPhy (x : Nat) : Nat := if x = 1 then Phy.NFC else if x = 3 then Phy.LINE else Phy.RADIO

/-- The enabled engine bound to a PHY and generation with SAFE 0, LE7's legacy binding apart (R299). -/
def State.boundEngine (s : State) (phy gen : Nat) : Option Nat :=
  (List.range 8).find? fun n =>
    s.enabled (24 + n) && !s.safe (24 + n) && s.phyOf n == phy && s.genOf n == gen

/-- The frame arrived on a legacy generation. -/
def RxFrame.legacy (f : RxFrame) : Bool := legacyOf (xingPhy f.xing) f.gen

/-- The header of a received frame. -/
def RxFrame.header (f : RxFrame) : Header := if f.legacy then readLegacy f.bytes else readCoded f.bytes

/-- The payload as received, protected where SEC is set. -/
def RxFrame.body (f : RxFrame) : List Byte :=
  (f.bytes.drop (if f.legacy then 4 else 8)).take f.header.len

/-- The payload that is delivered: decrypted where SEC has verified it. -/
def RxFrame.payload (f : RxFrame) : List Byte := f.plain.getD f.body

/-- The MIC. -/
def RxFrame.mic (f : RxFrame) : List Byte :=
  (f.bytes.drop ((if f.legacy then 4 else 8) + f.header.len)).take (micLen f.header.sec f.header.mic8)

/-- A received frame leaves the fabric: its items on the receive crossings are freed (R39), and the cells that it occupies
are handed on (R47). -/
def State.takeRx (s : State) (id : Nat) : List Nat × State :=
  let mine := fun (n : Nat) => (s.xing n).owned.filter fun t => t.frame == id
  let cells := [1, 3, 5].flatMap (fun n => (mine n).flatMap (·.cells))
    ++ (s.rx.filter fun f => f.id == id).flatMap (·.cells)
  let s := s.forEach [1, 3, 5] fun s n =>
    if (mine n).isEmpty then s else s.setXing n { s.xing n with owned := (s.xing n).owned.filter fun t => t.frame != id }
  (cells, { s with rx := s.rx.filter fun f => f.id != id })

/-- A received frame freed. -/
def State.dropRx (s : State) (id : Nat) : State := (s.takeRx id).2.giveCells (s.takeRx id).1

/-- A received frame that the fabric would discard, to the drop queue in the cells that it occupies (R46, R47). -/
def State.dropRxFrame (s : State) (reason : Nat) (f : RxFrame) : State :=
  (s.takeRx f.id).2.dropFrame reason f.xing f.bytes (s.takeRx f.id).1

/-- A received frame replaced. -/
def State.setRx (s : State) (f : RxFrame) : State := { s with rx := s.rx.map fun g => if g.id = f.id then f else g }

/-- A peer that the table knows; the device's own entry is not used (R26, R312 step 2). -/
def State.knows (s : State) (id : Nat) : Bool := s.peer id Peer.VALID == 1 && id != s.get .SYS_NODE_ID_ID

/-- The frame is for this device (R24, R312 step 1). -/
def State.forUs (s : State) (h : Header) : Bool := h.bcast || h.dst == s.get .SYS_NODE_ID_ID

/-- The key slot that a received frame is verified with: the broadcast slot of its engine, or its peer's (R496). -/
def State.rxKeySlot (s : State) (f : RxFrame) : Nat :=
  if f.header.bcast then s.get (.LE_CFG_BKEY ((s.boundEngine (xingPhy f.xing) f.gen).getD 0))
  else s.peer f.header.src Peer.KEY

/-- SEC begins with the first frame that waits for it, unless its page takes no new work (R80), and keeps the key that the
slot holds now (R501, R515). -/
def State.secStart (s : State) : State :=
  match s.rx.find? fun f => f.stage == .sec with
  | none => s
  | some f => if f.key.isSome || s.drainHold 10 then s else s.setRx { f with key := some (s.keyOf (s.rxKeySlot f)) }

/-- No frame of engine `n` in AIR, none between its SEC verdict and its delivery (R324). -/
def State.leQuiet (s : State) (n : Nat) : Bool :=
  (s.eng n).places.all (fun p => p.st != .air)
    && s.rx.all fun f => f.stage != .link || s.boundEngine (xingPhy f.xing) f.gen != some n

/-- The staged set of an LE page changes LE_BIND or LE_EPOCH (R324). -/
def State.bindChanging (s : State) (n : Nat) : Bool :=
  s.rd (Adr.LE_BIND n) != s.rd (Adr.LE_BIND n + 0x200) || s.rd (Adr.LE_EPOCH n) != s.rd (Adr.LE_EPOCH n + 0x200)

/-- A frame's way to engine `n` is free; the page holds first where it drains and stands at its safe point (R80). -/
def State.toEngine (s : State) (n : Nat) (f : RxFrame) : State :=
  let others : State := { s with rx := s.rx.filter fun g => g.id != f.id }
  (s.latch (24 + n) (others.leQuiet n && !s.bindChanging n)).setRx { f with stage := .link }

/-- A frame that has passed its checks goes to SEC or to the link engine (R312, R351). A frame for another device or
from an unknown peer is not verified: steps 1 and 2 decide it first. -/
def State.toLink (s : State) (f : RxFrame) : State :=
  match s.boundEngine (xingPhy f.xing) f.gen with
  | none => s.dropRxFrame 2 f
  | some n =>
    let h := f.header
    if h.sec && s.forUs h && s.knows h.src then (s.setRx { f with stage := .sec }).secStart
    else s.toEngine n f

/-- The receive item of KIND 0 (R301). -/
def rxWords (h : Header) (secured stranger : Bool) (rssi gen : Nat) (payload : List Byte) : List Word :=
  BitVec.ofNat 32 (h.bcast.toNat * 2 ^ 29 + secured.toNat * 2 ^ 28 + stranger.toNat * 2 ^ 27 + h.retry.toNat * 2 ^ 26
      + h.src * 2 ^ 16 + h.seq * 2 ^ 8 + payload.length)
    :: BitVec.ofNat 32 (h.epoch * 2 ^ 24 + h.hops * 2 ^ 16 + rssi * 2 ^ 8 + gen) :: bytesWords payload

/-- An acknowledgement to `peer` becomes owed (R314). -/
def State.oweAck (s : State) (n peer : Nat) : State :=
  let e := s.eng n
  (s.setEng n { e with owed := e.owed.filter (fun o => o != peer) ++ [peer] }).setPeer peer Peer.ACKOWED 1

/-- What the judgement of R312 decides. -/
inductive Verdict where
  | stale
  | duplicate (ack : Bool)
  | old
  /-- Accepted: the new words 1 and BSEQ (RXSEQ, RXEPOCH, BITMAP, BSEQ), and whether an EPOCH is new. -/
  | accept (rxseq rxepoch bitmap bseq : Nat) (epochNew : Bool)
  deriving DecidableEq, Repr

/-- Acceptance as a first frame (R312 steps 5 and 7): what the frame does not set reads 0, the entry's value at reset (log
entry 8). -/
def acceptFirst (h : Header) (epochNew : Bool) : Verdict :=
  if h.bcast then .accept 0 h.epoch 0 h.seq epochNew else .accept h.seq h.epoch 0x0001 0 epochNew

/-- Steps 5 to 13 of R312 on an entry's receive state. Where no row fits (a unicast SEQ equal to RXSEQ whose bit is 0,
after broadcasts alone) the frame is accepted as in step 12 (log entry 8). -/
def judge (rxvalid : Bool) (rxseq rxepoch bitmap bseq : Nat) (h : Header) : Verdict :=
  if !rxvalid then acceptFirst h false
  else if older h.epoch rxepoch then .stale
  else if newer h.epoch rxepoch then acceptFirst h true
  else if h.bcast then
    (if newer h.seq bseq then .accept rxseq rxepoch bitmap h.seq false else .duplicate false)
  else if newer h.seq rxseq then
    let d := (h.seq + 256 - rxseq) % 256
    .accept h.seq rxepoch ((bitmap * 2 ^ d) % 2 ^ 16 + 1) bseq false
  else
    let d := (rxseq + 256 - h.seq) % 256
    if 15 < d then .old
    else if bitmap / 2 ^ d % 2 = 1 then .duplicate true
    else .accept rxseq rxepoch (bitmap + 2 ^ d) bseq false

/-- The judgement on a legacy engine (R322): EPOCH counts as 0, a frame is a duplicate when its SEQ equals RXSEQ, and
every other SEQ is accepted. -/
def judgeLegacy (rxvalid : Bool) (rxseq rxepoch bseq : Nat) (h : Header) : Verdict :=
  if !rxvalid then acceptFirst h false
  else if rxseq % 16 == h.seq then .duplicate true
  else .accept h.seq rxepoch 0x0001 bseq false

/-- The verdict of R312's steps 5 to 13 for a frame from an entry. -/
def State.verdict (s : State) (f : RxFrame) : Verdict :=
  let h := f.header
  let p := fun (x : PeerFld) => s.peer h.src x
  if f.legacy then judgeLegacy (p Peer.RXVALID == 1) (p Peer.RXSEQ) (p Peer.RXEPOCH) (p Peer.BSEQ) h
  else judge (p Peer.RXVALID == 1) (p Peer.RXSEQ) (p Peer.RXEPOCH) (p Peer.BITMAP) (p Peer.BSEQ) h

/-- The record that a received frame is checked against (R506). -/
def rxCtrKey (h : Header) : Nat := ctrKey (if h.bcast then Ctr.RXB else Ctr.RXU) h.src

/-- A frame's item for the host, with LEn_RX (R304, R315): false where the receive queue does not take it. -/
def State.deliver (s : State) (n : Nat) (f : RxFrame) (secured stranger : Bool) : Bool × State :=
  let r := s.queueRx n (rxWords f.header secured stranger f.rssi f.gen f.payload) f.bytes
  (r.1, r.2.raiseIf r.1 (Ev.LE_RX n))

/-- A frame that finds no receive credit, or a queue that takes no item (reason 1), or no cell for its receive item
(reason 3) (R46, R47, R312). -/
def State.noRoom (s : State) (n : Nat) (f : RxFrame) : State :=
  let k := cellsOfWords (2 + (f.payload.length + 3) / 4)
  s.dropRxFrame (if s.accepts (rxQ n) k then 3 else 1) f

/-- The receive state of an accepted frame (R312, R316). -/
def State.acceptState (s : State) (n : Nat) (f : RxFrame) (rxseq rxepoch bitmap bseq : Nat) (epochNew : Bool) : State :=
  let h := f.header
  let s := ((((s.setPeer h.src Peer.RXVALID 1).setPeer h.src Peer.RXSEQ rxseq).setPeer h.src Peer.RXEPOCH rxepoch).setPeer
    h.src Peer.BITMAP bitmap).setPeer h.src Peer.BSEQ bseq
  let s := s.setPeer h.src Peer.RSSI f.rssi
  let s := if epochNew && h.sec then (s.sat .SEC_CNT_EPOCHNEW).raise Ev.SEC_EPOCH_NEW else s
  let s := match f.ctr with
    | some c => if f.high then s.setCtrRec (rxCtrKey h) { valid := true, epoch := h.epoch, ctr := c, warned := false } else s
    | none => s
  if h.bcast || h.noack then s else s.oweAck n h.src

/-- A received frame whose outcome needs it no more is freed. -/
def State.outcome (s : State) (f : RxFrame) (g : State → State) : State := g (s.dropRx f.id)

/-- A frame for another device: a forwarding engine passes it on, any other discards it (R312 step 1, R320). -/
def State.passOn (s : State) (n : Nat) (f : RxFrame) : State :=
  if s.fwdActive n then (s.takeRx f.id).2.forward n f.header f.bytes true (s.takeRx f.id).1 else s.dropRx f.id

/-- The judgement of a DATA frame by engine `n` (R312 to R315, R321). -/
def State.judgeFrame (s : State) (n : Nat) (f : RxFrame) : State :=
  let h := f.header
  if !s.forUs h then s.passOn n f
  else if !s.knows h.src then
    if s.bit (.LE_CFG_STRANGER n) then
      let r := s.deliver n f false true
      if r.1 then r.2.dropRx f.id else r.2.noRoom n f
    else s.outcome f fun s => s.sat (.LE_CNT_UNKNOWN n)
  else if s.peer h.src Peer.SECREQ = 1 ∧ ¬ h.sec then s.outcome f fun s => s.sat (.LE_CNT_UNKNOWN n)
  else
    let low := h.sec && !f.high
    let slot := s.peer h.src Peer.KEY
    let owe := fun (s : State) => if h.noack then s else s.oweAck n h.src
    match s.verdict f with
    | .stale => s.outcome f fun s => if low then s.replay h.src slot else s.sat (.LE_CNT_STALE n)
    | .duplicate ack => s.outcome f fun s =>
      let s := s.sat (.LE_DUPRX_DUP n)
      if ack then owe (s.satPeer h.src Peer.DUPS) else s
    | .old => s.outcome f fun s => (owe s).sat (.LE_CNT_OLD n)
    | .accept rxseq rxepoch bitmap bseq epochNew =>
      if low then s.outcome f fun s => s.replay h.src slot
      else
        let r := s.deliver n f h.sec false
        if r.1 then
          let later := h.bcast && s.peer h.src Peer.RXVALID == 1 && !epochNew
          let t := r.2.acceptState n f rxseq rxepoch bitmap bseq epochNew
          if later && t.fwdActive n && t.bit (.LE_FWD_BCAST n) && 1 ≤ h.hops then
            (t.takeRx f.id).2.forward n h f.bytes false (t.takeRx f.id).1
          else t.dropRx f.id
        else r.2.noRoom n f

/-- The judgement of an acknowledgement by engine `n` (R311, R312 steps 1, 2 and 4, R320). -/
def State.judgeAck (s : State) (n : Nat) (f : RxFrame) : State :=
  let h := f.header
  if !s.forUs h then s.passOn n f
  else if !s.knows h.src || (s.peer h.src Peer.SECREQ == 1 && !h.sec) then s.outcome f fun s => s.sat (.LE_CNT_UNKNOWN n)
  else s.outcome f fun s => s.ackReceived n h (at8 f.payload 0 * 256 + at8 f.payload 1)

/-- SEC's verdict on frame `f`, with the key that the verification began with (R496, R501, R506, R507). The payload of a
verified frame is decrypted; the frame stays as it was received (R47, R337). -/
def State.secJudge (s : State) (f : RxFrame) (key : Option (List Byte)) : State :=
  let h := f.header
  let n := (s.boundEngine (xingPhy f.xing) f.gen).getD 0
  let slot := s.rxKeySlot f
  match key with
  | none => (s.dropRx f.id).authFail SecCause.NOKEY h.src slot
  | some key =>
    let rec_ := s.ctrRec (rxCtrKey h)
    match s.verifyFrame (h.nonceOf f.legacy) rec_ key (h.aad f.legacy) f.body f.mic with
    | none => (s.dropRx f.id).authFail SecCause.AUTH h.src slot
    | some (c, high, p) =>
      let f := { f with ctr := some c, high := high, plain := some p }
      if h.ftype = 1 then
        if high then
          (s.setCtrRec (rxCtrKey h) { valid := true, epoch := h.epoch, ctr := c, warned := false }).toEngine n f
        else (s.dropRx f.id).replay h.src slot
      else s.toEngine n f

/-- SEC ends its operation on the first frame that it holds (R507), and begins with the next one. -/
def State.secVerdict (s : State) : State :=
  let s := s.secStart
  match s.rx.find? fun f => f.stage == .sec with
  | none => s
  | some f => match f.key with
    | none => s
    | some key => (s.secJudge f key).secStart

/-- LE_FWD changes in the staged set of engine `n`'s page. -/
def State.fwdChanging (s : State) (n : Nat) : Bool := s.rd (Adr.LE_FWD n) != s.rd (Adr.LE_FWD n + 0x200)

/-- The range checks of an LE page (R297, R302, R319, R327), by twin offset. PARTNER equal to the engine's own number is
refused in a commit of LE_FWD, whatever EN holds; a set that leaves LE_FWD as it is commits no LE_FWD, so that LE0's
reset value, its own number, bars no commit (log entry 9). -/
def leRange (s : State) (n : Nat) : List (Nat × Bool) :=
  let phy := s.getTwin (.LE_BIND_PHY n)
  let gen := s.getTwin (.LE_BIND_GEN n)
  let bindOk := (phy ≤ 1 && gen == 0) || (phy == 2 && 1 ≤ gen && gen ≤ 3) || (phy == 3 && 1 ≤ gen && gen ≤ 2)
  let tx := s.getTwin (.LE_TXCRED_INIT n)
  let rx := s.getTwin (.LE_RXCRED_INIT n)
  let pp := s.getTwin (.LE_CFG_PERPEER n)
  [(0x240, !bindOk),
   (0x244, tx == 0 || decide (64 < tx)),
   (0x248, decide (rx < 4) || decide (64 < rx)),
   (0x250, s.getTwin (.LE_ACKTO_TO n) == 0),
   (0x254, (s.fwdChanging n || s.getTwin (.LE_FWD_EN n) == 1) && s.getTwin (.LE_FWD_PARTNER n) == n),
   (0x258, pp == 0 || decide (4 < pp))]

/-- What an application of an LE page does beside the copy: a changed binding stops the transactions (R325). `old` is
the state before. -/
def State.leApplied (s old : State) (n : Nat) : State :=
  if s.rd (Adr.LE_BIND n) = old.rd (Adr.LE_BIND n) then s else s.stopAll n (old.get (.LE_BIND_PHY n) == Phy.NFC)

end Sys2Proof.Machine
end

