-- ==== Sys2Proof/Machine/Wire.lean ====
section
/-! DEFINITION. Signalling on the Morrun line: levels, symbol tables, preambles, sync words, idle groups and the training
sequence, and the LMS step of the echo canceller (R362 to R366, R373, R378, R379). Levels are in thirds of A. -/

namespace Sys2Proof.Machine

/-! ### Bits to levels -/

/-- M3: a bit pair as a level (R363). -/
def m3Level : Bool → Bool → Int
  | false, false => -3
  | false, true => -1
  | true, true => 1
  | true, false => 3

/-- M3: a stream of bit pairs as levels. -/
def m3Levels : List Bool → List Int
  | a :: b :: r => m3Level a b :: m3Levels r
  | _ => []

/-- M2: three bits as two symbols in units of A (R364). -/
def m2Pair : Bool → Bool → Bool → Int × Int
  | false, false, false => (-1, -1)
  | false, false, true => (-1, 0)
  | false, true, false => (-1, 1)
  | false, true, true => (0, -1)
  | true, false, false => (0, 1)
  | true, false, true => (1, -1)
  | true, true, false => (1, 0)
  | true, true, true => (1, 1)

/-- M2: a stream of whole groups of three bits as levels. -/
def m2Levels : List Bool → List Int
  | a :: b :: c :: r => 3 * (m2Pair a b c).1 :: 3 * (m2Pair a b c).2 :: m2Levels r
  | _ => []

/-- M2: zero bits, not whitened, up to a multiple of 3 (R364). -/
def m2Padded (l : List Bool) : List Bool := l ++ List.replicate ((3 - l.length % 3) % 3) false

/-- M1: a bit as two halves of 1440 XO cycles (R365). -/
def m1Halves (b : Bool) : List Int := if b then [-3, 3] else [3, -3]

/-- M1: a stream of bits as half levels. -/
def m1Levels (l : List Bool) : List Int := l.flatMap m1Halves

/-! ### Preambles and sync words (R366) -/

/-- The `n` low bits of a number, the most significant first. -/
def numBits (n v : Nat) : List Bool := (List.range n).map fun i => v.testBit (n - 1 - i)

/-- `n` pairs of levels +v, −v. -/
def alternate (n : Nat) (v : Int) : List Int := (List.replicate n [v, -v]).flatten

/-- Preamble and sync word of a frame or beacon of generation `gen`. -/
def lineHead (gen : Nat) : List Int :=
  if gen = 3 then alternate 16 3 ++ m3Levels (numBits 32 0x2BD47391)
  else if gen = 2 then alternate 12 3 ++ (numBits 16 0xE4B1).map fun b => if b then 3 else -3
  else m1Levels (numBits 16 0xAAAA ++ numBits 16 0x7E96)

/-- A burst's levels: preamble, sync word and the frame's bits. -/
def TxFrame.lineLevels (f : TxFrame) : List Int :=
  lineHead f.gen ++ (if f.gen = 3 then m3Levels f.bits else if f.gen = 2 then m2Levels (m2Padded f.bits) else m1Levels f.bits)

/-- The training burst: preamble, training sync word, and 2048 symbols of R341's generator (R366, R379). -/
def trainingLevels : List Int :=
  alternate 16 3 ++ m3Levels (numBits 32 0x61E50A9F) ++ m3Levels (whiten (List.replicate 4096 false))

/-- Idle groups of the hub (R373). -/
inductive IdleGroup where
  | a | b | c
  deriving DecidableEq, Repr

/-- The 16 symbols of an idle group. -/
def IdleGroup.levels : IdleGroup → List Int
  | .a => alternate 8 1
  | .b => (List.replicate 4 [1, 1, -1, -1]).flatten
  | .c => (List.replicate 4 [3, 3, -3, -3]).flatten

/-! ### Units and room (R362, R364, R366, R377) -/

/-- XO cycles of a unit: an M1 bit, an M2 or M3 symbol (R362). -/
def unitXo (gen : Nat) : Nat := if gen = 3 then 240 else if gen = 2 then 480 else 2880

/-- XO cycles of 0.1 ms, the unit of windows: 339 wire cycles of 8 XO cycles (R367). -/
def windowXo : Nat := 2712

/-- Units of a frame on the line, preamble and sync word included: M3 and M2 symbols, M1 bits (R362, R364, R366). -/
def TxFrame.lineUnits (f : TxFrame) : Nat :=
  if f.gen = 3 then 48 + f.bits.length / 2
  else if f.gen = 2 then 40 + (f.bits.length + 2) / 3 * 2
  else 32 + f.bits.length

/-- Units that a burst leaves free before the end of its window: two groups in M3, 8 units else (R377). -/
def unitsBehind (gen : Nat) : Nat := if gen = 3 then 32 else 8

/-- A burst of `n` units ends early enough before the window does, `left` units away (R377). -/
def unitsFit (gen n left : Nat) : Bool := n + unitsBehind gen ≤ left

/-- Units of a training burst: preamble, sync word and sequence. -/
def trainingUnits : Nat := 48 + 2048

/-! ### The echo canceller's filter (R378) -/

/-- One LMS step with step 2^−MU: `x` the 64 levels sent last, the newest first, `e` the error. Taps are held in units of
2^−14, which makes every step of MU 6 to 14 exact (log entry 55). -/
def lmsStep (mu : Nat) (taps x : List Int) (e : Int) : List Int :=
  List.zipWith (fun t v => t + 2 ^ (14 - mu) * e * v) taps x

/-- The LMS steps of a burst: `err` gives the error at each symbol from number `n` on. -/
def lmsRun (mu : Nat) (err : Nat → Int) : Nat → List Int → List Int → List Int → List Int
  | _, taps, _, [] => taps
  | n, taps, x, v :: r =>
    let x := (v :: x).take 64
    lmsRun mu err (n + 1) (lmsStep mu taps x (err n)) x r

/-- A free number read with a sign. -/
def signedOf (n : Nat) : Int := if n % 2 = 0 then (n / 2 : Nat) else -((n / 2 : Nat) : Int) - 1

end Sys2Proof.Machine
end

