-- ==== Sys2Proof/Machine/Air.lean ====
section
/-! DEFINITION. Signalling on the air: the modem's modes, their preambles and sync words, spread codes, tones and unit
times (R420 to R422). -/

namespace Sys2Proof.Machine

/-- A mode of the modem (R420). -/
structure AirMode where
  /-- Generation (R297). -/
  gen  : Nat
  /-- XO cycles of a unit, Q ÷ R. -/
  q    : Nat
  r    : Nat
  /-- Chips of a bit, none in the GFSK modes. -/
  sf   : Option Nat
  /-- Bit rate in bit/s and deviation in kHz. -/
  rate : Nat
  dev  : Nat
  preamble : List Bool
  sync : List Bool
  deriving DecidableEq, Repr

/-- The table of R420; a reserved code has no mode. -/
def airMode : Nat → Option AirMode
  | 0 => some { gen := 1, q := 2825, r := 4, sf := none, rate := 38400, dev := 20,
                preamble := numBits 32 0xAAAAAAAA, sync := numBits 16 0x9E4B }
  | 1 => some { gen := 2, q := 2712, r := 5, sf := none, rate := 50000, dev := 25,
                preamble := numBits 32 0xAAAAAAAA, sync := numBits 32 0x7A0E93C5 }
  | 2 => some { gen := 2, q := 1356, r := 5, sf := none, rate := 100000, dev := 50,
                preamble := numBits 32 0xAAAAAAAA, sync := numBits 32 0x7A0E93C5 }
  | 3 => some { gen := 2, q := 678, r := 5, sf := none, rate := 200000, dev := 50,
                preamble := numBits 32 0xAAAAAAAA, sync := numBits 32 0x7A0E93C5 }
  | 4 => some (spread 4)
  | 5 => some (spread 8)
  | 6 => some (spread 16)
  | 7 => some (spread 32)
  | 8 => some (spread 64)
  | _ => none
where
  /-- A spread mode: 200 kchip/s. -/
  spread (sf : Nat) : AirMode :=
    { gen := 2, q := 678, r := 5, sf := some sf, rate := 200000 / sf, dev := 50,
      preamble := List.replicate 16 false, sync := numBits 16 0xC94E }

/-- The code of a spreading factor (R421). -/
def spreadCode (sf : Nat) : Nat :=
  if sf = 4 then 0x6 else if sf = 8 then 0x5B else if sf = 16 then 0x3A6D else if sf = 32 then 0x1F356E48
  else 0x0B7E41D963A25CF8

/-- The chips of a bit: the code for 0, its inverse for 1 (R421). -/
def chips (sf : Nat) (b : Bool) : List Bool := (numBits sf (spreadCode sf)).map fun c => c != b

/-- The units of a stream of bits, bits or chips: true above the carrier, false below (R421). -/
def AirMode.units (m : AirMode) (l : List Bool) : List Bool :=
  match m.sf with
  | none => l
  | some sf => l.flatMap (chips sf)

/-- Units of a bit. -/
def AirMode.perBit (m : AirMode) : Nat := m.sf.getD 1

/-- The XO cycle, from unit 0, at which unit `k` starts (R420). -/
def AirMode.unitAt (m : AirMode) (k : Nat) : Nat := k * m.q / m.r

/-- XO cycles from the first unit to the end of the last sync unit, a beacon's time mark (R436). -/
def AirMode.markXo (m : AirMode) : Nat := m.unitAt ((m.preamble.length + m.sync.length) * m.perBit)

/-- A frame's burst: preamble, sync word and the frame's bits, as units (R422). -/
def TxFrame.airUnits (f : TxFrame) : List Bool :=
  match airMode f.mode with
  | none => []
  | some m => m.units (m.preamble ++ m.sync ++ f.bits)

/-- XO cycles of a transmission, from its first to its last symbol (R420). -/
def TxFrame.airCycles (f : TxFrame) : Nat :=
  match airMode f.mode with
  | none => 0
  | some m => m.unitAt ((m.preamble.length + m.sync.length + f.bits.length) * m.perBit)

end Sys2Proof.Machine
end

