-- ==== Sys2Proof/Machine/Fec.lean ====
section
/-! DEFINITION. The path of a received frame from its PHY island through FEC, and the encoder (R333, R344 to R356,
R428). What becomes of a frame that passes is in Receive.lean. -/

namespace Sys2Proof.Machine

/-! ### Counters and results (R351, R354, R356) -/

/-- A FEC counter raised by `k`, wrapping with FEC_STAT_WRAP. -/
def State.fecCount (s : State) (f : Fld) (k : Nat := 1) : State :=
  (s.wrap f k).raiseIf (2 ^ f.width ≤ s.get f + k) Ev.FEC_STAT_WRAP

/-- FEC_LAST of a received coded frame. -/
def State.fecLast (s : State) (phr iters result : Nat) : State :=
  (((s.put .FEC_LAST_CODE (phr / 64)).put .FEC_LAST_NCW (phr / 8 % 8)).put .FEC_LAST_ITERS iters).put .FEC_LAST_RESULT result

/-- A kind firing takes effect: slots whose start is the moment itself become READY (R210, R349). -/
def State.kindFiring (s : State) (k : Nat) : State := (s.fireKind k).readyDue

/-- A FEC_BURST task ends when no codeword is held, or, asked to stop, between codewords (R205, R216, R349). -/
def State.burstStep (s : State) : State :=
  match s.runningKind Kind.FEC_BURST with
  | none => s
  | some i =>
    if (s.xing 6).owned.isEmpty then s.taskEnds i .done
    else if s.fec.work == some false then s
    else match (s.slot i).stopEnd with
      | some e => s.taskEnds i e
      | none => s

/-- What follows a change of what the FEC island holds (R349, R350): a burst without a codeword ends, the island turns to
its next codeword, and FEC_IDLE where it held one in `before` and now holds none. -/
def State.fecSettle (s before : State) : State :=
  let s := s.burstStep.fecStart
  s.raiseIf (before.fecWork && !s.fecWork) Ev.FEC_IDLE

/-- A received frame discarded: its items, its codewords and its cells are freed (R351). -/
def State.discardRx (s : State) (id : Nat) : State :=
  let x := s.xing 6
  let s := if x.owned.any (fun t => t.frame == id) then s.setXing 6 { x with owned := x.owned.filter fun t => t.frame != id }
    else s
  s.dropRx id

/-! ### From the PHY to the fabric (R44, R333, R351 steps 1 and 2, R428) -/

/-- The three PHR copies combined: soft values added bit by bit (R333). A sum below 0 decides 1. -/
def phrCombine (soft : List Int) : List Byte :=
  toBytes ((List.range 16).map fun i => decide (soft.getD i 0 + soft.getD (16 + i) 0 + soft.getD (32 + i) 0 < 0))

/-- PCHK is correct and NCW + 1 is not above the code's limit (R351 step 1). -/
def phrOk (phr : List Byte) : Bool :=
  let b := at8 phr 0
  decide (crc8 (phr.take 1) = at8 phr 1) && decide (b / 8 % 8 + 1 ≤ codeMost (b / 64))

/-- A coded frame begins with its PHR: the frame's number, or none where step 1 or 2 of R351 discards it. The second
component tells a PHR failure. -/
def State.rxBegin (s : State) (xing gen mode : Nat) (soft : List Int) (rssi mark : Nat) : Option Nat × Bool × State :=
  let phr := phrCombine soft
  let b := at8 phr 0
  if !phrOk phr then (none, true, (s.fecLast b 0 1).fecCount .FEC_FRMCNT_PHR)
  else if !s.bitAt .FEC_CODE_ACCEPT (b / 64) then (none, false, (s.fecLast b 0 9).fecCount .FEC_FRMCNT2_NOTACC)
  else
    let i := s.newId
    let f : RxFrame :=
      { id := i.1, xing := xing, gen := gen, mode := mode, stage := .coming, phr := b, llrs := [], offered := 0, ended := false,
        info := [], done := 0, iters := 0, bytes := [], plain := none, cells := [], rssi := rssi, ctr := none, high := false, mark := mark }
    (some i.1, false, { i.2 with rx := i.2.rx ++ [f] })

/-- A frame's record by number. -/
def State.rxFrame (s : State) (id : Nat) : Option RxFrame := s.rx.find? fun f => f.id == id

/-- The whole frame dropped for want of credit or cells on its crossing (R44). -/
def State.rxDrop (s : State) (id : Nat) : State := ((s.discardRx id).countDrop).fecSettle s

/-- The fabric has taken an item of soft bits: they join their frame; an item of a frame that is gone is freed. -/
def State.rxTaken (s : State) (n : Nat) (t : Item) : State :=
  match s.rxFrame t.frame with
  | none => s.freeOwned n t.id
  | some f => s.setRx { f with llrs := f.llrs ++ t.llrs, ended := f.ended || t.desc == 1 }

/-- An item of up to 576 LLRs, 7 cells, goes across; false where the frame is dropped (R44, R428). -/
def State.rxItem (s : State) (id : Nat) (llrs : List Int) (last acked : Bool) : Bool × State :=
  match s.rxFrame id with
  | none => (false, s)
  | some f =>
    let i := s.newId
    let t : Item :=
      { id := i.1, cost := 7, cells := [], words := [if last then 1 else 0], llrs := llrs.map (clampTo 31), frame := id }
    let h := i.2.handItem f.xing t 7 acked
    if !h.1 then (false, h.2.rxDrop id)
    else (true, if (h.2.xing f.xing).owned.any (fun u => u.id == t.id) then h.2.rxTaken f.xing t else h.2)

/-- A legacy frame's bits cross as one item: the frame, or none where it is dropped (R44, R338, R428). Bits are as
received, whitened but for M1. The frame stays in its item until it leaves the fabric (log entry 54); while the item is
not acknowledged its stage is `handed`. -/
def State.rxLegacy (s : State) (xing gen mode : Nat) (hard : List Bool) (rssi mark : Nat) : Option RxFrame × State :=
  let bits := if xing = 3 ∧ gen = 1 then hard else whiten hard
  let all := toBytes bits
  let bytes := all.take (frameLen true (readLegacy all))
  let i := s.newId
  let k := cellsFor bytes.length
  let t : Item := { id := i.1, cost := k, cells := [], words := [], llrs := [], frame := i.1 }
  let h := i.2.handItem xing t k true
  if h.1 then
    let owned := (h.2.xing xing).owned.any fun u => u.id == t.id
    let f : RxFrame :=
      { id := i.1, xing := xing, gen := gen, mode := mode, stage := if owned then .link else .handed, phr := 0, llrs := [],
        offered := 0, ended := true, info := [], done := 0, iters := 0, bytes := bytes, plain := none, cells := [],
        rssi := rssi, ctr := none, high := false, mark := mark }
    (some f, { h.2 with rx := h.2.rx ++ [f] })
  else (none, h.2.countDrop)

/-- The CRC-16 of a legacy frame (R351). -/
def legacyOk (bytes : List Byte) : Bool :=
  let n := frameLen true (readLegacy bytes)
  decide (bytes.length = n) && decide (6 ≤ n) && decide (crc16Bytes (bytes.take (n - 2)) = (bytes.drop (n - 2)).take 2)

/-- A legacy frame's failure (R351). -/
def State.legacyFail (s : State) : State := (s.fecCount .FEC_FRMCNT_CRC).raise Ev.FEC_CRC_FAIL

/-! ### Codewords (R349, R351 step 3) -/

/-- Code and codewords of a received frame. -/
def RxFrame.code (f : RxFrame) : Nat := f.phr / 64
def RxFrame.ncw (f : RxFrame) : Nat := f.phr / 8 % 8 + 1

/-- The soft bits of the next codeword, where it is whole in the fabric. -/
def RxFrame.nextWord (f : RxFrame) : Option (List Int) :=
  let n := codeN f.code
  let rest := f.llrs.drop (f.offered * n)
  if f.ncw ≤ f.offered then none
  else if f.offered + 1 = f.ncw then (if f.ended then some (rest.take n) else none)
  else if n ≤ rest.length then some (rest.take n) else none

/-- Step 3 of R351 fails: RESULT 7 FULL or 10 OFF. -/
def State.fecFull (s : State) (f : RxFrame) : State :=
  ((((s.discardRx f.id).fecLast f.phr f.iters (if s.enabled 11 then 7 else 10)).fecCount .FEC_FRMCNT_FULL).raise
    Ev.FEC_BUSY_FULL).fecSettle s

/-- The items that carried a codeword of `n` soft bits are consumed: the oldest of the frame on its crossing. -/
def State.consumeItems (s : State) (f : RxFrame) (n : Nat) : State :=
  let x := s.xing f.xing
  let mine := (x.owned.filter fun t => t.frame == f.id).take ((n + 575) / 576)
  s.forEach mine fun s t => s.freeOwned f.xing t.id

/-- A codeword enters the FEC island (R244, R349). -/
def State.fecArrival (s : State) : State :=
  let s := if (s.runningKind Kind.FEC_BURST).isSome then s else s.kindFiring Kind.FEC_BURST
  s.fecWake.fecStart

/-- The first whole codeword in the fabric is offered to FEC on crossing 6 (R349, R351 step 3); while the crossing's INIT
changes in DRAIN it waits (R51). -/
def State.offerWord (s : State) (acked : Bool) : State :=
  match s.rx.findSome? fun f => if f.stage = .coming then f.nextWord.map fun w => (f, w) else none with
  | none => s
  | some (f, w) =>
    if s.enabled 11 && s.stopped 6 then s
    else if !s.takesWork 11 || !s.accepts 6 1 then s.fecFull f
    else
      let i := (s.consumeItems f w.length).newId
      let t : Item := { id := i.1, cost := 1, cells := [], words := [], llrs := w, frame := f.id }
      let h := i.2.handItem 6 t 0 acked
      let s := h.2.setRx { f with offered := f.offered + 1 }
      if (s.xing 6).owned.any (fun u => u.id == t.id) then s.fecArrival else s

/-- ITEM_HANDOVER on crossing 6: the island acknowledges a codeword, or the next one is offered. -/
def State.handWord (s : State) (acked : Bool) : State :=
  if !(s.xing 6).unacked.isEmpty && acked then (s.ackItem 6).fecArrival else s.offerWord acked

/-- Information bits of codeword `i` of a frame that were sent, once the header tells N; a frame of one codeword whose
header is not yet known tells them by the soft bits that came (R345, R429). -/
def RxFrame.sentBits (f : RxFrame) (llrs : Nat) : Nat := llrs - (codeN f.code - codeK f.code)

/-- The header in the first decoded codeword (R351 step 4): HDRCHK correct and the length it gives fits NCW. -/
def headerOk (code ncw : Nat) (info : List Bool) : Bool :=
  let l := toBytes ((whiten info).take 64)
  let h := readCoded l
  decide (l.length = 8) && decide (crc8 (l.take 6) = at8 l 7) && decide (codewordsOf code (8 * frameLen false h) = ncw)

/-- A decoded frame's bytes, cut to N (R334). -/
def decodedBytes (info : List Bool) : List Byte :=
  let all := toBytes (whiten info)
  all.take (frameLen false (readCoded all))

/-- Step 6 of R351. -/
def crc32Ok (bytes : List Byte) : Bool :=
  let n := bytes.length
  decide (12 ≤ n) && decide (crc32Bytes (bytes.take (n - 4)) = bytes.drop (n - 4))

/-- Step 7 of R351. -/
def codedHeaderFits (h : Header) : Bool :=
  decide (h.ftype ≤ 3) && decide (h.len ≤ 192) && (h.sec || !h.mic8) && (h.ftype != 1 || h.len == 2)

/-- A coded frame fails at step 4 to 7: RESULT, counter and event (R351). -/
def State.fecFail (s : State) (f : RxFrame) (result : Nat) : State :=
  let s := (s.discardRx f.id).fecLast f.phr f.iters result
  if result = 2 then s.raise Ev.FEC_DEC_FAIL
  else if result = 3 then (s.fecCount .FEC_FRMCNT_HDR).raise Ev.FEC_CRC_FAIL
  else if result = 5 then (s.fecCount .FEC_FRMCNT_CRC).raise Ev.FEC_CRC_FAIL
  else s.fecCount .FEC_FRMCNT2_BADHDR

/-- The frame's judgement after a codeword with information bits `u` (R351 steps 4 to 7): the state, and the frame where
it has passed every step. -/
def State.judgeWord (s : State) (f : RxFrame) (u : List Bool) (iters : Nat) (ok : Bool) : State × Option RxFrame :=
  let f := { f with info := f.info ++ u, done := f.done + 1, iters := max f.iters iters }
  let s := s.setRx f
  if !ok then (s.fecFail f 2, none)
  else if f.done = 1 ∧ ¬ headerOk f.code f.ncw u then (s.fecFail f 3, none)
  else if f.done < f.ncw then (s, none)
  else
    let f := { f with bytes := decodedBytes f.info }
    let h := readCoded f.bytes
    if !crc32Ok f.bytes then (s.fecFail f 5, none)
    else if !codedHeaderFits h then (s.fecFail f 6, none)
    else (((s.setRx f).fecLast f.phr f.iters 0).raise Ev.FEC_DEC_OK, some f)

/-- The bits of a codeword that an item carries. -/
def Item.bits (t : Item) : List Bool := t.llrs.map fun v => v == 1

/-- Bits as an item carries them. -/
def bitLlrs (l : List Bool) : List Int := l.map fun b => if b then 1 else 0

/-- The fabric takes the first decoded codeword from crossing 7 and judges its frame (R351 steps 4 to 7). The credit
returns at once, since a frame can have more codewords than the crossing has credits; the cells stay with the frame until
it leaves the fabric (R47; log entry 54). -/
def State.takeDecoded (s : State) : State × Option RxFrame :=
  match (s.xing 7).owned with
  | [] => (s, none)
  | t :: r =>
    match s.rxFrame t.frame with
    | none => (s.freeOwned 7 t.id, none)
    | some f =>
      (s.setXing 7 { s.xing 7 with owned := r }).judgeWord { f with cells := f.cells ++ t.cells } t.bits
        (t.words.getD 0 0).toNat (t.words.getD 1 0 == 1)

/-- The codeword under work in the decoder is finished (R347, R349): its result goes back on crossing 7, and while that
has no credit, or no cell is free, the decoder waits. The frame is given where it has passed every step of R351. -/
def State.decodeFirst (before : State) : State × Option RxFrame :=
  let s := before.fecStart
  match s.fec.work, (s.xing 6).owned with
  | some false, t :: _ =>
    match s.rxFrame t.frame with
    | none => (((s.freeOwned 6 t.id).fecWorked false).fecSettle before, none)
    | some f =>
      let max := s.get .FEC_ITER_MAX_MAX
      let sent := f.sentBits t.llrs.length
      let r := decodeWord f.code (s.get .FEC_CFG_NORM) max sent t.llrs
      let i := s.newId
      let u : Item :=
        { id := i.1, cost := 1, cells := [], words := [BitVec.ofNat 32 r.2.1, if r.2.2 then 1 else 0],
          llrs := bitLlrs (r.1.take sent), frame := f.id }
      let h := i.2.handItem 7 u (cellsFor ((codeK f.code + 7) / 8)) true
      if h.1 then
        let s := (h.2.freeOwned 6 t.id).fecWorked false
        let s := s.fecCount .FEC_ITERSUM_ITERS r.2.1
        let s := s.fecCount (if r.2.2 then .FEC_CWCNT_OK else .FEC_CWCNT_FAIL)
        let j := (s.raiseIf (r.2.1 == max) Ev.FEC_ITER_MAX).takeDecoded
        (j.1.fecSettle before, j.2)
      else (h.2, none)
  | _, _ => (s, none)

/-- ITEM_HANDOVER on crossing 7: the fabric acknowledges a decoded codeword. -/
def State.ackDecoded (s : State) : State × Option RxFrame :=
  if (s.xing 7).unacked.isEmpty then (s, none)
  else let j := (s.ackItem 7).takeDecoded; (j.1.fecSettle s, j.2)

/-! ### Encoding (R350) -/

/-- The fabric takes the first encoded codeword from crossing 9; after a frame's last one the frame goes whole to its
PHY. -/
def State.takeEncoded (s : State) : State :=
  match (s.xing 9).owned with
  | [] => s
  | t :: _ =>
    let s := s.freeOwned 9 t.id
    match s.txFrame t.frame with
    | none => s
    | some f =>
      let f := { f with cws := f.cws ++ [t.bits] }
      let s := s.setTx f
      if f.cws.length < f.ncw then s else s.toPhy f

/-- The codeword under work in the encoder is finished (R350): it goes back on crossing 9, and while that has no credit
the encoder waits. FEC_ENC_DONE after the frame's last one. -/
def State.encodeFirst (before : State) : State :=
  let s := before.fecStart
  match s.fec.work, (s.xing 8).owned with
  | some true, t :: _ =>
    match s.txFrame t.frame with
    | none => (((s.freeOwned 8 t.id).fecWorked true).feedEncoder).fecSettle before
    | some f =>
      let k := s.encoded f
      let i := s.newId
      let u : Item :=
        { id := i.1, cost := 1, cells := [], words := [],
          llrs := bitLlrs (codewordSent f.code (whiten (bytesBits f.bytes)) k), frame := f.id }
      let h := i.2.handItem 9 u 0 true
      if h.1 then
        let s := ((h.2.freeOwned 8 t.id).fecWorked true).raiseIf (f.ncw ≤ k + 1) Ev.FEC_ENC_DONE
        (s.takeEncoded.feedEncoder).fecSettle before
      else h.2
  | _, _ => s

/-- ITEM_HANDOVER on crossing 8: the island acknowledges a codeword, or the next ones go across. -/
def State.handEncoder (s : State) (acked : Bool) : State :=
  let s := if acked then s.ackItem 8 else s
  let s := if (s.xing 8).owned.isEmpty then s else s.fecWake
  s.fecStart.feedEncoder

/-- ITEM_HANDOVER on crossing 9: the fabric acknowledges an encoded codeword. -/
def State.ackEncoded (s : State) : State := ((s.ackItem 9).takeEncoded.feedEncoder).fecSettle s

/-- FEC_ABORT (R48, R49 and the corner of ch. 12): a side reset of crossings 6 to 9 on FEC's side. The frames of held
codewords are counted in QMX_XLOST and RESULT reads 8; a frame cut short in the encoder is encoded again. -/
def State.fecAbort (s : State) : State :=
  let before := s
  let cut := (((s.xing 6).owned ++ (s.xing 6).unacked ++ (s.xing 7).unacked).map (·.frame)).eraseDups
  let again := ((s.xing 8).owned ++ (s.xing 8).unacked ++ (s.xing 9).unacked).map (·.frame)
  let s := s.forEach cut fun s id => match s.rxFrame id with
    | some f => s.fecLast f.phr f.iters 8
    | none => s
  let s := (((s.sideReset 6 true).sideReset 7 true).sideReset 8 true).sideReset 9 true
  let s := s.forEach cut fun s id => s.discardRx id
  let s := { s with tx := s.tx.map fun (f : TxFrame) => if again.contains f.id then { f with fed := 0, cws := [] } else f }
  ({ s with fec := { s.fec with work := none } } : State).fecSettle before

/-- No codeword is being decoded and no frame lies between its first and last codeword in the encoder (R352). -/
def State.fecSafe (s : State) : Bool :=
  s.fecStart.fec.work.isNone && !(s.tx.any fun f => decide (0 < s.encoded f) && decide (s.encoded f < f.ncw))

/-- The range checks of the FEC page (R355), by twin offset. -/
def fecRange (s : State) : List (Nat × Bool) :=
  let m := s.getTwin .FEC_ITER_MAX_MAX
  [(0x240, s.getTwin .FEC_CODE_ACCEPT == 0), (0x244, m == 0 || decide (32 < m))]

/-- FEC's page soft reset: as FEC_ABORT, and its counters clear (R356; log entry 10). -/
def State.fecSoftReset (s : State) : State :=
  let s := s.fecAbort
  ((((s.wr Adr.FEC_CWCNT 0).wr Adr.FEC_ITERSUM 0).wr Adr.FEC_FRMCNT 0).wr Adr.FEC_FRMCNT2 0)

end Sys2Proof.Machine
end

