-- ==== Sys2Proof/Machine/Line.lean ====
section
/-! DEFINITION. The Morrun line: line power and protection, the line cycle and its beacons, access to the line, the
echo canceller, clock recovery, polarity and announces (R357 to R394). -/

namespace Sys2Proof.Machine

/-- The line's working state replaced. -/
def State.setLine (s : State) (f : Line → Line) : State := { s with line := f s.line }

/-! ### Line power (R357 to R360) -/

/-- PWR codes of WIR_STAT. -/
def LinePwr.OFF : Nat := 0
def LinePwr.INRUSH : Nat := 1
def LinePwr.SETTLE : Nat := 2
def LinePwr.ON : Nat := 3

/-- WIR_STAT.PWR. -/
def State.linePwr (s : State) : Nat := s.get .WIR_STAT_PWR

/-- ILIM in mA (R169, R357). -/
def State.ilim (s : State) : Nat := 10 * s.get .PWR_LINE_ILIM_ILIM

/-- The frame on the line is abandoned: a PHY never repeats it, the link engine retries by its own rules (R153, R154). -/
def State.lineAbandon (s : State) : State :=
  match s.line.sending with
  | none => s.setLine fun l => { l with cutting := false }
  | some id =>
    let s := s.setLine fun l => { l with sending := none, cutting := false }
    let mine := ((s.xing 2).owned.filter fun t => t.frame == id)
    (s.forEach mine fun s t => s.freeOwned 2 t.id).txLost id

/-- A training burst stops: no pass counts (R379). -/
def State.trainOver (s : State) : State :=
  (s.put .WIR_STAT_TRAINING 0).setLine fun l => { l with trains := false, begun := false, passes := 0 }

/-- The running tasks on the line end; with a LINE_TRAIN task its training ends. -/
def State.lineTasksEnd (s : State) (e : TaskEnd) : State :=
  (if (s.runningKind Kind.LINE_TRAIN).isSome then s.trainOver else s).tasksEnd (fun t => kindResource t.kind == some .line) e

/-- The frame that is being received is given up. -/
def State.lineRxCut (s : State) : State :=
  match s.line.rxCur with
  | none => s
  | some id => ((s.setLine fun l => { l with rxCur := none }).discardRx id).fecSettle s

/-- WIR_RX_ERR with its count (R388). -/
def State.lineRxErr (s : State) : State := ((s.lineRxCut).sat .WIR_CNT_RXERR).raise Ev.WIR_RX_ERR

/-- The switch opens (R360): the grid stops, a running task on the line ends. -/
def State.lineOpen (s : State) : State :=
  if s.linePwr = LinePwr.OFF then s
  else
    let s := (s.lineAbandon).lineRxCut
    let s := (s.put .WIR_STAT_PWR LinePwr.OFF).put .WIR_STAT_WIN 4
    let s := s.setLine fun l => { l with softOff := false, excess := 0, twice := 0, winHeard := false, upBusy := false, collided := false }
    (s.raise Ev.WIR_POWER_OFF).lineTasksEnd (.aborted Cause.BLOCK)

/-- LINE_POWER_ON (R358): hub role, from OFF alone. -/
def State.linePowerOn (s : State) : State :=
  if s.hub && s.linePwr == LinePwr.OFF then
    (s.put .WIR_STAT_PWR LinePwr.INRUSH).setLine fun l =>
      { l with samples := [], above := 0, below := 0, excess := 0, twice := 0, softOff := false }
  else s

/-- The short's action (R359). -/
def State.lineShort (s : State) : State :=
  (((s.sat .WIR_CNT_SHORT).raise Ev.WIR_SHORT).raise Ev.PWR_LINE_OVERLOAD).lineOpen

/-- The overcurrent's action (R359). -/
def State.lineOvercurrent (s : State) : State :=
  (((s.sat .WIR_CNT_OVERCUR).raise Ev.WIR_OVERCUR).raise Ev.PWR_LINE_OVERLOAD).lineOpen

/-- A sample joins the last 64, whose mean BASE is (R361). -/
def State.lineBase (s : State) (i : Nat) : State :=
  let samples := (i :: s.line.samples).take 64
  let s := s.setLine fun l => { l with samples := samples }
  if samples.length = 64 then let r := s.roundFree samples.sum 64; r.2.put .WIR_ISNS_BASE r.1 else s

/-- Plug and unplug (R361) on a sample, with BASE as it stood before it. -/
def State.linePlug (s : State) (i : Nat) : State :=
  let base := s.get .WIR_ISNS_BASE
  let step := s.get .WIR_PLUG_CFG_STEP
  let dwell := s.get .WIR_PLUG_CFG_DWELL
  let full := s.line.samples.length == 64
  let above := if full && base + step < i then s.line.above + 1 else 0
  let below := if full && i + step < base then s.line.below + 1 else 0
  if full && dwell ≤ above then
    (s.setLine fun l => { l with samples := [], above := 0, below := 0 }).raise Ev.WIR_PLUG
  else if full && dwell ≤ below then
    (s.setLine fun l => { l with samples := [], above := 0, below := 0 }).raise Ev.WIR_UNPLUG
  else
    (s.setLine fun l => { l with above := above, below := below }).lineBase i

/-- A sample of LINE_ISNS in mA (R357, R359, R361). -/
def State.lineSample (s : State) (ma : Nat) : State :=
  let pwr := s.linePwr
  if !s.hub || pwr = LinePwr.OFF then s
  else
    let i := min ma 1000
    let s := s.put .WIR_ISNS_I i
    if i = 1000 then s.lineShort
    else if pwr = LinePwr.INRUSH then s.lineBase i
    else
      let twice := if 2 * s.ilim ≤ i then s.line.twice + 1 else 0
      let excess := if s.ilim < i then s.line.excess + 1 else 0
      let s := s.setLine fun l => { l with twice := twice, excess := excess }
      if 2 ≤ twice then s.lineShort
      else if s.get .WIR_PWR_CFG_OCT ≤ excess then s.lineOvercurrent
      else if pwr = LinePwr.ON then s.linePlug i else s.lineBase i

/-- The end of INRUSH on a sample (R358). -/
def State.lineInrushEnd (s : State) (ma : Nat) : State :=
  if s.linePwr = LinePwr.INRUSH then
    let s := s.lineSample ma
    if s.linePwr ≠ LinePwr.INRUSH then s
    else if s.ilim < min ma 1000 then s.lineOvercurrent
    else s.put .WIR_STAT_PWR LinePwr.SETTLE
  else s

/-! ### Frames to send (R369 to R372, R385) -/

/-- A LINE_CYCLE task serves the present cycle: one runs, and the cycle began after it became READY (R368). -/
def State.lineServing (s : State) : Bool :=
  !(s.runningSlots fun t => t.kind == Kind.LINE_CYCLE && decide (t.cycles < s.line.cycles)).isEmpty

/-- A LINE_TRAIN task runs. -/
def State.lineTraining (s : State) : Bool := (s.runningKind Kind.LINE_TRAIN).isSome

/-- The transmitter is held idle: the Damper, SAFE, HELD, the forced state of an XO failure where the source is the XO,
a stopped island, no VDD_LINE, or a DRAIN issue in which the page holds at its safe point (R80, R143, R152, R237, R243,
R389). -/
def State.lineHeld (s : State) : Bool :=
  s.bit .PWR_MODE_DAMPER || s.safe 14 || s.bit .WIR_STAT_HELD || s.clk.wireStop || s.clk.voidSlot || !s.pwr.lineUp || s.pageHeld 14
    || (s.clk.xoForced && (s.hub || s.get .CLK_STAT_WSRC == 2))

/-- The echo canceller adapts over the levels that the device sends in the M3 window (R378): while it has converged or
trains, and the transmitter is not held. The error at each symbol comes from the line (a free value). -/
def State.adapt (s : State) (levels : List Int) : State :=
  if s.get .WIR_STAT_WIN == 3 && (s.bit .WIR_STAT_ECOK || s.bit .WIR_STAT_TRAINING) && !s.lineHeld then
    let taps := lmsRun (s.get .WIR_EC_CTRL_MU) (fun n => signedOf (Config.freeNat (s.ctr + n))) 0 s.line.taps (List.replicate 64 0) levels
    { (s.setLine fun l => { l with taps := taps }) with ctr := s.ctr + levels.length }
  else s

/-- `adapt` over a burst of which only some groups went out; how many is not told (a free value). -/
def State.adaptPart (s : State) (levels : List Int) : State :=
  let k := s.freshBelow (levels.length / 16 + 1)
  k.2.adapt (levels.take (16 * k.1))

/-- A frame starts on the line, with `left` units of its window ahead (R310, R374 to R377). One that IDLE_C had stopped is
the same transmission. -/
def State.lineStart (s : State) (f : TxFrame) (left : Nat) : State :=
  let again := s.line.again == some f.id
  let s := s.setLine fun l => { l with
    sending := some f.id, backoff := none, again := none, room := (left - f.lineUnits) * unitXo f.gen }
  if again then s else s.frameStarts f

/-- A frame record made outside a link engine. -/
def State.newPageFrame (s : State) (phy gen : Nat) (kind : TxKind) (bytes : List Byte) (code : Nat) : TxFrame × State :=
  let i := s.newId
  let f : TxFrame := { id := i.1, eng := 0, kind := kind, phy := phy, gen := gen, mode := 0, bytes := bytes, code := code, fed := 0, cws := [] }
  let f := if legacyOf phy gen then f
    else { f with fed := f.ncw, cws := (List.range f.ncw).map (codewordSent code (whiten (bytesBits bytes))) }
  (f, { i.2 with tx := i.2.tx ++ [f] })

/-- A number in two bytes, and a byte. -/
def byteOf (n : Nat) : Byte := BitVec.ofNat 8 n

/-- The date and time of a beacon, bytes 21 to 29 (R370). -/
def Calendar.beaconBytes (c : Calendar) : List Byte :=
  [byteOf (c.year / 100), byteOf (toBcd (c.year % 100)), byteOf (toBcd c.month), byteOf (toBcd c.day),
   byteOf (toBcd c.hour), byteOf (toBcd c.minute), byteOf (toBcd c.second)] ++ be16 c.sub

/-- The calendar that a beacon carries (R370). -/
def beaconCalendar (b : List Byte) : Calendar :=
  { Calendar.reset with
    year := (at8 b 0) * 100 + fromBcd (at8 b 1), month := fromBcd (at8 b 2), day := fromBcd (at8 b 3),
    hour := fromBcd (at8 b 4), minute := fromBcd (at8 b 5), second := fromBcd (at8 b 6), sub := at8 b 7 * 256 + at8 b 8 }

/-- START and LEN of window g (1 to 3): its registers. -/
def winStart (g : Nat) : Fld := if g = 1 then .WIR_WIN_M1_START else if g = 2 then .WIR_WIN_M2_START else .WIR_WIN_M3_START
def winLen (g : Nat) : Fld := if g = 1 then .WIR_WIN_M1_LEN else if g = 2 then .WIR_WIN_M2_LEN else .WIR_WIN_M3_LEN

/-- The length of window g, 0 where WIR_GEN leaves it out (R367). -/
def State.windowLen (s : State) (g : Nat) : Nat := if s.bitAt .WIR_GEN_EN (g - 1) then s.get (winLen g) else 0

/-- The coded announces that the next beacon acknowledges: at most 4, oldest first (R386). -/
def State.ackList (s : State) : List Announce := (s.line.list.filter fun a => !a.acked && !a.legacy).take 4

/-- The calendar at the time mark instant of a cycle that starts now: 11 520 XO cycles later, 13.92 calendar-island
cycles, so in the 13th or the 14th cycle from this one (R371; log entry 56). -/
def State.markCalendar (s : State) : Calendar × State :=
  let f := s.freshBelow 2
  ((s.calendarCycles (13 + f.1)).cal, f.2)

/-- The beacon payload with the hub's date and time `c` (R370). -/
def State.beaconPayload (s : State) (c : Calendar) : List Byte :=
  let acks := s.ackList
  let ids := (acks.map fun a => byteOf a.id) ++ List.replicate (4 - acks.length) 0
  be16 (s.get .WIR_STAT_CYCNO)
    ++ [byteOf (s.line.probe.toNat * 128 + s.get .CAL_STAT_VALID * 64 + acks.length * 8)] ++ ids
    ++ be16 (s.get .WIR_CYCLE_LEN)
    ++ ([1, 2, 3].flatMap fun g =>
      let l := s.windowLen g
      be16 (s.get (winStart g)) ++ be16 l)
    ++ c.beaconBytes

/-- WIR_ANN_INFO shows the oldest unpopped entry (R386, R392). -/
def State.showAnnounce (s : State) : State :=
  match s.line.list.find? fun a => !a.popped with
  | none => ((s.wr Adr.WIR_ANN_INFO 0).wr Adr.WIR_ANN_UID_LO 0).wr Adr.WIR_ANN_UID_HI 0
  | some a =>
    let s := ((((s.put .WIR_ANN_INFO_VALID 1).putBit .WIR_ANN_INFO_REPEAT a.rep).putBit .WIR_ANN_INFO_LEGACY a.legacy).put
      .WIR_ANN_INFO_GENS a.gens).put .WIR_ANN_INFO_STEP a.step
    ((s.put .WIR_ANN_INFO_ID a.id).put .WIR_ANN_UID_LO_UID a.uid).put .WIR_ANN_UID_HI_UID (a.uid / 2 ^ 32)

/-- Entries that are acknowledged and popped leave the list (R386). -/
def State.pruneAnnounces (s : State) : State :=
  (s.setLine fun l => { l with list := l.list.filter fun a => !(a.acked && a.popped) }).showAnnounce

/-- The mark of a cycle: beacon built and on the line (R369 to R371); its acknowledgements and PROBE take effect as it is
sent (R386, R387). A beacon, of the line or of the radio, goes from its page to the transmitter: it takes no credit of a
transmit crossing (log entry 57). -/
def State.sendMark (s : State) : State :=
  let c := s.markCalendar
  let s := c.2
  let p := s.beaconPayload c.1
  let h : Header :=
    { ftype := 2, bcast := true, noack := true, retry := false, sec := false, mic8 := false, dst := 0,
      src := s.get .SYS_NODE_ID_ID, seq := s.get .WIR_STAT_CYCNO % 256, epoch := 0, len := 30, hops := 0 }
  let acked := s.ackList.map fun a => a.id
  let r := s.newPageFrame Phy.LINE 3 .beacon (withCheck false (h.coded ++ p)) 0
  let s := r.2.setLine fun l => { l with
    sending := some r.1.id
    list := l.list.map fun a => if acked.contains a.id then { a with acked := true } else a }
  let s := if s.line.probe then
      (s.forEach (List.range 8) fun s i => s.put (.WIR_PRESENT_BITS i) 0).setLine fun l => { l with probe := false }
    else s
  s.pruneAnnounces

/-- The legacy beacon of an M1 or M2 window (R372). -/
def State.sendWindowBeacon (s : State) (g : Nat) : State :=
  let h : Header :=
    { ftype := 2, bcast := false, noack := false, retry := false, sec := false, mic8 := false, dst := 0,
      src := s.get .SYS_NODE_ID_ID, seq := s.get .WIR_STAT_CYCNO % 16, epoch := 0, len := 2, hops := 0 }
  let f := s.freshBelow 2
  let r := f.2.newPageFrame Phy.LINE g .beacon (withCheck true ({ h with noack := f.1 == 1 }.legacy ++ be16 (s.windowLen g))) 0
  r.2.setLine fun l => { l with sending := some r.1.id, winHeard := true }

/-- An ANNOUNCE's payload (R385). -/
def State.announcePayload (s : State) (gens : Nat) : List Byte :=
  wordBytes (s.rd Adr.SYS_UID_HI) ++ wordBytes (s.rd Adr.SYS_UID_LO) ++ [byteOf gens, 0x21]

/-- The frames of the line that satisfy a condition and are not on it are taken back. -/
def State.lineWithdraw (s : State) (p : TxFrame → Bool) : State :=
  let ids := (s.tx.filter fun f => f.phy == Phy.LINE && p f && s.line.sending != some f.id).map (·.id)
  let x := s.xing 2
  let mine := x.owned.filter fun t => ids.contains t.frame
  let s := s.putXing 2 { x with waiting := x.waiting.filter fun t => !ids.contains t.frame }
  let s := s.forEach mine fun s t => s.freeOwned 2 t.id
  s.forEach ids State.dropTx

/-- The node stops announcing (R385): an ANNOUNCE that still waits is not sent. -/
def State.announceEnds (s : State) : State :=
  (s.setLine fun l => { l with announce := false }).lineWithdraw fun f => f.kind == .announce

/-- The node's ANNOUNCE for window g goes to FEC and the line, once in each cycle that it serves, unless the last one
still waits for its turn (R385). -/
def State.sendAnnounce (s : State) (g : Nat) : State :=
  let gens := s.get .WIR_GEN_EN
  let first := if gens % 2 = 1 then 1 else if gens / 2 % 2 = 1 then 2 else 3
  let m3 := gens / 4 % 2 == 1
  let here := if m3 then g == 3 && s.bit .WIR_STAT_ECOK else g == first && s.bit .WIR_STAT_LAYOUT
  let waits := s.tx.any fun f => f.phy == Phy.LINE && f.kind == .announce
  if !s.hub && s.line.announce && !s.line.annSent && !waits && here && s.lineServing && s.takesWork 14 then
    let s := s.setLine fun l => { l with annSent := true }
    let f := s.freshBelow 2
    let h : Header :=
      { ftype := 3, bcast := false, noack := f.1 == 1, retry := false, sec := false, mic8 := false, dst := s.line.hubId,
        src := s.get .SYS_NODE_ID_ID, seq := 0, epoch := 0, len := 10, hops := 0 }
    let legacy := !m3
    f.2.handFrame 0 Phy.LINE (if m3 then 3 else first) .announce (withCheck legacy (h.bytes legacy ++ s.announcePayload gens))
  else s

/-! ### The cycle (R367, R368, R371, R388, R389) -/

/-- The cycle's last window of non-zero length: the one that starts last, 0 for the mark slot alone (R368). -/
def State.lastWindow (s : State) : Nat :=
  [1, 2, 3].foldl (fun b g =>
    if s.windowLen g = 0 then b
    else if b = 0 ∨ s.get (winStart b) < s.get (winStart g) then g else b) 0

/-- The first frame of a generation in the transmit buffer. -/
def State.lineFront (s : State) (gen : Nat) : Option TxFrame :=
  (s.xing 2).owned.findSome? fun t => (s.txFrame t.frame).filter fun f => f.gen == gen

/-- The hub may send in the M3 window (R368, R373, R380). -/
def State.hubSends (s : State) : Bool :=
  s.hub && s.get .WIR_STAT_WIN == 3 && s.lineServing && s.bit .WIR_STAT_ECOK && !s.lineHeld

/-- The hub's next frame on M3 goes on the line at the next group boundary, without contention, where it fits into what
the frames before it have left of the window (R373, R377; log entry 40). -/
def State.hubNext (s : State) : State :=
  if s.hubSends && s.line.sending.isNone then
    match s.lineFront 3 with
    | some f =>
      let left := s.line.room / (16 * unitXo 3) * 16
      if unitsFit 3 f.lineUnits left then s.lineStart f left else s
    | none => s
  else s

/-- The backoff of a node's next burst in generation `gen` is drawn, unless a draw stands: below CW, or below 2 for an
acknowledgement on M3; an acknowledgement on M1 or M2 has none (R374, R376; log entry 58). -/
def State.lineContend (s : State) (gen : Nat) : State :=
  let cw := if s.line.cw = 0 then s.get .WIR_CSMA_CWMIN else s.line.cw
  let draw := fun (s : State) (n : Nat) => let d := s.freshBelow n; d.2.setLine fun l => { l with backoff := some d.1 }
  if s.hub || s.line.backoff.isSome || s.line.sending.isSome then s
  else if gen = 3 && s.line.trains then draw s cw
  else if !s.lineServing then s
  else match s.lineFront gen with
    | none => s
    | some f =>
      let ack := match f.kind with
        | .ack _ => true
        | .pageAck => true
        | _ => false
      if !ack then draw s cw else if gen = 3 then draw s 2 else s.setLine fun l => { l with backoff := some 0 }

/-- The line's next frame: the hub's on M3, or a node's draw for its next access. -/
def State.lineNext (s : State) : State :=
  let g := s.get .WIR_STAT_WIN
  if s.hub then s.hubNext else if 1 ≤ g && g ≤ 3 then s.lineContend g else s

/-- A cycle starts, for a node with its mark (R368, R385). -/
def State.lineCycle (s : State) : State := s.setLine fun l => { l with cycles := l.cycles + 1, annSent := false }

/-- A hub cycle starts (R367 to R369, R388): with a LINE_CYCLE task RUNNING the mark is sent, else the cycle is dark. -/
def State.hubCycle (s : State) : State :=
  let s := (s.put .WIR_STAT_WIN 0).lineCycle
  if s.lineServing then
    let s := if s.lineHeld then s else s.sendMark
    s.raiseIf (s.bit .WIR_CFG_CYCEVT) Ev.WIR_CYCLE_START
  else (s.sat .WIR_CNT2_DARK).put .WIR_STAT_WIN 4

/-- The end of SETTLE: the line is ON and cycle 0 starts (R358). CYCNO's count from WIR_POWER_ON starts at 0 (R367), and
WIR_PRESENT tells who has announced since (R393). -/
def State.lineSettleEnd (s : State) : State :=
  if s.linePwr = LinePwr.SETTLE then
    let s := s.forEach (List.range 8) fun s i => s.put (.WIR_PRESENT_BITS i) 0
    ((((s.put .WIR_STAT_PWR LinePwr.ON).put .WIR_STAT_CYCNO 0).raise Ev.WIR_POWER_ON).hubCycle).readyDue
  else s

/-- The hub's grid runs (R360, R367). -/
def State.gridRuns (s : State) : Bool :=
  s.hub && s.linePwr == LinePwr.ON && s.enabled 14 && !s.islandWaits Island.WIRE

/-- The grid reaches a cycle start (R360, R367). -/
def State.cycleBoundary (s : State) : State :=
  if s.gridRuns then
    if s.line.softOff then s.lineOpen else (s.wrap .WIR_STAT_CYCNO).hubCycle
  else s

/-- LEAD before a cycle start: a firing on WAITING LINE_CYCLE slots (R360, R368). -/
def State.cycleLead (s : State) : State :=
  let ready := if s.hub then s.linePwr == LinePwr.ON else s.bit .WIR_STAT_LAYOUT
  if s.enabled 14 && !s.safe 14 && ready then s.kindFiring Kind.LINE_CYCLE else s

/-- A training burst starts (R379): at its first one the taps clear (R378). -/
def State.trainStart (s : State) : State :=
  (s.put .WIR_STAT_TRAINING 1).setLine fun l => { l with
    backoff := none, begun := true, taps := if l.begun then l.taps else List.replicate 64 0 }

/-- A window starts (R372, R373, R379, R385, R388). -/
def State.windowStart (s : State) (g : Nat) : State :=
  let on := s.enabled 14 && 1 ≤ g && g ≤ 3 && s.windowLen g != 0 && (if s.hub then s.linePwr == LinePwr.ON else s.bit .WIR_STAT_LAYOUT)
  if on && (s.lineServing || (s.lineTraining && g == 3)) then
    let s := s.put .WIR_STAT_WIN g
    let s := s.setLine fun l => { l with room := s.windowLen g * windowXo }
    let s := s.raiseIf (s.bit .WIR_CFG_WINEVT) Ev.WIR_GEN_WIN
    if s.lineTraining then
      let s := s.setLine fun l => { l with trains := true }
      if !s.hub then s.lineContend 3
      else if !s.lineHeld && unitsFit 3 trainingUnits (s.windowLen 3 * windowXo / unitXo 3) then s.trainStart else s
    else
      let s := s.sendAnnounce g
      if !s.hub then s.lineContend g
      else if g = 3 then s.hubNext
      else if s.lineHeld then s else s.sendWindowBeacon g
  else s

/-- A LINE_CYCLE task asked to stop, or that the host stops, ends at the end of a generation window (R205, R216, R218). -/
def State.lineStop (s : State) : State :=
  match s.runningKind Kind.LINE_CYCLE with
  | none => s
  | some i => match (s.slot i).stopEnd with
    | some e => if s.get .WIR_STAT_WIN = 4 then s.taskEnds i e else s
    | none => s

/-- The acknowledgements of a generation that its window left unsent are owed again (R314, R377). -/
def State.acksHeldOver (s : State) (gen : Nat) : State :=
  let late := fun (f : TxFrame) => f.gen == gen && match f.kind with
    | .ack _ => true
    | _ => false
  let acks := s.tx.filter fun f => f.phy == Phy.LINE && late f && s.line.sending != some f.id
  s.forEach acks fun s f => match f.kind with
    | .ack peer => (s.lineWithdraw fun g => g.id == f.id).oweAck f.eng peer
    | _ => s

/-- What is left of the M3 window when it ends: a training pass under way pauses (R377), and a hub has filled the rest
with idle groups, over which its canceller adapted (R373, R378). -/
def State.m3Ends (s : State) : State :=
  let s := if s.bit .WIR_STAT_TRAINING then (s.adaptPart trainingLevels).put .WIR_STAT_TRAINING 0 else s
  let s := if s.hubSends then
      s.adaptPart ((List.replicate (s.line.room / (16 * unitXo 3)) IdleGroup.a.levels).flatten) else s
  s.setLine fun l => { l with trains := false, upBusy := false, collided := false }

/-- A window, or the mark slot (g = 0), ends (R368): at the cycle's last one the LINE_CYCLE task ends DONE. -/
def State.windowEnd (s : State) (g : Nat) : State :=
  let last := g == s.lastWindow
  let s := if g = 3 then s.m3Ends else s
  let s := (s.acksHeldOver g).put .WIR_STAT_WIN 4
  let s := s.setLine fun l => { l with winHeard := false, room := 0, backoff := none }
  if last then
    match s.runningKind Kind.LINE_CYCLE with
    | some i => if s.lineServing then s.taskEnds i .done else s
    | none => s
  else if g = 0 then s else s.lineStop

/-! ### Access (R373 to R377) -/

/-- A node's upstream burst starts, `left` symbols before the window ends (R374, R377, R379). The hub hears it begin: its
idle groups say busy (R373). -/
def State.upstream (s : State) (left : Nat) : State :=
  if s.get .WIR_STAT_WIN != 3 || !s.enabled 14 then s
  else if s.hub then s.setLine fun l => { l with upBusy := true }
  else if !s.bit .WIR_STAT_LAYOUT || s.lineHeld then s
  else if s.lineTraining then
    (if s.line.trains && !s.bit .WIR_STAT_TRAINING && unitsFit 3 trainingUnits left then s.trainStart else s)
  else if s.lineServing && s.bit .WIR_STAT_ECOK && s.line.sending.isNone then
    match s.lineFront 3 with
    | some f => if unitsFit 3 f.lineUnits left then s.lineStart f left else s
    | none => s
  else s

/-- A device starts an M1 or M2 frame, `left` units before the window ends (R372, R376, R377). -/
def State.legacyStart (s : State) (g left : Nat) : State :=
  if s.lineServing && (g == 1 || g == 2) && s.get .WIR_STAT_WIN == g && s.line.winHeard && !s.lineHeld && s.line.sending.isNone
      && s.enabled 14 then
    match s.lineFront g with
    | some f => if unitsFit g f.lineUnits left then s.lineStart f left else s
    | none => s
  else s

/-- CW after a collision (R374, R375). -/
def State.doubleCw (s : State) : State :=
  let cw := if s.line.cw = 0 then s.get .WIR_CSMA_CWMIN else s.line.cw
  s.setLine fun l => { l with cw := min (2 * cw) (s.get .WIR_CSMA_CWMAX) }

/-- The hub judges a collision (R375): one IDLE_C group is due at the first boundary at which it sends no frame. -/
def State.hubCollision (s : State) : State :=
  if s.hub && s.get .WIR_STAT_WIN == 3 then
    ((s.setLine fun l => { l with collided := true }).sat .WIR_CNT_COLL).raise Ev.WIR_COLLISION
  else s

/-- A sending node receives IDLE_C (R375): the burst stops, the frame stays for its next access as the same transmission;
a training burst is sent again. -/
def State.idleC (s : State) : State :=
  if !s.hub && s.get .WIR_STAT_WIN == 3 && !s.clk.wireStop then
    match s.line.sending with
    | some id =>
      let s := s.adaptPart (match s.txFrame id with
        | some f => f.lineLevels
        | none => [])
      (((s.setLine fun l => { l with sending := none, again := some id }).doubleCw).raise Ev.WIR_COLLISION).lineContend 3
    | none =>
      if s.bit .WIR_STAT_TRAINING then
        ((((s.adaptPart trainingLevels).put .WIR_STAT_TRAINING 0).doubleCw).raise Ev.WIR_COLLISION).lineContend 3
      else s
  else s

/-- The frame on the line ends at its last symbol (R307, R374, R388). -/
def State.lineSent (s : State) : State :=
  match s.line.sending with
  | none => s
  | some id =>
    match s.txFrame id with
    | none => s.setLine fun l => { l with sending := none }
    | some f =>
      let s := if f.gen = 3 then s.adapt f.lineLevels else s
      let s := s.setLine fun l => { l with sending := none, cutting := false, cw := 0 }
      let s := s.raiseIf (f.kind != .beacon) Ev.WIR_TX_DONE
      let mine := (s.xing 2).owned.filter fun t => t.frame == id
      let s := s.forEach mine fun s t => s.freeOwned 2 t.id
      ((s.dropTx id).frameSent f).lineNext

/-- The transmitter goes idle in the manner of R153: an M3 burst ends with its group, an M1 or M2 frame at once. -/
def State.lineIdle (s : State) : State :=
  match s.line.sending with
  | none => if s.bit .WIR_STAT_TRAINING then s.setLine fun l => { l with cutting := true } else s
  | some id => match s.txFrame id with
    | some f => if f.gen = 3 then s.setLine fun l => { l with cutting := true } else s.lineAbandon
    | none => s.lineAbandon

/-- LINE_HOLD (R389). -/
def State.lineHold (s : State) : State := (s.put .WIR_STAT_HELD 1).lineIdle

/-- The 16-symbol group of an interrupted M3 transmission is complete: the line is held idle (R153). A training burst that
is cut starts again in the next M3 window that the transmitter is free in (log entry 58). At a hub that sends idle groups
the end of a group is the end of a due IDLE_C (R375). -/
def State.groupComplete (s : State) : State :=
  if s.line.cutting then
    let s := if s.line.sending.isNone then s.put .WIR_STAT_TRAINING 0 else s
    s.lineAbandon
  else if s.hubSends && s.line.sending.isNone then s.setLine fun l => { l with collided := false } else s

/-! ### The echo canceller (R379, R380) -/

/-- A training pass ends with RES in 0.25 dB units (R379); a pass that is being cut does not. -/
def State.trainingPass (s : State) (res : Int) : State :=
  if s.bit .WIR_STAT_TRAINING && !s.line.cutting && !s.lineHeld then
    let s := (s.adapt trainingLevels).putS .WIR_EC_RES_RES res
    let stop := fun (s : State) =>
      let s := (s.trainOver).setLine fun l => { l with cw := 0 }
      match s.runningKind Kind.LINE_TRAIN with
      | some i => s.taskEnds i .done
      | none => s
    if res ≤ -4 * (s.get .WIR_EC_CTRL_CONVTHR : Int) then
      stop (((s.put .WIR_STAT_ECOK 1).put .WIR_STAT_TRAINFAIL 0).raise Ev.WIR_EC_CONV)
    else if 1 ≤ s.line.passes then
      stop (((s.put .WIR_STAT_ECOK 0).put .WIR_STAT_TRAINFAIL 1).raise Ev.WIR_EC_DIVERGE)
    else s.setLine fun l => { l with passes := l.passes + 1 }
  else s

/-- The canceller is judged diverged with RES in 0.25 dB units (R380). -/
def State.ecDiverge (s : State) (res : Int) : State :=
  if s.bit .WIR_STAT_ECOK && decide (-4 * (s.get .WIR_EC_CTRL_DIVTHR : Int) < res) then
    let burst := s.get .WIR_STAT_WIN == 3 && match s.line.sending.bind s.txFrame with
      | some f => f.gen == 3
      | none => false
    -- without ECOK a node sends nothing upstream and a hub holds the zero level in the M3 window
    let s := if burst then s.lineAbandon else s
    let s := ((((s.putS .WIR_EC_RES_RES res).put .WIR_STAT_ECOK 0).sat .WIR_CNT2_ECDIV).raise Ev.WIR_EC_DIVERGE)
    if s.bit .WIR_EC_CTRL_AUTO then s.kindFiring Kind.LINE_TRAIN else s
  else s

/-! ### Clock recovery and polarity (R382 to R384) -/

/-- INV changed or set by a judgement (R384). -/
def State.judgePolarity (s : State) (inverse : Bool) : State :=
  let mode := s.get .WIR_POL_MODE
  if mode = 1 then s.put .WIR_STAT_INV 0
  else if mode = 2 then s.put .WIR_STAT_INV 1
  else if s.line.judgePol then
    let was := s.bit .WIR_STAT_INV
    let s := (s.putBit .WIR_STAT_INV inverse).setLine fun l => { l with judgePol := false }
    s.raiseIf (inverse || was) Ev.WIR_POLARITY
  else s

/-- A sync detection (R384): in hub role the inverse word discards the burst; false then. -/
def State.syncDetected (s : State) (inverse : Bool) : Bool × State :=
  if s.hub then (if inverse then (false, s.lineRxErr) else (true, s)) else (true, s.judgePolarity inverse)

/-- What a change of the role does on the line (R384): in hub role INV is 0. -/
def State.lineRole (s : State) : State := if s.hub then s.put .WIR_STAT_INV 0 else s

/-- Clock recovery restarts; where lock was held, CLK_CDR_LOSS (R383, R384, R385). -/
def State.lineLoss (s : State) : State :=
  let locked := s.bit .CLK_STAT_CDR
  let s := (s.put .WIR_CDR_STAT_ACQ 0).put .WIR_CDR_STAT_MISSED 0
  let s := s.setLine fun l => { l with marks := 0 }
  if locked then
    ((s.cdrLoss).put .WIR_STAT_LAYOUT 0).setLine fun l => { l with judgePol := true, announce := true }
  else s

/-- A mark arrives `err` wire cycles from its prediction, with the recovered clock `ppm` from fallback (R382, R383,
R388). -/
def State.markTiming (s : State) (err ppm : Int) : State :=
  if !s.bit .WIR_CDR_STAT_ACQ then
    ((s.put .WIR_CDR_STAT_ACQ 1).put .WIR_CDR_STAT_MISSED 0).setLine fun l => { l with marks := 1 }
  else if 16 < err.natAbs then s.lineLoss
  else
    let s := (s.put .WIR_CDR_STAT_MISSED 0).putS .WIR_CDR_STAT_PHERR err
    let s := s.putS .WIR_CDR_STAT_FOFS (clampTo 32767 ppm)
    let s := s.setLine fun l => { l with marks := if err.natAbs ≤ 4 then l.marks + 1 else 1 }
    if !s.bit .CLK_STAT_CDR && s.get .WIR_CDR_CFG_LOCKN ≤ s.line.marks then s.cdrLock else s

/-- A node hears marks. -/
def State.hearsMarks (s : State) : Bool := !s.hub && s.enabled 14 && !s.clk.wireStop && s.pwr.lineUp

/-- A node receives a mark (R371, R381, R382, R384): timing and polarity at once, its beacon through FEC. `phr` and
`words` are the soft bits of the beacon. -/
def State.markReceived (s : State) (err ppm : Int) (inverse : Bool) (phr : List Int) (items : List (List Int)) : State :=
  if !s.hearsMarks then s
  else
    let s := (s.judgePolarity inverse).lineCycle
    let s := s.markTiming err ppm
    let s := s.put .WIR_STAT_WIN (if s.lineServing then 0 else 4)
    let s := s.raiseIf (s.bit .WIR_CFG_CYCEVT) Ev.WIR_CYCLE_START
    let r := s.rxBegin 3 3 0 phr 0x80 s.cyc
    match r.1 with
    | none => r.2.2
    | some id => (items.zipIdx.foldl (fun s t => (s.rxItem id t.1 (t.2 + 1 == items.length) true).2) r.2.2)

/-- An expected mark is absent (R383, R394). -/
def State.markMissed (s : State) : State :=
  if s.hub || !s.enabled 14 || !s.bit .WIR_CDR_STAT_ACQ then s
  else
    let s := ((s.sat .WIR_CDR_STAT_MISSED).sat .WIR_CNT2_DARK).lineCycle
    if s.get .WIR_CDR_CFG_MISS ≤ s.get .WIR_CDR_STAT_MISSED then s.lineLoss else s

/-- A decoded beacon of the line in node role: layout, announce answers and the calendar mark (R289, R367, R370, R371,
R385). -/
def State.lineBeacon (s : State) (f : RxFrame) : State :=
  let b := f.body
  let h := f.header
  if s.hub || b.length < 30 then s
  else
    let flags := at8 b 2
    let two := fun i => at8 b i * 256 + at8 b (i + 1)
    let s := (s.put .WIR_STAT_CYCNO (two 0)).put .WIR_STAT_LAYOUT 1
    let s := s.put .WIR_CYCLE_LEN (two 7)
    let s := s.forEach [1, 2, 3] fun s g => (s.put (winStart g) (two (5 + 4 * g))).put (winLen g) (two (7 + 4 * g))
    let ids := ((b.drop 3).take (min 4 (flags / 8 % 8))).map fun x => x.toNat
    let s := s.setLine fun l => { l with hubId := h.src }
    let s := if ids.contains (s.get .SYS_NODE_ID_ID) then s.announceEnds else s
    let s := if flags / 128 == 1 then s.setLine fun l => { l with announce := true } else s
    s.timeMark 1 (flags / 64 % 2 == 1) (beaconCalendar (b.drop 21)) (s.cyc - f.mark)

/-! ### Announces at the hub (R386, R393) -/

/-- An ANNOUNCE with payload `b` of node `src`, of generation `gen`, received by the hub (R386); a legacy one is answered
at once with an acknowledgement of SEQ 0. -/
def State.announced (s : State) (src : Nat) (b : List Byte) (legacy : Bool) (gen : Nat) : State :=
  let waiting := s.line.list.any fun a => a.id == src && !a.acked
  if !s.hub || b.length < 10 || 8 ≤ s.line.list.length || waiting then s
  else
    let known := s.bitAt (.WIR_PRESENT_BITS (src / 32)) (src % 32)
    let a : Announce :=
      { id := src, uid := (b.take 8).foldl (fun n x => n * 256 + x.toNat) 0, gens := at8 b 8 % 8, step := at8 b 9,
        legacy := legacy, rep := known, acked := legacy, popped := false }
    let s := s.setBitAt (.WIR_PRESENT_BITS (src / 32)) (src % 32) true
    let s := ((s.setLine fun l => { l with list := l.list ++ [a] }).showAnnounce).raise Ev.WIR_NEWNODE
    if legacy then
      let q := s.freshBelow 2
      let ack : Header :=
        { ftype := 1, bcast := false, noack := q.1 == 1, retry := false, sec := false, mic8 := false, dst := src,
          src := s.get .SYS_NODE_ID_ID, seq := 0, epoch := 0, len := 0, hops := 0 }
      q.2.handFrame 0 Phy.LINE gen .pageAck (withCheck true ack.legacy)
    else s

/-- A received ANNOUNCE frame at the hub. -/
def State.hubAnnounce (s : State) (f : RxFrame) : State := s.announced f.header.src f.body f.legacy f.gen

/-- WIR_ANN_INFO.VALID written 1: the oldest unpopped entry is popped (R392). -/
def State.popAnnounce (s : State) : State :=
  match s.line.list.findIdx? fun a => !a.popped with
  | none => s
  | some i =>
    (s.setLine fun l => { l with list := l.list.zipIdx.map fun e => if e.2 = i then { e.1 with popped := true } else e.1 }).pruneAnnounces

/-! ### The page (R367, R389, R391) -/

/-- The range checks of the WIR page, by twin offset; in node role WIR_CYCLE is checked for LEAD 0 alone and the windows
not at all (R367). Both of two windows that overlap are judged out of range, so the one at the lower offset is the one
named (log entry 62). -/
def wirRange (s : State) : List (Nat × Bool) :=
  let hub := s.hub
  let len := s.getTwin .WIR_CYCLE_LEN
  let wl := fun g => if s.getTwin .WIR_GEN_EN / 2 ^ (g - 1) % 2 = 1 then s.getTwin (winLen g) else 0
  let ws := fun g => s.getTwin (winStart g)
  let overlap := fun (g k : Nat) => wl g != 0 && wl k != 0 && decide (ws g < ws k + wl k) && decide (ws k < ws g + wl g)
  let bad := fun g => wl g != 0 && (decide (ws g < 50) || decide (len - 1 < ws g + wl g)
    || [1, 2, 3].any fun k => k != g && overlap g k)
  let mu := s.getTwin .WIR_EC_CTRL_MU
  let lockn := s.getTwin .WIR_CDR_CFG_LOCKN
  let dwell := s.getTwin .WIR_PLUG_CFG_DWELL
  [(0x244, s.getTwin .WIR_CYCLE_LEAD == 0 || (hub && (decide (len < 100) || decide (10000 < len)))),
   (0x248, hub && bad 1), (0x24C, hub && bad 2), (0x250, hub && bad 3),
   (0x258, decide (mu < 6) || decide (14 < mu)),
   (0x260, s.getTwin .WIR_PWR_CFG_SETTLE == 0 || s.getTwin .WIR_PWR_CFG_INRUSH == 0 || s.getTwin .WIR_PWR_CFG_OCT == 0),
   (0x264, decide (dwell < 4) || decide (64 < dwell) || s.getTwin .WIR_PLUG_CFG_STEP == 0),
   (0x268, decide (lockn < 2) || decide (8 < lockn) || s.getTwin .WIR_CDR_CFG_MISS == 0),
   (0x26C, decide (s.getTwin .WIR_CSMA_CWMAX < s.getTwin .WIR_CSMA_CWMIN))]

/-- What an application of the WIR page does beside the copy: in node role the layout last received stays active
(R367); a forced polarity holds at once (R384). -/
def State.wirApplied (s old : State) : State :=
  let s := if s.hub then s else
    s.forEach [Fld.WIR_CYCLE_LEN, .WIR_WIN_M1_START, .WIR_WIN_M1_LEN, .WIR_WIN_M2_START, .WIR_WIN_M2_LEN,
      .WIR_WIN_M3_START, .WIR_WIN_M3_LEN] fun s f => s.put f (old.get f)
  if s.hub then s
  else if s.get .WIR_POL_MODE = 1 then s.put .WIR_STAT_INV 0
  else if s.get .WIR_POL_MODE = 2 then s.put .WIR_STAT_INV 1 else s

/-- WIR's page soft reset (R378, R389, R48): line power, WIR_PRESENT and the announce list are kept. The side resets come
first, so that the frames that they discard are counted (R50). -/
def State.wirSoftReset (s : State) : State :=
  let s := (((s.sideReset 2 true).sideReset 3 true).lineAbandon).lineRxCut
  let s := (((s.put .WIR_STAT_ECOK 0).put .WIR_STAT_TRAINFAIL 0).put .WIR_STAT_INV 0).put .WIR_STAT_HELD 0
  let s := ((s.trainOver).lineLoss).put .WIR_STAT_LAYOUT 0
  let s := s.setLine fun l => { l with judgePol := true, winHeard := false, taps := List.replicate 64 0, backoff := none, again := none }
  s.lineTasksEnd (.aborted Cause.BLOCK)

/-! ### What is on the line (R362 to R366, R373, R384) -/

/-- The amplitude A in mV (R362). -/
def State.lineAmp (s : State) : Nat := 500 + 100 * s.get .WIR_TXAMP_AMP

/-- The idle group that a hub sends while it sends no frame in the M3 window (R373, R375). -/
def State.idleGroup (s : State) : Option IdleGroup :=
  if s.hubSends && s.line.sending.isNone then
    some (if s.line.collided then .c else if s.line.upBusy then .b else .a)
  else none

/-- The levels, in thirds of A, of the burst or idle group that the transmitter sends: INV negates them; none is the zero
level. -/
def State.lineLevels (s : State) : List Int :=
  let l := match s.line.sending.bind s.txFrame with
    | some f => f.lineLevels
    | none => if s.bit .WIR_STAT_TRAINING then trainingLevels else (s.idleGroup.map IdleGroup.levels).getD []
  if s.bit .WIR_STAT_INV then l.map fun v => -v else l

end Sys2Proof.Machine
end

