-- ==== Sys2Proof/Machine/Radio.lean ====
section
/-! DEFINITION. The radio front end: its states, frequency and calibration, transmissions with listen-before-talk and duty
budget, receive windows, acknowledgement slots, and how a transmission ends (R395 to R419). -/

namespace Sys2Proof.Machine

/-! ### States (R395, R396) -/

/-- STATE codes of RAD_STATE (R415). -/
def Rad.SLEEP : Nat := 0
def Rad.STANDBY : Nat := 1
def Rad.SYNTH : Nat := 2
def Rad.RX : Nat := 3
def Rad.TX : Nat := 4

/-- RAD_STATE.STATE. -/
def State.radState (s : State) : Nat := s.get .RAD_STATE_STATE

/-- The radio's and the modem's working state replaced. -/
def State.setRad (s : State) (f : Radio → Radio) : State := { s with rad := f s.rad }
def State.setRdm (s : State) (f : Modem → Modem) : State := { s with rdm := f s.rdm }

/-- The running task that holds RADIO. -/
def State.radTask (s : State) : Option Nat := s.holder .radio

/-- The running task that holds RADIO is of kind `k`. -/
def State.radKind (s : State) (k : Nat) : Bool := match s.radTask with
  | some i => (s.slot i).kind == k
  | none => false

/-- PARAM of the running task that holds RADIO. -/
def State.radParam (s : State) : Word := match s.radTask with
  | some i => (s.slot i).param
  | none => 0

/-- RDM_STAT.SEARCH follows the table of R424. -/
def State.syncSearch (s : State) : State :=
  let rx := s.radState == Rad.RX && s.rad.goal.isNone && s.rad.listen.isNone && !s.rad.closing
    && s.enabled 16
  s.putBit .RDM_STAT_SEARCH (rx && ((s.radKind Kind.RAD_RX_WIN && s.rdm.on) || s.rad.wait))

/-- A change of state: LOCK follows, RSSI events are armed at each entry to RX (R432), RAD_STATE where STATEEVT is 1. -/
def State.setRadState (s : State) (st : Nat) : State :=
  if s.radState = st then s
  else
    let s := (s.put .RAD_STATE_STATE st).putBit .RAD_STATE_LOCK (decide (2 ≤ st))
    -- under the Damper ANT_SEL stays as it is (R152, R403); in SLEEP it is low
    let s := s.setRad fun r => { r with
      txPath := st == Rad.TX || (r.txPath && s.bit .PWR_MODE_DAMPER && st == Rad.SYNTH) }
    let s := if st = Rad.RX then s.setRdm fun m => { m with hiArmed := true, loArmed := true } else s
    s.raiseIf (s.bit .RAD_CFG_STATEEVT) Ev.RAD_STATE

/-- The transitions towards a state start. -/
def State.radGo (s : State) (st : Nat) : State :=
  (s.setRad fun r => { r with goal := if s.radState = st then none else some st }).syncSearch

/-! ### Frequency and calibration (R397 to R399) -/

/-- The carrier of the running task, in synthesiser steps of XO ÷ 2^20. -/
def State.carrier (s : State) : Nat := s.get .RAD_FREQ_N + bits s.radParam 31 26 * s.get .RAD_CHAN_SPACE

/-- A carrier inside 863 to 876 MHz or 902 to 928 MHz with the nominal XO of 27.12 MHz. -/
def inBand (n : Nat) : Bool :=
  let f := n * 27120000
  let mhz := 1000000 * 2 ^ 20
  (decide (863 * mhz ≤ f) && decide (f ≤ 876 * mhz)) || (decide (902 * mhz ≤ f) && decide (f ≤ 928 * mhz))

/-- The calibration is valid for a carrier: within ±4 MHz (R398). -/
def State.calValid (s : State) (n : Nat) : Bool :=
  let c := s.get .RAD_CAL_FREQ_N
  s.bit .RAD_CAL_STAT_VALID && decide ((max n c - min n c) * 27120000 ≤ 4 * 1000000 * 2 ^ 20)

/-- The comparator of R399 ARMED with count 0. -/
def State.calArm (s : State) : State := (s.put .RAD_CAL_STAT_TRIPPED 0).setRad fun r => { r with calCount := 0 }

/-- VALID clears, with RAD_CAL_NEEDED where it was set (R398, R399). -/
def State.calInvalid (s : State) : State :=
  if s.bit .RAD_CAL_STAT_VALID then ((s.put .RAD_CAL_STAT_VALID 0).calArm).raise Ev.RAD_CAL_NEEDED else s.calArm

/-- The comparator of R399 at a periodic sample. -/
def State.calCompare (s : State) : State :=
  if s.bit .RAD_CAL_STAT_VALID then
    let d : Int := (s.getS .THM_TEMP_FILT - s.getS .RAD_CAL_STAT_TCAL).natAbs
    let was := s.bit .RAD_CAL_STAT_TRIPPED
    let r := comparatorStep false (4 * (s.get .RAD_CAL_DT_LVL : Int)) (4 * (s.get .RAD_CAL_DT_HYST : Int))
      (s.get .RAD_CAL_DT_DWELL + 1) was s.rad.calCount d
    ((s.putBit .RAD_CAL_STAT_TRIPPED r.1).setRad fun q => { q with calCount := r.2 }).raiseIf (r.1 && !was) Ev.RAD_CAL_NEEDED
  else s.calArm

/-! ### Air time and duty (R411, R420) -/

/-- RAD_DUTY_USED in µs; its rounding is not stated (a free value). -/
def State.showDuty (s : State) : State :=
  let r := s.roundFree (s.rad.duty.sum * 25) 678
  r.2.put .RAD_DUTY_USED_USED r.1

/-- Air time in XO cycles added to the present bucket. -/
def State.dutyAdd (s : State) (c : Nat) : State :=
  (s.setRad fun r => { r with duty := match r.duty with
    | [] => [c]
    | d :: l => (d + c) :: l }).showDuty

/-- The budget of LIMIT × SPAN × 6000 µs holds a further transmission; LIMIT 0 is no limit. -/
def State.dutyOk (s : State) (c : Nat) : Bool :=
  s.get .RAD_DUTY_CFG_LIMIT == 0
    || decide ((s.rad.duty.sum + c) * 25 ≤ s.get .RAD_DUTY_CFG_LIMIT * s.get .RAD_DUTY_CFG_SPAN * 6000 * 678)

/-- The duty window advances one bucket. -/
def State.dutyAdvance (s : State) : State :=
  (s.setRad fun r => { r with duty := 0 :: r.duty.take 59 }).showDuty

/-! ### Frames that are not sent (R409, R411, R412) -/

/-- Everything that crossings 0, 4 and 8 hold of a frame is gone. -/
def State.purgeFrame (s : State) (id : Nat) : State :=
  s.forEach [0, 4, 8] fun s n =>
    let x := s.xing n
    let keep := fun (l : List Item) => l.filter fun t => t.frame != id
    let gone := (x.unacked ++ x.owned).filter fun t => t.frame == id
    let s := (s.setXing n { x with waiting := keep x.waiting, unacked := keep x.unacked, owned := keep x.owned }).freeItems gone
    if (keep x.unacked).isEmpty && !x.unacked.isEmpty then s.closeShakes n else s

/-- A frame discarded unsent: a window place returns from AIR to DUE without the transmission counted, an acknowledgement
becomes owed, a forwarded frame waits again (R409, R411). -/
def State.frameUnsent (s : State) (id : Nat) : State :=
  match s.txFrame id with
  | none => s
  | some f =>
    let s := (s.purgeFrame id).dropTx id
    let e := s.eng f.eng
    match f.kind with
    | .data i item =>
      let p := s.place f.eng i
      if p.item = item ∧ p.st = .air then s.setPlace f.eng i { p with st := .due, tries := p.tries - 1 } else s
    | .ack peer =>
      (s.setEng f.eng { e with owed := peer :: e.owed.filter fun o => o != peer }).setPeer peer Peer.ACKOWED 1
    | .forward item => s.setEng f.eng { e with fwd := (item, f.bytes.take (f.bytes.length - 4)) :: e.fwd }
    | .announce => s.setRdm fun m => { m with annReq := true }
    | _ => s

/-! ### Reception cut (R430) -/

/-- ERR codes of RDM_RXINFO (R440). -/
def RxErr.PHR : Nat := 1
def RxErr.HDR : Nat := 2
def RxErr.LEGHDR : Nat := 3
def RxErr.CUT : Nat := 4
def RxErr.DROP : Nat := 5
def RxErr.PREEMPTED : Nat := 6

/-- The captured frame ends with an error (R430): what has crossed of it is freed. -/
def State.radRxErr (s : State) (err : Nat) : State :=
  match s.rdm.cap with
  | none => s
  | some c =>
    let s := match c.frame with
      | some id => (s.discardRx id).fecSettle s
      | none => s
    let s := (s.setRdm fun m => { m with cap := none }).put .RDM_STAT_CAPT 0
    let s := (s.put .RDM_RXINFO_ERR err).sat .RDM_CNT_RXERR
    s.raise Ev.RDM_RX_ERR

/-! ### Task ends (R396, R412) -/

/-- A running task that holds RADIO ends: a captured frame is cut (R430), frames not yet sent go back, and the radio goes
to SLEEP (R396). -/
def State.radEnd (s : State) (e : TaskEnd) : State :=
  match s.radTask with
  | none => s
  | some i =>
    let left := (s.tx.filter fun f => f.phy == Phy.RADIO).map (·.id)
    let s := (s.radRxErr RxErr.CUT).forEach left fun s id => s.frameUnsent id
    let s := s.setRad fun r => { r with
      tx := none, air := false, chosen := none, listen := none, highest := none, tries := 0, ccaReq := false, beacon := false, announce := false
      wait := false, waitSync := false, hostEnd := false, opened := false, closing := false, synced := false
      accepted := false, parked := none, slot := none, flush := false }
    (s.taskEnds i e).radGo Rad.SLEEP

/-- A RAD_TX task ends DONE with an END code (R415). -/
def State.radTxEnd (s : State) (code : Nat) : State := (s.put .RAD_TXSTAT_END code).radEnd .done

/-- END codes (R415). -/
def RadEnd.EMPTY : Nat := 0
def RadEnd.MAXFR : Nat := 1
def RadEnd.CCA : Nat := 2
def RadEnd.DUTY : Nat := 3
def RadEnd.HOST : Nat := 4

/-- Causes of RAD_TXSTAT (R415). -/
def TxCause.SUPPLY : Nat := 1
def TxCause.OVERTEMP : Nat := 2
def TxCause.CLOCK : Nat := 3
def TxCause.HOST : Nat := 4
def TxCause.LOCK : Nat := 5
def TxCause.PINFAULT : Nat := 6
def TxCause.TIMEOUT : Nat := 7

/-- A transmission ends before its last symbol (R412), after its first symbol or on the way to it: it counts as
completed at this moment. The air time up to the cut is not known to the model (a free value), and 0 before the first
symbol. -/
def State.txCut (s : State) (cause : Nat) : State :=
  match s.rad.tx with
  | none => s
  | some id =>
    let air := s.rad.air
    let s := s.setRad fun r => { r with tx := none, air := false }
    let s := s.put .RAD_TXSTAT_CAUSE cause
    let s := if cause = TxCause.TIMEOUT then (s.sat .RAD_CNT_TIMEOUT).raise Ev.RAD_TX_TIMEOUT
      else (s.sat .RAD_CNT_TXABORT).raise Ev.RAD_TX_ABORT
    match s.txFrame id with
    | none => s
    | some f =>
      let s := if air then let c := s.freshBelow (f.airCycles + 1); c.2.dutyAdd c.1 else s.frameStarts f
      ((s.purgeFrame id).dropTx id).frameSent f

/-- An ending of R412: the transmission, a captured frame, the state the radio returns to, and the task. Without a
task the radio goes to SLEEP (R396). -/
def State.radAbort (s : State) (cause taskCause after : Nat) : State :=
  let s := (s.txCut cause).radRxErr RxErr.CUT
  let s := ((s.setRad fun r => { r with goal := none }).setRadState after).radEnd (.aborted taskCause)
  if s.radTask.isNone then s.radGo Rad.SLEEP else s

/-- An ending of R412 with ramp and lag: the radio stays in TX while its PA ramps down, and then goes by SYNTH to SLEEP
(R395, R396, R402). -/
def State.radRampOff (s : State) (cause taskCause : Nat) : State :=
  let s := (s.txCut cause).radEnd (.aborted taskCause)
  if s.radTask.isNone then s.radGo Rad.SLEEP else s

/-- The Damper engages (R153): a transmission ends, reception continues. -/
def State.radDamper (s : State) : State :=
  if s.rad.tx.isSome then s.radAbort TxCause.SUPPLY Cause.SUPPLY Rad.SYNTH else s

/-- Hard over-temperature (R180). -/
def State.radOvertemp (s : State) : State :=
  if s.rad.tx.isSome then s.radAbort TxCause.OVERTEMP Cause.OVERTEMP Rad.SYNTH else s

/-- XO failure (R237): the radio sleeps and its island waits. -/
def State.radClock (s : State) : State := s.radAbort TxCause.CLOCK Cause.CLOCK Rad.SLEEP

/-- TO_SLEEP, RAD_CMD.SLEEP (R413): nothing without a running task. -/
def State.radToSleep (s : State) : State :=
  if s.radTask.isSome then s.radAbort TxCause.HOST Cause.HOST Rad.SLEEP else s

/-- PA_OFF, RAD_CMD.PAOFF (R413): nothing with the radio not in TX, or with its transmission over. -/
def State.paOff (s : State) : State :=
  if s.radState = Rad.TX ∧ s.rad.tx.isSome then s.radRampOff TxCause.HOST Cause.HOST else s

/-- The transmit timeout (R410). -/
def State.radTimeout (s : State) : State :=
  if s.radState = Rad.TX ∧ s.rad.air then s.radRampOff TxCause.TIMEOUT Cause.BLOCK else s

/-- Synthesiser lock lost in SYNTH, RX or TX (R398, R412). -/
def State.lockLost (s : State) : State :=
  if 2 ≤ s.radState then
    (((s.sat .RAD_CNT_LOCKLOST).raise Ev.RAD_LOCK_LOST).calInvalid).radAbort TxCause.LOCK Cause.BLOCK Rad.STANDBY
  else s

/-- A pin read back 1 µs after a change (R401): PA_EN, LNA_EN, ANT_SEL are pins 0 to 2. A fall to low, in SLEEP or as an
enable clears, is a change too. Without VDD_IO the pins carry no level (R143). -/
def State.pinReadback (s : State) (_pin : Nat) (wrong : Bool) : State :=
  if wrong && s.pwr.ioUp then
    let s := s.raise Ev.RAD_EXTPA_FAULT
    if s.rad.tx.isSome then s.radAbort TxCause.PINFAULT Cause.BLOCK Rad.SYNTH else s
  else s

/-- Lead and lag in XO cycles (R402). -/
def paTime (us : Nat) : Nat := 2 * ((1356 * us + 50) / 100)
def State.paLead (s : State) : Nat := paTime (s.get .RAD_EXTPA_LEAD_LEAD)
def State.paLag (s : State) : Nat := paTime (s.get .RAD_EXTPA_LAG_LAG)

/-- The PA's ramp through entries 0 to that of the present or last transmission, in XO cycles (R400). -/
def State.paRamp (s : State) : Nat := 8 * s.get .RAD_PASTEP_STEP * s.get .RAD_STATE_PA

/-- The first symbol after a transition into TX starts, from RX or from SYNTH, in XO cycles (R395, R402). -/
def State.firstAt (s : State) (fromRx : Bool) : Nat := if fromRx then 1356 else 814 + s.paLead

/-- PA_EN, LNA_EN and whether ANT_SEL selects the transmit path, `t` XO cycles after the start of a transition into TX
(R402). -/
def State.pinsInto (s : State) (fromRx : Bool) (t : Nat) : Bool × Bool × Bool :=
  (decide (s.firstAt fromRx ≤ t + s.paLead), false, decide (28 ≤ t))

/-- The same, `t` XO cycles after the last symbol of a transmission (R402). -/
def State.pinsOut (s : State) (toRx : Bool) (t : Nat) : Bool × Bool × Bool :=
  (decide (t < s.paRamp + s.paLag), toRx && decide (s.paRamp + s.paLag + 56 ≤ t), decide (t < s.paRamp + s.paLag + 28))

/-- The entry that the internal PA stands at, `t` XO cycles after the start of a transition into TX, none while it is off
(R400). -/
def State.paInto (s : State) (fromRx : Bool) (t : Nat) : Option Nat :=
  let start := s.firstAt fromRx - s.paRamp
  let step := 8 * s.get .RAD_PASTEP_STEP
  if t < start then none else some (if step = 0 then s.get .RAD_STATE_PA else min ((t - start) / step) (s.get .RAD_STATE_PA))

/-- A transition into TX is under way, and one out of it. -/
def State.intoTx (s : State) : Bool := s.rad.tx.isSome && !s.rad.air && s.rad.goal == some Rad.TX
def State.outOfTx (s : State) : Bool := s.radState == Rad.TX && s.rad.tx.isNone && s.rad.goal.isSome

/-- The levels of PA_EN, LNA_EN and ANT_SEL, `t` XO cycles after the origin of R402 where the radio turns into or out
of TX (R401 to R403). -/
def State.radPins (s : State) (t : Nat) : Bool × Bool × Bool :=
  let st := s.radState
  let p := if s.intoTx then s.pinsInto (st == Rad.RX) t
    else if s.outOfTx then s.pinsOut (s.rad.goal == some Rad.RX) t
    else (st == Rad.TX, st == Rad.RX, s.rad.txPath)
  let awake := st != Rad.SLEEP && s.pwr.ioUp
  (awake && s.bit .RAD_EXTPA_CFG_PAEN && p.1 && !s.bit .PWR_MODE_DAMPER,
   awake && s.bit .RAD_EXTPA_CFG_LNAEN && p.2.1,
   awake && s.bit .RAD_EXTPA_CFG_ANTEN && (s.bit .RAD_EXTPA_CFG_ANTPOL == p.2.2))

/-- The internal shunt across RF_RX is closed in TX (R404). -/
def State.rfShunt (s : State) : Bool := s.radState == Rad.TX

/-- Driver code, cascode code and path that the transmission's entry gives the PA (R400). -/
def State.paCodes (s : State) : Nat × Nat × Bool :=
  let i := s.get .RAD_STATE_PA
  (s.get (.RAD_PATAB_DRV i), s.get (.RAD_PATAB_CAS i), s.bit (.RAD_PATAB_HP i))

/-! ### Leaving STANDBY, listening -/

/-- In STANDBY, before it leaves it upwards: BADFREQ or NOCAL end the task (R397, R398). -/
def State.radLeaves (s : State) : State :=
  if !inBand s.carrier then (s.put .RAD_STATE_BADFREQ 1).radEnd (.aborted Cause.BLOCK)
  else if !s.radKind Kind.RAD_CAL && !s.calValid s.carrier then (s.put .RAD_STATE_NOCAL 1).radEnd (.aborted Cause.BLOCK)
  else s

/-- The transitions towards a state start, from STANDBY upwards only where R397 and R398 let the task leave it. -/
def State.radRise (s : State) (st : Nat) : State :=
  let s := s.radGo st
  if s.radState = Rad.STANDBY ∧ Rad.STANDBY < st then s.radLeaves else s

/-- The length of a listen is drawn: (MIN + r) × 1356 XO cycles with r from 0 to RAND (R409). -/
def State.drawListen (s : State) : State :=
  let r := s.freshBelow (s.get .RAD_LBT_RAND + 1)
  r.2.setRad fun q => { q with listenXo := (s.get .RAD_LBT_MIN + r.1) * 1356 }

/-- A listen starts (R409): one of CCA_START, or one of listen-before-talk. -/
def State.listenStart (s : State) (cca : Bool) : State :=
  ((s.setRad fun r => { r with listen := some cca, highest := none }).drawListen).radRise Rad.RX

/-! ### One transmission (R402, R407, R409, R411) -/

/-- The PA entry that the running task names (R400). -/
def State.paEntry (s : State) : Nat :=
  let p := s.radParam
  if s.radKind Kind.RAD_TX && bits p 5 5 == 1 then bits p 4 0 else s.get .RAD_PASTEP_DEF

/-- A frame's transition into TX starts, or is refused: under the Damper or over-temperature a RAD_TX task ends ABORTED,
past the duty budget it ends DONE with END DUTY; an acknowledgement in a window becomes owed (R408, R411). -/
def State.startTx (s : State) (id : Nat) : State :=
  let tx := s.radKind Kind.RAD_TX
  let back := (s.setRad fun r => { r with chosen := none, tries := 0 }).frameUnsent id
  if s.bit .PWR_MODE_DAMPER then (if tx then back.radEnd (.aborted Cause.SUPPLY) else back)
  else if s.bit .THM_FLAGS_OT then (if tx then back.radEnd (.aborted Cause.OVERTEMP) else back)
  else match s.txFrame id with
    | none => s.setRad fun r => { r with chosen := none }
    | some f =>
      if s.dutyOk f.airCycles then
        (((s.put .RAD_STATE_PA s.paEntry).setRad fun r => { r with chosen := none, tries := 0, tx := some id, air := false })).radGo
          Rad.TX
      else
        let s := back.raise Ev.RAD_DUTY_LIMIT
        if tx then s.radTxEnd RadEnd.DUTY else s

/-- A frame is next: listen-before-talk where the task asks for it, else the transition into TX (R407 step 2, R409). -/
def State.chooseTx (s : State) (id : Nat) : State :=
  if bits s.radParam 25 25 = 1 then
    (s.setRad fun r => { r with chosen := some id, tries := 0 }).listenStart false
  else s.startTx id

/-- The payload of a beacon whose mark falls `n` calendar-island cycles from now (R435, R436). -/
def State.radioBeaconPayload (s : State) (n : Nat) : List Byte :=
  be16 s.rad.bno ++ [byteOf (s.get .CAL_STAT_VALID * 64)] ++ be16 (s.get .RDM_BCN_CFG_IVL) ++ be16 (s.get .RDM_BCN_CFG_RXOFS)
    ++ (s.cal.later n).beaconBytes

/-- The bytes of a beacon in mode 0 or in another mode (R435). -/
def State.radioBeaconBytes (s : State) (legacy noack : Bool) (n : Nat) : List Byte :=
  let h : Header :=
    { ftype := 2, bcast := !legacy, noack := if legacy then noack else true, retry := false, sec := false, mic8 := false, dst := 0,
      src := s.get .SYS_NODE_ID_ID, seq := if legacy then s.rad.bno % 16 else s.rad.bno % 256, epoch := 0, len := 16, hops := 0 }
  withCheck legacy (h.bytes legacy ++ s.radioBeaconPayload n)

/-- The beacon of a RAD_TX task, with LC-576-1/2 in modes 1 to 8 (R435). The NOACK bit of a legacy one is not stated (a
free value). -/
def State.chooseBeacon (s : State) : State :=
  let mode := s.get .RDM_TXMODE_BMODE
  let q := s.freshBelow 2
  let r := q.2.newPageFrame Phy.RADIO (if mode = 0 then 1 else 2) .beacon (s.radioBeaconBytes (mode == 0) (q.1 == 1) 0) 0
  let f := { r.1 with mode := mode }
  ((r.2.setTx f).setRad fun r => { r with beacon := false }).chooseTx f.id

/-- A beacon's first symbol: the date and time it carries are those of the calendar-island cycle of its mark, the end of
its last sync unit, which lies its preamble and sync word ahead; whether a cycle more is begun by then is free (R436). -/
def State.beaconStart (s : State) (f : TxFrame) : State :=
  let xo := ((airMode f.mode).map (·.markXo)).getD 0
  let q := s.freshBelow 2
  let legacy := f.mode == 0
  let bytes := q.2.radioBeaconBytes legacy ((readLegacy f.bytes).noack) (xo * 32768 / 27120000 + q.1)
  let f := { f with bytes := bytes }
  let f := if legacy then f else { f with cws := (List.range f.ncw).map (codewordSent 0 (whiten (bytesBits bytes))) }
  (q.2.setTx f).setRad fun r => { r with bno := (r.bno + 1) % 65536 }

/-- The node's ANNOUNCE goes to its encoder (R438). Its SEQ, EPOCH and HOPS are not stated (free values). -/
def State.radioAnnounce (s : State) (n : Nat) : State :=
  let gen := s.genOf n
  let legacy := gen == 1
  let a := s.freshBelow (if legacy then 16 else 256)
  let b := a.2.freshBelow 256
  let c := b.2.freshBelow 8
  let h : Header :=
    { ftype := 3, bcast := false, noack := true, retry := false, sec := false, mic8 := false, dst := s.get .RDM_HUB_HUBID,
      src := s.get .SYS_NODE_ID_ID, seq := a.1, epoch := b.1, len := 10, hops := c.1 }
  ((c.2.setRdm fun m => { m with annReq := false }).setRad fun r => { r with announce := false }).handFrame n Phy.RADIO gen .announce
    (withCheck legacy (h.bytes legacy ++ s.announcePayload (s.get .WIR_GEN_EN)))

/-! ### The RAD_TX task (R406, R407) -/

/-- Nothing is under way in a RAD_TX task that stands in SYNTH or RX. -/
def State.radFree (s : State) : Bool :=
  s.radKind Kind.RAD_TX && (s.radState == Rad.SYNTH || s.radState == Rad.RX) && s.rad.goal.isNone && s.rad.tx.isNone
    && s.rad.chosen.isNone && s.rad.listen.isNone && !s.rad.wait

/-- MAXFR frames are sent. -/
def State.maxfrReached (s : State) : Bool :=
  let m := bits s.radParam 23 16
  m != 0 && decide (m ≤ s.get .RAD_TXSTAT_SENT)

/-- The engine of the running RAD_TX task. -/
def State.radEngine (s : State) : Nat := match s.radTask with
  | some i => (s.slot i).engine
  | none => 0

/-- A RADIO frame that is whole in the transmit buffer. -/
def State.radFront (s : State) : Option Nat :=
  (s.xing 4).owned.findSome? fun t => ((s.txFrame t.frame).filter fun f => f.phy == Phy.RADIO).map (·.id)

/-- The next step of a RAD_TX task, at its pre-emption point (R406, R407, R413): the end that is due, a CCA_START, the
beacon, the announce, a frame in the buffer; it waits while frames are due, and else ends. -/
def State.radNext (s : State) : State :=
  if !s.radFree then s
  else
    let n := s.radEngine
    match s.radTask.bind fun i => (s.slot i).stopEnd with
    | some e => s.radEnd e
    | none =>
      if s.rad.hostEnd then s.radTxEnd RadEnd.HOST
      else if s.rad.ccaReq then
        (s.setRad fun r => { r with ccaReq := false }).listenStart true
      else if s.rad.beacon then s.chooseBeacon
      else if s.rad.announce && s.rdm.annReq && !s.hub && !(s.tx.any fun f => f.phy == Phy.RADIO) then s.radioAnnounce n
      else match s.radFront with
        | some id => s.chooseTx id
        | none =>
          if s.tx.any fun f => f.phy == Phy.RADIO then s
          else if s.maxfrReached then s.radTxEnd RadEnd.MAXFR
          else if s.mayTransmit n && s.hasFrame n then s
          else s.radTxEnd RadEnd.EMPTY

/-- The engine hands its next frame to a RAD_TX task that asks for one (R308, R407): one at a time. -/
def State.radTake (s : State) (n : Nat) : State :=
  if s.radFree && s.radEngine == n && s.mayTransmit n && !s.maxfrReached && !s.rad.hostEnd && !s.rad.beacon
      && !(s.tx.any fun f => f.phy == Phy.RADIO) then (s.transmitOne n).radNext
  else s.radNext

/-! ### The RAD_RX_WIN task (R405, R408) -/

/-- The task may transmit acknowledgements: TXIN, and the PA may be on (R405, R408). -/
def State.mayAck (s : State) : Bool :=
  match s.radTask with
  | none => false
  | some i => s.radKind Kind.RAD_RX_WIN && (s.slot i).txin && !s.bit .PWR_MODE_DAMPER && !s.bit .THM_FLAGS_OT

/-- An owed acknowledgement of engine `n` goes to its encoder and the radio turns to TX; `mode` is that of the slot. -/
def State.radAck (s : State) (n peer : Nat) (mode : Option Nat) : State :=
  let e := s.eng n
  let before := s.ids
  let s := (s.setEng n { e with owed := e.owed.filter fun o => o != peer }).sendAck n peer
  match s.tx.find? fun f => decide (before < f.id) with
  | none => s
  | some f =>
    let f := match mode with
      | some m => { f with mode := m }
      | none => f
    (s.setTx f).startTx f.id

/-- The first acknowledgement that an engine bound to RADIO owes. -/
def State.radOwed (s : State) : Option (Nat × Nat) :=
  (List.range 8).findSome? fun n =>
    if s.phyOf n = Phy.RADIO ∧ s.takesWork (24 + n) then (s.owedBy n).head?.map fun o => (n, o) else none

/-- What a window does once no frame is received and nothing is sent. Asked to stop, it ends whatever else it waits
for (R205, R405). Otherwise, out of transitions, listens and acknowledgement slots, it ends, sends owed
acknowledgements (TO_TX) or listens (CCA_START). -/
def State.winNext (s : State) : State :=
  if !(s.radKind Kind.RAD_RX_WIN) || s.rdm.cap.isSome || s.rad.tx.isSome then s
  else
    let waits := s.rad.slot.isSome || s.rad.listen.isSome || s.rad.goal.isSome
    if !waits && (s.rad.closing || (s.rad.accepted && bits s.radParam 24 24 == 1)) then s.radEnd .done
    else match s.radTask.bind fun i => (s.slot i).stopEnd with
      | some e => s.radEnd e
      | none =>
        if waits then s
        else if s.rad.flush && s.mayAck && s.radState == Rad.RX then
          match s.radOwed with
          | some o => s.radAck o.1 o.2 none
          | none => s.setRad fun r => { r with flush := false }
        else if s.rad.ccaReq then
          (s.setRad fun r => { r with ccaReq := false }).listenStart true
        else s

/-- RX_WINDOW_END (R405, R424). -/
def State.windowOver (s : State) : State :=
  if s.radKind Kind.RAD_RX_WIN && s.rad.opened && !s.rad.closing then
    let s := if s.rad.synced then s else (s.sat .RDM_CNT_SRCHTO).raise Ev.RDM_SEARCH_TO
    (s.setRad fun r => { r with closing := true, listen := none, flush := false, ccaReq := false }).syncSearch.winNext
  else s

/-- The verdict on a received radio frame is in (R312, R408): whether the engine now owes an acknowledgement to `peer` for
it, and whether it accepted the frame. -/
def State.radVerdict (s : State) (frame : Nat) (due : Option (Nat × Nat)) (accepted : Bool) : State :=
  match s.rad.slot with
  | none => (s.setRad fun r => { r with accepted := r.accepted || accepted }).winNext
  | some k =>
    if k.frame = frame then
      (s.setRad fun r => { r with accepted := r.accepted || accepted, slot := due.map fun d => { k with due := some d } }).winNext
    else (s.setRad fun r => { r with accepted := r.accepted || accepted }).winNext

/-- ACK_SLOT_DECISION (R408): 1356 cycles before the slot. -/
def State.slotDecision (s : State) : State :=
  match s.rad.slot with
  | none => s
  | some k =>
    let s := s.setRad fun r => { r with slot := none }
    match k.due with
    | none => s.winNext
    | some d =>
      if s.mayAck && s.takesWork (24 + d.1) && s.radState == Rad.RX && s.rad.goal.isNone && s.rdm.cap.isNone
          && s.peer d.2 Peer.ACKOWED == 1 then
        let s := s.radAck d.1 d.2 (some k.mode)
        if s.rad.tx.isSome then s else s.winNext
      else s.winNext

/-! ### Transitions (R395) -/

/-- The next state on the way to a goal. TX is left through SYNTH, with ramp and lag; the fast path sets SLEEP at once. -/
def radHop (cur goal : Nat) : Nat :=
  if goal = 0 then (if cur = 4 then 2 else 0)
  else if cur = 0 then 1
  else if cur = 1 then 2
  else if cur = 2 then goal
  else if goal = 1 then 2 else goal

/-- The state that a task's kind leads to first (R405, R407). -/
def State.radStart (s : State) : State :=
  if s.radKind Kind.RAD_RX_WIN then s.radGo Rad.RX else if s.radTask.isSome then s.radGo Rad.SYNTH else s

/-- A RADIO task has become RUNNING (R396, R406). -/
def State.radAdmitted (s : State) : State :=
  let s := if s.radKind Kind.RAD_TX then
      (s.put .RAD_TXSTAT_SENT 0).setRad fun r => { r with beacon := s.hub && bits s.radParam 24 24 == 1, announce := s.rdm.annReq } else s
  if s.radState = Rad.SLEEP ∧ s.rad.goal = none then s.radStart else s

/-- The first symbol (R402): a frame that is not whole in the transmit buffer is not sent; an acknowledgement then becomes
owed. -/
def State.firstSymbol (s : State) : State :=
  match s.rad.tx.bind s.txFrame with
  | none => (s.setRad fun r => { r with tx := none }).radGo Rad.RX
  | some f =>
    if f.kind = .beacon then ((s.setRadState Rad.TX).setRad fun r => { r with air := true, goal := none }).beaconStart f
    else if (s.xing 4).owned.any fun t => t.frame == f.id then
      ((s.setRadState Rad.TX).setRad fun r => { r with air := true, goal := none, mode := f.mode }).frameStarts f
    else ((s.setRad fun r => { r with tx := none, goal := none }).frameUnsent f.id).winNext

/-- RADIO_TRANSITION_END (R395). Out of SLEEP it waits for the modem island's clock (R232), and in a DRAIN issue the page
leaves neither SLEEP nor STANDBY (R80, R413). The transition of a RAD_CAL
task out of STANDBY is its calibration and ends by SYNTH_CAL_DONE alone (R398). -/
def State.radTransition (s : State) : State :=
  match s.rad.goal with
  | none => s
  | some g =>
    let cur := s.radState
    let st := radHop cur g
    if cur = Rad.SLEEP ∧ st ≠ Rad.SLEEP ∧ s.get (.gate Island.MODEM) ≠ Gate.RUN then s
    else if s.drainHold 15 ∧ cur ≤ Rad.STANDBY ∧ Rad.STANDBY < st then s
    else if cur = Rad.STANDBY ∧ st = Rad.SYNTH ∧ s.radKind Kind.RAD_CAL then s
    else if st = Rad.TX then s.firstSymbol.syncSearch
    else
      let s := s.setRadState st
      let s := if st = g then s.setRad fun r => { r with goal := none } else s
      let s :=
        if st = Rad.SLEEP then s.radStart
        else if st = Rad.STANDBY ∧ Rad.STANDBY < g then s.radLeaves
        else if st ≠ g then s
        else if st = Rad.RX ∧ s.radKind Kind.RAD_RX_WIN then
          if s.rad.opened then s.winNext
          else (s.setRad fun r => { r with opened := true }).setRdm fun m => { m with on := !s.bit .RDM_CFG_MANUAL }
        else s.radNext
      s.syncSearch

/-- A RAD_CAL task's calibration completes (R398, R399). -/
def State.calDone (s : State) : State :=
  if s.radKind Kind.RAD_CAL && s.radState == Rad.STANDBY then
    let s := (s.put .RAD_CAL_FREQ_N s.carrier).put .RAD_CAL_STAT_TCAL (s.get .THM_TEMP_FILT)
    let s := (s.put .RAD_CAL_STAT_VALID 1).calArm
    let s := if s.drainHold 15 then s else s.setRadState Rad.SYNTH
    (s.raise Ev.RAD_CAL_DONE).radEnd .done
  else s

/-- Lock is not reached within 420 µs (R398). -/
def State.calTimeout (s : State) : State :=
  if s.radKind Kind.RAD_CAL && s.radState == Rad.STANDBY then
    (((s.sat .RAD_CNT_LOCKLOST).raise Ev.RAD_LOCK_LOST).calInvalid).radEnd (.aborted Cause.BLOCK)
  else s

/-! ### Moments of a transmission -/

/-- The frame asks for an acknowledgement (R407). -/
def TxFrame.wantsAck (f : TxFrame) : Bool :=
  let h := if legacyOf f.phy f.gen then readLegacy f.bytes else readCoded f.bytes
  h.ftype == 0 && !h.noack && !h.bcast

/-- The last symbol of a transmission (R307, R407, R411, R415). MAXFR and SENT count frames, not acknowledgements,
beacons or announces. -/
def State.radSent (s : State) : State :=
  if s.radState ≠ Rad.TX then s
  else match s.rad.tx.bind s.txFrame with
    | none => s
    | some f =>
      let frame := match f.kind with
        | .data _ _ | .forward _ => true
        | _ => false
      let s := (s.raise Ev.RAD_TX_DONE).dutyAdd f.airCycles
      let s := s.setRad fun r => { r with tx := none, air := false, mode := f.mode }
      let s := if frame && s.radKind Kind.RAD_TX then s.sat .RAD_TXSTAT_SENT else s
      let s := ((s.purgeFrame f.id).dropTx f.id).frameSent f
      if s.radKind Kind.RAD_RX_WIN then s.radGo Rad.RX
      else if f.wantsAck then (s.setRad fun r => { r with wait := true, waitSync := false }).radGo Rad.RX
      else s.radGo Rad.SYNTH

/-- The acknowledgement wait is over (R408): the radio goes back to SYNTH and the task to its next step. -/
def State.waitOver (s : State) : State :=
  if s.rad.wait then (s.setRad fun r => { r with wait := false, waitSync := false }).radGo Rad.SYNTH else s

/-- ACK_WAIT_END (R408): no sync word was detected in it. -/
def State.ackWaitEnd (s : State) : State := if s.rad.waitSync then s else s.waitOver

/-- LBT_LISTEN_END (R409, R434): busy where any sample reached RDM_CCA_THR. -/
def State.listenEnd (s : State) : State :=
  if s.radState ≠ Rad.RX ∨ s.rad.goal.isSome then s
  else
    let busy := match s.rad.highest with
      | some h => decide (s.getS .RDM_CCA_THR_THR ≤ h)
      | none => false
    match s.rad.listen with
    | none => s
    | some true =>
      let s := (s.put .RAD_CCA_STAT_VALID 1).putBit .RAD_CCA_STAT_BUSY busy
      let s := s.putS .RAD_CCA_STAT_RSSI (s.rad.highest.getD (-128))
      let s := s.setRad fun r => { r with listen := none }
      (match s.rad.parked with
      | some st => s.radGo st
      | none => (s.radNext).winNext).syncSearch
    | some false =>
      match s.rad.chosen with
      | none => s
      | some id =>
        if !busy then (s.setRad fun r => { r with listen := none }).startTx id
        else
          let s := (s.sat .RAD_CNT_CCABUSY).raise Ev.RAD_CCA_BUSY
          let n := s.rad.tries + 1
          if s.get .RAD_LBT_TRIES ≤ n then
            ((s.setRad fun r => { r with listen := none, chosen := none }).frameUnsent id).radTxEnd RadEnd.CCA
          else (s.setRad fun r => { r with tries := n, highest := none }).drawListen

/-- The units of the burst that is on the air: true above the carrier, false below (R420 to R422). -/
def State.airUnits (s : State) : List Bool :=
  if s.rad.air then ((s.rad.tx.bind s.txFrame).map (·.airUnits)).getD [] else []

/-! ### Router tasks (R413) -/

/-- TO_STANDBY, TO_SYNTH. -/
def State.radPark (s : State) (st : Nat) : State :=
  if s.radKind Kind.RAD_RX_WIN then
    if s.rdm.cap.isNone && s.rad.tx.isNone && !s.rad.closing then
      (s.setRad fun r => { r with parked := some st, listen := none }).radRise st
    else s
  else if s.radKind Kind.RAD_TX then (s.setRad fun r => { r with hostEnd := true }).radNext
  else s

/-- TO_RX. -/
def State.radToRx (s : State) : State :=
  match s.rad.parked with
  | none => s
  | some _ =>
    (s.setRad fun r => { r with parked := none }).radRise Rad.RX

/-- TO_TX. An acknowledgement wait that ends at once cuts a frame that is received in it (R430). -/
def State.radToTx (s : State) : State :=
  if s.radKind Kind.RAD_TX then (if s.rad.wait then (s.radRxErr RxErr.CUT).waitOver else s)
  else if s.radKind Kind.RAD_RX_WIN && s.rdm.cap.isNone && s.mayAck then
    (s.setRad fun r => { r with flush := true }).winNext
  else s

/-- CCA_START: one assessment within the running task. -/
def State.ccaStart (s : State) : State :=
  if s.radTask.isSome then ((s.setRad fun r => { r with ccaReq := true }).radNext).winNext else s

/-! ### The page (R402, R414, R416) -/

/-- The range checks of the RAD page, by twin offset. A ramp that is too long with LEAD or LAG names that register (log
entry 62). -/
def radRange (s : State) : List (Nat × Bool) :=
  let step := s.getTwin .RAD_PASTEP_STEP
  let long := fun (v : Nat) => decide (100000 < 24800 * step + 2712 * v)
  let hyst := s.getTwin .RAD_CAL_DT_HYST
  let limit := s.getTwin .RAD_TXTO_TO
  let span := s.getTwin .RAD_DUTY_CFG_SPAN
  [(0x240, !inBand (s.getTwin .RAD_FREQ_N)),
   (0x24C, decide (4 < step)),
   (0x250, long (s.getTwin .RAD_EXTPA_LEAD_LEAD)),
   (0x254, long (s.getTwin .RAD_EXTPA_LAG_LAG)),
   (0x25C, limit == 0 || decide (1000 < limit)),
   (0x260, s.getTwin .RAD_CAL_DT_LVL == 0 || hyst == 0 || decide (32 < hyst)),
   (0x264, s.getTwin .RAD_ACKCFG_GAP == 0 || s.getTwin .RAD_ACKCFG_WAIT == 0),
   (0x268, s.getTwin .RAD_LBT_TRIES == 0),
   (0x26C, decide (10000 < s.getTwin .RAD_DUTY_CFG_LIMIT) || span == 0 || decide (60 < span))]

/-- The safe point of the RAD page: SLEEP or STANDBY (R414). -/
def State.radSafe (s : State) : Bool := decide (s.radState ≤ Rad.STANDBY)

/-- What an application of the RAD page does beside the copy (R414). -/
def State.radApplied (s old : State) : State :=
  if s.rd Adr.RAD_CAL_DT = old.rd Adr.RAD_CAL_DT then s else s.calArm

/-- RAD's page soft reset: a side reset of its island's crossings (R48), the calibration is void (R398), a running RADIO
task ends, the radio sleeps. -/
def State.radSoftReset (s : State) : State :=
  let s := (((s.sideReset 4 true).sideReset 5 true).txCut TxCause.HOST).radRxErr RxErr.CUT
  ((s.calInvalid).radEnd (.aborted Cause.BLOCK)).radGo Rad.SLEEP

end Sys2Proof.Machine
end

