-- ==== Sys2Proof/Machine/Modem.lean ====
section
/-! DEFINITION. The radio modem: the search lanes, capture and pre-emption, received frames on their way to the fabric,
RSSI and AFC, radio beacons and announces (R420 to R445). -/

namespace Sys2Proof.Machine

/-! ### Lanes (R423 to R427) -/

/-- The mode in which a lane listens now, none where it does not search (R423, R424). In an acknowledgement wait one lane
searches in the mode of the frame just sent; its number is that of the sync (log entry 44). -/
def State.laneMode (s : State) (lane : Nat) : Option Nat :=
  if !s.bit .RDM_STAT_SEARCH then none
  else if s.rad.wait then some s.rad.mode
  else if s.bit (.RDM_LANE_EN lane) then some (s.get (.RDM_LANE_MODE lane)) else none

/-- A level in dBm with RDM_RSSI_CFG.OFS, saturating at −127 and 0 (R425, R432). -/
def State.level (s : State) (dbm : Int) : Int := max (-127) (min 0 (dbm + s.getS .RDM_RSSI_CFG_OFS))

/-- The correction of a capture (R433): the estimate in synthesiser steps, clamped to ±AFCMAX kHz. -/
def State.afc (s : State) (ofs : Int) : State :=
  let lim := s.get .RDM_CFG_AFCMAX * 1000 * 2 ^ 20
  if lim < ofs.natAbs * 27120000 then
    let r := s.roundFree lim 27120000
    (r.2.putS .RDM_AFC_OFS (if ofs < 0 then -(r.1 : Int) else r.1)).raise Ev.RDM_AFC_LIMIT
  else s.putS .RDM_AFC_OFS ofs

/-- A lane captures the receiver (R425). -/
def State.capture (s : State) (lane mode : Nat) (level ofs : Int) : State :=
  let s := s.setRdm fun m => { m with
    cap := some { lane := lane, mode := mode, level := level, window := true, frame := none, mark := s.cyc } }
  let s := s.setRad fun r => { r with waitSync := r.wait }
  let s := ((s.put .RDM_STAT_CAPT 1).put .RDM_RXINFO_LANE lane).put .RDM_RXINFO_MODE mode
  ((s.putS .RDM_RSSI_FRAME level).afc ofs).raise Ev.RDM_SYNC

/-- One lane's sync (R425 to R427): the sync word found within the lane's SYNCERR errors (R423). A draining page begins no
frame (R80). -/
def State.laneSync (s : State) (x : LaneSync) : State :=
  let lane := x.lane
  match (s.laneMode lane).filter fun _ =>
      decide (x.errs ≤ s.get (.RDM_LANE_SYNCERR lane)) && (!s.drainHold 16 || s.rdm.cap.isSome) with
  | none => s
  | some mode =>
    let level := s.level x.dbm
    let s := (s.setBitAt .RDM_STAT_SYNCED lane true).setRad fun r => { r with synced := true }
    match s.rdm.cap with
    | none => s.capture lane mode level x.ofs
    | some c =>
      if c.window && s.bit .RDM_CFG_PREEMPT && c.lane != lane && decide (c.level + s.get .RDM_CFG_PREDB ≤ level) then
        let s := (s.put .RDM_RXINFO_ERR RxErr.PREEMPTED).sat .RDM_CNT_PREEMPT
        (s.raise Ev.RDM_PREEMPT).capture lane mode level x.ofs
      else (s.sat .RDM_CNT_LANEOVR).raise Ev.RDM_LANE_OVR

/-- A sync put into a list by falling level, then by lane number (R425). -/
def State.insertSync (s : State) (x : LaneSync) : List LaneSync → List LaneSync
  | [] => [x]
  | y :: l =>
    let a := s.level x.dbm
    let b := s.level y.dbm
    if b < a ∨ (b = a ∧ x.lane < y.lane) then x :: y :: l else y :: s.insertSync x l

/-- LANE_SYNC: the lanes that sync in one modem-island cycle. -/
def State.laneSyncs (s : State) (l : List LaneSync) : State := s.forEach (l.foldr s.insertSync []) State.laneSync

/-! ### Frames (R428 to R430) -/

/-- What the radio does once a frame has been received or has ended (R405, R408). -/
def State.rxOver (s : State) : State :=
  if s.rad.wait then s.waitOver else s.winNext

/-- A captured frame ends with an error. -/
def State.radioRxErr (s : State) (err : Nat) : State := if s.rdm.cap.isSome then (s.radRxErr err).rxOver else s

/-- A level as the RSSI byte of R301. -/
def rssiByte (level : Int) : Nat := (level % 256).toNat

/-- RADIO_HEADER_RECEIVED: the PHR's 48 soft bits, or the 32 header bits of mode 0 as received (R428). A frame that
FEC does not accept (R351 step 2) is received to its end all the same. -/
def State.radioHeader (s : State) (soft : List Int) (hard : List Bool) : State :=
  match s.rdm.cap with
  | none => s
  | some c =>
    if !c.window then s
    else if c.mode = 0 then
      if 192 < (readLegacy (toBytes (whiten (hard.take 32)))).len then s.radioRxErr RxErr.LEGHDR
      else (s.setRdm fun m => { m with cap := some { c with window := false } }).raise Ev.RDM_HDR_OK
    else
      let r := s.rxBegin 5 2 c.mode soft (rssiByte c.level) c.mark
      if r.2.1 then r.2.2.radioRxErr RxErr.PHR
      else (r.2.2.setRdm fun m => { m with cap := some { c with window := false, frame := r.1 } }).raise Ev.RDM_HDR_OK

/-- A receive window's acknowledgement slot opens for a frame that has crossed (R408). -/
def State.openSlot (s : State) (frame mode : Nat) : State :=
  if s.radKind Kind.RAD_RX_WIN && !s.rad.flush then
    s.setRad fun r => { r with slot := some { frame := frame, mode := mode, due := none } } else s

/-- A received frame is across (R428): RDM_RX_DONE, with the kind its header shows. -/
def State.radioRxDone (s : State) (ftype : Nat) : State :=
  let s := (s.setRdm fun m => { m with cap := none }).put .RDM_STAT_CAPT 0
  let s := (s.put .RDM_RXINFO_ERR 0).put .RDM_RXINFO_KIND (if ftype = 2 then 1 else if ftype = 3 then 2 else 0)
  s.raise Ev.RDM_RX_DONE

/-- The header that the hard decisions of codeword 0 show, where its HDRCHK is correct (R429). -/
def hardHeader (llrs : List Int) : Option Header :=
  let l := toBytes ((whiten (llrs.map fun x => decide (x < 0))).take 64)
  if l.length = 8 ∧ crc8 (l.take 6) = at8 l 7 then some (readCoded l) else none

/-- Soft bits in items of 576. -/
def chunk576 (l : List Int) : Nat → List (List Int)
  | 0 => []
  | n + 1 => if l.length ≤ 576 then [l] else l.take 576 :: chunk576 (l.drop 576) n

/-- Soft bits of the captured coded frame cross to the fabric; `last` tells the last item of the frame (R44, R428,
R429), `acked` whether the fabric acknowledges at once. -/
def State.radioItems (s : State) (llrs : List Int) (last acked : Bool) : State :=
  match s.rdm.cap with
  | none => s
  | some c =>
    if c.mode = 0 || c.window then s
    else match c.frame with
      | none => if last then (s.radioRxDone 0).rxOver else s
      | some id =>
        match s.rxFrame id with
        | none => if last then s.radioRxErr RxErr.DROP else s
        | some f =>
          let items := chunk576 llrs (llrs.length / 576 + 1)
          let r := items.zipIdx.foldl (fun (b : Bool × State) t =>
            if b.1 then b.2.rxItem id t.1 (last && t.2 + 1 == items.length) acked else b) (true, s)
          if !r.1 then r.2.radioRxErr RxErr.DROP
          else
            let h := hardHeader (f.llrs ++ llrs)
            if !last then r.2
            else if h = none ∧ f.ncw = 1 then r.2.radioRxErr RxErr.HDR
            else ((r.2.radioRxDone ((h.map (·.ftype)).getD 0)).openSlot id c.mode).rxOver

/-- The bits of a captured mode 0 frame as received: the frame that has crossed whole, or none where it is dropped
(R428). -/
def State.radioLegacy (s : State) (hard : List Bool) : Option RxFrame × State :=
  match s.rdm.cap with
  | none => (none, s)
  | some c =>
    if c.mode ≠ 0 ∨ c.window then (none, s)
    else
      let r := s.rxLegacy 5 1 0 hard (rssiByte c.level) c.mark
      match r.1 with
      | none => (none, r.2.radioRxErr RxErr.DROP)
      | some f => (some f, ((r.2.radioRxDone f.header.ftype).openSlot f.id 0).rxOver)

/-! ### RSSI (R432) -/

/-- An RSSI sample in RX or in a listen. -/
def State.rssiSample (s : State) (dbm : Int) : State :=
  if s.radState ≠ Rad.RX ∨ s.rad.goal.isSome then s
  else
    let v := s.level dbm
    let hi := decide (s.getS .RDM_RSSI_CFG_HI ≤ v)
    let lo := decide (v < s.getS .RDM_RSSI_CFG_LO)
    let s := s.putS .RDM_RSSI_NOW v
    let s := if s.rad.listen.isSome then
        s.setRad fun r => { r with highest := some (match r.highest with
          | some h => max h v
          | none => v) }
      else s
    let s := s.raiseIf (hi && s.rdm.hiArmed) Ev.RDM_RSSI_HI
    let s := s.raiseIf (lo && s.rdm.loArmed) Ev.RDM_RSSI_LO
    s.setRdm fun m => { m with
      hiArmed := if lo then true else if hi then false else m.hiArmed
      loArmed := if hi then true else if lo then false else m.loArmed }

/-! ### Beacons and announces (R435 to R438, R444) -/

/-- A radio beacon that has passed its checks, in node role (R437). -/
def State.radioBeacon (s : State) (f : RxFrame) : State :=
  let h := f.header
  let b := f.body
  if s.hub || b.length < 16 || !(s.bit .RDM_HUB_ANYHUB || h.src == s.get .RDM_HUB_HUBID) then s
  else
    let two := fun i => at8 b i * 256 + at8 b (i + 1)
    let tvalid := at8 b 2 / 64 % 2
    let s := (((s.put .RDM_BCN_STAT_VALID 1).put .RDM_BCN_STAT_TVALID tvalid).put .RDM_BCN_STAT_SRC h.src).put
      .RDM_BCN_STAT_BNO (two 0)
    let s := s.put .RDM_BCN_TMARK_TIME (f.mark * 125000 / 4096)
    let s := (s.put .RDM_BCN_RX_IVL (two 3)).put .RDM_BCN_RX_RXOFS (two 5)
    s.timeMark 2 (tvalid == 1) (beaconCalendar (b.drop 7)) (s.cyc - f.mark)

/-- RDM_ANN_INFO and its UID words show the oldest entry (R444). -/
def State.showRadioAnnounce (s : State) : State :=
  match s.rdm.list with
  | [] => ((s.wr Adr.RDM_ANN_INFO 0).wr Adr.RDM_ANN_UID_LO 0).wr Adr.RDM_ANN_UID_HI 0
  | a :: _ =>
    let s := (((s.put .RDM_ANN_INFO_VALID 1).putBit .RDM_ANN_INFO_LEGACY a.legacy).put .RDM_ANN_INFO_GENS a.gens).put
      .RDM_ANN_INFO_STEP a.step
    ((s.put .RDM_ANN_INFO_ID a.id).put .RDM_ANN_UID_LO_UID a.uid).put .RDM_ANN_UID_HI_UID (a.uid / 2 ^ 32)

/-- A radio ANNOUNCE received by a hub: discarded where the list of 4 is full (R438). -/
def State.radioHubAnnounce (s : State) (f : RxFrame) : State :=
  let b := f.body
  if !s.hub || b.length < 10 || 4 ≤ s.rdm.list.length then s
  else
    let a : Announce :=
      { id := f.header.src, uid := (b.take 8).foldl (fun n x => n * 256 + x.toNat) 0, gens := at8 b 8 % 8, step := at8 b 9,
        legacy := f.legacy, rep := false, acked := true, popped := false }
    (s.setRdm fun m => { m with list := m.list ++ [a] }).showRadioAnnounce

/-- RDM_ANN_INFO.VALID written 1 (R444). -/
def State.popRadioAnnounce (s : State) : State := (s.setRdm fun m => { m with list := m.list.drop 1 }).showRadioAnnounce

/-! ### Commands and the page (R424, R439, R441, R442) -/

/-- SEARCH_START, RDM_CMD.START; SEARCH_STOP, RDM_CMD.STOP. -/
def State.searchSet (s : State) (on : Bool) : State :=
  if s.radKind Kind.RAD_RX_WIN then (s.setRdm fun m => { m with on := on }).syncSearch else s

/-- RDM_CMD.ANN (R438), in node role. -/
def State.announceRequest (s : State) : State := if s.hub then s else s.setRdm fun m => { m with annReq := true }

/-- The range checks of the RDM page (R423, R431, R441), by twin offset. Of two enabled lanes with one mode the higher
is the one named (log entry 62). -/
def rdmRange (s : State) : List (Nat × Bool) :=
  let en := fun i => s.getTwin (.RDM_LANE_EN i) == 1
  let mode := fun i => s.getTwin (.RDM_LANE_MODE i)
  let lane := fun i => decide (8 < mode i) || (List.range i).any fun j => en i && en j && mode i == mode j
  let afc := s.getTwin .RDM_CFG_AFCMAX
  let tm := s.getTwin .RDM_TXMODE_MODE
  (List.range 8).map (fun i => (0x240 + 4 * i, lane i))
    ++ [(0x260, s.getTwin .RDM_CFG_PREDB == 0 || afc == 0 || decide (100 < afc)),
        (0x26C, tm == 0 || decide (8 < tm) || decide (8 < s.getTwin .RDM_TXMODE_BMODE))]

/-- The safe point of the RDM page: no frame captured (R439). -/
def State.rdmSafe (s : State) : Bool := s.rdm.cap.isNone

/-- RDM's page soft reset (R48): its crossings resynchronise, a captured frame is cut, the announce list empties. -/
def State.rdmSoftReset (s : State) : State :=
  let s := ((s.sideReset 4 true).sideReset 5 true).radioRxErr RxErr.CUT
  (s.setRdm fun m => { m with annReq := false, list := [] }).showRadioAnnounce

end Sys2Proof.Machine
end

