-- ==== Sys2Proof/Machine/NfcField.lean ====
section
/-! DEFINITION. The NFC field: turning it on and off, the forced states, mismatch and the tuner sweep, the Comet sweep and
its baseline (R446 to R469); and how a running field task and its exchange end. -/

namespace Sys2Proof.Machine

/-- The NFC and the NFP working state replaced. -/
def State.setNfc (s : State) (f : NfcField → NfcField) : State := { s with nfc := f s.nfc }
def State.setNfp (s : State) (f : Nfp → Nfp) : State := { s with nfp := f s.nfp }

/-- The running task that holds FIELD, and whether it is of kind `k`. -/
def State.fieldTask (s : State) : Option Nat := s.holder .field
def State.fieldKind (s : State) (k : Nat) : Bool := match s.fieldTask with
  | some i => (s.slot i).kind == k
  | none => false

/-- An NFC_POLL or NFC_TXN task runs. -/
def State.nfcServing (s : State) : Bool := s.fieldKind Kind.NFC_POLL || s.fieldKind Kind.NFC_TXN

/-- The engine of the running FIELD task. -/
def State.fieldEngine (s : State) : Nat := match s.fieldTask with
  | some i => (s.slot i).engine
  | none => 0

/-- PARAM of the running FIELD task. -/
def State.fieldParam (s : State) : Word := match s.fieldTask with
  | some i => (s.slot i).param
  | none => 0

/-! ### The legacy view's flags (R127) -/

/-- L_FLAGS bits. -/
def LFlag.TXDONE : Nat := 0
def LFlag.RXDONE : Nat := 1
def LFlag.TIMEOUT : Nat := 2
def LFlag.ERR : Nat := 3
def LFlag.IDLE : Nat := 4
def LFlag.CARD : Nat := 5

/-- The legacy view's working state replaced. -/
def State.setLeg (s : State) (f : Legacy → Legacy) : State := { s with leg := f s.leg }

/-- An L_FLAGS bit sets. -/
def State.legFlag (s : State) (b : Nat) : State := s.setLeg fun l => { l with flags := l.flags ||| 2 ^ b }

/-- An L_ERR bit sets, and ERR of L_FLAGS with it. -/
def State.legErr (s : State) (b : Nat) : State := (s.setLeg fun l => { l with err := l.err ||| 2 ^ b }).legFlag LFlag.ERR

/-- NFC_CARD_NEAR, which L_FLAGS shows as CARD (R127). -/
def State.cardNear (s : State) : State := (s.raise Ev.NFC_CARD_NEAR).legFlag LFlag.CARD

/-! ### Errors of an exchange (R485) -/

def NfcErr.TIMEOUT : Nat := 1
def NfcErr.CRC : Nat := 2
def NfcErr.PARITY : Nat := 3
def NfcErr.FRAMING : Nat := 4
def NfcErr.COLLISION : Nat := 5
def NfcErr.FIELD_LOST : Nat := 6
def NfcErr.EXTFIELD : Nat := 7
def NfcErr.BUFOVF : Nat := 8
def NfcErr.ABORT : Nat := 9
def NfcErr.TECH : Nat := 10

/-- The L_ERR bit of an error code. -/
def legErrBit (e : Nat) : Option Nat :=
  if e = NfcErr.CRC then some 0 else if e = NfcErr.PARITY then some 1 else if e = NfcErr.FRAMING then some 2
  else if e = NfcErr.COLLISION then some 3 else if e = NfcErr.FIELD_LOST ∨ e = NfcErr.EXTFIELD then some 4
  else if e = NfcErr.BUFOVF then some 5 else if e = NfcErr.TECH then some 7 else none

/-- NFP_LAST takes an error code and its TAG (R488). -/
def State.nfpLast (s : State) (err tag : Nat) : State := (s.put .NFP_LAST_ERR err).put .NFP_LAST_TAG tag

/-- An error shown in the legacy view. -/
def State.legShow (s : State) (err : Nat) : State :=
  let s := if err = NfcErr.TIMEOUT then s.legFlag LFlag.TIMEOUT else s
  match legErrBit err with
  | some b => s.legErr b
  | none => s

/-- The TAG of a descriptor (R472). -/
def nfcTag (w : Word) : Nat := bits w 15 8

/-- A transaction that yields no response item ends failed with cause NFC (R474). A legacy command has no transaction. -/
def State.exchangeFails (s : State) (x : Exchange) (err : Nat) : State :=
  let tag := match x.frame with
    | .command w _ => nfcTag w
    | _ => 0
  match x.owner with
  | .engine n i item =>
    let s := s.nfpLast err tag
    let s := s.setNfp fun p => { p with ended := p.ended + 1 }
    if (s.place n i).item = item then s.endTransaction n i LeCause.NFC else s
  | .legacy => ((s.nfpLast err tag).legShow err).setNfp fun p => { p with ended := p.ended + 1 }
  | .step => s.nfpLast err tag

/-! ### Items to the host (R40, R43, R44, R47, R473, R474, R484) -/

/-- A transaction of engine `n` ends done with its response item, without a report (R323, R474). -/
def State.nfcDone (s : State) (n i item : Nat) : State :=
  if (s.place n i).item = item ∧ (s.place n i).isOpen then
    (((s.freeOwned (txQ n) item).setPlace n i Place.free).sat (.LE_TXCNT_DONE n)).raise (Ev.LE_TX n)
  else s

/-- The transaction whose response is lost ends failed (R474). -/
def State.nfcLost (s : State) (h : HeldItem) : State :=
  match h.ends with
  | some item => if (s.place h.eng 0).item = item ∧ (s.place h.eng 0).isOpen then s.endTransaction h.eng 0 LeCause.NFC else s
  | none => s

/-- The fabric moves the item that it owns on crossing 1 into its receive queue. Without credit it is held (R474); with
credit and no free cell the drop queue takes a response in the cells it occupies (R47), and a report waits (R43). The
answer tells whether the item has gone, and then whether it was lost. -/
def State.heldMove (s : State) : Option Bool × State :=
  match s.nfp.held with
  | none => (none, s)
  | some h =>
    let kind := bits (h.words.headD 0) 31 30
    match (s.xing 1).owned.find? fun t => t.id == h.item with
    | none => (none, s)
    | some t =>
      let credit := s.accepts (rxQ h.eng) (cellsOfWords h.words.length)
      let r := s.queueRx h.eng h.words h.raw
      let clear := fun (s : State) => s.setNfp fun p => { p with held := none }
      if r.1 then
        let s := clear (r.2.freeOwned 1 h.item)
        let s := (s.raiseIf (kind == 0) (Ev.LE_RX h.eng)).raiseIf (kind == 0) Ev.NFP_RX_DONE
        (some false, match h.ends with
          | some item => s.nfcDone h.eng 0 item
          | none => s)
      else if credit && kind == 0 then
        let x := r.2.xing 1
        let s := r.2.setXing 1 { x with owned := x.owned.filter fun u => u.id != h.item }
        (some true, ((clear s).dropFrame 3 1 h.raw t.cells).nfcLost h)
      else (none, r.2)

/-- The NFC island hands an item across crossing 1, and the fabric moves it on. An item that finds too little credit or no
free cell is discarded (R44). The answer is that of `heldMove`. -/
def State.itemToHost (s : State) (n : Nat) (words : List Word) (ends : Option Nat) (raw : List Byte) : Option Bool × State :=
  let i := s.newId
  let k := cellsOfWords words.length
  let t : Item := { id := i.1, cost := k, cells := [], words := words, llrs := [], frame := 0, raw := raw }
  let held : HeldItem := { eng := n, words := words, ends := ends, item := i.1, raw := raw }
  let h := i.2.handItem 1 t k true
  if h.1 then (h.2.setNfp fun p => { p with held := some held }).heldMove else (some true, (h.2.countDrop).nfcLost held)

/-- A resynchronisation has taken the item on crossing 1 away (R49): its transaction ends failed. -/
def State.heldLost (s : State) : State :=
  match s.nfp.held with
  | none => s
  | some h =>
    if ((s.xing 1).unacked ++ (s.xing 1).owned).any fun t => t.id == h.item then s
    else (s.setNfp fun p => { p with held := none }).nfcLost h

/-! ### Exchanges that are cut -/

/-- A step under way, in a form that its functions change. -/
def State.setStep (s : State) (f : PollStep → PollStep) : State := s.setNfp fun p => { p with step := p.step.map f }

/-- The step has ended; POLL_STEP_END moves on. -/
def State.stepOver (s : State) : State := s.setStep fun q => { q with isOver := true }

/-- The event of an error code (R485). -/
def nfcErrEvent (e : Nat) : Option Nat :=
  if e = NfcErr.TIMEOUT then some Ev.NFP_RX_TIMEOUT else if e = NfcErr.CRC then some Ev.NFP_CRC_ERR
  else if e = NfcErr.PARITY then some Ev.NFP_PARITY_ERR else if e = NfcErr.FRAMING then some Ev.NFP_FRAMING_ERR
  else if e = NfcErr.COLLISION then some Ev.NFP_COLLISION else none

def State.errEvent (s : State) (e : Nat) : State := match nfcErrEvent e with
  | some v => s.raise v
  | none => s

/-- The automatic read fails: a KIND 2 item with CAUSE 7 and its TAG (R484). -/
def State.readFails (s : State) (q : PollStep) (err : Nat) : State :=
  let tag := 0xC0 + q.entry
  let s := (s.nfpLast err tag).errEvent err
  (s.itemToHost s.fieldEngine [reportWord LeCause.NFC 0 tag 0] none []).2.stepOver

/-- The exchange under way is cut, or none is (R463, R479, R485). A command that has not started goes back; an automatic
read under way fails (R33, R484). -/
def State.cutExchange (s : State) (err : Nat) : State :=
  let t := s.setNfp fun p => { p with cur := none }
  let reading := s.nfp.step.filter fun q => decide (q.kind = .read) && !q.isOver
  match reading, s.nfp.cur with
  | some q, _ => t.readFails q err
  | none, none => s
  | none, some x =>
    if x.stage = .waiting then t
    else match x.owner with
      | .step => t
      | _ => t.exchangeFails x err

/-! ### Field on and off (R448, R449) -/

/-- The field ramps down; a check or a request is given up. -/
def State.fieldDown (s : State) : State :=
  s.setNfc fun f => { f with
    again := false
    stage := if f.stage = .on ∨ f.stage = .ramping then .falling else if f.stage = .checking then .off else f.stage }

/-- The field is off at once, without a ramp (R463). -/
def State.fieldFast (s : State) : State :=
  (s.put .NFC_STAT_FIELD 0).setNfc fun f => { f with stage := .off, again := false }

/-- A tuner sweep ends: RESULT, its counts, NFC_TUNE_DONE, the baseline void (R454, R455, R461). -/
def State.sweepEnds (s : State) (w : Sweep) (result : Nat) : State :=
  let s := ((s.put .NFC_TUNE_LAST_RESULT result).put .NFC_TUNE_LAST_PROBES w.made).put .NFC_TUNE_LAST_QSTART w.qstart
  let s := ((s.put .NFC_TUNE_LAST_QEND w.best).put .NFC_STAT_TUNING 0).put .NFC_STAT_BASEV 0
  let s := if result = 2 then (s.put .NFC_STAT_NOREARM 1).setNfc fun f => { f with sweep := none }
    else s.setNfc fun f => { f with sweep := none, armed := true }
  s.raise Ev.NFC_TUNE_DONE

/-- The banks in the sweep's order P0, S0, P1, S1 (R455). -/
def sweepBank (i : Nat) : Fld :=
  if i = 0 then .NFC_TUNE_P0_C else if i = 1 then .NFC_TUNE_S0_C else if i = 2 then .NFC_TUNE_P1_C else .NFC_TUNE_S1_C

/-- A sweep cut before its finish leaves the best setting found so far, RESULT PARTIAL (R455). -/
def State.sweepCut (s : State) : State :=
  match s.nfc.sweep with
  | none => s
  | some w => (if w.made = 0 then s else s.put (sweepBank w.bank) w.before).sweepEnds w 3

/-- The end of the running FIELD task: what it has under way is lost or goes back, the field ramps down (R449, R455). -/
def State.fieldEnd (s : State) (e : TaskEnd) : State :=
  match s.fieldTask with
  | none => s
  | some i =>
    let s := (s.cutExchange NfcErr.FIELD_LOST).sweepCut
    let left := (s.tx.filter fun f => f.phy == Phy.NFC).map (·.id)
    let s := s.forEach left fun s id => s.frameUnsent id
    let s := (s.put .NFP_STAT_PHASE 0).setNfp fun p => { p with
      cur := none, step := none, todo := [], gap := false, guard := false, serving := false, ended := 0, stop := false
      addTx := false, addInv := false, full := false, recorded := [] }
    let s := s.setNfc fun f => { f with meas := none }
    let s := if s.legacyHolds i then (s.setLeg fun l => { l with cmd := 0x10, todo := none, stop := false }).legFlag LFlag.IDLE
      else s
    (s.fieldDown).taskEnds i e

/-- A field-on request (R448): with the check, or straight to the ramp. -/
def State.fieldRequest (s : State) : State :=
  let loud := !s.fieldKind Kind.COMET
  if s.nfc.stage = .off && s.drainHold 12 then s.setNfc fun f => { f with again := true }
  else if s.nfc.stage = .off then
    s.setNfc fun f => { f with stage := if s.bit .NFC_EXT_CFG_EN then .checking else .ramping, loud := loud, again := false }
  else if s.nfc.stage = .falling then s.setNfc fun f => { f with again := true }
  else s

/-- A field that a DRAIN issue has held back is asked for again once the hold is over (R80). -/
def State.fieldResume (s : State) : State :=
  if s.nfc.again && s.nfc.stage == .off && !s.drainHold 12 then
    let s := s.setNfc fun f => { f with again := false }
    if s.fieldTask.isSome then s.fieldRequest else s
  else s

/-- Router task FIELD_ON, within a running task (R448): a poll's or a transaction task's field that is off. -/
def State.fieldOnTask (s : State) : State := if s.nfcServing then s.fieldRequest else s

/-- The Comet sweep ends DONE with a class, and NFC_COMET_DONE where DONEEVT asks for it (R459). -/
def State.cometEnds (s : State) (cls : Nat) (raised : Bool) : State :=
  let s := (s.put .NFC_COMET_STAT_CLASS cls).raiseIf (s.bit .NFC_COMET_CFG_DONEEVT && !raised) Ev.NFC_COMET_DONE
  s.fieldEnd .done

/-- Classes of NFC_COMET_STAT (R465). -/
def Comet.CLEAR : Nat := 0
def Comet.HAND : Nat := 1
def Comet.CARD : Nat := 2
def Comet.OTHER : Nat := 3
def Comet.EXT : Nat := 4
def Comet.INVALID : Nat := 5

/-- The first queued command of an engine fails for the external field (R485 EXTFIELD). -/
def State.extFieldCommand (s : State) (n : Nat) : State :=
  let s := if (s.place n 0).isOpen then s else s.openOne n
  if (s.place n 0).isOpen then
    let tag := (s.place n 0).tag
    (s.nfpLast NfcErr.EXTFIELD tag).endTransaction n 0 LeCause.NFC
  else s

/-- The NFC island has its clock: a task that it serves waits for this (R232, R448). -/
def State.nfcRuns (s : State) : Bool := s.get (.gate Island.NFC) == Gate.RUN

/-- EXT_FIELD_CHECK_END with the amplitude measured (R451). -/
def State.extCheck (s : State) (amp : Nat) : State :=
  if s.nfc.stage ≠ .checking ∨ ¬ s.nfcRuns then s
  else if s.get .NFC_EXT_CFG_THR ≤ amp then
    let s := ((s.put .NFC_STAT_EXTF 1).sat .NFC_CNT_EXTF).raise Ev.NFC_EXT_FIELD
    let s := s.setNfc fun f => { f with stage := .off }
    if s.fieldKind Kind.COMET then s.cometEnds Comet.EXT false
    else
      let s := if s.nfcServing then
          (if s.fieldTask == some 63 && s.leg.bound then (s.nfpLast NfcErr.EXTFIELD 0).legShow NfcErr.EXTFIELD
            else s.extFieldCommand s.fieldEngine)
        else s
      s.fieldEnd (.aborted Cause.BLOCK)
  else (s.put .NFC_STAT_EXTF 0).setNfc fun f => { f with stage := .ramping }

/-- FIELD_LEVEL_REACHED with the driver current in mA and VDD_TX in mV (R446, R448, R455, R475). -/
def State.fieldReached (s : State) (ma mv : Nat) : State :=
  if s.nfc.stage ≠ .ramping ∨ ¬ s.nfcRuns then s
  else
    let s := ((s.put .NFC_STAT_FIELD 1).put .NFC_DRV_STAT_I (min ma 511)).put .NFC_DRV_STAT_VTX (min mv 8191)
    let s := s.setNfc fun f => { f with stage := .on, sagged := false, ref := none, lows := 0 }
    let s := s.raiseIf s.nfc.loud Ev.NFC_FIELD_ON
    if s.fieldKind Kind.TUNE_SWEEP then
      (s.put .NFC_STAT_TUNING 1).setNfc fun f => { f with
        sweep := some { qstart := 0, best := 0, made := 0, step := 8, bank := 0, dir := 0, improved := false, before := 0 } }
    else if s.nfcServing then s.setNfp fun p => { p with guard := true }
    else s

/-- FIELD_RAMP_DOWN_END (R449). -/
def State.rampDownEnd (s : State) : State :=
  if s.nfc.stage ≠ .falling then s
  else
    let s := (s.put .NFC_STAT_FIELD 0).raiseIf s.nfc.loud Ev.NFC_FIELD_OFF
    let again := s.nfc.again
    let s := s.setNfc fun f => { f with stage := .off, again := false }
    (if again && s.fieldTask.isSome then s.fieldRequest else s).syncIslands

/-- FIELD_OFF, NFC_CMD.FIELDOFF (R449). -/
def State.fieldOff (s : State) : State :=
  if s.fieldKind Kind.COMET then s.cometEnds Comet.INVALID false
  else if s.fieldTask.isSome then (s.cutExchange NfcErr.FIELD_LOST).fieldEnd (.aborted Cause.HOST)
  else s.fieldDown

/-! ### Forced field-off (R450, R463) -/

/-- A cause of FORCED holds: VDD_TX, over-temperature, a failed XO, SAFE. -/
def State.forcedCause (s : State) : Bool :=
  s.bit .PWR_MODE_TXLOW || s.bit .THM_FLAGS_OT || s.clk.xoForced || s.safe 12

/-- FORCED clears when no cause remains. -/
def State.syncForced (s : State) : State :=
  if s.bit .NFC_STAT_FORCED && !s.forcedCause then s.put .NFC_STAT_FORCED 0 else s

/-- The fast path with its entry to FORCED; a running FIELD task ends ABORTED with a cause (R463). -/
def State.forceField (s : State) (cause : Nat) : State :=
  let s := if s.bit .NFC_STAT_FORCED then s else (s.put .NFC_STAT_FORCED 1).raise Ev.NFC_SAFE
  let s := (s.cutExchange NfcErr.FIELD_LOST).fieldFast
  (s.fieldEnd (.aborted cause)).syncForced

/-- NFC_FORCE_SAFE, NFC_CMD.SAFE, and SAFE set (R463). -/
def State.nfcSafe (s : State) : State := (s.put (.PG_CTRL_SAFE 12) 1).forceField Cause.BLOCK

/-- The Damper engages (R153, R463): the field goes down by its ramp. -/
def State.fieldDamper (s : State) : State :=
  if s.fieldTask.isSome then (s.cutExchange NfcErr.FIELD_LOST).fieldEnd (.aborted Cause.SUPPLY) else s.fieldDown

/-- DRIVER_OVERCURRENT (R450, R463). -/
def State.driverOvercurrent (s : State) : State :=
  if s.nfc.stage = .on ∨ s.nfc.stage = .ramping then
    ((s.sat .NFC_CNT_OVERCUR).raise Ev.NFC_DRV_OVERCUR).forceField Cause.BLOCK
  else s

/-- FIELD_SUPPLY_SAMPLE of VDD_TX in mV (R450). -/
def State.fieldSupply (s : State) (mv : Nat) : State :=
  if s.nfc.stage = .on && !s.nfc.sagged && decide (mv < 2700 + 100 * s.get .NFC_DRV_LVL_SAGV) then
    ((s.put .NFC_STAT_SAG 1).setNfc fun f => { f with sagged := true }).raise Ev.NFC_TXSUP_SAG
  else s

/-! ### Mismatch (R453, R454) -/

/-- Q of a phase in thousandths of a degree (R453). -/
def mismatchQ (theta : Int) : Nat := min 255 (theta.natAbs / 250)

/-- Q and SIGN of a measurement; the current leads where θ is above 0. -/
def State.showQ (s : State) (theta : Int) : State :=
  ((s.put .NFC_MISMATCH_Q_VALID 1).putBit .NFC_MISMATCH_Q_SIGN (decide (0 < theta))).put .NFC_MISMATCH_Q_Q (mismatchQ theta)

/-- A measurement that counts towards NFC_MISMATCH (R454). -/
def State.mismatch (s : State) (theta : Int) : State :=
  let s := s.showQ theta
  if mismatchQ theta ≤ s.get .NFC_TUNE_CFG_QTHR then
    ((s.put .NFC_MISMATCH_Q_CNT 0).put .NFC_STAT_NOREARM 0).setNfc fun f => { f with armed := true }
  else
    let s := s.sat .NFC_MISMATCH_Q_CNT
    if s.nfc.armed && !s.bit .NFC_STAT_NOREARM && decide (s.get .NFC_TUNE_CFG_MCONF ≤ s.get .NFC_MISMATCH_Q_CNT) then
      let s := (s.setNfc fun f => { f with armed := false }).raise Ev.NFC_MISMATCH
      if s.bit .NFC_TUNE_CFG_AUTO then s.kindFiring Kind.TUNE_SWEEP else s
    else s

/-- MISMATCH_MEASURED: the measurement after a field-on; a Comet sweep measures over its own interval (R448, R453). -/
def State.mismatchMeasured (s : State) (theta : Int) : State :=
  if s.nfc.stage = .on && s.bit .NFC_STAT_FIELD && !s.fieldKind Kind.COMET then s.mismatch theta else s

/-- A host write of a bank (R452, R454, R461). -/
def State.bankWrite (s : State) (f : Fld) (code : Nat) : State :=
  (((s.put f code).put .NFC_STAT_BASEV 0).put .NFC_STAT_NOREARM 0).setNfc fun f => { f with armed := true }

/-! ### The tuner sweep (R455) -/

/-- The next probe of a sweep, or its finish, from its present place in the search. -/
def State.sweepNext (s : State) (w : Sweep) : Nat → State
  | 0 => s
  | k + 1 =>
    let finish := fun (s : State) =>
      (s.sweepEnds w (if w.best ≤ s.get .NFC_TUNE_CFG_QTHR then 1 else 2)).fieldEnd .done
    if 4 ≤ w.bank then
      if w.improved then s.sweepNext { w with bank := 0, dir := 0, improved := false } k
      else if w.step = 1 then finish s
      else s.sweepNext { w with bank := 0, dir := 0, improved := false, step := w.step / 2 } k
    else if 2 ≤ w.dir then s.sweepNext { w with bank := w.bank + 1, dir := 0 } k
    else
      let code := s.get (sweepBank w.bank)
      let up := w.dir == 0
      if (up && decide (63 < code + w.step)) || (!up && decide (code < w.step)) then s.sweepNext { w with dir := w.dir + 1 } k
      else if s.get .NFC_TUNE_CFG_MAXSTEPS ≤ w.made then finish s
      else
        let c := if up then code + w.step else code - w.step
        (s.put (sweepBank w.bank) c).setNfc fun f => { f with sweep := some { w with before := code } }

/-- TUNER_PROBE_END with the phase measured. A probe boundary is the task's pre-emption point. -/
def State.probeEnd (s : State) (theta : Int) : State :=
  match s.nfc.sweep with
  | none => s
  | some w =>
    if s.nfc.stage ≠ .on then s
    else
      let s := s.showQ theta
      let q := mismatchQ theta
      let stop := s.fieldTask.bind fun i => (s.slot i).stopEnd
      let go := fun (s : State) (w : Sweep) => match stop with
        | some e =>
          let s := s.setNfc fun f => { f with sweep := some { w with before := s.get (sweepBank w.bank) } }
          s.fieldEnd e
        | none => s.sweepNext w 64
      if w.made = 0 then go s { w with qstart := q, best := q, made := 1 }
      else if q < w.best then go s { w with best := q, made := w.made + 1, improved := true, bank := w.bank + 1, dir := 0 }
      else go (s.put (sweepBank w.bank) w.before) { w with made := w.made + 1, dir := w.dir + 1 }

/-! ### Comet (R456 to R459, R461, R462) -/

/-- A confirmation or release count runs (R456, R459). -/
def State.cometCounting (s : State) : Bool :=
  let st := s.get .NFC_STAT_STATE
  (st != Comet.CARD && s.nfc.cards != 0) || (st == Comet.CLEAR && s.nfc.hands != 0) || (st != Comet.CLEAR && s.nfc.clears != 0)

/-- COMET_INTERVAL: the firing due IVL or FAST ms after the previous one. -/
def State.cometInterval (s : State) : State :=
  if s.get .NFC_COMET_IVL_IVL = 0 || !s.enabled 12 || s.safe 12 then s
  else
    let ms := if s.get .NFC_STAT_STATE = Comet.CLEAR ∧ ¬ s.cometCounting then s.get .NFC_COMET_IVL_IVL else s.get .NFC_COMET_IVL_FAST
    let s := s.advanceTo (s.nfc.fired + 1000 * ms)
    (s.setNfc fun f => { f with fired := s.usec }).kindFiring Kind.COMET

/-- COMET_MEASURE_END (R457): AMP, PH and θ; the ramp-down starts. -/
def State.cometMeasured (s : State) (amp ph : Nat) (theta : Int) : State :=
  if s.fieldKind Kind.COMET && s.nfc.stage == .on then
    ((s.mismatch theta).setNfc fun f => { f with meas := some (min amp 4095, ph % 4096) }).fieldDown
  else s

/-- rel of R458: ⌊1024 × (base − amp) ÷ base⌋. For a base of 0 no result is stated (a free value). -/
def State.relDrop (s : State) (base amp : Nat) : Int × State :=
  if base = 0 then let a := s.fresh; let b := a.2.fresh; ((a.1 : Int) - b.1, b.2)
  else ((1024 * ((base : Int) - amp)) / base, s)

/-- The phase difference modulo 4096 into −2048 to +2047 (R458). -/
def phaseDiff (ph base : Nat) : Int := ((ph : Int) - base + 2048) % 4096 - 2048

/-- The class of a measurement with BASEV 1 (R458). -/
def State.cometClass (s : State) (rel dp : Int) : Nat :=
  let card : Int := s.get .NFC_CARD_THR_REL
  let hph : Int := s.get .NFC_HAND_THR_PH
  if card ≤ rel then Comet.CARD
  else if hph ≤ dp.natAbs ∧ rel < s.get .NFC_HAND_THR_REL then Comet.HAND
  else if (rel.natAbs : Int) < card / 2 ∧ (dp.natAbs : Int) < hph / 2 then Comet.CLEAR
  else Comet.OTHER

/-- The baseline taken from a measurement (R461). -/
def State.baseCapture (s : State) (amp ph : Nat) : State :=
  let s := ((s.put .NFC_BASE_AMP_AMP amp).put .NFC_BASE_PH_PH ph).put .NFC_STAT_BASEV 1
  let s := (s.put .NFC_STAT_STATE Comet.CLEAR).setNfc fun f => { f with cards := 0, hands := 0, clears := 0, movedA := 0, movedP := 0 }
  s.raise Ev.NFC_BASELINE_UPD

/-- Tracking (R462), with NFC_BASELINE_UPD where it has moved the baseline far enough. -/
def State.baseTrack (s : State) (amp : Nat) (dp : Int) : State :=
  let base := s.get .NFC_BASE_AMP_AMP
  let trk := (2 : Int) ^ s.get .NFC_COMET_CFG_TRK
  let da := ((amp : Int) - base) / trk
  let dq := dp / trk
  let s := (s.put .NFC_BASE_AMP_AMP ((base : Int) + da).toNat).put .NFC_BASE_PH_PH (((s.get .NFC_BASE_PH_PH : Int) + dq) % 4096).toNat
  let s := s.setNfc fun f => { f with movedA := f.movedA + da, movedP := f.movedP + dq }
  let far := decide ((s.get .NFC_CARD_THR_REL / 2) * s.get .NFC_BASE_AMP_AMP ≤ 1024 * s.nfc.movedA.natAbs)
    || decide (s.get .NFC_HAND_THR_PH / 2 ≤ s.nfc.movedP.natAbs)
  let moved := s.nfc.movedA != 0 || s.nfc.movedP != 0
  if far && moved then (s.setNfc fun f => { f with movedA := 0, movedP := 0 }).raise Ev.NFC_BASELINE_UPD else s

/-- The state table of R459 for a sweep of a class: the state, and whether NFC_COMET_DONE was raised. -/
def State.cometStep (s : State) (cls : Nat) : State × Bool :=
  let st := s.get .NFC_STAT_STATE
  let s := s.setNfc fun f => { f with
    cards := if cls = Comet.CARD then f.cards + 1 else 0
    hands := if cls = Comet.HAND then f.hands + 1 else 0
    clears := if cls = Comet.CLEAR then f.clears + 1 else 0 }
  let enter := fun (s : State) (st : Nat) =>
    (s.put .NFC_STAT_STATE st).setNfc fun f => { f with cards := 0, hands := 0, clears := 0 }
  if st ≠ Comet.CARD ∧ cls = Comet.CARD ∧ s.get .NFC_CARD_THR_CONF ≤ s.nfc.cards then
    (((enter s Comet.CARD).sat .NFC_CNT_CARD).cardNear, false)
  else if st = Comet.CLEAR ∧ cls = Comet.HAND ∧ s.get .NFC_HAND_THR_CONF ≤ s.nfc.hands then
    (((enter s Comet.HAND).sat .NFC_CNT_HAND).raise Ev.NFC_HAND_NEAR, false)
  else if st ≠ Comet.CLEAR ∧ cls = Comet.CLEAR ∧ s.get .NFC_COMET_CFG_REL ≤ s.nfc.clears then
    ((enter s Comet.CLEAR).raise Ev.NFC_COMET_DONE, true)
  else (s, false)

/-- COMET_CLASSIFY, after the ramp-down (R457 to R462). -/
def State.cometClassify (s : State) : State :=
  match s.nfc.meas with
  | none => s
  | some (amp, ph) =>
    if !s.fieldKind Kind.COMET || s.nfc.stage != .off then s
    else
      let s := (s.put .NFC_COMET_STAT_AMP amp).put .NFC_COMET_STAT_PH ph
      if !s.bit .NFC_STAT_BASEV then (s.baseCapture amp ph).cometEnds Comet.INVALID false
      else
        let r := s.relDrop (s.get .NFC_BASE_AMP_AMP) amp
        let dp := phaseDiff ph (s.get .NFC_BASE_PH_PH)
        let cls := r.2.cometClass r.1 dp
        let clear := r.2.get .NFC_STAT_STATE == Comet.CLEAR
        let t := r.2.cometStep cls
        let s := if cls = Comet.CLEAR ∧ clear then t.1.baseTrack amp dp else t.1
        s.cometEnds cls t.2

/-- FIELD_AMPLITUDE_WATCH (R460). -/
def State.amplitudeWatch (s : State) (amp : Nat) : State :=
  if s.nfc.stage ≠ .on || !s.nfcServing then s
  else match s.nfc.ref with
    | none => s.setNfc fun f => { f with ref := some amp, lows := 0 }
    | some base =>
      let r := s.relDrop base amp
      if (s.get .NFC_CARD_THR_REL : Int) ≤ r.1 then
        if 16 ≤ r.2.nfc.lows + 1 then (r.2.setNfc fun f => { f with ref := none, lows := 0 }).cardNear
        else r.2.setNfc fun f => { f with lows := f.lows + 1 }
      else r.2.setNfc fun f => { f with lows := 0 }

/-- A host write of NFC_BASE_AMP (R461). -/
def State.baseWrite (s : State) (amp : Nat) : State :=
  ((s.put .NFC_BASE_AMP_AMP amp).putBit .NFC_STAT_BASEV (amp % 4096 != 0))

/-- NFC_CMD.BASEINV; BASELINE_CAPTURE within a running FIELD task. -/
def State.baseInvalid (s : State) : State := s.put .NFC_STAT_BASEV 0
def State.baselineCapture (s : State) : State := if s.fieldTask.isSome then s.baseInvalid else s

/-! ### What stands at the pins (R446, R447, R448, R452, R457) -/

/-- The driver's amplitude as a fraction of full swing, in a field at its level: a numerator and a denominator (R446,
R455, R457); 0 while the field is off. -/
def State.fieldDrive (s : State) : Nat × Nat :=
  if !s.bit .NFC_STAT_FIELD then (0, 1)
  else if s.fieldKind Kind.COMET then (s.get .NFC_COMET_BURST_CLVL + 1, 64)
  else if s.fieldKind Kind.TUNE_SWEEP then (s.get .NFC_TUNE_CFG_SLVL + 1, 20)
  else (s.get .NFC_DRV_LVL_LVL + 1, 20)

/-- The modulation index below 100 %, in units of 0.1 % (R447). -/
def State.modIndex (s : State) : Nat := 5 * s.get .NFC_MODIDX_IDX

/-- Carrier periods of a ramp (R448, R449), and from a request to the level (R448). -/
def State.rampCp (s : State) : Nat := 16 * (s.get .NFC_DRV_LVL_RAMP + 1)
def State.fieldOnCp (s : State) : Nat := (if s.bit .NFC_EXT_CFG_EN then 64 else 0) + s.rampCp

/-- A bank's capacitance in units of 0.5 pF (R452). -/
def State.bankHalfPf (s : State) (bank : Nat) : Nat := s.get (sweepBank bank)

/-- Carrier periods from a Comet sweep's origin to the start of its ramp-down (R457). -/
def State.cometCp (s : State) : Nat :=
  s.fieldOnCp + 16 * s.get .NFC_COMET_BURST_SETTLE + 16 * s.get .NFC_COMET_BURST_MEAS

/-! ### The page (R464, R466) -/

/-- The range checks of the NFC page, by twin offset. -/
def nfcRange (s : State) : List (Nat × Bool) :=
  [(0x240, decide (19 < s.getTwin .NFC_DRV_LVL_LVL) || decide (28 < s.getTwin .NFC_DRV_LVL_SAGV)),
   (0x244, decide (40 < s.getTwin .NFC_MODIDX_IDX)),
   (0x248, decide (19 < s.getTwin .NFC_TUNE_CFG_SLVL) || s.getTwin .NFC_TUNE_CFG_MAXSTEPS == 0 || s.getTwin .NFC_TUNE_CFG_MCONF == 0),
   (0x250, s.getTwin .NFC_COMET_BURST_SETTLE == 0 || s.getTwin .NFC_COMET_BURST_MEAS == 0),
   (0x254, s.getTwin .NFC_CARD_THR_CONF == 0 || s.getTwin .NFC_CARD_THR_REL == 0),
   (0x258, s.getTwin .NFC_HAND_THR_CONF == 0 || s.getTwin .NFC_HAND_THR_REL == 0 || s.getTwin .NFC_HAND_THR_PH == 0),
   (0x25C, s.getTwin .NFC_COMET_CFG_REL == 0)]

/-- The safe point of the NFC page: the field is off. -/
def State.nfcSafePoint (s : State) : Bool := s.nfc.stage == .off

/-- NFC's page soft reset: its island's crossings resynchronise (R48), a running FIELD task ends as SAFE ends it
(R464). -/
def State.nfcSoftReset (s : State) : State :=
  let s := (s.sideReset 0 true).sideReset 1 true
  let s := if s.fieldTask.isSome || s.nfc.stage != .off then s.forceField Cause.BLOCK else s
  let s := ((s.put .NFC_STAT_STATE Comet.CLEAR).put .NFC_STAT_BASEV 0).put .NFC_STAT_NOREARM 0
  s.setNfc fun f => { f with cards := 0, hands := 0, clears := 0 }

end Sys2Proof.Machine
end

