-- ==== Sys2Proof/Machine/NfcProto.lean ====
section
/-! DEFINITION. NFC protocols: commands and responses, the technology detection loop, the tag list, presence checks and the
automatic read (R470 to R492). -/

namespace Sys2Proof.Machine

/-! ### The tag list (R482, R488, R491) -/

/-- Entry `i` of the tag list, and the list with it replaced. -/
def State.tag (s : State) (i : Nat) : Tag := s.nfp.tags.getD i Tag.none
def State.setTags (s : State) (l : List Tag) : State :=
  (s.setNfp fun p => { p with tags := l }).put .NFP_TAGLIST_CNT_COUNT (l.countP (·.valid))
def State.setTag (s : State) (i : Nat) (t : Tag) : State := s.setTags (s.nfp.tags.set i t)

/-- Byte `i` of an ID as a number, 0 beyond its end. -/
def uidByte (l : List Byte) (i : Nat) : Byte := l.getD i 0

/-- Word `w` of an entry (R482). -/
def Tag.word (t : Tag) (w : Nat) : Word :=
  if w = 0 then
    BitVec.ofNat 32 (t.valid.toNat * 2 ^ 31 + t.present.toNat * 2 ^ 30 + t.keep.toNat * 2 ^ 29 + t.new.toNat * 2 ^ 28 + t.tech * 2 ^ 26
      + t.uid.length * 2 ^ 16 + t.info * 2 ^ 8 + t.pollno)
  else if w ≤ 3 then
    let i := 4 * (w - 1)
    uidByte t.uid i ++ uidByte t.uid (i + 1) ++ uidByte t.uid (i + 2) ++ uidByte t.uid (i + 3)
  else if w = 4 then t.x0
  else if w = 5 then t.x1
  else if w = 6 then BitVec.ofNat 32 t.amp
  else 0

/-- Every entry whose KEEP is 0 deleted (CLRLIST, CLEAR). -/
def State.clearTags (s : State) : State := s.setTags (s.nfp.tags.map fun t => if t.keep then t else Tag.none)

/-- KEEP of an entry written (R491). -/
def State.keepTag (s : State) (i : Nat) (keep : Bool) : State :=
  let t := s.tag i
  if t.valid then s.setTag i { t with keep := keep } else s

/-- A found tag (R482): the list, and the entry where it was newly recorded. -/
def State.foundTag (s : State) (tech info : Nat) (uid : List Byte) (x0 x1 : Word) (amp : Nat) : State :=
  let no := s.get .NFP_POLLCNT_POLLS % 256
  match s.nfp.tags.findIdx? fun t => t.valid && t.tech == tech && t.uid == uid with
  | some i => s.setTag i { s.tag i with present := true, pollno := no, amp := amp % 4096 }
  | none => match s.nfp.tags.findIdx? fun t => !t.valid with
    | some i =>
      let t : Tag :=
        { valid := true, present := true, keep := false, new := true, tech := tech, info := info % 256, pollno := no, uid := uid
          x0 := x0, x1 := x1, amp := amp % 4096 }
      (((s.setTag i t).setNfp fun p => { p with recorded := p.recorded ++ [i] }).sat .NFP_TAGLIST_CNT_NEW).raise Ev.NFP_TAG_FOUND
    | none =>
      if s.nfp.full then s
      else ((s.put .NFP_TAGLIST_CNT_FULL 1).setNfp fun p => { p with full := true }).raise Ev.NFP_TAGLIST_FULL

/-! ### Descriptors (R471, R472) -/

def nfcOp (w : Word) : Nat := bits w 31 30
def nfcRxCrc (w : Word) : Bool := bits w 21 21 == 1

/-- Technology and rate of a command: its own, or with DEF those of NFP_TECH and NFP_RATE. -/
def State.nfcTech (s : State) (w : Word) : Nat × Nat :=
  if bits w 23 23 = 1 then (s.get .NFP_TECH_TECH, s.get .NFP_RATE_RATE) else (bits w 29 28, bits w 27 26)

/-- Technology F with rate 0 or 3 is not sent (R471). -/
def techBad (t : Nat × Nat) : Bool := t.1 == 3 && (t.2 == 0 || t.2 == 3)

/-- A command's first byte asks for, or answers, a waiting-time extension (R477). -/
def isWtx (b : List Byte) : Bool := match b with
  | x :: _ => x &&& 0xF7#8 == 0xF2#8
  | [] => false

/-! ### Exchanges (R476) -/

/-- Carrier periods for which an exchange awaits a response: 128 × FWT, and M times that, at most 2^26, for the answer
to a waiting-time extension (R476, R477). -/
def State.responseWait (s : State) (extended : Bool) : Nat :=
  let fwt := 128 * s.get .NFP_FWT_FWT
  if extended then min (fwt * max 1 (min 59 (s.get .NFP_ISO4STAT_WTXM))) (2 ^ 26) else fwt

/-- The field is on and nothing is under way. -/
def State.nfcFree (s : State) : Bool :=
  s.nfcServing && s.nfc.stage == .on && s.nfp.cur.isNone && s.nfp.held.isNone

/-- The running FIELD task is the legacy task. -/
def State.legacyTask (s : State) : Bool := s.leg.bound && s.fieldTask == some 63

/-- The legacy task is a FIELD_ON task that runs. -/
def State.legacyFieldOn (s : State) : Bool :=
  s.legacyTask && s.fieldKind Kind.NFC_TXN && bits s.fieldParam 31 24 == 0

/-- 0x10 or 0x31 ends a legacy task other than FIELD_ON, which is at no frame (R126). A response that it awaits is no
frame of the present (log entry 64). -/
def State.legacyDone (s : State) : State := (s.setNfp fun p => { p with cur := none, step := none }).fieldEnd .done

/-- A step's frame starts, at once or after GAP and GT. -/
def State.stepFrame (s : State) (f : NfcFrame) : State :=
  let wait := s.nfp.gap || s.nfp.guard
  s.setNfp fun p => { p with cur := some { frame := f, owner := .step, stage := if wait then .waiting else .sending, early := false, wait := s.responseWait false } }

/-- A host's or a legacy command starts (R471, R472, R477). -/
def State.commandFrame (s : State) (owner : NfcOwner) (w : Word) (bytes : List Byte) : State :=
  let op := nfcOp w
  let wtx := s.bit .NFP_FWT_ISO4
  let extended := wtx && op == 0 && isWtx bytes && s.bit .NFP_ISO4STAT_WTXPEND
  let x : Exchange :=
    { frame := .command w bytes, owner := owner, stage := if op = 2 then .blank else .sending, early := false
      wait := s.responseWait extended }
  if techBad (s.nfcTech w) then s.exchangeFails x NfcErr.TECH
  else
    let s := if wtx then s.put .NFP_ISO4STAT_WTXPEND 0 else s
    (s.put .NFP_STAT_CURTECH (s.nfcTech w).1).setNfp fun p => { p with cur := some x }

/-- The engine's first command that is whole in the NFC island goes on the field (R475); false where there is none. -/
def State.startCommand (s : State) : Bool × State :=
  match (s.xing 0).owned.findSome? fun t => s.txFrame t.frame with
  | none => (false, s)
  | some f =>
    let s := (s.purgeFrame f.id).dropTx f.id
    let words := bytesWords f.bytes
    let w := words.headD 0
    match f.kind with
    | .data i item => (true, s.commandFrame (.engine f.eng i item) w ((f.bytes.drop 4).take (pushLen w)))
    | _ => (true, s)

/-- A valid answer to a step's first request (R478). Without one, the first request once answered counts no more. -/
def State.stepDetect (s : State) : State :=
  match s.nfp.step with
  | some q => if q.detected then s else (s.setStep fun q => { q with detected := true }).raise Ev.NFP_TECH_DETECT
  | none => s

/-! ### Steps: their first frames (R480 to R484) -/

/-- Bits of a byte, the least significant first, as Type A sends them. -/
def byteBitsLsb (b : Byte) : List Bool := (List.range 8).map fun i => b.getLsbD i

/-- Bytes of bits sent least significant first. -/
def bitsBytesLsb (l : List Bool) : List Byte :=
  (List.range ((l.length + 7) / 8)).map fun i =>
    BitVec.ofNat 8 (((List.range 8).map fun j => if l.getD (8 * i + j) false then 2 ^ j else 0).sum)

/-- The UID bytes that SELECT carries at a cascade level: a UID of more than four bytes is cut with the cascade tag
0x88 in front. -/
def selectPart (uid : List Byte) (level : Nat) : List Byte :=
  let rest := uid.drop (3 * level)
  if rest.length ≤ 4 then rest else 0x88 :: rest.take 3

/-- The last cascade level of a UID. -/
def lastLevel (uid : List Byte) : Nat := if uid.length ≤ 4 then 0 else if uid.length ≤ 7 then 1 else 2

/-- The first frame of a presence check (R483). -/
def State.presenceFrame (s : State) (t : Tag) : State :=
  let s := s.put .NFP_STAT_CURTECH t.tech
  if t.tech = 0 then (s.setStep fun q => { q with level := 0 }).stepFrame .wupa
  else if t.tech = 1 then s.stepFrame .wupb
  else if t.tech = 2 then
    s.stepFrame (.inventory 1 64 (t.uid.zipIdx.foldl (fun n b => n + b.1.toNat * 2 ^ (8 * b.2)) 0))
  else s.stepFrame (.sensf 1)

/-- The next presence check, or the step's end. GT runs between technologies (R478). -/
def State.presenceNext (s : State) (prev : Option Nat) : State :=
  match s.nfp.step with
  | some q => match q.entries with
    | i :: _ =>
      let t := s.tag i
      let s := if prev.isSome ∧ prev ≠ some t.tech then s.setNfp fun p => { p with guard := true } else s
      s.presenceFrame t
    | [] => s.stepOver
  | none => s

/-- An inventory's frame for the deepest mask under way (R481). -/
def State.inventoryFrame (s : State) : State :=
  match s.nfp.step with
  | some q => match q.masks with
    | m :: _ => (s.setStep fun q => { q with slot := 0 }).stepFrame (.inventory 16 m.1 m.2.1)
    | [] => s.stepOver
  | none => s

/-- AMAX of the Type A step; 1 in the legacy view (R480, R486). -/
def State.aMax (s : State) : Nat := if s.leg.bound && s.fieldTask == some 63 then 1 else s.get .NFP_POLL_CFG_AMAX

/-- Entries of this poll that the automatic read may take (R484). -/
def Tag.readable (t : Tag) : Bool := (t.tech == 0 && t.info &&& 0x64 == 0) || t.tech == 2
def State.readEntry (s : State) : Option Nat := s.nfp.recorded.find? fun i => (s.tag i).readable

/-- The read step's next frame, or its end (R484). -/
def State.readFrame (s : State) : State :=
  match s.nfp.step with
  | none => s
  | some q =>
    let start := bits s.fieldParam 23 16
    let t := s.tag q.entry
    if t.tech = 0 then s.stepFrame (.read2 (start + q.bytes.length / 4))
    else s.stepFrame (.read5 t.uid start (bits s.fieldParam 15 8))

/-- A step begins (R480 to R484). -/
def State.beginStep (s : State) (k : StepKind) : State :=
  let q : PollStep :=
    { kind := k, isOver := false, detected := false, found := 0, level := 0, uid := [], atqa := 0, slots := 1, slot := 0, rounds := 1
      bad := false, masks := [], entries := [], again := false, entry := 0, bytes := [] }
  match k with
  | .discovery t =>
    let s := (s.put .NFP_STAT_PHASE 1).put .NFP_STAT_CURTECH t
    if t = 0 then (s.setNfp fun p => { p with step := some q }).stepFrame .reqa
    else if t = 1 then
      let n := 2 ^ s.get .NFP_POLL_CFG_BSLOTS
      (s.setNfp fun p => { p with step := some { q with slots := n } }).stepFrame (.reqb (s.get .NFP_POLL_CFG_AFI) n)
    else if t = 3 then
      let n := 2 ^ s.get .NFP_POLL_CFG_FSLOTS
      (s.setNfp fun p => { p with step := some { q with slots := n } }).stepFrame (.sensf n)
    else (s.setNfp fun p => { p with step := some { q with masks := [(0, 0, [])] } }).inventoryFrame
  | .inventory =>
    let s := (s.put .NFP_STAT_PHASE 1).put .NFP_STAT_CURTECH 2
    (s.setNfp fun p => { p with step := some { q with masks := [(0, 0, [])] } }).inventoryFrame
  | .presence =>
    let techs := bits s.fieldParam 31 28
    let l := (List.range 64).filter fun i => (s.tag i).valid && (s.tag i).keep && techs / 2 ^ (s.tag i).tech % 2 == 1
    ((s.put .NFP_STAT_PHASE 3).setNfp fun p => { p with step := some { q with entries := l } }).presenceNext none
  | .read =>
    let s := (s.put .NFP_STAT_PHASE 2).setNfp fun p => { p with step := some q }
    match s.readEntry with
    | none => s.stepOver
    | some i => (s.setStep fun q => { q with entry := i }).readFrame

/-! ### The loop (R475, R478, R479) -/

/-- The steps of a poll's PARAM (R478). -/
def pollSteps (param : Word) : List StepKind :=
  let techs := bits param 31 28
  if bits param 26 26 = 1 then [.presence]
  else
    ([0, 1, 3, 2].filter fun t => techs / 2 ^ t % 2 == 1).map StepKind.discovery
      ++ (if bits param 27 27 = 1 ∧ bits param 15 8 ≠ 0 then [StepKind.read] else [])

/-- An NFC_POLL or NFC_TXN task becomes RUNNING (R475, R478): it asks for the field. -/
def State.nfpAdmitted (s : State) : State :=
  let s := if s.fieldKind Kind.NFC_POLL then
      let param := s.fieldParam
      let s := s.wrap .NFP_POLLCNT_POLLS
      let s := s.setTags (s.nfp.tags.map fun t => { t with new := false })
      let s := if bits param 25 25 = 1 then s.clearTags else s
      let s := s.put .NFP_TAGLIST_CNT_NEW 0
      let s := if bits param 26 26 = 1 then s.put .NFP_TAGLIST_CNT_LOST 0 else s
      s.setNfp fun p => { p with todo := pollSteps param, serving := false, full := false, recorded := [] }
    else (s.put .NFP_STAT_PHASE 4).setNfp fun p => { p with todo := [], serving := true }
  s.fieldRequest

/-- The legacy command that the running task carries out next (R126, R486): a command of R472, or a step, whose answers
L_FIFO then holds alone. -/
def State.legacyCommand (s : State) (c : Nat) : State :=
  let s := s.setLeg fun l => { l with todo := none, cmd := c, err := if s.legacyFieldOn then 0 else l.err }
  if c = 0x40 ∨ c = 0x41 then
    let s := (s.giveCells s.leg.cells).setLeg fun l => { l with rxf := [], cells := [] }
    s.beginStep (if c = 0x40 then .discovery 0 else .inventory)
  else
    let bytes := s.leg.txf
    let w := BitVec.ofNat 32 ((c - 0x21) * 2 ^ 30 + 2 ^ 23 + (s.leg.crccfg % 2) * 2 ^ 22 + (s.leg.crccfg / 2 % 2) * 2 ^ 21
      + s.leg.lastbits % 8 * 2 ^ 18 + bytes.length)
    (s.setLeg fun l => { l with txf := [] }).commandFrame .legacy w bytes

/-- What comes next on the field once nothing is under way: an added command or inventory, a step, the serving phase.
A step boundary is the pre-emption point (R475, R478, R479). In a DRAIN issue the page holds here (R80, R488). -/
def State.nfpTurn (s : State) : State :=
  let wait := s.nfp.gap || s.nfp.guard
  if !s.nfcFree || s.drainHold 13 then s
  else match s.nfp.step with
    | some _ => s
    | none =>
      let stop := s.fieldTask.bind fun i => (s.slot i).stopEnd
      let param := s.fieldParam
      if s.nfp.stop then (s.put .NFP_STAT_STOPPED 1).fieldEnd .done
      else match stop with
        | some e => s.fieldEnd e
        | none =>
          if s.legacyTask then
            match s.leg.todo with
            | some c => if wait then s else s.legacyCommand c
            | none =>
              if s.leg.stop || (s.fieldKind Kind.NFC_TXN && bits param 31 24 == 1 && s.nfp.ended != 0) || s.fieldKind Kind.NFC_POLL then
                s.fieldEnd .done
              else s
          else
            let limit := bits param 31 24
            if s.fieldKind Kind.NFC_TXN && limit != 0 && decide (limit ≤ s.nfp.ended) then s.fieldEnd .done
            else if wait then s
            else if s.nfp.addInv then (s.setNfp fun p => { p with addInv := false }).beginStep .inventory
            else match s.nfp.todo with
              | k :: r =>
                if s.nfp.addTx && (s.startCommand).1 then (s.setNfp fun p => { p with addTx := false }).startCommand.2
                else
                  let coming := !(s.xing 0).waiting.isEmpty || !(s.xing 0).unacked.isEmpty
                  (s.setNfp fun p => { p with todo := r, addTx := p.addTx && coming }).beginStep k
              | [] =>
                let s := if s.nfp.serving then s
                  else (s.put .NFP_STAT_PHASE 4).setNfp fun p => { p with serving := true }
                s.startCommand.2

/-- What follows the end of a command: STOPFAIL ends the task at a failed one (R475), and a legacy FIELD_ON task shows
its own command again; otherwise `next`. -/
def State.afterCommand (s : State) (failed : Bool) (next : State → State) : State :=
  if failed && s.fieldKind Kind.NFC_TXN && bits s.fieldParam 23 23 == 1 && !s.legacyTask then s.fieldEnd .done
  else
    next (if s.legacyFieldOn && s.nfp.step.isNone then (s.setLeg fun l => { l with cmd := 0x30 }) else s)

/-- The field's next turn; a command that is not sent (R471) has ended at once, and its end is followed up. -/
def State.nfpNext (s : State) : State :=
  let t := s.nfpTurn
  if s.nfp.ended < t.nfp.ended && t.nfp.cur.isNone then t.afterCommand true State.nfpTurn else t

/-- A command has ended: the next follows. -/
def State.commandOver (s : State) (failed : Bool) : State := s.afterCommand failed State.nfpNext

/-- The engine hands its next command to NFP: in the serving phase, or asked for by NFP_TX_QUEUED (R308, R475, R479). -/
def State.nfcTake (s : State) (n : Nat) : State :=
  if s.nfcServing && s.fieldEngine == n && !s.legacyTask && (s.nfp.serving || s.nfp.addTx) && s.mayTransmit n && s.nfp.held.isNone then
    s.transmitOne n
  else s

/-- POLL_GUARD_TIME_END and NFC_FRAME_GAP_END: a waiting frame starts, or what comes next. -/
def State.waitEnds (s : State) : State :=
  match s.nfp.cur with
  | some x => if x.stage = .waiting ∧ ¬ s.nfp.gap ∧ ¬ s.nfp.guard then
      s.setNfp fun p => { p with cur := some { x with stage := .sending } } else s
  | none => s.nfpNext

def State.guardEnd (s : State) : State := if s.nfp.guard then (s.setNfp fun p => { p with guard := false }).waitEnds else s
def State.gapEnd (s : State) : State := if s.nfp.gap then (s.setNfp fun p => { p with gap := false }).waitEnds else s

/-! ### Responses (R473, R474, R484) -/

/-- The two descriptor words of a response item and its payload (R473). -/
def responseWords (err lastbits : Nat) (early : Bool) (tag rtime : Nat) (coll : Option Nat) (payload : List Byte) : List Word :=
  BitVec.ofNat 32 (err * 2 ^ 24 + lastbits % 8 * 2 ^ 21 + early.toNat * 2 ^ 20 + tag % 256 * 2 ^ 8 + payload.length)
    :: BitVec.ofNat 32 (min rtime 0xFFFF * 2 ^ 16 + (match coll with
      | some c => min c 0x7FF
      | none => 0x7FF)) :: bytesWords payload

/-- A response as the receiver reports it: its bytes, CRC included and parity removed, the valid bits of its last
byte, the first collision, and what was found wrong. -/
structure Response where
  bytes    : List Byte
  lastbits : Nat
  coll     : Option Nat
  framing  : Bool
  parity   : Bool
  crcBad   : Bool
  rtime    : Nat
  amp      : Nat
  deriving DecidableEq, Repr

/-- The error code of a response whose CRC is checked or not, by the order of R485. -/
def Response.err (r : Response) (crc : Bool) : Nat :=
  if r.coll.isSome then NfcErr.COLLISION else if r.framing then NfcErr.FRAMING else if r.parity then NfcErr.PARITY
  else if crc && r.crcBad then NfcErr.CRC
  else if 252 < (if crc then r.bytes.length - 2 else r.bytes.length) then NfcErr.BUFOVF else 0

/-- The bytes without the CRC. -/
def Response.body (r : Response) : List Byte := r.bytes.take (r.bytes.length - 2)

/-- The counters of an exchange, in steps and outside them (R492). -/
def State.countResponse (s : State) (r : Response) (crc : Bool) : State :=
  let s := if r.coll.isSome then s.sat .NFP_CNT_COLL else s
  if crc && r.crcBad then s.sat .NFP_CNT_CRC else s

/-- A waiting-time extension request (R477). -/
def State.wtxSeen (s : State) (r : Response) : State :=
  let b := r.body
  if s.bit .NFP_FWT_ISO4 && !r.crcBad && isWtx b && (b.length == 2 || b.length == 3) then
    (s.put .NFP_ISO4STAT_WTXPEND 1).put .NFP_ISO4STAT_WTXM (at8 b (b.length - 1) % 64)
  else s

/-- Received bytes for L_FIFO, in cells of the packet store; they take the place of what an earlier frame left (R128, log
entry 64). Without a free cell they are discarded (R43, R44). -/
def State.legacyBytes (s : State) (b : List Byte) : State :=
  let s := (s.giveCells s.leg.cells).setLeg fun l => { l with rxf := [], cells := [] }
  match s.takeCells (cellsFor b.length) with
  | none => (s.raise Ev.QMX_STORE_FULL).countDrop
  | some (c, s) => (s.fillCells c b).setLeg fun l => { l with rxf := b, cells := c }

/-- The item on crossing 1 moves on, where it can; then what follows the end of its command, or of a step. -/
def State.heldNext (s : State) : State :=
  match s.nfp.held with
  | none => s
  | some h =>
    let r := s.heldMove
    match r.1 with
    | some lost => if h.ends.isSome then r.2.commandOver lost else r.2.nfpNext
    | none => r.2

/-- NFC_RESPONSE_QUEUED: a held item is queued when credit has returned. -/
def State.heldQueued (s : State) : State := s.heldNext

/-- ITEM_HANDOVER on crossing 1: the fabric acknowledges the item handed across (R40), and moves it on. -/
def State.ackHeld (s : State) : State := (s.ackItem 1).heldNext

/-- The response of a host's or a legacy command (R473, R474, R485). L_COLLPOS takes 255 where there was no collision
and a position modulo 256, and the response's last bits take L_LASTBITS' place (log entry 64). -/
def State.commandResponse (s : State) (x : Exchange) (w : Word) (r : Response) : State :=
  let crc := nfcRxCrc w
  let e := r.err crc
  let payload := (if crc ∧ ¬ r.crcBad then r.body else r.bytes).take 252
  let s := (((s.countResponse r crc).wtxSeen r).errEvent e).setNfp fun p => { p with cur := none, gap := true, ended := p.ended + 1 }
  let s := if e = 0 then s else s.nfpLast e (nfcTag w)
  let words := responseWords e r.lastbits x.early (nfcTag w) r.rtime r.coll payload
  match x.owner with
  | .engine n _ item =>
    let h := s.itemToHost n words (some item) r.bytes
    match h.1 with
    | some lost => h.2.commandOver lost
    | none => h.2
  | _ =>
    let s := (s.legacyBytes payload).setLeg fun l => { l with
      collpos := (r.coll.getD 255) % 256, lastbits := r.lastbits % 8 }
    ((if e = 0 then s else s.legShow e).legFlag LFlag.RXDONE).raise Ev.NFP_RX_DONE |>.commandOver false

/-! ### The answers of a step (R480 to R484) -/

/-- Type A: what follows a tag that has been recorded and halted, or left selected. -/
def State.aNext (s : State) : State :=
  match s.nfp.step with
  | none => s
  | some q => if s.aMax ≤ q.found then s.stepOver else s.stepFrame .reqa

/-- A Type A tag with its UID and SAK is recorded (R480, R484, R486). -/
def State.aTag (s : State) (q : PollStep) (uid : List Byte) (sak amp : Nat) : State :=
  let s := s.foundTag 0 sak uid (BitVec.ofNat 32 q.atqa) 0 amp
  let s := s.setStep fun q => { q with found := q.found + 1 }
  let legacy := s.legacyTask
  let s := if legacy then s.legacyBytes (uid ++ [byteOf sak]) else s
  let auto := s.fieldKind Kind.NFC_POLL && bits s.fieldParam 27 27 == 1 && bits s.fieldParam 15 8 != 0
  let keepSelected := legacy || (auto && match s.readEntry with
    | some i => (s.tag i).tech == 0 && (s.tag i).uid == uid
    | none => false)
  if keepSelected then s.aNext else s.stepFrame .hlta

/-- The received bits of a Type A answer, in the order received. -/
def Response.bitsLsb (r : Response) : List Bool :=
  let all := r.bytes.flatMap byteBitsLsb
  if r.lastbits = 0 then all else all.take (8 * (r.bytes.length - 1) + r.lastbits)

/-- A Type A answer in a discovery step. A wrong BCC, an answer with an error or none returns the step to REQA. -/
def State.aAnswer (s : State) (q : PollStep) (f : NfcFrame) (r : Option Response) : State :=
  match f, r with
  | .reqa, none => s.stepOver
  | .reqa, some r =>
    let s := if r.framing || r.parity then s.setStep fun q => { q with detected := true } else s.stepDetect
    let s := s.setStep fun q => { q with level := 0, uid := [], atqa := at8 r.bytes 0 * 256 + at8 r.bytes 1 }
    s.stepFrame (.anticoll 0 [])
  | .anticoll level known, some r =>
    match r.coll with
    | some pos =>
      let l := known ++ r.bitsLsb.take pos ++ [s.bit .NFP_POLL_CFG_COLLBIT]
      if l.length < 40 then s.stepFrame (.anticoll level l) else s.aNext
    | none =>
      let b := bitsBytesLsb (known ++ r.bitsLsb)
      let bcc := uidByte b 0 ^^^ uidByte b 1 ^^^ uidByte b 2 ^^^ uidByte b 3
      if r.framing || r.parity || b.length != 5 || bcc != uidByte b 4 then s.aNext
      else s.stepFrame (.select level (b.take 4))
  | .select level part, some r =>
    if r.err true ≠ 0 ∨ r.bytes.length < 3 then s.aNext
    else
      let sak := at8 r.bytes 0
      if sak / 4 % 2 = 1 then
        if level = 2 then s.aNext
        else (s.setStep fun q => { q with level := level + 1, uid := q.uid ++ part.drop 1 }).stepFrame (.anticoll (level + 1) [])
      else s.aTag q (q.uid ++ part) sak r.amp
  | _, _ => s.aNext

/-- Type B: the next slot, a further round, or the end (R480). -/
def State.bNext (s : State) : State :=
  match s.nfp.step with
  | none => s
  | some q =>
    if q.slot + 1 < q.slots then (s.setStep fun q => { q with slot := q.slot + 1 }).stepFrame (.slotMarker (q.slot + 2))
    else if q.bad && decide (q.rounds < 8) then
      let n := min 16 (2 * q.slots)
      (s.setStep fun q => { q with slots := n, slot := 0, rounds := q.rounds + 1, bad := false }).stepFrame
        (.reqb (s.get .NFP_POLL_CFG_AFI) n)
    else s.stepOver

/-- A Type B answer in a discovery step. -/
def State.bAnswer (s : State) (q : PollStep) (f : NfcFrame) (r : Option Response) : State :=
  match f, r with
  | .hltb _, _ => s.bNext
  | _, none => s.bNext
  | _, some r =>
    let b := r.body
    if r.err true = 0 ∧ 12 ≤ b.length then
      let s := if q.rounds = 1 then s.stepDetect else s
      let pupi := (b.drop 1).take 4
      let x0 := (bytesWords ((b.drop 5).take 4)).headD 0
      let x1 := (bytesWords ((b.drop 9).take 3)).headD 0
      (s.foundTag 1 0 pupi x0 x1 r.amp).stepFrame (.hltb pupi)
    else (if r.crcBad then s.setStep fun q => { q with bad := true } else s).bNext

/-- A SENSF_RES within the time slots of a discovery step: the listen goes on (R480). -/
def State.fAnswer (s : State) (q : PollStep) (r : Response) : State :=
  let b := r.body
  if r.err true = 0 ∧ 18 ≤ b.length then
    let x := bytesWords ((b.drop 10).take 8)
    (s.whenB (q.rounds == 1) State.stepDetect).foundTag 3 0 ((b.drop 2).take 8) (x.getD 0 0) (x.getD 1 0) r.amp
  else if r.crcBad then s.setStep fun q => { q with bad := true } else s

/-- SENSF_LISTEN_END: the request is repeated once where a slot failed its CRC. -/
def State.fListenEnd (s : State) (q : PollStep) : State :=
  if q.bad ∧ q.rounds = 1 then
    (s.setStep fun q => { q with rounds := 2, bad := false }).stepFrame (.sensf q.slots)
  else s.stepOver

/-- An answer in a slot of a 16-slot inventory (R481, R486). -/
def State.vAnswer (s : State) (q : PollStep) (r : Response) : State :=
  match q.masks with
  | [] => s
  | m :: rest =>
    let b := r.body
    let legacy := s.legacyTask
    if r.err true = 0 ∧ 10 ≤ b.length then
      let s := if m.1 = 0 then s.stepDetect else s
      let s := if legacy then s.legacyBytes (s.leg.rxf ++ (b.drop 1).take 9) else s
      s.foundTag 2 (at8 b 1) ((b.drop 2).take 8) 0 0 r.amp
    else
      let s := if legacy && r.coll.isSome then s.legErr 3 else s
      if m.1 < 60 ∧ ¬ legacy then s.setStep fun q => { q with masks := (m.1, m.2.1, m.2.2 ++ [q.slot]) :: rest } else s

/-- The inventory after its 16 slots: the lowest marked slot of the deepest mask is split next (R481). -/
def nextMask : List (Nat × Nat × List Nat) → List (Nat × Nat × List Nat)
  | [] => []
  | (n, v, marked) :: rest =>
    match marked.head? with
    | some k => (n + 4, v + k * 2 ^ n, []) :: (n, v, marked.filter (· != k)) :: rest
    | none => nextMask rest

/-- INVENTORY_SLOT_EOF: the slot is closed. -/
def State.slotEof (s : State) : State :=
  match s.nfp.cur, s.nfp.step with
  | some x, some q =>
    match x.frame with
    | .inventory 16 _ _ =>
      if x.stage = .sending ∨ x.stage = .waiting then s
      else if q.slot < 15 then
        (s.setStep fun q => { q with slot := q.slot + 1 }).setNfp fun p => { p with cur := some { x with stage := .blank, early := false } }
      else
        let masks := if s.nfp.full then [] else nextMask q.masks
        ((s.setNfp fun p => { p with cur := none, gap := true }).setStep fun q => { q with masks := masks }).inventoryFrame
    | _ => s
  | _, _ => s

/-- A presence check ends (R483): passed, or failed and repeated once. -/
def State.presenceEnds (s : State) (q : PollStep) (pass : Bool) : State :=
  match q.entries with
  | [] => s.stepOver
  | i :: rest =>
    let t := s.tag i
    let on := fun (s : State) => (s.setStep fun q => { q with entries := rest, again := false }).presenceNext (some t.tech)
    let no := s.get .NFP_POLLCNT_POLLS % 256
    if pass then on (s.setTag i { t with present := true, pollno := no })
    else if q.again then on ((s.setTag i { t with present := false, pollno := no }).sat .NFP_TAGLIST_CNT_LOST)
    else (s.setStep fun q => { q with again := true }).presenceFrame t

/-- The tag that a presence check asks answers it: AMP is that of its last answer (R482). -/
def State.heardTag (s : State) (i amp : Nat) : State := s.setTag i { s.tag i with amp := amp % 4096 }

/-- An answer, or none, in a presence check. -/
def State.presenceAnswer (s : State) (q : PollStep) (f : NfcFrame) (r : Option Response) : State :=
  let t := s.tag (q.entries.headD 0)
  let its := fun (r : Response) => match f with
    | .select _ _ => r.err true == 0
    | .wupb => r.err true == 0 && (r.body.drop 1).take 4 == t.uid
    | .inventory _ _ _ | .sensf _ => r.err true == 0 && (r.body.drop 2).take 8 == t.uid
    | _ => false
  let s := match r with
    | some r => s.whenB (its r) fun s => s.heardTag (q.entries.headD 0) r.amp
    | none => s
  match f, r with
  | .wupa, some _ => s.stepFrame (.select 0 (selectPart t.uid 0))
  | .select level _, some r =>
    if r.err true ≠ 0 then s.presenceEnds q false
    else if level < lastLevel t.uid then s.stepFrame (.select (level + 1) (selectPart t.uid (level + 1)))
    else s.stepFrame .hlta
  | .wupb, some r => s.presenceEnds q (r.err true == 0 && (r.body.drop 1).take 4 == t.uid)
  | .inventory _ _ _, some r => s.presenceEnds q (r.err true == 0 && (r.body.drop 2).take 8 == t.uid)
  | .sensf _, some r => s.presenceEnds q (r.err true == 0 && (r.body.drop 2).take 8 == t.uid)
  | _, _ => s.presenceEnds q false

/-- An answer, or none, in the read step (R484, R513). No copy of the bytes that the sink has taken out is kept. -/
def State.readAnswer (s : State) (q : PollStep) (f : NfcFrame) (r : Option Response) : State :=
  match r with
  | none => (s.sat .NFP_CNT_TIMEOUT).readFails q NfcErr.TIMEOUT
  | some r =>
    let total := 4 * bits s.fieldParam 15 8
    let e := r.err true
    let flagged := match f with
      | .read5 _ _ _ => at8 r.bytes 0 % 2 == 1
      | _ => false
    let short := match f with
      | .read5 _ _ _ => decide (r.body.length < total + 1)
      | _ => decide (r.body.length < 16)
    if e ≠ 0 then s.readFails q e
    else if flagged || short then s.readFails q NfcErr.FRAMING
    else
      let data := match f with
        | .read5 _ _ _ => r.body.drop 1
        | _ => r.body
      let all := q.bytes ++ data
      if all.length < total then (s.setStep fun q => { q with bytes := all }).readFrame
      else
        let tag := 0xC0 + q.entry
        let x := s.sinkExamine (all.take total)
        (x.2.itemToHost s.fieldEngine (responseWords 0 0 false tag r.rtime none x.1) none x.1).2.stepOver

/-- An answer to a step's frame, or none. -/
def State.stepAnswer (s : State) (f : NfcFrame) (r : Option Response) : State :=
  match s.nfp.step with
  | none => s
  | some q =>
    let s := s.setNfp fun p => { p with cur := none, gap := true }
    match q.kind with
    | .discovery 0 => s.aAnswer q f r
    | .discovery 1 => s.bAnswer q f r
    | .presence => s.presenceAnswer q f r
    | .read => s.readAnswer q f r
    | _ => s

/-- A frame that gets no answer has been sent: HLTA. -/
def State.haltSent (s : State) : State :=
  match s.nfp.step with
  | none => s
  | some q =>
    let s := s.setNfp fun p => { p with cur := none, gap := true }
    match q.kind with
    | .presence => s.presenceEnds q true
    | _ => s.aNext

/-! ### Moments of an exchange (R476) -/

/-- What follows the last bit of the frame. -/
def State.frameOut (s : State) : State :=
  match s.nfp.cur with
  | none => s
  | some x =>
    if x.stage ≠ .sending then s
    else match x.frame with
      | .hlta => s.haltSent
      | .command w _ =>
        let s := (s.raise Ev.NFP_TX_DONE).whenB (x.owner == .legacy) fun s => s.legFlag LFlag.TXDONE
        if nfcOp w = 1 then
          let s := s.setNfp fun p => { p with cur := none, gap := true, ended := p.ended + 1 }
          (match x.owner with
          | .engine n i item => if (s.place n i).item = item then s.endTransaction n i 0 else s
          | _ => s).commandOver false
        else s.setNfp fun p => { p with cur := some { x with stage := .blank } }
      | _ => s.setNfp fun p => { p with cur := some { x with stage := .blank } }

/-- NFC_COMMAND_SENT: the last bit of the frame, the end of a legacy task that is to stop (R126). -/
def State.nfcSent (s : State) : State :=
  let t := s.frameOut
  if t.legacyTask && t.leg.stop && !t.legacyFieldOn then t.legacyDone else t

/-- NFC_RECEIVER_OPEN: RXMIN after the command, with or without a response already under way. -/
def State.receiverOpen (s : State) (early : Bool) : State :=
  match s.nfp.cur with
  | none => s
  | some x =>
    if x.stage ≠ .blank then s
    else
      let s := s.setNfp fun p => { p with cur := some { x with stage := .listening, early := early } }
      if early then (s.sat .NFP_CNT_FDTVIOL).raise Ev.NFP_FDT_VIOL else s

/-- NFC_RESPONSE_TIMEOUT. -/
def State.responseTimeout (s : State) : State :=
  match s.nfp.cur with
  | none => s
  | some x =>
    if x.stage ≠ .listening then s
    else match x.owner, x.frame with
      | .step, .inventory 16 _ _ => s
      | .step, .sensf _ => match s.nfp.step with
        | some q => if q.kind = .presence then s.stepAnswer x.frame none else s
        | none => s
      | .step, f => s.stepAnswer f none
      | _, _ =>
        let s := (s.sat .NFP_CNT_TIMEOUT).raise Ev.NFP_RX_TIMEOUT
        let s := s.setNfp fun p => { p with cur := none, gap := true }
        (s.exchangeFails x NfcErr.TIMEOUT).commandOver true

/-- NFC_RESPONSE_RECEIVED. -/
def State.responseReceived (s : State) (r : Response) : State :=
  match s.nfp.cur with
  | none => s
  | some x =>
    if x.stage ≠ .listening then s
    else match x.owner, x.frame with
      | .step, .inventory 16 _ _ => match s.nfp.step with
        | some q => (s.countResponse r true).vAnswer q r
        | none => s
      | .step, .sensf _ => match s.nfp.step with
        | some q =>
          if q.kind = .presence then (s.countResponse r true).stepAnswer x.frame (some r) else (s.countResponse r true).fAnswer q r
        | none => s
      | .step, f =>
        let crc := match f with
          | .reqa | .wupa | .anticoll _ _ => false
          | _ => true
        (s.countResponse r crc).stepAnswer f (some r)
      | _, .command w _ => s.commandResponse x w r
      | _, _ => s

/-- SENSF_LISTEN_END: the time slots are over, of a presence check without its answer (R476, R483). -/
def State.sensfEnd (s : State) : State :=
  match s.nfp.cur, s.nfp.step with
  | some x, some q => match x.frame with
    | .sensf _ =>
      if x.stage = .sending ∨ x.stage = .waiting then s
      else if q.kind = .presence then s.stepAnswer x.frame none
      else (s.setNfp fun p => { p with cur := none, gap := true }).fListenEnd q
    | _ => s
  | _, _ => s

/-- POLL_STEP_END: NFP_INV_DONE after the last step; GT runs before the next technology (R478). -/
def State.pollStepEnd (s : State) : State :=
  match s.nfp.step with
  | none => s
  | some q =>
    if !q.isOver || s.nfp.held.isSome then s
    else
      let s := s.setNfp fun p => { p with step := none }
      let s := s.raiseIf (s.nfp.todo.isEmpty && !s.legacyTask) Ev.NFP_INV_DONE
      let s := if s.legacyTask then (s.legFlag LFlag.RXDONE).setNfp fun p => { p with ended := p.ended + 1 } else s
      let s := match s.nfp.todo.head? with
        | some (.discovery _) => s.setNfp fun p => { p with guard := true }
        | _ => s
      let s := if s.fieldKind Kind.NFC_TXN then s.put .NFP_STAT_PHASE 4 else s
      if s.legacyTask then s.commandOver false else s.nfpNext

/-- NFC_HOLD_LAPSE: the queue has been empty for HOLD ms (R475, R478). -/
def State.holdLapse (s : State) : State :=
  let n := s.fieldEngine
  if s.nfcServing && s.nfp.serving && s.nfp.cur.isNone && s.nfp.held.isNone && s.nfp.step.isNone && !s.legacyTask
      && (s.xing (txQ n)).owned.isEmpty then s.fieldEnd .done else s

/-- LEGACY_HOLD_LAPSE (R126): a FIELD_ON task without a command. -/
def State.legacyHoldLapse (s : State) : State :=
  if s.legacyFieldOn && s.nfp.cur.isNone && s.nfp.step.isNone
      && s.leg.todo.isNone then s.fieldEnd .done else s

/-! ### Router tasks and commands (R479, R487, R490) -/

/-- POLL_STOP, NFP_CMD.STOP. -/
def State.pollStop (s : State) : State :=
  if s.fieldKind Kind.NFC_POLL then (s.setNfp fun p => { p with stop := true }).nfpNext else s

/-- NFP_ABORT, NFP_CMD.ABORT. -/
def State.nfpAbort (s : State) : State :=
  if s.nfcServing then (s.cutExchange NfcErr.ABORT).fieldEnd (.aborted Cause.HOST) else s

/-- NFP_TX_QUEUED and INVENTORY_START, within a running NFC_POLL or NFC_TXN task. -/
def State.nfpTxQueued (s : State) : State :=
  if s.nfcServing then ((s.setNfp fun p => { p with addTx := true }).nfcTake s.fieldEngine).nfpNext else s
def State.inventoryStart (s : State) : State :=
  if s.nfcServing then (s.setNfp fun p => { p with addInv := true }).nfpNext else s

/-- The range checks of the NFP page (R489), by twin offset. -/
def nfpRange (s : State) : List (Nat × Bool) :=
  let a := s.getTwin .NFP_POLL_CFG_AMAX
  [(0x240, techBad (s.getTwin .NFP_TECH_TECH, s.getTwin .NFP_RATE_RATE)),
   (0x24C, s.getTwin .NFP_FWT_FWT == 0),
   (0x250, s.getTwin .NFP_POLL_CFG_GT == 0 || decide (4 < s.getTwin .NFP_POLL_CFG_BSLOTS)
     || decide (4 < s.getTwin .NFP_POLL_CFG_FSLOTS) || a == 0 || decide (64 < a))]

/-- The safe point of the NFP page (R487). -/
def State.nfpSafePoint (s : State) : Bool := s.nfp.cur.isNone && s.nfp.step.isNone

/-- NFP's page soft reset: its crossings resynchronise (R48), a running NFC_POLL or NFC_TXN task ends, the tag list
empties. -/
def State.nfpSoftReset (s : State) : State :=
  let s := (s.sideReset 0 true).sideReset 1 true
  let s := if s.nfcServing then (s.cutExchange NfcErr.ABORT).fieldEnd (.aborted Cause.BLOCK) else s
  let s := s.setTags (List.replicate 64 Tag.none)
  ((s.put .NFP_STAT_STOPPED 0).put .NFP_ISO4STAT_WTXPEND 0).put .NFP_STAT_PHASE 0

end Sys2Proof.Machine
end

