-- ==== Sys2Proof/Machine/Tasks.lean ====
section
/-! DEFINITION. What a running task's block does when it is asked to stop, and the ends that the scheduler's commands
lead to (R205, R211, R216, R218, R220). -/

namespace Sys2Proof.Machine

/-- The block that runs slot `i`'s task looks at the slot again: at a stopping point the task ends (R205, R216, R218).
The radio stops through its fast path (R412). -/
def State.nudge (s : State) (i : Nat) : State :=
  let t := s.slot i
  if t.st ≠ .running then s
  else match kindResource t.kind with
    | some .field => if s.nfcServing then s.nfpNext else s
    | some .radio => if t.abort then s.radToSleep else if t.kind = Kind.RAD_RX_WIN then s.winNext else s.radNext
    | some .line => s.lineStop
    | some .decoder => s.burstStep
    | none =>
      if t.kind = Kind.USER then match t.stopEnd with
        | some e => s.taskEnds i e
        | none => s
      else s

/-- The running task of slot `i` ends by its block (R211): what the block has under way for it ends with it. -/
def State.blockEnds (s : State) (i : Nat) (e : TaskEnd) : State :=
  match kindResource (s.slot i).kind with
  | some .field => s.fieldEnd e
  | some .radio => s.radEnd e
  | some .line => (if (s.slot i).kind = Kind.LINE_TRAIN then s.lineIdle.trainOver else s.lineIdle).taskEnds i e
  | _ => s.taskEnds i e

/-- TASK_END of slot `i` (R211): its block ends it done or, where the block failed it, ABORTED with cause BLOCK. -/
def State.taskEnd (s : State) (i : Nat) (failed : Bool) : State :=
  if (s.slot i).st = .running then s.blockEnds i (if failed then .aborted Cause.BLOCK else .done) else s

/-- A class-3 task is asked to stop at its next pre-emption point (R216). -/
def State.askStop (s : State) (i : Nat) : State :=
  let t := s.slot i
  if t.st = .running ∧ ¬ kindRunsToEnd t.kind then (s.setSlot i { t with preempt := true }).nudge i else s

/-- TASK_PREEMPTED of slot `i` (R216): the pre-emption point of a task asked to stop. -/
def State.preemptPoint (s : State) (i : Nat) : State := if (s.slot i).preempt then s.nudge i else s

/-- USER_TASK_TIMEOUT of slot `i` (R205): a USER task has run for d. -/
def State.userTimeout (s : State) (i : Nat) : State :=
  let t := s.slot i
  if t.st = .running ∧ t.kind = Kind.USER then
    let ran := (s.schTime + 2 ^ 32 - t.started) % 2 ^ 32
    (s.advanceTo (s.usec + (t.durMs * 1000 - ran))).taskEnds i .done
  else s

/-- ABORT of slot `i` (R218). -/
def State.slotAbort (s : State) (i : Nat) : State :=
  let t := s.slot i
  if s.legacyHolds i then s.slotRefuse i 5
  else if t.st = .running then (s.setSlot i { t with abort := true }).nudge i
  else if t.st.active ∨ t.st = .waiting then (s.setSlot i { t with abort := true }).taskEnds i (.aborted Cause.HOST)
  else s.slotRefuse i 1

/-- SLOT_READY of slot `i` (R209): time reaches its earliest start. -/
def State.slotReady (s : State) (i : Nat) : State :=
  let t := s.slot i
  if t.st = .waiting then
    match t.estart with
    | some e =>
      let wait := (e + 2 ^ 32 - s.schTime) % 2 ^ 32
      let s := if wait < 2 ^ 31 then s.advanceTo (s.usec + wait) else s
      s.readyDue
    | none => if s.slotDue i then s.readyDue else s
  else s

/-- SCH's page soft reset (R220). -/
def State.schSoftReset (s : State) : State :=
  let s := s.forEach slotNumbers fun s i =>
    if (s.slot i).st = .running then s.blockEnds i (.aborted Cause.HOST) else s
  let s := s.forEach slotNumbers fun s i => if (s.slot i).st = .free then s else s.setSlot i Slot.empty
  let s := if s.leg.bound then s.setLeg fun l => { l with cmd := 0x10, todo := none, stop := false } else s
  let s := s.forEach [0, 1] fun s k => s.wr (Adr.SCH_ENDPEND k) 0
  (s.wr Fld.SCH_CNT_MISSED.addr 0).wr Fld.SCH_LAST_START.addr 0

/-- END (R218): a RUNNING USER task ends DONE. -/
def State.slotEnd (s : State) (i : Nat) : State :=
  let t := s.slot i
  if t.st = .running ∧ t.kind = Kind.USER then s.taskEnds i .done else s.slotRefuse i 6

end Sys2Proof.Machine
end

