-- ==== Sys2Proof/Machine/Pass.lean ====
section
/-! DEFINITION. The admission pass (R201, R205 to R216). -/

namespace Sys2Proof.Machine

/-- The pages that a resource needs (R207). -/
def Resource.pages : Resource → List Nat
  | .field => [12, 13]
  | .radio => [15, 16]
  | .line => [14]
  | .decoder => [11]

/-- The island of a resource. -/
def Resource.island : Resource → Nat
  | .field => Island.NFC
  | .radio => Island.MODEM
  | .line => Island.WIRE
  | .decoder => Island.FEC

/-- A resource is blocked (R207). -/
def State.blocked (s : State) (r : Resource) : Bool :=
  r.pages.any (fun p => !s.takesWork p) || s.islandWaits r.island
    || (r == .field && (s.bit .PWR_MODE_TXLOW || s.bit .THM_FLAGS_OT))

/-- A task with TXIN is blocked by over-temperature (R207). -/
def State.txBlocked (s : State) : Bool := s.bit .THM_FLAGS_OT

/-- Two tasks exclude each other by SCH_MUTEX (R206). -/
def State.excludes (s : State) (a b : Slot) : Bool :=
  let ra := kindResource a.kind
  let rb := kindResource b.kind
  let pair (x y : Resource) : Bool := (ra == some x && rb == some y) || (ra == some y && rb == some x)
  (s.bit .SCH_MUTEX_FIELD_RADIO && ((ra == some .field && b.txin) || (rb == some .field && a.txin)))
    || (s.bit .SCH_MUTEX_FIELD_LINE && pair .field .line) || (s.bit .SCH_MUTEX_RADIO_LINE && pair .radio .line)

/-- Why a slot is refused (R213, R225). -/
inductive Refused where
  | bind | damper | blocked | busy | mutex | energy | heat
  deriving DecidableEq, Repr

/-- The REASON code of a refusal (R225). -/
def Refused.code : Refused → Nat
  | .bind => 0 | .energy => 1 | .damper => 2 | .heat => 3 | .busy => 4 | .mutex => 5 | .blocked => 6

/-- The deferred state that a refusal leads to (R213). -/
def Refused.state : Refused → SlotState
  | .damper | .energy => .deferE
  | .heat => .deferH
  | _ => .deferM

/-- The event of an entry into a deferred state (R215). -/
def SlotState.deferEvent : SlotState → Nat
  | .deferE => Ev.SCH_DEFER_E
  | .deferH => Ev.SCH_DEFER_H
  | _ => Ev.SCH_MUTEX_WAIT

/-- Step 1 of R213: NFC_POLL, NFC_TXN and RAD_TX need an enabled engine bound to the task's PHY; another kind names
such an engine or none (R297). -/
def State.engineOk (s : State) (t : Slot) : Bool :=
  let need := t.kind == Kind.NFC_POLL || t.kind == Kind.NFC_TXN || t.kind == Kind.RAD_TX
  if t.engine = 15 then !need else match kindPhy t.kind with
    | some p => s.phyOf t.engine == p && s.enabled (24 + t.engine)
    | none => false

/-- The tasks that the Damper lets in (R152). -/
def State.damperAllows (s : State) (t : Slot) : Bool :=
  t.cls == 0 && decide (s.taskEnergy t ≤ s.get .PWR_DAMP_ALLOW_ALLOW)
    && [Kind.MEAS, Kind.RAD_RX_WIN, Kind.FEC_BURST, Kind.LINE_CYCLE, Kind.USER].contains t.kind

/-- Steps 6 and 7 of R213; LIMIT 0 refuses every task with heat (R195). -/
def State.payable (s : State) (t : Slot) : Option Refused :=
  let resv := s.get ([Fld.PWR_RESV0_RESV, .PWR_RESV1_RESV, .PWR_RESV2_RESV, .PWR_RESV3_RESV].getD t.cls .PWR_RESV3_RESV)
  if s.bankLevel < s.taskEnergy t + resv then some .energy
  else
    let p := s.taskPower t
    let limit := s.get .FLUE_LIMIT_LIMIT
    if p = 0 ∨ (0 < limit ∧ s.get .FLUE_BIAS_BIAS + s.deltaB p (s.taskDur t) ≤ limit) then none else some .heat

/-- The checks of R213 in their order: the first that fails, with the running slots that stand in the way. -/
def State.admission (s : State) (t : Slot) : Option (Refused × List Nat) :=
  if !s.engineOk t then some (.bind, [])
  else if s.bit .PWR_MODE_DAMPER && !s.damperAllows t then some (.damper, [])
  else
    let shut : Bool := match kindResource t.kind with
      | none => false
      | some r => s.blocked r
    if shut || (t.txin && s.txBlocked) then some (.blocked, [])
    else
      let held := s.runningSlots fun u => (kindResource t.kind).isSome && kindResource u.kind == kindResource t.kind
      if !held.isEmpty then some (.busy, held)
      else
        let excl := s.runningSlots fun u => s.excludes t u
        if !excl.isEmpty then some (.mutex, excl)
        else (s.payable t).map fun r => (r, [])

/-- A refused slot enters its deferred state, or stays in it (R213, R215). -/
def State.defer (s : State) (i : Nat) (r : Refused) : State :=
  let t := s.slot i
  let st := r.state
  if t.st = st then s.setSlot i { t with reason := r.code }
  else
    let s := s.setSlot i { t with st := st, reason := r.code, defers := min 0xFF (t.defers + 1) }
    (s.put .SCH_LAST_DEFER i).raise st.deferEvent

/-- A class-0 task refused in step 4 or 5 asks class-3 tasks to stop (R216). -/
def State.preemptFor (s : State) (t : Slot) (inWay : List Nat) : State :=
  if t.cls = 0 ∧ s.bit .SCH_CFG_PREEMPT = true ∧ s.payable t = none then
    s.forEach (inWay.filter fun i => (s.slot i).cls == 3) fun s i => s.askStop i
  else s

/-- The block takes an admitted task (R202). A LINE_CYCLE task of a hub whose line is not ON, and one of the line's
tasks it cannot serve, ends ABORTED with cause BLOCK; its start ends a hold (R389). -/
def State.handToBlock (s : State) (i : Nat) : State :=
  let k := (s.slot i).kind
  if k = Kind.NFC_POLL ∨ k = Kind.NFC_TXN then s.nfpAdmitted
  else if k = Kind.COMET ∨ k = Kind.TUNE_SWEEP then s.fieldRequest
  else if kindResource k = some .radio then s.radAdmitted
  else if k = Kind.LINE_CYCLE then
    if s.hub && s.linePwr != LinePwr.ON then s.taskEnds i (.aborted Cause.BLOCK) else s.put .WIR_STAT_HELD 0
  else if k = Kind.LINE_TRAIN then
    if s.hub && s.linePwr != LinePwr.ON then s.taskEnds i (.aborted Cause.BLOCK) else s.trainOver
  else if k = Kind.FEC_BURST then s.burstStep.fecStart
  else s

/-- Slot `i` becomes RUNNING (R213, R160): its cost is debited and its resource taken. -/
def State.startTask (s : State) (i : Nat) : State :=
  let t := s.slot i
  let s := s.setBank (s.bankLevel - s.taskEnergy t)
  let s := s.setSlot i { t with
    st := .running, started := s.schTime, power := s.taskPower t, durMs := s.taskDur t, defers := 0, long := false,
    preempt := false, abort := false }
  ((s.put .SCH_LAST_START i).raise Ev.SCH_TASK_START).syncIslands

/-- A slot is visited (R213). -/
def State.visit (s : State) (i : Nat) : State :=
  let t := s.slot i
  match s.admission t with
  | none => s.startTask i
  | some (.bind, _) => s.taskEnds i (.aborted Cause.BIND)
  | some (r, inWay) => (s.defer i r).preemptFor t inWay

/-- The deadline of a slot has arrived (R212). -/
def State.deadlineOver (s : State) (t : Slot) : Bool :=
  t.deadline != 0xFFFFFFFF && s.arrived (t.estart.getD 0 + t.deadline)

/-- A slot is a candidate of a pass: READY or deferred. -/
def Slot.candidate (t : Slot) : Bool := t.st == .ready || t.st.deferred

/-- The key of R212's order: class, then µs to the deadline with none as latest. -/
def State.passKey (s : State) (t : Slot) : Nat × Nat :=
  (t.cls, if t.deadline = 0xFFFFFFFF then 2 ^ 32 else (t.estart.getD 0 + t.deadline + 2 ^ 32 - s.schTime) % 2 ^ 32)

/-- A slot put into a list ordered by R212, in front of slots of the same key: lower numbers come first. -/
def insertSlot (key : Nat → Nat × Nat) (i : Nat) : List Nat → List Nat
  | [] => [i]
  | j :: l =>
    let a := key i
    let b := key j
    if b.1 < a.1 ∨ (b.1 = a.1 ∧ b.2 < a.2) then j :: insertSlot key i l else i :: j :: l

/-- The slots that a pass visits, in order (R212). -/
def State.passOrder (s : State) : List Nat :=
  (slotNumbers.filter fun i => (s.slot i).candidate).foldr (insertSlot fun i => s.passKey (s.slot i)) []

/-- The candidates are visited in their order; the tasks that this starts go to their blocks at the end of the pass (R202,
R213). -/
def State.visits (s : State) : State :=
  let l := s.passOrder
  let t := s.forEach l fun s i => if (s.slot i).candidate then s.visit i else s
  let started := l.filter fun i => (t.slot i).st == .running
  t.forEach started fun s i => if (s.slot i).st == .running then s.handToBlock i else s

/-- A pass (R201, R212, R220): overdue slots are MISSED; with SAFE 0 and no hold the others are visited. -/
def State.pass (s : State) : State :=
  let s := { s with sch := { s.sch with passReq := false } }
  if s.enabled 4 then
    let s := s.forEach slotNumbers fun s i =>
      if (s.slot i).candidate && s.deadlineOver (s.slot i) then s.taskEnds i .missed else s
    if s.takesWork 4 then s.visits else s
  else s

/-- A running task's declared duration is over: SCH_CNT.LONG counts it once, as time passes (R204). -/
def State.countLong (s : State) : State :=
  s.forEach slotNumbers fun s i =>
    let t := s.slot i
    if s.ranLong t then (s.sat .SCH_CNT_LONG).setSlot i { t with long := true } else s

/-- The range checks of the SCH page (R222, R223), by twin offset. -/
def schRange (s : State) : List (Nat × Bool) :=
  [(0x248, decide (64 < s.getTwin .SCH_QLOW_LOW))]
    ++ (List.range 12).map fun k => (0x2C0 + 4 * k, s.getTwin (.SCH_COST_H_D k) == 0)

end Sys2Proof.Machine
end

