-- ==== Sys2Proof/Machine/Receive.lean ====
section
/-! DEFINITION. Received frames on their way from a PHY, FEC and SEC to the link engine that judges them (R299, R312,
R351, R381, R384 to R388, R437, R444). -/

namespace Sys2Proof.Machine

/-- A node on the line stops announcing when a legacy acknowledgement of SEQ 0 answers it (R385). -/
def State.announceAnswered (s : State) (f : RxFrame) : State :=
  let h := f.header
  if f.legacy && h.ftype == 1 && h.seq == 0 && f.xing == 3 && !s.hub && h.dst == s.get .SYS_NODE_ID_ID then s.announceEnds
  else s

/-- A frame that passed its checks goes to whom it is meant for: a beacon or an ANNOUNCE to its page, every other frame
to the link engine by way of SEC (R312, R385 to R388, R437, R444). -/
def State.routeFrame (s : State) (f : RxFrame) : State :=
  let t := f.header.ftype
  if t = 2 then
    let s := s.dropRx f.id
    if f.xing = 3 then s.lineBeacon f else s.radioBeacon f
  else if t = 3 then
    let s := s.dropRx f.id
    if f.xing = 3 then s.hubAnnounce f else s.radioHubAnnounce f
  else (s.announceAnswered f).toLink f

/-- A frame that FEC has passed, where there is one, goes on. -/
def State.routeDecoded (r : State × Option RxFrame) : State :=
  match r.2 with
  | none => r.1
  | some f => r.1.routeFrame f

/-- CODEWORD_DECODED (R347, R351): a frame that has passed every step goes on. -/
def State.codewordDecoded (s : State) : State := State.routeDecoded s.decodeFirst

/-- A legacy frame's CRC-16 check in the fabric (R351), then its way on. The beacon of an M1 or M2 window lets a node send
(R372). -/
def State.legacyFrame (s : State) (f : RxFrame) : State :=
  let windowBeacon := f.xing == 3 && f.header.ftype == 2
  if !legacyOk f.bytes then (s.dropRx f.id).legacyFail
  else if windowBeacon then
    let s := s.dropRx f.id
    if s.hub then s else s.setLine fun l => { l with winHeard := true }
  else s.routeFrame f

/-- A legacy frame goes on once the fabric owns its item. -/
def State.legacyArrived (s : State) (f : RxFrame) : State := if f.stage = .link then s.legacyFrame f else s

/-- ITEM_HANDOVER on crossing 3 or 5: the fabric acknowledges the first item handed across (R40). -/
def State.ackReceive (s : State) (n : Nat) : State :=
  match (s.xing n).unacked with
  | [] => s
  | t :: _ =>
    let s := s.ackItem n
    match s.rxFrame t.frame with
    | none => s.freeOwned n t.id
    | some f =>
      if f.stage = .handed then
        let f := { f with stage := .link }
        (s.setRx f).legacyFrame f
      else s.rxTaken n t

/-- The line's receiver runs within a LINE_CYCLE or LINE_TRAIN task, with VDD_LINE there and the island not stopped (R143,
R243, R381). -/
def State.lineHears (s : State) : Bool :=
  s.enabled 14 && s.pwr.lineUp && !s.clk.wireStop && (s.lineServing || s.lineTraining)
    && (!s.hub || s.linePwr == LinePwr.ON)

/-- An M3 frame from the line: its PHR copies and its soft bits, in items for crossing 3 (R333, R388). -/
def State.lineCoded (s : State) (phr llrs : List Int) : State :=
  let r := s.rxBegin 3 3 0 phr 0x80 s.cyc
  match r.1 with
  | none => r.2.2
  | some id =>
    let items := chunk576 llrs (llrs.length / 576 + 1)
    let q := items.zipIdx.foldl (fun (b : Bool × State) t =>
      if b.1 then b.2.rxItem id t.1 (t.2 + 1 == items.length) true else b) (true, r.2.2)
    q.2.raiseIf q.1 Ev.WIR_RX_DONE

/-- An M1 or M2 frame from the line (R372, R388). -/
def State.lineLegacy (s : State) (gen : Nat) (hard : List Bool) : State :=
  let r := s.rxLegacy 3 gen 0 hard 0x80 s.cyc
  match r.1 with
  | none => r.2
  | some f => (r.2.raiseIf (f.header.ftype != 2) Ev.WIR_RX_DONE).legacyArrived f

/-- LINE_FRAME_RECEIVED (R384, R388): a burst with a sync word, `inverse` where it was the inverse one; `cut` where it
was cut short. An upstream burst that a hub has heard to its end leaves the line free (R373). -/
def State.lineReceived (s : State) (gen : Nat) (inverse cut : Bool) (phr llrs : List Int) (hard : List Bool) : State :=
  if s.lineHears then
    let s := if s.hub && gen == 3 then s.setLine fun l => { l with upBusy := false } else s
    let r := s.syncDetected inverse
    if !r.1 then r.2
    else if cut then r.2.lineRxErr
    else if gen = 3 then r.2.lineCoded phr llrs
    else r.2.lineLegacy gen hard
  else s

/-- The last item of a radio frame (R428), a legacy one with its hard bits. -/
def State.radioReceived (s : State) (llrs : List Int) (hard : List Bool) : State :=
  match s.rdm.cap with
  | none => s
  | some c =>
    if c.mode = 0 then
      let r := s.radioLegacy hard
      match r.1 with
      | none => r.2
      | some f => r.2.legacyArrived f
    else s.radioItems llrs true true

/-- The first received frame that waits for its engine, acknowledgements or other frames; a page that holds at its safe
point takes none (R80). -/
def State.linkFront (s : State) (ack : Bool) : Option RxFrame :=
  s.rx.find? fun f => f.stage == .link && (f.header.ftype == 1) == ack
    && !(s.boundEngine (xingPhy f.xing) f.gen).any fun n => s.pageHeld (24 + n)

/-- What the radio learns of a frame from the engine's judgement (R405, R408): an acknowledgement due, acceptance. -/
def State.tellRadio (s before : State) (n : Nat) (f : RxFrame) : State :=
  if f.xing = 5 then
    let h := f.header
    let due := !h.noack && !h.bcast && s.forUs h && (s.owedBy n).contains h.src
    let grew := (before.xing (rxQ n)).unacked.length < (s.xing (rxQ n)).unacked.length
    s.radVerdict f.id (if due && h.ftype == 0 then some (n, h.src) else none) grew
  else s

/-- LINK_FRAME_RECEIVED and ACK_RECEIVED (R299, R311, R312): the engine bound to the frame's PHY and generation judges
it. -/
def State.linkJudges (s : State) (ack : Bool) : State :=
  match s.linkFront ack with
  | none => s
  | some f =>
    match s.boundEngine (xingPhy f.xing) f.gen with
    | none => s.dropRxFrame 2 f
    | some n => (if ack then s.judgeAck n f else s.judgeFrame n f).tellRadio s n f

end Sys2Proof.Machine
end

