-- ==== Sys2Proof/Machine/Forced.lean ====
section
/-! DEFINITION. What the supplies, over-temperature and the XO force on the blocks, and the return from it: the Damper
(R151 to R156), VDD_TX (R144), the over-temperature trip (R180, R181), XO failure (R232 to R240), Ember (R145, R146). -/

namespace Sys2Proof.Machine

/-! ### The Damper (R151 to R156) -/

/-- The Damper engages (R152, R153): the field ramps down, a radio transmission is cut, the line transmitter goes idle,
the FEC divider takes /16, the heater pauses. -/
def State.damperOn (s : State) : State :=
  if s.bit .PWR_MODE_DAMPER then s
  else (((s.put .PWR_MODE_DAMPER 1).fieldDamper.radDamper).lineIdle.fecDamp).syncHeater

/-- The Damper's release (R155): PWR_RECOVER, the FEC ramp, the heater, and a pass. -/
def State.damperOff (s : State) : State :=
  ((((s.put .PWR_MODE_DAMPER 0).raise Ev.PWR_RECOVER).fecUndamp).syncHeater.lineNext).requestPass

/-- VWARN_CROSSING with VDD_MAIN in mV (R151, R156): a supply-caused engagement; PWR_WARN and the count only where the
Damper was not engaged. -/
def State.vwarnCross (before : State) (mv : Nat) : State :=
  let s := before.mainAt mv
  if s.vwarn ≤ mv then s
  else if s.pwr.supplyEng then
    { s.put .PWR_MODE_DWELL 0 with pwr := { s.pwr with minV := min s.pwr.minV mv } }
  else
    let s := { s with pwr := { s.pwr with supplyEng := true, minV := mv, dipUs := s.usec } }
    let s := if s.bit .PWR_MODE_DAMPER then s else (s.sat .PWR_DIP_COUNT_COUNT).raise Ev.PWR_WARN
    s.damperOn

/-- DWELL_START with VDD_MAIN in mV (R155): at VWARN + 60 mV the dwell starts from zero; a fall below it stops it. -/
def State.dwellStart (before : State) (mv : Nat) : State :=
  let s := before.mainAt mv
  if s.pwr.supplyEng then
    let s := { s with pwr := { s.pwr with minV := min s.pwr.minV mv } }
    let was := s.bit .PWR_MODE_DWELL
    let s := s.putBit .PWR_MODE_DWELL (decide (s.vwarn + 60 ≤ mv))
    if was then s else { s with pwr := { s.pwr with dwellUs := s.usec } }
  else s

/-- What an application of the PWR page does to the VWARN comparator (R151): where LVL changed it judges VDD_MAIN against
the new VWARN at once (log entry 59). -/
def State.warnApplied (s old : State) : State :=
  if s.get .PWR_WARN_LVL_LVL = old.get .PWR_WARN_LVL_LVL then s
  else if s.pwr.supplyEng then s.dwellStart s.pwr.mainMv
  else s.vwarnCross s.pwr.mainMv

/-- DAMPER_DWELL_COMPLETE (R155, R167): the dwell's end, (DWELL + 1) × 0.25 ms after its start. -/
def State.dwellDone (s : State) : State :=
  if s.pwr.supplyEng && s.bit .PWR_MODE_DWELL then
    let s := s.advanceTo (s.pwr.dwellUs + 250 * (s.get .PWR_DAMP_DWELL_DWELL + 1))
    let s := (s.put .PWR_LASTDIP_MINV (min s.pwr.minV 0xFFF)).put .PWR_LASTDIP_DUR (min ((s.usec - s.pwr.dipUs) / 250) 0xFFFF)
    let s := { s.put .PWR_MODE_DWELL 0 with pwr := { s.pwr with supplyEng := false } }
    if s.bit .PWR_MODE_FORCED then s else s.damperOff
  else s

/-- FORCE_DAMPER (R156). -/
def State.forceDamper (s : State) : State := (s.put .PWR_MODE_FORCED 1).damperOn

/-- RELEASE_DAMPER (R156): honoured with no supply-caused engagement outstanding; FORCED clears in any case. -/
def State.releaseDamper (s : State) : State :=
  if s.bit .PWR_MODE_FORCED then
    let s := s.put .PWR_MODE_FORCED 0
    if s.pwr.supplyEng then s else s.damperOff
  else s

/-- PWR_DAMP_CTRL.CLRCNT (R170). -/
def State.dipClear (s : State) : State := (s.wr Adr.PWR_DIP_COUNT 0).wr Adr.PWR_LASTDIP 0

/-! ### VDD_TX (R144, R463) -/

/-- TXSUP_LOW. -/
def State.txsupLow (s : State) : State :=
  if s.bit .PWR_MODE_TXLOW then s else ((s.put .PWR_MODE_TXLOW 1).raise Ev.PWR_TXSUP_LOW).forceField Cause.BLOCK

/-- TXSUP_RECOVER. -/
def State.txsupRecover (s : State) : State := (s.put .PWR_MODE_TXLOW 0).syncForced

/-! ### Hard over-temperature (R180, R181) -/

/-- The trip, without the reset of OTRESET: only from OT 0. -/
def State.overtemp (s : State) : State :=
  if s.bit .THM_FLAGS_OT then s
  else
    let s := (((s.put .THM_FLAGS_OT 1).sat .THM_OTCOUNT_COUNT).syncHeater).put .THM_HEAT_EN 0
    ((s.raise Ev.THM_OVERTEMP).radOvertemp).forceField Cause.OVERTEMP

/-- OT clears at the first periodic sample with TEMP below 115.00 °C (R181). -/
def State.overtempClears (s : State) : State :=
  if s.bit .THM_FLAGS_OT && decide (s.getS .THM_TEMP_TEMP < 1840) then
    (((s.put .THM_FLAGS_OT 0).raise Ev.THM_OVERTEMP).syncForced).syncHeater
  else s

/-- TEMP_SAMPLE_COMPLETE with the temperature in 1/16 °C (R174, R181). -/
def State.tempDone (s : State) (t : Int) : State :=
  if s.thm.sampling then
    let s := { s with thm := { s.thm with sampling := false } }
    let s := (s.putS .THM_TEMP_TEMP t).overtempClears
    let s := s.takeSample t
    let s := s.forEach (List.range 4) fun s c => s.stepComparator c
    let s := (s.flueUpdate).ainPeriodic.calCompare
    s.raiseIf (s.bit .THM_CFG_SAMPLEEVT) Ev.THM_SAMPLE
  else s

/-! ### The XO (R232 to R240) -/

/-- Islands that wait for the XO run once it is good (R232). -/
def State.startIslands (s : State) : State :=
  s.forEach [Island.NFC, Island.MODEM, Island.WIRE] fun s i =>
    if s.get (.gate i) = Gate.STARTING then s.put (.gate i) Gate.RUN else s

/-- The crossings of an island (R41). -/
def islandXings (i : Nat) : List Nat :=
  if i = Island.NFC then [0, 1] else if i = Island.MODEM then [4, 5] else [2, 3]

/-- The XO is judged good (R234, R238): CLK_XO_OK; islands in WAIT restart with a side reset of their crossings, and
the forced states end with CLK_ISL_RESUME. -/
def State.xoOk (s : State) : State :=
  let s := (s.put .CLK_STAT_XO 2).raise Ev.CLK_XO_OK
  let s := s.startIslands
  if s.clk.xoForced then
    let waited := [Island.NFC, Island.MODEM, Island.WIRE].any s.islandWaits
    let s := s.forEach [Island.NFC, Island.MODEM, Island.WIRE] fun s i =>
      if s.islandWaits i then
        (s.forEach (islandXings i) fun s n => s.sideReset n true).put (.gate i) Gate.RUN
      else s
    let s := ({ s with clk := { s.clk with xoForced := false } } : State).raiseIf waited Ev.CLK_ISL_RESUME
    (s.syncForced).syncIslands.lineNext
  else s

/-- The islands whose source is the XO at its failure (R228, R237): the wire island in hub role. -/
def State.xoIslands (s : State) : List Nat := [Island.NFC, Island.MODEM] ++ (if s.hub then [Island.WIRE] else [])

/-- CLK_FAILPOL of an island: RESET (R239). -/
def State.failResets (s : State) : Bool :=
  s.bit .CLK_FAILPOL_NFC || s.bit .CLK_FAILPOL_MDM || (s.hub && s.bit .CLK_FAILPOL_WIR)

/-- The XO is judged failed (R235 to R238, R240): the forced states, CLK_XO_FAIL and its count; islands that run enter
WAIT with CLK_ISL_WAIT, tasks on them end with cause CLOCK. A node's wire island on XO/8 goes to the HFRC; a switch from
XO/8 that is under way completes as begun. -/
def State.xoFail (s : State) : State :=
  let onXo := s.get .CLK_STAT_WSRC == 2 && !s.hub
  let s := ({ s.put .CLK_STAT_XO 3 with clk := { s.clk with xoForced := true, xoBad := 0 } }).raise Ev.CLK_XO_FAIL
  let s := s.sat .CLK_FAILCNT_XO
  let waits := s.xoIslands.filter fun i => s.get (.gate i) != Gate.GATED
  let s := s.forEach waits fun s i => s.put (.gate i) Gate.WAIT
  let s := s.raiseIf (!waits.isEmpty) Ev.CLK_ISL_WAIT
  let s := (s.radClock).forceField Cause.CLOCK
  let s := if s.hub || onXo then
      (s.lineAbandon).lineTasksEnd (.aborted Cause.CLOCK) else s
  if onXo && !s.clk.wireStop then s.requestWire 3 else s

/-- XO_WINDOW_END with the window's count (R233, R234, R236): the new state, and whether the XO has failed. -/
def State.xoWindow (s : State) (n : Nat) : Bool × State :=
  if s.get .CLK_STAT_XO = 0 then (false, s)
  else
    let s := s.countWindow n
    if s.xoGood then (if 2 ≤ s.clk.xoBad then (true, s.xoFail) else (false, s))
    else if s.xoJudgedGood then (false, s.xoOk) else (false, s)

/-- XO_START_TIMEOUT (R235): the new state, and whether the XO has failed. -/
def State.xoTimeout (s : State) : Bool × State :=
  if s.get .CLK_STAT_XO = 1 then (true, s.xoFail) else (false, s)

/-- XO_START, XO_STOP (R231). -/
def State.xoKeep (s : State) (on : Bool) : State := (s.putBit .CLK_XO_CTRL_KEEP on).syncXo

/-- An M1 or M2 frame of this part is on the line: no switch point before its end (R242). -/
def State.legacySending (s : State) : Bool :=
  s.line.sending.any fun id => (s.txFrame id).any fun f => f.gen != 3

/-- The switch point of the wire island (R242, R243): it stops, what is on the line is a zero level. -/
def State.wireSwitch (s : State) : State :=
  match s.clk.wireReq with
  | some src =>
    if s.clk.wireStop || s.legacySending then s
    else
      { s with clk := { s.clk with wireReq := none, wireStop := true, wireTo := src, voidSlot := s.get .WIR_STAT_WIN == 3 } }
  | none => s

/-- The forced idle of R240 ends with the switch: the restart itself is `wireRestart`. -/
def State.wireRuns (s : State) : State := if s.clk.wireStop then s.wireRestart else s

/-- The void symbol slot ends (R243). -/
def State.voidEnd (s : State) : State :=
  if s.clk.voidSlot && !s.clk.wireStop then ({ s with clk := { s.clk with voidSlot := false } } : State).lineNext else s

/-! ### Ember (R145, R146) -/

/-- The entry conditions of R145, no host transaction being open between commands. -/
def State.emberReady (s : State) : Bool :=
  s.bit .PWR_EMBER_REQ && s.pwr.phase == .up && !s.pwr.wakeHigh
    && s.sch.slots.all (fun t => (t.st != .ready && t.st != .running) || t.kind == Kind.COMET)
    && [Island.NFC, Island.MODEM, Island.WIRE, Island.FEC].all (fun i => s.get (.gate i) == Gate.GATED)

/-- The count of R145 at an orbit. -/
def State.emberOrbit (s : State) : State :=
  let n := if s.pwr.emberBroken then 0 else s.pwr.emberCount
  { s with pwr := { s.pwr with emberBroken := false, emberCount := if s.emberReady then n + 1 else 0 } }

/-- EMBER_ENTRY (R145). -/
def State.emberEnter (s : State) : State :=
  if s.emberReady && !s.pwr.emberBroken && decide (s.get .PWR_EMBER_HOLDOFF < s.pwr.emberCount) then
    { s with pwr := { s.pwr with phase := .ember } }
  else s

/-- FABRIC_AWAKE (R146). -/
def State.fabricAwake (s : State) : State :=
  if s.pwr.phase = .waking then { s with pwr := { s.pwr with phase := .up } } else s

end Sys2Proof.Machine
end

