-- ==== Sys2Proof/Machine/Gpi.lean ====
section
/-! DEFINITION. Buttons, the knob, plugs and event pulses: page GPI (R522 to R539). -/

namespace Sys2Proof.Machine

/-! Modes of GPI_CFGn.MODE (R522). -/
def GpMode.OFF : Nat := 0
def GpMode.BUTTON : Nat := 1
def GpMode.PLUG : Nat := 2
def GpMode.OUT : Nat := 3

/-- Pins 0 to 11. -/
def gpPins : List Nat := List.range 12

/-- Pin `n`'s watch. -/
def State.gp (s : State) (n : Nat) : GpPin := s.gpi.pins.getD n GpPin.reset

/-- Pin `n`'s watch changed. -/
def State.setGp (s : State) (n : Nat) (f : GpPin → GpPin) : State :=
  { s with gpi := { s.gpi with pins := s.gpi.pins.set n (f (s.gp n)) } }

/-- GP0 and GP1 are knob inputs with GPI_KNOB.EN at 1 (R522). -/
def State.knobPin (s : State) (n : Nat) : Bool := s.bit .GPI_KNOB_EN && decide (n < 2)

/-- The mode that pin `n` acts in: the knob inputs have none (R522). -/
def State.gpMode (s : State) (n : Nat) : Nat := if s.knobPin n then GpMode.OFF else s.get (.GPI_CFG_MODE n)

/-- The GPI page watches its pins: EN 1 and VDD_IO present (R522, R533). -/
def State.gpiWatches (s : State) : Bool := s.up && s.enabled 0x11 && s.pwr.ioUp

/-- The debounced state of pin `n`, true active (R524). -/
def State.gpActive (s : State) (n : Nat) : Bool := s.bitAt .GPI_LEVEL_DEB n

/-- The orbit of the present moment, in µs. -/
def State.orbitUs (s : State) : Nat := s.usec / 1000 * 1000

/-- What pin `n` drives (R143, R522, R532): an OUT pin its active level while GPI_OUT or a pulse holds it, else its
inactive level; open-drain releases the pin for a high level. -/
def State.gpDrive (s : State) (n : Nat) : PinDrive :=
  if s.gpiWatches && s.gpMode n == GpMode.OUT then
    let active := s.bitAt .GPI_OUT_ACT n || (s.gp n).pulse.isSome
    if active == s.bit (.GPI_CFG_POL n) then (if s.bit (.GPI_CFG_DRV n) then .highZ else .high) else .low
  else .highZ

/-- The pull on pin `n`: 0 none, 1 up, 2 down (R522). -/
def State.gpPull (s : State) (n : Nat) : Nat := if s.gpiWatches then s.get (.GPI_CFG_PULL n) else 0

/-- The samples of one orbit (R523): RAW of every BUTTON and PLUG pin, and the debounce count of each. `pins` holds the
levels at the pads. -/
def State.gpiSample (s : State) (pins : Nat) : State :=
  if s.gpiWatches then
    s.forEach gpPins fun s n =>
      let high := pins / 2 ^ n % 2 == 1
      let s := s.setGp n fun p => { p with level := high }
      if s.gpMode n = GpMode.BUTTON ∨ s.gpMode n = GpMode.PLUG then
        let s := s.setBitAt .GPI_LEVEL_RAW n high
        let active := high == s.bit (.GPI_CFG_POL n)
        s.setGp n fun p => { p with count := if active = s.gpActive n then 0 else min 64 (p.count + 1) }
      else s
  else s

/-- D of pin `n` in orbits (R523). -/
def State.gpDebounce (s : State) (n : Nat) : Nat :=
  s.get (if s.gpMode n = GpMode.PLUG then .GPI_DEB_PLUG else .GPI_DEB_BTN) + 1

/-- Pin `n` owes a change of its debounced state (R523). -/
def State.debounceDue (s : State) (n : Nat) : Bool :=
  (s.gpMode n == GpMode.BUTTON || s.gpMode n == GpMode.PLUG) && decide (s.gpDebounce n ≤ (s.gp n).count)

/-- The present moment is an orbit whose work is done (R534). -/
def State.gpiSafe (s : State) : Bool :=
  s.cyc == cycleAt (s.sch.orbit * 1000) && gpPins.all fun n => !s.debounceDue n

/-- A change of PLUG pin `n` (R531). -/
def State.plugChanged (s : State) (n : Nat) : State :=
  (s.setBitAt .GPI_PLUGCHG_CHG n true).raise Ev.GPI_PLUG_CHANGE

/-- GPI_PINn as EDGE selects (R524). -/
def State.buttonEdge (s : State) (n : Nat) (pressed : Bool) : State :=
  let e := s.get (.GPI_CFG_EDGE n)
  s.raiseIf (e == 2 || (e == 0 && pressed) || (e == 1 && !pressed)) (Ev.GPI_PIN n)

/-- DEBOUNCE_CHANGE of pin `n` (R523, R524, R528, R531): D consecutive samples have differed from its state. -/
def State.debounceChange (s : State) (n : Nat) : State :=
  if s.gpiWatches && s.debounceDue n then
    let active := !s.gpActive n
    let s := s.setBitAt .GPI_LEVEL_DEB n active
    let now := s.orbitUs
    let s := s.setGp n fun p =>
      { p with count := 0, press := if active && s.gpMode n == GpMode.BUTTON then some now else none, longed := false,
               lastRpt := none }
    if s.gpMode n = GpMode.PLUG then s.plugChanged n else s.buttonEdge n active
  else s

/-- LONG_PRESS of pin `n` (R526): raised once per press, at the orbit LONG × 100 ms after it. A release that this orbit's
samples have decided comes first and cancels it (R525, R528). -/
def State.longPress (s : State) (n : Nat) : State :=
  match (s.gp n).press with
  | none => s
  | some t =>
    if s.gpiWatches && s.bit (.GPI_CFG_LONGEN n) && !(s.gp n).longed && !s.debounceDue n then
      let s := s.advanceTo (t + s.get .GPI_LONG_LONG * 100000)
      let s := s.setGp n fun p => { p with longed := true }
      (s.setBitAt .GPI_EVPIN_LONG n true).raise Ev.GPI_LONG_PRESS
    else s

/-- AUTO_REPEAT of pin `n` (R527): RDLY × 10 ms after the press, then every RIVL × 10 ms; a release comes first (R528). -/
def State.autoRepeat (s : State) (n : Nat) : State :=
  match (s.gp n).press with
  | none => s
  | some t =>
    if s.gpiWatches && s.bit (.GPI_CFG_RPTEN n) && !s.debounceDue n then
      let at_ := match (s.gp n).lastRpt with
        | none => t + s.get .GPI_LONG_RDLY * 10000
        | some l => l + s.get .GPI_LONG_RIVL * 10000
      let s := s.advanceTo at_
      let s := s.setGp n fun p => { p with lastRpt := some at_ }
      (s.setBitAt .GPI_EVPIN_RPT n true).raise Ev.GPI_REPEAT
    else s

/-! ### The knob (R529, R530) -/

/-- A state's place in the order 00, 10, 11, 01. -/
def knobPlace : Bool × Bool → Nat
  | (false, false) => 0
  | (true, false) => 1
  | (true, true) => 2
  | (false, true) => 3

/-- The sign of a transition with DIR 0: `none` where both bits change, `some 0` where neither does. -/
def knobSign (a b : Bool × Bool) : Option Int :=
  match (knobPlace b + 4 - knobPlace a) % 4 with
  | 0 => some 0
  | 1 => some 1
  | 3 => some (-1)
  | _ => none

/-- SUB as a number (R536). -/
def State.knobSub (s : State) : Int :=
  let v := s.get .GPI_KNOBCNT_SUB
  if v < 8 then v else (v : Int) - 16

/-- SUB set. -/
def State.setKnobSub (s : State) (v : Int) : State := s.put .GPI_KNOBCNT_SUB (v % 16).toNat

/-- One step of a sign (R530). -/
def State.knobStep (s : State) (sign : Int) : State :=
  let s := s.put .GPI_KNOBCNT_COUNT (((s.get .GPI_KNOBCNT_COUNT : Int) + sign) % 65536).toNat
  (s.putBit .GPI_KNOBCNT_LASTDIR (decide (sign < 0))).raise Ev.GPI_KNOB_STEP

/-- KNOB_STATE_TAKEN (R529, R530): the pair (A, B) is taken. -/
def State.knobTaken (s : State) (a b : Bool) : State :=
  if s.gpiWatches && s.bit .GPI_KNOB_EN then
    let new := (a, b)
    match s.gpi.knob with
    | none => { s with gpi := { s.gpi with knob := some new } }
    | some old =>
      let s := { s with gpi := { s.gpi with knob := some new } }
      match knobSign old new with
      | none => (s.sat .GPI_KNOBCNT_ERR).setKnobSub 0
      | some 0 => s
      | some g =>
        let sign := if s.bit .GPI_KNOB_DIR then -g else g
        if s.bit .GPI_KNOB_X4 then s.knobStep sign
        else
          let sub := s.knobSub + sign
          let detent := s.bit .GPI_KNOB_DETENT
          if new = (detent, detent) then
            let s := s.setKnobSub 0
            if sub = 4 then s.knobStep 1 else if sub = -4 then s.knobStep (-1) else s
          else s.setKnobSub sub
  else s

/-- KNOB_CLEAR (R530, R539). -/
def State.knobClear (s : State) : State := s.put .GPI_KNOBCNT_COUNT 0

/-! ### Event pulses (R532) -/

/-- GP_PULSE of pin `n`: a pulse starts, or starts over, on an OUT pin; NOPULSE otherwise. -/
def State.gpPulse (s : State) (n : Nat) : State :=
  if s.gpMode n = GpMode.OUT then
    if s.gpiWatches && s.takesWork 0x11 then
      let ms := s.get (.GPI_CFG_PW n) * (if s.bit (.GPI_CFG_UNIT n) then 100 else 1)
      s.setGp n fun p => { p with pulse := some ((s.usec / 1000 + 1 + ms) * 1000) }
    else s
  else s.put .GPI_PLUGCHG_NOPULSE 1

/-- PULSE_END of pin `n`. -/
def State.pulseEnd (s : State) (n : Nat) : State :=
  match (s.gp n).pulse with
  | none => s
  | some t => (s.advanceTo t).setGp n fun p => { p with pulse := none }

/-! ### VDD_IO (R143, R533) and applications (R534) -/

/-- Pin `n` adopts its raw level as its debounced state, without events; its pending long press and repeat are
cancelled (R533). -/
def State.adopt (s : State) (n : Nat) : State :=
  let high := (s.gp n).level
  let s := s.setGp n fun p => { p with count := 0, press := none, longed := false, lastRpt := none }
  if s.gpMode n = GpMode.BUTTON ∨ s.gpMode n = GpMode.PLUG then
    (s.setBitAt .GPI_LEVEL_RAW n high).setBitAt .GPI_LEVEL_DEB n (high == s.bit (.GPI_CFG_POL n))
  else s

/-- VDD_IO_LOSS (R143): no GP pin is driven or sampled. In reset the part takes note of the supply as well. -/
def State.ioLoss (s : State) : State := { s with pwr := { s.pwr with ioUp := false } }

/-- VDD_IO_RETURN (R533). The knob's inputs adopt their levels without a step as well. -/
def State.ioReturn (s : State) (pins : Nat) : State :=
  let s := { s with pwr := { s.pwr with ioUp := true } }
  let s := s.whenB (s.gpiWatches && s.bit .GPI_KNOB_EN) fun s =>
    { s with gpi := { s.gpi with knob := some (pins % 2 == 1, pins / 2 % 2 == 1) } }
  if s.gpiWatches then
    s.forEach gpPins fun s n =>
      let was := s.gpActive n
      let s := s.setGp n fun p => { p with level := pins / 2 ^ n % 2 == 1, pulse := none }
      let s := s.adopt n
      s.whenB (s.gpMode n == GpMode.PLUG && s.gpActive n != was) fun s => s.plugChanged n
  else s

/-- An application of the GPI page has changed its set from that of `old` (R534): pins whose mode, polarity, pull or
debounce value changes adopt their level; a pulse ends with its pin's mode (log entry 50); a change of GPI_KNOB re-adopts the
knob's state. -/
def State.gpiApplied (s old : State) : State :=
  let s := s.forEach gpPins fun s n =>
    let changed (f : Fld) : Bool := s.get f != old.get f
    let s := s.whenB (changed (.GPI_CFG_MODE n)) fun s => s.setGp n fun p => { p with pulse := none }
    if changed (.GPI_CFG_MODE n) || changed (.GPI_CFG_POL n) || changed (.GPI_CFG_PULL n)
        || (s.gpMode n == GpMode.BUTTON && changed .GPI_DEB_BTN) || (s.gpMode n == GpMode.PLUG && changed .GPI_DEB_PLUG)
        || s.knobPin n != old.knobPin n then
      s.adopt n
    else s
  if s.rd Fld.GPI_KNOB_EN.addr = old.rd Fld.GPI_KNOB_EN.addr then s
  else ({ s with gpi := { s.gpi with knob := none } } : State).setKnobSub 0

/-- The range checks of the GPI page (R537, R538), by twin offset. -/
def gpiRange (s : State) : List (Nat × Bool) :=
  let l := s.getTwin .GPI_LONG_LONG
  gpPins.map (fun n =>
    let m := s.getTwin (.GPI_CFG_MODE n)
    (0x240 + 4 * n, decide (3 < m) || s.getTwin (.GPI_CFG_PULL n) == 3
      || (m == GpMode.OUT && s.getTwin (.GPI_CFG_PW n) == 0)))
  ++ [(0x278, decide (l < 5) || decide (80 < l) || s.getTwin .GPI_LONG_RDLY == 0 || s.getTwin .GPI_LONG_RIVL == 0)]

/-- GPI's page soft reset (R88), and EN 0: its timers, pulses and knob state; the pins' levels are kept (log entry 50). -/
def State.gpiSoftReset (s : State) : State :=
  let s := s.forEach gpPins fun s n => s.setGp n fun p => { GpPin.reset with level := p.level }
  ({ s with gpi := { s.gpi with knob := none } } : State).setKnobSub 0

end Sys2Proof.Machine
end

