-- ==== Sys2Proof/Machine/Legacy.lean ====
section
/-! DEFINITION. The Narurdin 3 legacy view: its binding of LE7 and slot 63, its commands, its FIFO and its registers
(R124 to R128). The registers that map to staged fields are written in HostIf.lean. -/

namespace Sys2Proof.Machine

/-- The legacy view is selected (R135). -/
def State.legacyView (s : State) : Bool := s.bit .HIF_VIEW_VIEW

/-- A legacy task stands in slot 63 and has not ended (R126); one that was in the slot before is being aborted (R125). -/
def State.legacyBusy (s : State) : Bool := s.legacyHolds 63 && !(s.slot 63).abort && ((s.slot 63).st.active || (s.slot 63).st == .waiting)

/-- The legacy task's end in the legacy view's own state: L_CMD reads idle again. -/
def State.legacyIdle (s : State) : State :=
  (s.setLeg fun l => { l with cmd := 0x10, todo := none, stop := false }).legFlag LFlag.IDLE

/-! ### Entering, and the end of the binding (R125) -/

/-- The legacy view is entered: LE7 is soft-reset and bound, the task of slot 63 is ended and the slot reserved. -/
def State.legacyEnter (s : State) : State :=
  let s := s.engineSoftReset 7
  let t := s.slot 63
  let s := if t.st = .running then (s.setSlot 63 { t with abort := true }).nudge 63
    else if t.st.active ∨ t.st = .waiting then s.taskEnds 63 (.aborted Cause.HOST) else s
  let s := if (s.slot 63).st = .running ∨ (s.slot 63).st = .free then s else s.setSlot 63 Slot.empty
  s.setLeg fun l => { l with bound := true, cmd := 0x10, todo := none, stop := false }

/-- The legacy binding ends with a native SRST of LE7: a legacy task ends ABORTED, slot 63 becomes FREE. -/
def State.legacyUnbind (s : State) : State :=
  if s.leg.bound then
    let s := if (s.slot 63).st = .running then s.blockEnds 63 (.aborted Cause.HOST)
      else if s.legacyBusy then s.taskEnds 63 (.aborted Cause.HOST) else s
    let s := if (s.slot 63).st = .free then s else s.setSlot 63 Slot.empty
    s.setLeg fun l => { l with bound := false, cmd := 0x10, todo := none, stop := false }
  else s

/-- HIF_VIEW changes: the view holds from the next transaction, and entering the legacy view binds LE7 (R125, R135). -/
def State.setView (s : State) (legacy : Bool) : State :=
  let was := s.legacyView
  let s := s.putBit .HIF_VIEW_VIEW legacy
  if legacy && !was then s.legacyEnter else s

/-! ### Commands (R126, R127) -/

/-- The descriptor of a legacy command's task (R126). -/
def legacySlot (c : Nat) : Slot :=
  let poll := c == 0x40 || c == 0x41
  let kind := if poll then Kind.NFC_POLL else Kind.NFC_TXN
  let param := if c = 0x40 then 1 * 2 ^ 28 else if c = 0x41 then 4 * 2 ^ 28 else if c = 0x30 then 0xFFFF else 2 ^ 24
  { Slot.empty with
    st := .waiting
    words := [BitVec.ofNat 32 (kind * 2 ^ 28 + 7 * 2 ^ 24 + 2 ^ 16 + 2 ^ 12), 0, 0xFFFFFFFF, 0, 0, 0, BitVec.ofNat 32 param] }

/-- A command that is not accepted sets L_ERR.CMD. -/
def State.legacyRefuse (s : State) : State := s.legErr 7

/-- A command starts as a task in slot 63; L_ERR clears. -/
def State.legacyBegin (s : State) (c : Nat) : State :=
  let s := s.setLeg fun l => { l with cmd := c, todo := if c = 0x30 then none else some c, stop := false, err := 0 }
  (s.setSlot 63 { legacySlot c with estart := some s.schTime }).makeReady 63

/-- 0x10 IDLE and 0x31 FIELD_OFF end the legacy task: at once before it runs, else after its present frame, a FIELD_ON
task after its present command; a command that waits behind that one is not carried out. -/
def State.legacyStop (s : State) : State :=
  if !s.legacyBusy then s
  else if (s.slot 63).st = .running then
    if s.legacyFieldOn then
      let under := s.nfp.cur.isSome || s.nfp.step.isSome
      (s.setLeg fun l => { l with stop := true, todo := if under then none else l.todo }).nudge 63
    else
      let t := s.setLeg fun l => { l with stop := true, todo := none }
      if s.nfp.cur.any fun x => x.stage == .sending then t else t.legacyDone
  else (s.taskEnds 63 (.aborted Cause.HOST)).legacyIdle

/-- A code written to L_CMD (R126, R127). Within a FIELD_ON task commands are carried out one at a time; one may wait, and
0x30 itself does nothing (log entry 64). A task that is to stop takes none. -/
def State.legacyCmd (s : State) (c : Nat) : State :=
  if c = 0x10 ∨ c = 0x31 then s.legacyStop
  else if [0x21, 0x22, 0x23, 0x30, 0x40, 0x41].contains c then
    if !s.leg.bound then s
    else if s.legacyBusy then
      if s.legacyFieldOn then
        if c = 0x30 then s
        else if s.leg.todo.isSome || s.leg.stop then s.legacyRefuse
        else (s.setLeg fun l => { l with todo := some c }).nfpNext
      else s.legacyRefuse
    else if (s.slot 63).st = .running then s.legacyRefuse
    else s.legacyBegin c
  else s.legacyRefuse

/-! ### FIFO and the view's own registers (R127, R128) -/

/-- A byte written to L_FIFO: the 65th is ignored, with BUFOVF and HIF_OVERRUN. -/
def State.legacyFifoPush (s : State) (b : Byte) : State :=
  if s.leg.txf.length < 64 then s.setLeg fun l => { l with txf := l.txf ++ [b] }
  else ((s.legErr 5).sat .HIF_CNT_OVR).raise Ev.HIF_OVERRUN

/-- A byte read from L_FIFO: the next received one. Where none is left no value is stated (a free value). -/
def State.legacyFifoPop (s : State) : Byte × State :=
  match s.leg.rxf with
  | [] => let f := s.freshBelow 256; (BitVec.ofNat 8 f.1, f.2)
  | b :: r =>
    let s := s.setLeg fun l => { l with rxf := r }
    (b, if r.isEmpty then (s.giveCells s.leg.cells).setLeg fun l => { l with cells := [] } else s)

/-- Writing 1 to L_FIFOLVL[7] empties the FIFO. -/
def State.legacyFlush (s : State) : State :=
  (s.giveCells s.leg.cells).setLeg fun l => { l with txf := [], rxf := [], cells := [] }

/-- L_ERR as it reads: DEFER while the legacy task waits for admission (R125). -/
def State.legacyErrByte (s : State) : Nat :=
  s.leg.err ||| (if s.legacyHolds 63 && (s.slot 63).st.deferred then 64 else 0)

/-- A byte read in the legacy view (R127). An address that the table does not name reads its fixed Narurdin 3 reset value,
which the manual does not give (a free value of the address). -/
def State.legacyReadByte (s : State) (a : Nat) : Byte × State :=
  if a = 0x06 then s.legacyFifoPop
  else
    let v : Option Nat :=
      if a = 0x00 then some 0x3A else if a = 0x01 then some s.leg.cmd else if a = 0x02 then some s.leg.ien
      else if a = 0x03 then some s.leg.flags else if a = 0x04 then some s.legacyErrByte
      else if a = 0x05 then some (min 255 s.leg.rxf.length) else if a = 0x07 then some s.leg.collpos
      else if a = 0x08 then some s.leg.lastbits else if a = 0x10 then some (s.get .NFP_TECH_TECH)
      else if a = 0x11 then some (s.get .NFP_RATE_RATE) else if a = 0x12 then some (s.get .NFC_DRV_LVL_LVL)
      else if a = 0x13 then some (s.get .NFC_MODIDX_IDX) else if a = 0x14 then some (s.get .NFP_FWT_FWT / 256 % 256)
      else if a = 0x15 then some (s.get .NFP_FWT_FWT % 256) else if a = 0x16 then some s.leg.crccfg
      else none
    (match v with
    | some v => BitVec.ofNat 8 v
    | none => Config.narurdinReset a, s)

/-- A byte written to one of the view's own registers (R127). -/
def State.legacyOwnWrite (s : State) (a : Nat) (b : Byte) : State :=
  let v := b.toNat
  if a = 0x01 then s.legacyCmd v
  else if a = 0x02 then s.setLeg fun l => { l with ien := v % 64 }
  else if a = 0x03 then s.setLeg fun l => { l with flags := l.flags - (l.flags &&& v) }
  else if a = 0x05 then (if 128 ≤ v then s.legacyFlush else s)
  else if a = 0x06 then s.legacyFifoPush b
  else if a = 0x08 then s.setLeg fun l => { l with lastbits := v % 8 }
  else if a = 0x16 then s.setLeg fun l => { l with crccfg := v % 4 }
  else if a = 0xFF then (if v = 0x4E then s.setView false else s)
  else s

end Sys2Proof.Machine
end

