-- ==== Sys2Proof/Machine/Pages.lean ====
section
/-! DEFINITION. Staging, commits, commit groups and locks (R70 to R84, R589). -/

namespace Sys2Proof.Machine

/-! ### The staged set of a page (R70, R71) -/

/-- The addresses of a row's registers in page `p`. -/
def RegRow.addrs (r : RegRow) (p : Nat) : List Nat := (List.range r.n).map fun i => p * 0x400 + r.off + i * r.stride

/-- The staged registers of a page: address, RS mask, RL mask. -/
def stagedRegs (p : Nat) : List (Nat × Nat × Nat) :=
  (pageAll p).flatMap fun r => if r.rs = 0 then [] else (r.addrs p).map fun a => (a, r.rs, r.rl)

/-- The calendar's running registers: their application is the calendar's own (R282). -/
def calRunning (a : Nat) : Bool := a == Adr.CAL_TIME || a == Adr.CAL_DATE || a == Adr.CAL_SUBSEC

/-- The value that a staged register's active side holds. -/
def State.activeWord (s : State) (a : Nat) : Word :=
  if a = Adr.CAL_TIME then s.cal.timeWord else if a = Adr.CAL_DATE then s.cal.dateWord
  else if a = Adr.CAL_SUBSEC then BitVec.ofNat 32 s.cal.sub else s.rd a

/-- Bits of `w` under mask `m` put into `v`. -/
def mixMask (m : Nat) (v w : Word) : Word := (v &&& ~~~BitVec.ofNat 32 m) ||| (w &&& BitVec.ofNat 32 m)

/-- The bits of a credit INIT, which its own crossing applies (R51, R302). -/
def initMask (a : Nat) : Nat :=
  match stagedXings.find? fun n => (initFld n).addr == a with
  | some n => (2 ^ (initFld n).width - 1) * 2 ^ (initFld n).lo
  | none => 0

/-- The copy of a page's staged set into its active registers, credit INITs and the running calendar aside. -/
def State.copyStaged (s : State) (p : Nat) : State :=
  s.forEach (stagedRegs p) fun s r =>
    if calRunning r.1 then s else s.wr r.1 (mixMask (r.2.1 - initMask r.1) (s.rd r.1) (s.rd (r.1 + 0x200)))

/-- The INITs of a page that are changing, set together at a DRAIN group's application (R51, R80). -/
def State.applyInits (s : State) (p : Nat) : State :=
  s.forEach (initXings p) fun s n =>
    if s.initChanging n then
      let before := s.credit n
      (s.put (initFld n) (s.getTwin (initFld n))).judgeCredit n before
    else s

/-! ### Ranges and safe points (R74, R70) -/

/-- A page's range checks: twin offset, and whether the field there is out of range (R74). -/
def State.pageRange (s : State) (p : Nat) : List (Nat × Bool) :=
  match p with
  | 1 => pwrRange s
  | 2 => thmRange s
  | 3 => clkRange s
  | 4 => schRange s
  | 9 => qmxRange s
  | 10 => secRange s
  | 11 => fecRange s
  | 12 => nfcRange s
  | 13 => nfpRange s
  | 14 => wirRange s
  | 15 => radRange s
  | 16 => rdmRange s
  | 17 => gpiRange s
  | p => if 24 ≤ p ∧ p < 32 then leRange s (p - 24) else []

/-- The least twin offset that fails (R94). -/
def firstBad (l : List (Nat × Bool)) : Option Nat :=
  (l.filter (·.2)).foldl (fun m e => some (match m with | none => e.1 | some x => min x e.1)) none

/-- The range check at a commit request: `none` where the page passes, else the twin offset for FIRSTW. The calendar
names the field in CAL_ERRCODE with CAL_ERR (R283). -/
def State.rangeCheck (s : State) (p : Nat) : Option Nat × State :=
  if p = 7 then
    match s.calFault with
    | none => (none, s)
    | some (f, al, off) =>
      (some off, (((s.put .CAL_ERRCODE_FIELD f).putBit .CAL_ERRCODE_ALARM al.isSome).put .CAL_ERRCODE_ALM (al.getD 0)).raise
        Ev.CAL_ERR)
  else (firstBad (s.pageRange p), s)

/-- The role safe point (R19). -/
def State.roleSafe (s : State) : Bool :=
  ([12, 13, 14, 15, 16] ++ (List.range 8).map (· + 24)).all fun p => !s.enabled p

/-- The page stands at its safe point, credit INITs aside. The safe point of PWR, THM, SCH and WIR is a moment, which
`State.moment` serves (R166, R189, R219, R389); CLK has moments while the XO runs (R250), and GPI has orbits (R534). -/
def State.atSafePoint (s : State) (p : Nat) : Bool :=
  if p = 0 then s.roleSafe
  else if !s.enabled p || s.safe p then true
  else match p with
    | 1 | 2 | 4 | 14 => false
    | 3 => s.get .CLK_STAT_XO == 0
    | 7 => s.calSafe
    | 10 => s.secQuiet
    | 11 => s.fecSafe
    | 17 => s.gpiSafe
    | 12 => s.nfcSafePoint || s.islandWaits Island.NFC
    | 13 => s.nfpSafePoint || s.islandWaits Island.NFC
    | 15 => s.radSafe || s.islandWaits Island.MODEM
    | 16 => s.rdmSafe || s.islandWaits Island.MODEM
    | p => if 24 ≤ p then s.leQuiet (p - 24) && !s.bindChanging (p - 24) else true

/-- The page's credit INITs allow its application: in a DRAIN issue each changing one stands at its own safe point, else
each has applied (R51, R302). -/
def State.initsReady (s : State) (p : Nat) (drain : Bool) : Bool :=
  (initXings p).all fun n => !s.initChanging n || (drain && s.creditIdle n)

/-! ### Applications (R70 to R72, R79) -/

/-- SYS_CMT_STAT's and SYS_CMT_FAIL's bit of a page. -/
def State.setCmtBit (s : State) (f : Fld) (p : Nat) (b : Bool) : State := s.setBitAt f p b

/-- The group's end (R79, R80, R81). -/
def State.groupOver (s : State) : State :=
  let s := ((s.put .SYS_CMT_INFO_BUSY 0).put .SYS_CMT_INFO_PARTIAL 0).put .SYS_CMT_INFO_DRAINING 0
  { s with cmt := Commit.reset }

/-- SYS_CMT_INFO.PARTIAL follows the group's state (R79). -/
def State.syncPartial (s : State) : State :=
  s.putBit .SYS_CMT_INFO_PARTIAL (!s.cmt.open_.isEmpty && s.cmt.open_.length < s.cmt.members.length)

/-- Member `p` has applied (R79, R589): its STAT bit, SYS_CMT_PARTIAL once an issue, the group's end. -/
def State.memberApplied (s : State) (p : Nat) : State :=
  if s.bit (.PG_CFGSTAT_INGROUP p) then
    let s := (s.put (.PG_CFGSTAT_INGROUP p) 0).setCmtBit .SYS_CMT_STAT_APPLIED p true
    let alone := s.cmt.alone.contains p
    let s := { s with cmt := { s.cmt with open_ := s.cmt.open_.filter (· != p), alone := s.cmt.alone.filter (· != p) } }
    if s.cmt.open_.isEmpty then (s.groupOver).raise Ev.SYS_CMT_DONE
    else
      let s := s.syncPartial
      if alone || s.cmt.drain || s.cmt.partialRaised then s
      else ({ s with cmt := { s.cmt with partialRaised := true } } : State).raise Ev.SYS_CMT_PARTIAL
  else s

/-- A role change applies (R20, R243, R384): the wire island switches to the source that the role calls for. -/
def State.roleChanged (s : State) : State := (s.lineRole).requestWire s.wireWanted

/-- What an application of a page does beside the copy, in the block's own chapter. -/
def State.pageApplied (s old : State) (p : Nat) : State :=
  match p with
  | 0 => if s.hub = old.hub then s else s.roleChanged
  | 1 => (s.bankApplied (s.get .PWR_BANK_KIND_KIND != old.get .PWR_BANK_KIND_KIND)).warnApplied old
  | 2 => s.thmApplied old
  | 3 => s.clkApplied old
  | 4 => s.judgeQueueLow false
  | 11 => s.fecApplied
  | 7 => s.calApplied old
  | 14 => s.wirApplied old
  | 15 => s.radApplied old
  | 16 => s.modemApplied
  | 17 => s.gpiApplied old
  | p => if 24 ≤ p then s.leApplied old (p - 24) else s

/-- The page applies (R70 to R72): the copy, what follows from it, PENDING and DIRTY clear, GEN advances where the set
was dirty. -/
def State.applyPage (s : State) (p : Nat) : State :=
  let dirty := s.bit (.PG_CFGSTAT_DIRTY p)
  let t := (s.applyInits p).copyStaged p
  let s := if dirty then ((t.pageApplied s p).put (.PG_CFGSTAT_DIRTY p) 0).wrap (.PG_CFGSTAT_GEN p) else s
  (s.put (.PG_CFGSTAT_PENDING p) 0).memberApplied p

/-- The page is at its safe point now: a pending commit applies; a member of a DRAIN issue holds for the common
application (R70, R80). -/
def State.reachSafe (s : State) (p : Nat) : State :=
  if !s.bit (.PG_CFGSTAT_PENDING p) then s
  else if s.drainHold p then s.latch p true
  else if s.initsReady p false then s.applyPage p else s

/-- A moment that is page `p`'s safe point (R166, R189, R219, R250, R389, R534); for PWR only while the Damper is not
engaged (R166). -/
def State.moment (s : State) (p : Nat) : State := if p = 1 && s.bit .PWR_MODE_DAMPER then s else s.reachSafe p

/-- PAGE_APPLY (R70): a page with a pending commit applies at its safe point. A DRAIN member waits for the common
application. -/
def State.pageApply (s : State) (p : Nat) : State := if s.atSafePoint p then s.reachSafe p else s

/-! ### Requests (R73 to R78, R81, R589) -/

/-- A page's commit is refused for its range: PENDING clears, PG_ERR.RANGE sets (R74). -/
def State.refuseCommit (s : State) (p off : Nat) : State :=
  (s.put (.PG_CFGSTAT_PENDING p) 0).pgErr p (.PG_ERR_RANGE p) off

/-- A commit request that passed its check: with DIRTY 0 it completes at once, in a FLOW manner (R71). -/
def State.pendCommit (s : State) (p : Nat) : State :=
  let s := s.put (.PG_CFGSTAT_PENDING p) 1
  if s.bit (.PG_CFGSTAT_DIRTY p) then s else s.applyPage p

/-- COMMIT_GO (R75, R589): a single-page commit, or the re-issue of a member whose commit has ended. -/
def State.commitGo (s : State) (p : Nat) : State :=
  if s.bit (.PG_CFGSTAT_PENDING p) then s
  else
    let s := s.put (.PG_CFGSTAT_TIMEOUT p) 0
    let member := s.bit (.PG_CFGSTAT_INGROUP p)
    let s := if member then
        { s.setCmtBit .SYS_CMT_FAIL_FAILED p false with cmt := { s.cmt with alone := p :: s.cmt.alone } }
      else s
    let r := s.rangeCheck p
    match r.1 with
    | none => r.2.pendCommit p
    | some off =>
      let s := r.2.refuseCommit p off
      (if member then s.setCmtBit .SYS_CMT_FAIL_FAILED p true else s).raise Ev.SYS_CMT_TIMEOUT

/-- The active value of every RS field copied into its twin. -/
def State.revertTwins (s : State) (p : Nat) : State :=
  s.forEach (stagedRegs p) fun s r => s.wr (r.1 + 0x200) (mixMask r.2.1 (s.rd (r.1 + 0x200)) (s.activeWord r.1))

/-- COMMIT_REVERT (R77). -/
def State.commitRevert (s : State) (p : Nat) : State :=
  if s.bit (.PG_CFGSTAT_INGROUP p) then s.accErr (Adr.PG_COMMIT p) true 1 true
  else
    let s := ((s.revertTwins p).put (.PG_CFGSTAT_DIRTY p) 0).put (.PG_CFGSTAT_PENDING p) 0
    if p = 7 then (s.put .CAL_STAT_TWR 0).put .CAL_STAT_DWR 0 else s

/-- COMMIT_TIMEOUT of a page (R76, R79): not under TO 0; a member's FAIL bit sets. -/
def State.commitTimeout (s : State) (p : Nat) : State :=
  if s.bit (.PG_CFGSTAT_PENDING p) && !s.drainHold p && s.get .SYS_CMT_TIMEOUT_TO != 0 then
    let s := (s.put (.PG_CFGSTAT_PENDING p) 0).put (.PG_CFGSTAT_TIMEOUT p) 1
    (if s.bit (.PG_CFGSTAT_INGROUP p) then s.setCmtBit .SYS_CMT_FAIL_FAILED p true else s).raise Ev.SYS_CMT_TIMEOUT
  else s

/-! ### Groups (R78 to R81) -/

/-- The existing pages that SYS_CMT_MASK names. -/
def State.groupMask (s : State) : List Nat :=
  pages.filter fun p => (s.rd Adr.SYS_CMT_MASK).toNat / 2 ^ p % 2 == 1

/-- A group is outstanding. -/
def State.groupBusy (s : State) : Bool := s.bit .SYS_CMT_INFO_BUSY

/-- The issue of a group to `members` (R74, R78 to R81): PENDING, INGROUP and the range checks; one SYS_CMT_TIMEOUT for
all refusals. FLOW members with DIRTY 0 complete at once; with every check passed DRAIN members hold. -/
def State.issueGroup (s : State) (members : List Nat) (drain : Bool) : State :=
  let s := (s.wrap .SYS_CMT_INFO_SEQ).putBit .SYS_CMT_INFO_DRAINING drain
  let s := { s with cmt := { s.cmt with
    drain := drain, partialRaised := false, alone := [], reached := [], issued := s.cyc } }
  let s := s.forEach members fun s p =>
    ((((s.put (.PG_CFGSTAT_PENDING p) 1).put (.PG_CFGSTAT_INGROUP p) 1).put (.PG_CFGSTAT_TIMEOUT p) 0).put
      (.PG_STAT_DRAINHOLD p) 0).setCmtBit .SYS_CMT_FAIL_FAILED p false
  let r := members.foldl (fun (b : List Nat × State) p =>
    let c := b.2.rangeCheck p
    match c.1 with
    | none => (b.1, c.2)
    | some off => (b.1 ++ [p], (c.2.refuseCommit p off).setCmtBit .SYS_CMT_FAIL_FAILED p true)) ([], s)
  let s := r.2.raiseIf (!r.1.isEmpty) Ev.SYS_CMT_TIMEOUT
  if drain then
    if r.1.isEmpty then
      (s.forEach members fun s p => s.put (.PG_STAT_DRAINHOLD p) 1).forEach members fun s p => s.latch p (s.atSafePoint p)
    else s.forEach members fun s p => s.put (.PG_CFGSTAT_PENDING p) 0
  else
    s.forEach (members.filter fun p => !r.1.contains p) fun s p =>
      if s.bit (.PG_CFGSTAT_DIRTY p) then s else s.applyPage p

/-- GROUP_GO and GROUP_DRAIN (R78, R81): a new group of SYS_CMT_MASK, or the outstanding group's unapplied members. -/
def State.groupGo (s : State) (drain : Bool) : State :=
  if s.groupBusy then s.issueGroup s.cmt.open_ drain
  else
    let m := s.groupMask
    if m.isEmpty then s.accErr Adr.SYS_CMT_GO true 2
    else
      let s := ((s.put .SYS_CMT_STAT_APPLIED 0).put .SYS_CMT_FAIL_FAILED 0).put .SYS_CMT_INFO_BUSY 1
      ({ s with cmt := { s.cmt with members := m, open_ := m } }).issueGroup m drain

/-- Work resumes where a DRAIN hold has ended (R80): what the blocks held back of their own accord. -/
def State.resume (s : State) : State := ((((s.secStart).fecStart.fieldResume).nfpNext).lineNext).requestPass

/-- GROUP_CANCEL (R81): nothing where no group is outstanding. -/
def State.groupCancel (s : State) : State :=
  if s.groupBusy then
    ((s.forEach s.cmt.open_ fun s p =>
      ((s.put (.PG_CFGSTAT_PENDING p) 0).put (.PG_CFGSTAT_INGROUP p) 0).put (.PG_STAT_DRAINHOLD p) 0).groupOver).resume
  else s

/-- A draining member has reached its safe point, its credit INITs included. The calendar has once a cycle has passed: of
two cycles one is a safe point (R282). -/
def State.drained (s : State) (p : Nat) : Bool :=
  (s.pageHeld p || s.atSafePoint p || (p == 7 && decide (s.cmt.issued < s.cyc))) && s.initsReady p true

/-- The outstanding issue drains. -/
def State.draining (s : State) : Bool :=
  s.groupBusy && s.cmt.drain && s.cmt.open_.all (fun p => s.drainHold p) && !s.cmt.open_.isEmpty

/-- DRAIN_GROUP_APPLY (R80): with every member at its safe point all apply in one step, the group ends, DRAINHOLD clears
and SYS_CMT_DONE is raised. -/
def State.drainApply (s : State) : State :=
  if s.draining && s.cmt.open_.all (fun p => s.drained p) then
    let l := s.cmt.open_
    let s := s.forEach l fun s p => s.applyPage p
    (s.forEach l fun s p => s.put (.PG_STAT_DRAINHOLD p) 0).resume
  else s

/-- DRAIN_GROUP_TIMEOUT (R80): where a member has not reached its safe point, none applies; FAIL names the late ones. -/
def State.drainTimeout (s : State) : State :=
  let l := s.cmt.open_
  let late := l.filter fun p => !s.drained p
  if s.draining && s.get .SYS_CMT_TIMEOUT_TO != 0 && !late.isEmpty then
    let s := s.forEach l fun s p => (s.put (.PG_CFGSTAT_PENDING p) 0).put (.PG_STAT_DRAINHOLD p) 0
    let s := s.forEach late fun s p => (s.put (.PG_CFGSTAT_TIMEOUT p) 1).setCmtBit .SYS_CMT_FAIL_FAILED p true
    ({ s with cmt := { s.cmt with reached := [] } } : State).resume.raise Ev.SYS_CMT_TIMEOUT
  else s

/-! ### Locks (R82, R83) -/

/-- Locking: staged RL fields that differ from their active value are reloaded, with LOCKDISC for the lowest of them. -/
def State.lockPage (s : State) (p : Nat) : State :=
  let differs := (stagedRegs p).filter fun r =>
    r.2.2 &&& r.2.1 != 0 && decide ((s.rd (r.1 + 0x200) ^^^ s.activeWord r.1) &&& BitVec.ofNat 32 (r.2.1 &&& r.2.2) ≠ 0)
  let s := s.put (.PG_LOCK_LOCKED p) 1
  match differs.head? with
  | none => s
  | some r0 =>
    let s := s.forEach differs fun s r =>
      s.wr (r.1 + 0x200) (mixMask (r.2.1 &&& r.2.2) (s.rd (r.1 + 0x200)) (s.activeWord r.1))
    s.pgErr p (.PG_ERR_LOCKDISC p) (r0.1 + 0x200)

/-- PAGE_LOCK: a write to PG_LOCK. -/
def State.writeLock (s : State) (p : Nat) (w : Word) : State :=
  if s.locked p then s
  else if w = 0x00004C4B then s.lockPage p else s.accErr (Adr.PG_LOCK p) true 2

end Sys2Proof.Machine
end

