-- ==== Sys2Proof/Machine/Moments.lean ====
section
/-! DEFINITION. The moments that are safe points of pages, at which a pending commit applies (R166, R189, R219, R250, R389,
R534), and the periodic moments of the part: the orbit, the samples and the measurements. -/

namespace Sys2Proof.Machine

/-- A pass, whose end is the safe point of SCH (R201, R219). -/
def State.runPass (s : State) : State := s.pass.moment 4

/-! ### The bank (R162, R166, R170) -/

/-- A measurement of the supplies (R162); in SUPERCAP it is a level update, the safe point of PWR (R161, R166). -/
def State.measured (s : State) (vmain vstore : Nat) : State :=
  let s := s.measure vmain vstore
  if s.get .PWR_BANK_KIND_KIND = 1 then s.moment 1 else s

/-- PERIODIC_MEASUREMENT (R162): one period of the mode after the last one, or at once where that moment has passed. -/
def State.periodicMeasure (s : State) (vmain vstore : Nat) : State :=
  let due := s.pwr.measUs + (if s.pwr.phase = .ember then 1000000 else 10000)
  let at_ := if s.usec ≤ due then due else s.usec
  let s := s.advanceTo due
  ({ s with pwr := { s.pwr with measUs := at_ } } : State).measured vmain vstore

/-- MEASUREMENT_DONE (R162): a requested measurement is complete. -/
def State.measurementDone (s : State) (vmain vstore : Nat) : State :=
  if s.pwr.measuring then
    (({ s with pwr := { s.pwr with measuring := false } } : State).measured vmain vstore).raise Ev.PWR_MEAS_DONE
  else s

/-- A write to PWR_BANK_ADJ (R170): in BATTERY a level update, the safe point of PWR (R166). -/
def State.bankAdjusted (s : State) (op : Bool) (v : Nat) : State :=
  let t := s.bankAdjust op v
  if s.get .PWR_BANK_KIND_KIND = 2 then t.moment 1 else t

/-! ### The temperature (R174, R189) -/

/-- PERIODIC_TEMP_SAMPLE (R174): one interval of the mode after the start of the last one, or at once where that
moment has passed. -/
def State.sampleStarts (s : State) : State :=
  let due := s.thm.start + (if s.pwr.phase = .ember then 32768 else 328)
  let s := s.calendarCycles (due - s.cyc)
  { s with thm := { s.thm with sampling := true, start := s.cyc } }

/-- TEMP_SAMPLE_COMPLETE (R174): its end is the safe point of THM (R189). -/
def State.sampleEnds (s : State) (t : Int) : State := if s.thm.sampling then (s.tempDone t).moment 2 else s

/-! ### The orbit (R161, R166, R200, R523, R534) -/

/-- An orbit (R200, R201): time reaches it, the bank refills, SCH_ORBIT, the Ember count and the pass. -/
def State.orbitTick (s : State) : State :=
  let k := max (s.sch.orbit + 1) (s.usec / 1000)
  let s := s.advanceTo (k * 1000)
  let s := { s with sch := { s.sch with orbit := k } }
  let s := ((s.refillBank).moment 1).raiseIf (s.bit .SCH_CFG_ORBITEVT) Ev.SCH_ORBIT
  ((s.readyDue).countLong.emberOrbit).runPass

/-- The orbit's work on the pins is done: the safe point of GPI (R534). -/
def State.gpiMoment (s : State) : State := if s.gpiSafe then s.moment 17 else s

/-- ORBIT with the levels at the GP pads (R200, R523). -/
def State.orbitWork (s : State) (pins : Nat) : State := ((s.orbitTick).gpiSample pins).gpiMoment

/-! ### The XO's window (R233, R250) -/

/-- XO_WINDOW_END: while the XO runs its end is the safe point of CLK (R250). -/
def State.windowEnds (s : State) (n : Nat) : Bool × State :=
  let r := s.xoWindow n
  if s.get .CLK_STAT_XO = 0 then r else (r.1, r.2.moment 3)

/-! ### The line (R367, R389) -/

/-- LINE_CYCLE_BOUNDARY: a hub's cycle start is the safe point of WIR; a new layout counts from this cycle on (R389). -/
def State.cycleStarts (s : State) : State :=
  (s.whenB (s.gridRuns && !s.line.softOff) fun s => s.moment 14).cycleBoundary

/-- LINE_SETTLE_END: cycle 0 starts (R358). -/
def State.settleEnds (s : State) : State :=
  (s.whenB (s.linePwr == LinePwr.SETTLE) fun s => s.moment 14).lineSettleEnd

/-- LINE_MARK_RECEIVED: a node's mark instant is the safe point of WIR (R389). -/
def State.markArrives (s : State) (err ppm : Int) (inverse : Bool) (phr : List Int) (items : List (List Int)) : State :=
  (s.whenB s.hearsMarks fun s => s.moment 14).markReceived err ppm inverse phr items

end Sys2Proof.Machine
end

