-- ==== Sys2Proof/Machine/Router.lean ====
section
/-! DEFINITION. The event router: channels, groups, request latches and the router tasks (R257 to R275). -/

namespace Sys2Proof.Machine

/-! ### What a router task is (R266, R267) -/

/-- How a task is honoured (R266): on request, only inside a running task that holds a resource (with TXIN where `txin`),
or as a kind firing. -/
inductive Honour where
  | always
  | running (r : Resource) (txin : Bool)
  | kind (k : Nat)
  deriving DecidableEq, Repr

/-- Target pages of tasks 0 to 67 (R267); `none` for NOP and for SCH. -/
def taskTargets : List (Option Nat) :=
  [none, some 6, some 6, some 0, some 1, some 1, some 1, some 14, some 2, some 2, some 3, some 3, some 3, some 3, some 3,
    some 3] ++ List.replicate 16 none
  ++ [some 7, some 7, some 9, some 9, some 10, some 10, some 11, some 12, some 12, none, none, some 12, some 12, none,
    some 13, some 13, some 13, some 13, none, none]
  ++ [some 14, some 14, some 14, some 14, some 14, some 14, some 15, some 15, some 15, some 15, some 15, none, some 15,
    some 15, some 16, some 16]

/-- The target page of task `n` (R267); `none` where no page's enables matter. -/
def taskTarget (n : Nat) : Option Nat :=
  if n < 68 then taskTargets.getD n none
  else if n < 80 then some 17
  else if n < 96 then some (24 + (n - 80) / 2)
  else none

/-- How task `n` is honoured (R267). -/
def taskHonour (n : Nat) : Honour :=
  match n with
  | 39 | 43 | 47 | 48 => .running .field false
  | 41 => .kind Kind.COMET
  | 42 => .kind Kind.TUNE_SWEEP
  | 45 => .kind Kind.NFC_POLL
  | 50 => .kind Kind.LINE_CYCLE
  | 51 => .kind Kind.LINE_TRAIN
  | 52 | 55 => .running .line false
  | 59 | 60 | 61 | 64 | 66 => .running .radio false
  | 62 => .running .radio true
  | 63 => .kind Kind.RAD_CAL
  | _ => .always

/-- The role in which task `n` acts: `some true` hub, `some false` node (R22, R267). -/
def taskRole (n : Nat) : Option Bool :=
  if n = 7 ∨ n = 50 ∨ n = 53 ∨ n = 54 ∨ n = 55 then some true else if n = 13 ∨ n = 14 then some false else none

/-- A trigger line fires (R210). -/
def State.trigger (s : State) (m : Nat) : State := (s.fireTrigger m).readyDue

/-- QMX_FLUSH_DROPQ: the whole drop queue is freed (R46). -/
def State.flushDropQueue (s : State) : State :=
  let x := s.xing 15
  (s.freeItems (x.waiting ++ x.unacked ++ x.owned)).setXing 15 { x with waiting := [], unacked := [], owned := [] }

/-- The engine of a line generation hands its next frame over, in its generation's window (R308). -/
def State.lineTake (s : State) (n : Nat) : State :=
  if s.phyOf n == Phy.LINE && s.genOf n == s.get .WIR_STAT_WIN && s.mayTransmit n && s.hasFrame n then s.transmitOne n
  else s

/-- LINE_TX_QUEUED (R267, R308): every engine of the present window's generation hands over its next frame; in hub role
it goes out at once on a free line, in a node at its next access to the line (R374, R376). -/
def State.lineTxQueued (s : State) : State := (s.forEach (List.range 8) State.lineTake).lineNext

/-- The effect of task `n`, taken by its target (R267). POLL_STOP gives way to an NFP_ABORT that waits beside it
(R479). -/
def State.taskEffect (s : State) (n : Nat) : State :=
  match n with
  | 1 => s.put .IRQ_RTR_A 1
  | 2 => s.put .IRQ_RTR_B 1
  | 3 => s.stallCheck
  | 4 => { s with pwr := { s.pwr with measuring := true } }
  | 5 => s.forceDamper
  | 6 => s.releaseDamper
  | 7 => s.lineOpen
  | 8 => s.startExtraSample
  | 9 => s.flueSnapshot
  | 10 => s.xoKeep true
  | 11 => s.xoKeep false
  | 12 => s.startLfrcCal
  | 13 => s.wireFallback
  | 14 => s.wireRestore
  | 15 => { s with clk := { s.clk with hfrcTrim := true } }
  | 32 => s.calSnapshot
  | 33 => s.subsecSync
  | 34 => s.flushDropQueue
  | 36 => s.zeroiseAll
  | 37 => s.armSink
  | 38 => s.fecAbort
  | 39 => s.fieldOnTask
  | 40 => s.fieldOff
  | 43 => s.baselineCapture
  | 44 => s.nfcSafe
  | 46 => if s.latches.contains 49 then s else s.pollStop
  | 47 => s.inventoryStart
  | 48 => s.nfpTxQueued
  | 49 => s.nfpAbort
  | 52 => s.lineTxQueued
  | 53 => s.linePowerOn
  | 54 => s.setLine fun l => { l with softOff := true }
  | 55 => s.setLine fun l => { l with probe := true }
  | 56 => s.setLine fun l => { l with judgePol := true }
  | 57 => s.lineHold
  | 58 => s.radToSleep
  | 59 => s.radPark Rad.STANDBY
  | 60 => s.radPark Rad.SYNTH
  | 61 => s.radToRx
  | 62 => s.radToTx
  | 64 => s.ccaStart
  | 65 => s.paOff
  | 66 => s.searchSet true
  | 67 => s.searchSet false
  | n =>
    if 16 ≤ n ∧ n < 32 then s.trigger (n - 16)
    else if 68 ≤ n ∧ n < 80 then s.gpPulse (n - 68)
    else if 80 ≤ n ∧ n < 96 then
      (if n % 2 = 0 then s.kick ((n - 80) / 2) else s.put (.LE_STAT_HELD ((n - 80) / 2)) 1)
    else s

/-- A task with the resource, and TXIN where asked for, is RUNNING (R266). -/
def State.holds (s : State) (r : Resource) (txin : Bool) : Bool :=
  match s.holder r with
  | some i => !txin || (s.slot i).txin
  | none => false

/-- The request of task `n` is refused (R266). -/
def State.taskRefused (s : State) (n : Nat) : Bool :=
  (match taskTarget n with
    | some p => !s.enabled p || s.safe p
    | none => false)
  || match taskHonour n with
    | .always => false
    | .running r txin => !s.holds r txin
    | .kind k => !s.kindWaiting k

/-- The target takes the request of task `n` (R265, R266): a NOP in the other role, refused and counted, or carried
out. -/
def State.takeTask (s : State) (n : Nat) : State :=
  if taskRole n = some (!s.hub) then s
  else if s.taskRefused n then (s.sat .EVR_CNT_REF).put .EVR_STAT_REFTASK n
  else match taskHonour n with
    | .kind k => s.kindFiring k
    | _ => s.taskEffect n

/-- A router-task command: the task is carried out as R266 lays down, and its latch, where one is set, clears. -/
def State.routerTask (s : State) (n : Nat) : State := ({ s with latches := s.latches.filter (· != n) }).takeTask n

/-- A firing sets the latch of task `n`, or merges with the request that waits there (R265). -/
def State.fireTask (s : State) (n : Nat) : State :=
  if s.latches.contains n then ((s.sat .EVR_CNT_OVR).put .EVR_STAT_OVRTASK n).raise Ev.EVR_OVERRUN
  else { s with latches := s.latches ++ [n] }

/-! ### Channels and groups (R258 to R263) -/

def channels : List Nat := List.range 32
def groups : List Nat := List.range 8

/-- Channel `i`'s EN as a group action sets it (R261, R262). -/
def State.memberEn (s : State) (i : Nat) (on : Bool) : State :=
  if s.bit (.EVR_CH_EN i) = on then s
  else if s.bit (.EVR_CH_LOCK i) then (s.put .EVR_STAT_LOCKCH i).raise Ev.EVR_LOCKED
  else s.putBit (.EVR_CH_EN i) on

/-- An action on group `g` (R261). -/
def State.groupAction (s : State) (g : Nat) (on : Bool) : State :=
  let changed := s.bitAt .EVR_GRP_STAT_STATE g != on
  let s := s.setBitAt .EVR_GRP_STAT_STATE g on
  let s := s.forEach (channels.filter fun i => s.bitAt (.EVR_CH_GROUPS i) g) fun s i => s.memberEn i on
  s.raiseIf changed Ev.EVR_GRP_CHANGE

/-- The channels that an occurrence of `e` fires, judged before anything it does (R258, R259). -/
def State.matching (s : State) (e : Nat) : List Nat :=
  channels.filter fun i => s.bit (.EVR_CH_EN i) && s.get (.EVR_CH_SRC i) == e && decide (e < 192)

/-- Channel `i` fires; a TASK from 96 to 127 acts as NOP (R258). -/
def State.fireChannel (s : State) (i : Nat) : State :=
  let t := s.get (.EVR_CH_TASK i)
  s.fireTask (if t < 96 then t else Task.NOP)

/-- The group action of occurrence `e` on group `g` (R261). -/
def State.groupOccurrence (s : State) (e g : Nat) : State :=
  let en := s.get (.EVR_GRP_EN_SRC g) == e
  let dis := s.get (.EVR_GRP_DIS_SRC g) == e
  if 192 ≤ e then s
  else if en && dis then s.groupAction g (!s.bitAt .EVR_GRP_STAT_STATE g)
  else if en then s.groupAction g true
  else if dis then s.groupAction g false
  else s

/-- The router takes one occurrence (R259): channels in ascending order, then groups in ascending order. -/
def State.routeOccurrence (s : State) (e : Nat) : State :=
  if s.routerOn then
    (s.forEach (s.matching e) State.fireChannel).forEach groups fun s g => s.groupOccurrence e g
  else s

/-- ROUTER_OCCURRENCE: the occurrence that waits longest. -/
def State.nextOccurrence (s : State) : State :=
  match s.occ with
  | [] => s
  | e :: r => ({ s with occ := r }).routeOccurrence e

/-- A write of EVR_GRPCMD (R261, R263, R264): DISABLE wins over ENABLE, whatever EN and SAFE hold. -/
def State.groupCommand (s : State) (enable disable : Nat) : State :=
  let a := Adr.EVR_GRPCMD
  if s.locked 5 then (if enable % 256 = 0 ∧ disable % 256 = 0 then s else s.lockViol 5 a)
  else
    s.forEach groups fun s g =>
      let dis := disable / 2 ^ g % 2 == 1
      let en := enable / 2 ^ g % 2 == 1
      if dis || en then (if s.bit (.EVR_GRP_LOCK g) then s.lockViol 5 a else s.groupAction g (!dis)) else s

/-- A configuration word of the router written under a lock of its own (R260, R262 to R264): `keep` are the bits that the
lock holds. Where it holds them and they would change, nothing changes. -/
def State.lockedWrite (s : State) (a : Nat) (held : Bool) (keep : Word) (w : Word) : State :=
  let old := s.rd a
  let new := w ||| (old &&& 0x80000000)
  if (held || s.locked 5) && decide ((old ^^^ new) &&& keep ≠ 0) then s.lockViol 5 a
  else s.wr a new

/-- A write of EVR_CHn (R260, R262, R272). A write of 0 to LOCK has no effect. -/
def State.channelWrite (s : State) (n : Nat) (w : Word) : State :=
  s.lockedWrite (Adr.EVR_CH n) (s.bit (.EVR_CH_LOCK n)) 0xC0FF7FFF (w &&& 0xC0FF7FFF)

/-- A write of EVR_GRPn (R263, R273). -/
def State.groupWrite (s : State) (n : Nat) (w : Word) : State :=
  s.lockedWrite (Adr.EVR_GRP n) (s.bit (.EVR_GRP_LOCK n)) 0x8000FFFF (w &&& 0x8000FFFF)

/-- A write of EVR_SWFIRE (R270). -/
def State.softwareFire (s : State) (fire : Nat) : State :=
  if fire % 2 ^ 32 = 0 then s
  else
    let s := if s.routerOn then
        s.forEach (channels.filter fun i => fire / 2 ^ i % 2 == 1 && s.bit (.EVR_CH_EN i)) State.fireChannel
      else s
    s.raise Ev.EVR_SW

/-- The EVR page's soft reset (R269). -/
def State.evrSoftReset (s : State) : State :=
  let s := ((s.put .EVR_GRP_STAT_STATE 0).wr Adr.EVR_STAT 0).wr Adr.EVR_CNT 0
  { s with latches := [] }

end Sys2Proof.Machine
end

