-- ==== Sys2Proof/Machine/Reset.lean ====
section
/-! DEFINITION. Resets and Kindling: what a reset keeps, how its cause is recorded, and what the part looks like at
SYS_READY (R11, R102, R148 to R150, R157 to R159, R181, R550 to R553, R590). -/

namespace Sys2Proof.Machine

/-! ### Causes (R102, R159) -/

def Rst.POR : Nat := 0
def Rst.VRST : Nat := 1
def Rst.PIN : Nat := 2
def Rst.SOFT : Nat := 3
def Rst.STALL : Nat := 4
def Rst.XO_FAIL : Nat := 5
def Rst.OVERTEMP : Nat := 6

/-- The causes in the order in which R159 records them. -/
def rstOrder : List Nat := [Rst.POR, Rst.VRST, Rst.OVERTEMP, Rst.XO_FAIL, Rst.STALL, Rst.PIN, Rst.SOFT]

/-- Of two causes that arise together the one that is recorded (R159). -/
def firstCause (a b : Nat) : Nat := (rstOrder.find? fun c => c == a || c == b).getD a

/-! ### What a reset does -/

/-- A register word that every reset but POR keeps (R11): the CAL page's active registers, RST_CAUSE, PWR_KEEP; with
cause STALL also QMX_STALLINFO (R60). -/
def keptWord (stall : Bool) (a : Nat) : Bool :=
  (decide (0x1C30 ≤ a) && decide (a < 0x1E00)) || a == Adr.RST_CAUSE
    || (decide (Adr.PWR_KEEP 0 ≤ a) && decide (a ≤ Adr.PWR_KEEP 15)) || (stall && a == Adr.QMX_STALLINFO)

/-- The part right after a reset of cause other than POR, Kindling not run: the Ember domain is kept, every other piece of
state takes its reset value, and CAL's twins are reloaded (R11, R280). -/
def State.resetState (s : State) (cause : Nat) : State :=
  let kept := s.regs.filter fun e => keptWord (cause == Rst.STALL) e.1
  let t : State := { State.reset with pending := s.pending, ctr := s.ctr, regs := kept, cal := s.cal }
  let t := { t with
    clk := { t.clk with lxoRun := s.clk.lxoRun, lxoBad := s.clk.lxoBad, lxoBack := s.clk.lxoBack }
    pwr := { t.pwr with phase := .inReset, por := false, ioUp := s.pwr.ioUp, wakeHigh := s.pwr.wakeHigh } }
  let t := { t with hif := { t.hif with strap := s.hif.strap } }
  let t := (t.put .CLK_STAT_CALSRC (s.get .CLK_STAT_CALSRC)).put .CLK_STAT_LXO (s.get .CLK_STAT_LXO)
  ((t.revertTwins 7).put .CAL_STAT_TWR 0).put .CAL_STAT_DWR 0

/-- A reset of the part (R102, R159). Causes that arise before Kindling has run arise together: they count once. -/
def State.resetPart (s : State) (cause : Nat) : State :=
  if s.up then ((s.resetState cause).sat .RST_CAUSE_COUNT).put .RST_CAUSE_CAUSE cause
  else
    let c := if s.pwr.por then Rst.POR else firstCause (s.get .RST_CAUSE_CAUSE) cause
    let phase : Phase := if s.pwr.phase == .held && cause != Rst.PIN then .held
      else if s.pwr.phase == .hot then .hot else .inReset
    ({ s with pwr := { s.pwr with phase := phase } } : State).put .RST_CAUSE_CAUSE c

/-- EMBER_DOMAIN_LOSS (R158): the Ember domain is lost, and the next start is a POR. -/
def State.emberLoss (s : State) : State :=
  { State.reset with
    pending := s.pending, ctr := s.ctr, pwr := { Power.reset with ioUp := s.pwr.ioUp, wakeHigh := s.pwr.wakeHigh },
    hif := { Hif.reset with strap := s.hif.strap } }

/-- The reset of THM_CFG.OTRESET (R181): it holds until the comparator reads below 115 °C. -/
def State.resetHot (s : State) : State :=
  let t := s.resetPart Rst.OVERTEMP
  { t with pwr := { t.pwr with phase := .hot } }

/-- OVERTEMP_TRIP: the trip's forced states, and with THM_CFG.OTRESET at 1 the reset (R180, R181). -/
def State.overtempTrip (s : State) : State :=
  let reset := s.bit .THM_CFG_OTRESET && !s.bit .THM_FLAGS_OT
  let s := s.overtemp
  if reset then s.resetHot else s

/-- OVERTEMP_RESET_RELEASE (R181): Kindling may run. -/
def State.hotOver (s : State) : State :=
  if s.pwr.phase = .hot then { s with pwr := { s.pwr with phase := .inReset } } else s

/-- An XO failure whose policy resets the part (R238). -/
def State.afterXo (r : Bool × State) : State :=
  if r.1 && r.2.failResets then r.2.resetPart Rst.XO_FAIL else r.2

/-- STALL_RESET (R54): 32 LFRC periods after a stall with SYS_STALL_TO.RESET set. -/
def State.stallResets (s : State) : State := if s.stallReset then s.resetPart Rst.STALL else s

/-! ### Kindling -/

/-- What Kindling samples: HIF_MODE as HIF_STAT.STRAP gives it, the address pins (R103, R105), the die temperature in
1/16 °C (R175), and VDD_MAIN and VSTORE_SNS in mV. -/
structure Samples where
  strap  : Nat
  a1     : Bool
  a0     : Bool
  temp   : Int
  vmain  : Nat
  vstore : Nat
  deriving DecidableEq, Repr

/-- SYS_READY (R148, R150, R590): straps, first sample, bank, view; then what is judged at SYS_READY. After a POR the LXO
has started (R249). -/
def State.ready (s : State) (k : Samples) : State :=
  let por := s.pwr.por
  let s := { s with pwr := { s.pwr with phase := .up, por := false, ioUp := true }, cyc := 0 }
  let s := if por then s.put .CLK_STAT_LXO 1 else s
  let s := { s with hif := { s.hif with strap := k.strap } }
  let s := (s.put .HIF_STAT_STRAP k.strap).put .HIF_STAT_I2CADDR (if k.strap = 1 then 0x28 + 2 * k.a1.toNat + k.a0.toNat else 0)
  let s := ((s.fillFilter k.temp).startBank k.vmain k.vstore).raise Ev.SYS_READY
  let s := if k.strap = 2 then (s.put .HIF_VIEW_VIEW 1).legacyEnter else s
  (s.judgeBank).vwarnCross k.vmain

/-- KINDLING (R148, R149, R551, R553): `fails` failed self-checks in a row, `test` the TEST pin above its limit, `io`
VDD_IO at or above 1.50 V at the CLK step. -/
def State.kindling (s : State) (fails : Nat) (test io : Bool) (k : Samples) : State :=
  let start := if s.pwr.por || s.get .RST_CAUSE_CAUSE == Rst.VRST then 1760 else 1700
  if s.pwr.phase ≠ .inReset ∨ k.vmain < start ∨ test then s
  else if 3 ≤ fails then { s with pwr := { s.pwr with phase := .held, ioUp := io } }
  else if io then s.ready k
  else { s with pwr := { s.pwr with phase := .waitIo, ioUp := false } }

/-- KINDLING_IO_READY (R553). -/
def State.kindlingIo (s : State) (k : Samples) : State :=
  if s.pwr.phase = .waitIo then s.ready k else s

end Sys2Proof.Machine
end

