-- ==== Sys2Proof/Machine/RegRead.lean ====
section
/-! DEFINITION. What a host read of a register returns: stored words, and the words that report the state of a block.
Reads of the packet store and the peer table. -/

namespace Sys2Proof.Machine

/-- A word put together from values and the bit that each starts at. -/
def packed (l : List (Nat × Nat)) : Word := BitVec.ofNat 32 (l.foldl (fun m e => m ||| e.1 * 2 ^ e.2) 0)

/-- PG_CAPS.BLOCK of a page (the blocks' chapters). -/
def capsBlock (p : Nat) : Nat :=
  if 24 ≤ p then 4
  else [0, 0, 0, 0, 0x40, 0x820, 0, 8, 0, 0, 0x20, 0x2104, 0x406, 0x40, 7, 0x20, 0x908, 0x0C].getD p 0

/-- The number of events that a page owns (R68). -/
def eventCount (p : Nat) : Nat := (List.range 192).countP fun e => (eventHome e).any fun h => h.1 == p

/-- The bits of a page's event words that stand for an event; the others are reserved and read 0 (R10, R68). -/
def eventMask (p : Nat) : Word := BitVec.ofNat 32 (2 ^ eventCount p - 1)

/-- PG_CAPS (R87). -/
def capsWord (p : Nat) : Word :=
  packed [((p == 9 || decide (24 ≤ p)).toNat, 31), (((pageRows p).any fun r => r.rs != 0).toNat, 30),
    (((pageRows p).any fun r => r.rl != 0).toNat, 29), (eventCount p, 16), (capsBlock p, 0)]

/-- Work is in progress in the block (R89; log entry 11). -/
def State.blockBusy (s : State) (p : Nat) : Bool :=
  match p with
  | 4 => s.anyActive
  | 10 => s.sec.cmd.isSome || s.rx.any fun f => f.stage == .sec
  | 11 => s.fecWork
  | 12 => s.nfc.stage != .off
  | 13 => s.nfp.cur.isSome || s.nfp.step.isSome
  | 14 => s.line.sending.isSome || s.line.rxCur.isSome
  | 15 => !s.radSafe
  | 16 => s.rdm.cap.isSome
  | p => decide (24 ≤ p) && decide (0 < s.openCount (p - 24))

/-- PG_STAT.SAFEPT (R70, R80, R89): the page holds in a DRAIN issue, or a commit could apply at this moment, the credit
INITs that are changing included. -/
def State.standsSafe (s : State) (p : Nat) : Bool :=
  s.pageHeld p || (s.atSafePoint p && (!s.bit (.PG_CFGSTAT_PENDING p) || s.initsReady p (s.drainHold p)))

/-- PG_STAT (R89). -/
def State.statWord (s : State) (p : Nat) : Word :=
  packed [((if 24 ≤ p then s.openCount (p - 24) else 0), 16), ((s.drainHold p).toNat, 4), ((s.locked p).toNat, 3),
    ((s.standsSafe p).toNat, 2), ((s.blockBusy p).toNat, 1), ((s.enabled p).toNat, 0)]

/-- QMX_XSTATn (R65). -/
def State.xstatWord (s : State) (n : Nat) : Word :=
  if 13 ≤ n then 0
  else
    let x := s.xing n
    packed [(x.lost, 24), ((x.waitL || x.waitR).toNat, 21), ((s.xingOpen n).toNat, 20), (x.repoch, 18), (x.lepoch, 16),
      (min (s.credit n) 63, 0)]

/-- SCH_RES (R207, R221). -/
def State.resWord (s : State) : Word :=
  let held (r : Resource) := (s.holder r).isSome.toNat
  let tx := s.sch.slots.any fun t => t.st == .running && t.txin
  packed [((s.blocked .field).toNat, 8), ((s.blocked .radio).toNat, 9), (s.txBlocked.toNat, 10), ((s.blocked .line).toNat, 11),
    ((s.blocked .decoder).toNat, 12), (held .field, 0), (held .radio, 1), (tx.toNat, 2), (held .line, 3), (held .decoder, 4)]

/-- SCH_STAT (R221). -/
def State.schStatWord (s : State) : Word :=
  let n (p : Slot → Bool) := s.sch.slots.countP p
  packed [(s.freeSlots, 24), (n fun t => t.st.deferred, 16), (n fun t => t.st == .ready, 8), (n fun t => t.st == .running, 0)]

/-- The status byte (R110). -/
def State.statusByte (s : State) : Nat :=
  s.up.toNat * 128 + (s.irqAsserted false).toNat * 64 + (s.irqAsserted true).toNat * 32 + s.hif.late.toNat * 16
    + (s.pwr.phase == .up).toNat * 8 + s.legacyView.toNat * 4 + 1

/-- A host pop position (R119). -/
def State.pop (s : State) (q : Nat) : Pop := s.hif.pops.getD q { pos := 0, held := false }

/-- The crossing of host queue `q` (R119). -/
def popXing (q : Nat) : Nat := if q = 8 then 15 else rxQ q

/-- The item that queue `q` is being popped of (R120). -/
def State.popItem (s : State) (q : Nat) : Option Item := (s.xing (popXing q)).owned.head?

/-- HIF_QSTAT (R136). -/
def State.qstatWord (s : State) : Word :=
  let held (q : Nat) := (s.popItem q).isSome && (s.pop q).held
  let open_ (q : Nat) := (s.popItem q).isSome && !(s.pop q).held && decide (0 < (s.pop q).pos)
  packed ((List.range 9).flatMap fun q => [((held q).toNat, 16 + q), ((open_ q).toNat, q)])

/-- FEC_STAT (R354). -/
def State.fecStatWord (s : State) : Word :=
  let dec := (s.xing 6).owned.length
  let enc := (s.xing 8).owned.length
  let burst := (s.runningKind Kind.FEC_BURST).isSome
  packed [(dec, 16), (enc, 12), (burst.toNat, 8), ((decide (0 < enc) || (burst && decide (0 < dec))).toNat, 0)]

/-- LE_STAT (R326): stored bits with the ones that follow the configuration. -/
def State.leStatWord (s : State) (n : Nat) : Word :=
  let legacy := s.leg.bound && n == 7
  let act := s.fwdActive n
  s.rd (Adr.LE_STAT n) ||| packed [(legacy.toNat, 5), ((s.bit (.LE_FWD_EN n) && !act).toNat, 4), (act.toNat, 3)]

/-- IRQ_SUMn (R139). -/
def State.irqSumWord (s : State) (n : Nat) : Word :=
  packed ((List.range 32).map fun k => ((match eventHome (32 * n + k) with
    | some (p, b) => (s.pend p).toNat / 2 ^ b % 2
    | none => 0), k))

/-- SEC_CTREP (R520). -/
def State.ctrepWord (s : State) : Word :=
  let r := s.ctrRec s.ctrSelected
  packed [(r.valid.toNat, 31), (r.warned.toNat, 30), (r.epoch, 0)]

/-- The word of a link-engine page that reports its state, if the register does (R326). -/
def State.leView (s : State) (n off : Nat) : Option Word :=
  if off = 0x30 then some (s.leStatWord n)
  else if off = 0x34 then
    some (packed ((List.range 4).flatMap fun i => [((s.place n i).tries, 8 * i + 4), (match (s.place n i).st with
      | .free => 0 | .due => 1 | .air => 2 | .waitAck => 3 | .jitter => 4 | .report => 5, 8 * i)]))
  else if off = 0x38 then some (packed ((List.range 4).map fun i => ((s.place n i).dst, 8 * i)))
  else if off = 0x3C then some (packed [(s.credit (rxQ n), 16), (s.credit (txQ n), 0)])
  else none

/-- The words of pages 0 to 17 that report state and are not stored. -/
def State.pageView (s : State) (p off : Nat) : Option Word :=
  match p, off with
  | 1, 0x30 => some (s.rd Adr.PWR_MODE ||| packed [(((List.range 4).any fun i => s.get (.gate i) != Gate.GATED).toNat, 0)])
  | 3, 0x30 => some (Fld.CLK_STAT_HREF.into (s.rd Adr.CLK_STAT) s.hfrcRef)
  | 4, 0x30 => some (BitVec.ofNat 32 s.schTime)
  | 4, 0x34 => some s.schStatWord
  | 4, 0x38 => some s.resWord
  | 6, 0x30 => some (BitVec.ofNat 32 s.pageSum)
  | 7, 0x40 => some s.cal.timeWord
  | 7, 0x44 => some s.cal.dateWord
  | 7, 0x48 => some (BitVec.ofNat 32 s.cal.sub)
  | 8, 0x30 => some (s.rd Adr.HIF_STAT ||| BitVec.ofNat 32 (s.statusByte / 8))
  | 8, 0x50 => some s.qstatWord
  | 9, 0x30 => some (Fld.QMX_FREECELLS_FREE.into (s.rd Adr.QMX_FREECELLS) s.freeCells)
  | 10, 0xC4 => some (BitVec.ofNat 32 (s.ctrRec s.ctrSelected).ctr)
  | 10, 0xC8 => some s.ctrepWord
  | 11, 0x30 => some s.fecStatWord
  | _, _ =>
    if p = 6 ∧ off = 0x1C0 then some (packed [((s.irqAsserted true).toNat, 1), ((s.irqAsserted false).toNat, 0)])
    else if p = 6 ∧ 0x40 ≤ off ∧ off < 0x58 then some (s.irqSumWord ((off - 0x40) / 4))
    else if p = 4 ∧ 0x1C0 ≤ off ∧ off < 0x1E0 then
      some (packed ((List.range 8).map fun k => ((s.slot ((off - 0x1C0) / 4 * 8 + k)).st.code, 4 * k)))
    else if p = 9 ∧ 0x1C0 ≤ off ∧ off < 0x200 then some (s.xstatWord ((off - 0x1C0) / 4))
    else if p = 13 ∧ 0xA0 ≤ off ∧ off < 0xC0 then some ((s.tag (s.get .NFP_TAGSEL_ENTRY)).word ((off - 0xA0) / 4))
    else none

/-- The word that a register of an existing page shows at its base address or its twin, where the page defines one. WDAY
reads 0 at CAL_DATE's twin (R293). -/
def State.shown (s : State) (p off : Nat) : Word :=
  if off = 4 then capsWord p
  else if off = 8 then s.rd (Adr.PG_CTRL p) ||| (if s.enabled p then 1 else 0)
  else if off = 0xC then s.statWord p
  else if off = 0x14 then s.pend p
  else
    match if 24 ≤ p then s.leView (p - 24) off else s.pageView p off with
    | some w => w
    | none =>
      let w := s.rd (p * 0x400 + off)
      if p = 7 ∧ off = 0x244 then w &&& 0x0FFFFFFF else w

/-- Whether a page defines a register at an offset, or a staged twin (R85). -/
def offDefined (p off : Nat) : Bool :=
  if off < 0x200 then (findRow (pageAll p) off).isSome
  else if off < 0x240 then false
  else (findRow (pageAll p) (off - 0x200)).any fun r => r.rs != 0

/-- A page has a queue window (R67). -/
def hasQueue (p : Nat) : Bool := p == 9 || (decide (24 ≤ p) && decide (p < 32))

/-- The address lies in the queue window of a page that has one. -/
def inQueue (a : Nat) : Bool := decide (a < 0x8000) && decide (0x3C0 ≤ a % 0x400) && hasQueue (a / 0x400)

/-- The address is that of a word of a queue window: any other address reaches no word (R8). -/
def queueWord (a : Nat) : Bool := inQueue a && a % 4 == 0

/-- The address lies in the packet store window (R37); its cell. -/
def storeAddr (a : Nat) : Bool := decide (0x8000 ≤ a) && decide (a < 0xE000)
def storeCell (a : Nat) : Nat := (a - 0x8000) / 64

/-- A packet store window read (R37, R588): the SECDED errors found in its cell are counted. A word with a double-bit
error reads as its raw bytes, which the model does not know (a free value). -/
def State.storeRead (s : State) (a : Nat) (ecc : List (Nat × Bool)) : Word × State :=
  let l := ecc.filter fun e => e.1 == storeCell a
  let t := s.ecc l
  if l.any (·.2) then let f := t.fresh; (BitVec.ofNat 32 f.1, f.2) else (s.memWord a, t)

/-- A read of CAL_TIME at its base takes the snapshot (R281). -/
def State.calTimeRead (s : State) : Word × State := (s.cal.timeWord, s.calSnapshot)

/-- A host read of one word outside the queue windows (R9, R85): the value and the state after it. -/
def State.regRead (s : State) (a : Nat) (ecc : List (Nat × Bool)) : Word × State :=
  if a % 4 ≠ 0 then (0, s.accErr a false 0)
  else if storeAddr a then s.storeRead a ecc
  else if 0xE000 ≤ a ∧ a < 0xF000 then (s.memWord a, s)
  else if 0xF000 ≤ a ∨ !pageExists (a / 0x400) then (0, s.accErr a false 0)
  else if 0x3C0 ≤ a % 0x400 ∨ !offDefined (a / 0x400) (a % 0x400) then (0, s.accErr a false 0)
  else if a = Adr.CAL_TIME then s.calTimeRead
  else (s.shown (a / 0x400) (a % 0x400), s)

end Sys2Proof.Machine
end

