-- ==== Sys2Proof/Machine/RegWrite.lean ====
section
/-! DEFINITION. What a host write of a word does: access codes, locks and staging (R9, R71, R73, R82 to R85), the page
header (R69, R88 to R94), and the registers whose write is a command. -/

namespace Sys2Proof.Machine

/-! ### Plain writes (R9, R84) -/

/-- A register whose VALID bit, written as 1, clears every field (R100, R227, R328, R516). -/
def clearsWhole (a : Nat) : Bool :=
  a == Adr.SYS_ACC_INFO || a == Fld.SCH_ERRINFO_VALID.addr || a == Adr.SEC_LAST
    || (decide (0x6000 ≤ a) && decide (a < 0x8000) && a % 0x400 == 0x80)

/-- A write under the RW and W1C codes of a row; the fields that a lock holds keep their value (R84). -/
def State.plainWrite (s : State) (a : Nat) (r : RegRow) (w : Word) : State :=
  let p := a / 0x400
  let old := s.rd a
  let rw : Word := BitVec.ofNat 32 r.rw
  let held : Word := if s.locked p then BitVec.ofNat 32 r.rl else 0
  let s := if (old ^^^ w) &&& rw &&& held ≠ 0 then s.lockViol p a else s
  if clearsWhole a && decide (w &&& BitVec.ofNat 32 r.w1c ≠ 0) then s.wr a 0
  else s.wr a (((old &&& ~~~(rw &&& ~~~held)) ||| (w &&& rw &&& ~~~held)) &&& ~~~(w &&& BitVec.ofNat 32 r.w1c))

/-- A write to the staged twin at address `a` (R71, R73, R84): refused whole while a commit is pending; else DIRTY sets
whatever the write changes, and the fields that a lock holds keep their value. -/
def State.twinWrite (s : State) (a : Nat) (w : Word) : State :=
  let p := a / 0x400
  match findRow (pageAll p) (a % 0x400 - 0x200) with
  | none => s.accErr a true 0
  | some r =>
    if r.rs = 0 then s.accErr a true 0
    else if s.bit (.PG_CFGSTAT_PENDING p) then s.accErr a true 1 true
    else
      let rs : Word := BitVec.ofNat 32 r.rs
      let held : Word := if s.locked p then BitVec.ofNat 32 r.rl else 0
      let old := s.rd a
      let s := if (old ^^^ w) &&& rs &&& held ≠ 0 then s.lockViol p a else s
      let s := (s.wr a ((old &&& ~~~(rs &&& ~~~held)) ||| (w &&& rs &&& ~~~held))).put (.PG_CFGSTAT_DIRTY p) 1
      if a = Adr.CAL_TIME + 0x200 then s.put .CAL_STAT_TWR 1
      else if a = Adr.CAL_DATE + 0x200 then s.put .CAL_STAT_DWR 1 else s

/-! ### The page header -/

/-- EVENT_PEND_CLEAR (R69). -/
def State.pendClear (s : State) (p : Nat) (w : Word) : State :=
  s.wr (Adr.PG_EVT_RAW p) (s.rd (Adr.PG_EVT_RAW p) &&& ~~~w)

/-- EVENT_FORCE (R84, R90): on a locked page any write raises SYS_LOCK_VIOL; bits above the last event are reserved. -/
def State.eventForce (s : State) (p : Nat) (w : Word) : State :=
  if s.locked p then s.lockViol p (Adr.PG_EVT_FORCE p)
  else s.forEach ((List.range 192).filter fun e => (eventHome e).any fun h => h.1 == p && w.getLsbD h.2) State.raise

/-- IRQ_SUM_CLEAR (R139): clears in each event's page. -/
def State.irqSumClear (s : State) (n : Nat) (w : Word) : State :=
  s.forEach ((List.range 32).filter fun k => w.getLsbD k) fun s k => match eventHome (32 * n + k) with
    | some (p, b) => s.pendClear p (BitVec.ofNat 32 (2 ^ b))
    | none => s

/-- Pages whose EN, SAFE and SRST ignore writes (SYS, PWR, THM, CLK, IRQ, CAL, HIF). -/
def fixedPage (p : Nat) : Bool := [0, 1, 2, 3, 6, 7, 8].contains p

/-- The work of a PHY page is cut as its EN falls (log entry 12): its tasks end ABORTED with cause BLOCK. -/
def State.pageStops (s : State) (p : Nat) : State :=
  match p with
  | 12 => ((s.cutExchange NfcErr.FIELD_LOST).fieldFast).fieldEnd (.aborted Cause.BLOCK)
  | 13 => if s.nfcServing then (s.cutExchange NfcErr.ABORT).fieldEnd (.aborted Cause.BLOCK) else s
  | 14 =>
    -- R360, R378: the switch opens; taps, ECOK and the lock go
    let s := ((s.lineOpen).lineAbandon).lineRxCut
    let s := ((s.lineTasksEnd (.aborted Cause.BLOCK)).put .WIR_STAT_ECOK 0).trainOver
    let s := s.setLine fun l => { l with judgePol := true, taps := List.replicate 64 0 }
    (if s.hub then s else s.lineLoss).put .WIR_STAT_HELD 0
  | 15 => (((s.txCut TxCause.HOST).radRxErr RxErr.CUT).radEnd (.aborted Cause.BLOCK)).radGo Rad.SLEEP
  | 16 => s.radioRxErr RxErr.CUT
  | 17 => s.gpiSoftReset
  | p => if 24 ≤ p then s.stopTransactions (p - 24) else s

/-- EN 1 is refused for an engine whose binding duplicates another enabled engine's (R298). -/
def State.duplicate (s : State) (n : Nat) : Bool :=
  s.get (.LE_BIND_PHY n) != Phy.NONE &&
    (List.range 8).any fun m => m != n && s.enabled (24 + m) && s.phyOf m == s.get (.LE_BIND_PHY n)
      && s.genOf m == s.get (.LE_BIND_GEN n)

/-- PAGE_ENABLE: a write to PG_CTRL.EN of page `p` (R28, R38, R88, R298). -/
def State.pageEnable (s : State) (p : Nat) (on : Bool) : State :=
  if fixedPage p || p = 10 then s
  else if p = 9 then
    if on then (if s.enabled 9 then s else s.qmxEnable)
    else if qmxUsers.any fun q => s.enabled q then s.accErr (Adr.PG_CTRL 9) true 1
    else if s.enabled 9 then s.qmxDisable else s
  else if s.bit (.PG_CTRL_EN p) == on then s
  else if on then
    if [12, 13, 15, 16].contains p && s.get .CLK_XO_CFG_MODE == 2 then s
    else if 24 ≤ p ∧ s.duplicate (p - 24) then s.put (.LE_STAT_DUPBIND (p - 24)) 1
    else (s.put (.PG_CTRL_EN p) 1).syncIslands
  else (((s.pageStops p).put (.PG_CTRL_EN p) 0).syncIslands)

/-- PAGE_SAFE: a write to PG_CTRL.SAFE of page `p` (R88, R325, R389, R463; log entry 13 for the pages whose chapters
name no safe state of their own). -/
def State.pageSafe (s : State) (p : Nat) (on : Bool) : State :=
  if fixedPage p || p = 9 || p = 10 || s.safe p == on then s
  else
    let s := s.putBit (.PG_CTRL_SAFE p) on
    if 24 ≤ p then s.engineSafe (p - 24) on
    else if on then
      match p with
      | 12 => s.nfcSafe
      | 13 => if s.nfcServing then s.nfpAbort else s
      | 14 => s.lineIdle
      | 15 => s.radToSleep
      | 16 => (s.searchSet false).radioRxErr RxErr.CUT
      | _ => s
    else if p = 12 then s.syncForced
    else s

/-- PAGE_SOFT_RESET: SRST of page `p` (R48, R88): the block's working state goes, configuration and lock stay; a pending
commit applies as the page restarts. -/
def State.pageSoftReset (s : State) (p : Nat) : State :=
  if fixedPage p then s
  else if p = 9 ∧ (qmxUsers.any fun q => s.enabled q) then s.accErr (Adr.PG_CTRL 9) true 1
  else
    let s := match p with
      | 4 => s.schSoftReset
      | 5 => s.evrSoftReset
      | 9 => s.qmxDisable.qmxEnable
      | 10 => s.secSoftReset
      | 11 => s.fecSoftReset
      | 12 => s.nfcSoftReset
      | 13 => s.nfpSoftReset
      | 14 => s.wirSoftReset
      | 15 => s.radSoftReset
      | 16 => s.rdmSoftReset
      | 17 => s.gpiSoftReset
      | p => if p = 31 ∧ s.leg.bound ∧ !s.legacyView then (s.engineSoftReset 7).legacyUnbind
        else if 24 ≤ p then s.engineSoftReset (p - 24) else s
    (s.reachSafe p).syncIslands

/-- A write to PG_CTRL (R88): SRST, then SAFE, then EN. A draining page that stands at its safe point holds there
first, the role's included (R19, R80). -/
def State.ctrlWrite (s : State) (p : Nat) (w : Word) : State :=
  let s := (s.latch p (s.atSafePoint p)).latch 0 s.roleSafe
  let s := if w.getLsbD 1 then s.pageSoftReset p else s
  (s.pageSafe p (w.getLsbD 2)).pageEnable p (w.getLsbD 0)

/-- A write to PG_COMMIT (R92): REVERT wins over GO. -/
def State.commitWrite (s : State) (p : Nat) (w : Word) : State :=
  if w.getLsbD 1 then s.commitRevert p else if w.getLsbD 0 then s.commitGo p else s

/-- A write to PG_EVT_EN (R69): a PEND bit that it lets arise counts for RETRIG (R130). -/
def State.eventEnWrite (s : State) (p : Nat) (r : RegRow) (w : Word) : State :=
  let write := fun (s : State) => s.plainWrite (Adr.PG_EVT_EN p) r (w &&& eventMask p)
  write (s.retrigger p (decide ((write s).pend p &&& ~~~s.pend p ≠ 0)))

/-- A write at an offset below 0x030. -/
def State.headerWrite (s : State) (p off : Nat) (r : RegRow) (w : Word) : State :=
  if off = 0x08 then s.ctrlWrite p w
  else if off = 0x14 then s.pendClear p w
  else if off = 0x18 then s.eventEnWrite p r w
  else if off = 0x1C then s.eventForce p w
  else if off = 0x20 then s.writeLock p w
  else if off = 0x24 then s.commitWrite p w
  else s.plainWrite (p * 0x400 + off) r w

/-! ### Registers whose write is a command -/

/-- A write to SYS_CMT_GO (R81): CANCEL wins, DRAIN wins over GO. -/
def State.groupWriteGo (s : State) (w : Word) : State :=
  if w.getLsbD 2 then s.groupCancel
  else if w.getLsbD 1 then s.groupGo true
  else if w.getLsbD 0 then s.groupGo (s.bit .SYS_CMT_MODE_MODE)
  else s

/-- A write to SYS_SWRST (R99). -/
def State.swrstWrite (s : State) (w : Word) : State :=
  if w = 0x00005A17 then s.resetPart Rst.SOFT else s.accErr Adr.SYS_SWRST true 2

/-- A bit of a command register set in a write. -/
def Fld.asked (f : Fld) (w : Word) : Bool := f.of w != 0

/-- A write to THM_HEAT (R188): the heat of the run so far is kept before LEVEL changes. -/
def State.heatWrite (s : State) (w : Word) : State :=
  let set (s : State) := s.wr Adr.THM_HEAT (w &&& 0xFF31)
  if s.bit .THM_FLAGS_HEAT then (set (s.put .THM_HEAT_EN 0).syncHeater).syncHeater
  else if s.bit .THM_HEAT_EN then (set s).syncHeater
  else (set { s with thm := { s.thm with heatRun := 0 } }).syncHeater

/-- HEATER_TIMEOUT (R188): the heater has dissipated for MAXT minutes since EN rose; EN clears. -/
def State.heaterTimeout (s : State) : State :=
  if s.bit .THM_FLAGS_HEAT then
    let s := s.advanceTo (s.thm.heatSince + (s.heatLimit - s.thm.heatRun))
    (s.put .THM_HEAT_EN 0).syncHeater
  else s

/-- A write to THM_AIN_CTRL: the count of R187 restarts where PERIOD changes. -/
def State.ainWrite (s : State) (w : Word) : State :=
  let t := s.wr Adr.THM_AIN_CTRL (w &&& 0xFF0007)
  if t.get .THM_AIN_CTRL_PERIOD = s.get .THM_AIN_CTRL_PERIOD then t
  else { t with thm := { t.thm with ainCount := 0 } }

/-- A write to FLUE_Xn waits for the next ledger update (R191). -/
def State.flueWrite (s : State) (n : Nat) (w : Word) : State :=
  { s with thm := { s.thm with xWrite := s.thm.xWrite.set n (some w.toNat) } }

/-- A write to SCH_SLOTCMD (R218). -/
def State.slotCommand (s : State) (op i : Nat) : State :=
  match op with
  | 0 => s.slotLoad i
  | 1 => s.slotArm i
  | 2 => s.slotFree i
  | 3 => s.slotAbort i
  | 4 => s.slotEnd i
  | _ => s.slotRefuse i 8

/-- HIF_QCTL release (R120): the current item is freed. -/
def State.popRelease (s : State) (q : Nat) : State :=
  match s.popItem q with
  | none => s
  | some t =>
    if (s.pop q).held || decide (0 < (s.pop q).pos) then
      let s := s.freeOwned (popXing q) t.id
      { s with hif := { s.hif with pops := s.hif.pops.set q { pos := 0, held := false } } }
    else s

/-- HIF_QCTL rewind (R120): the read position of the current item goes back to its first word. -/
def State.popRewind (s : State) (q : Nat) : State :=
  if (s.popItem q).isSome then { s with hif := { s.hif with pops := s.hif.pops.set q { pos := 0, held := false } } } else s

/-- A write to HIF_QCTL (R136). -/
def State.qctlWrite (s : State) (w : Word) : State :=
  let q := Fld.HIF_QCTL_Q.of w
  if 8 < q then s else if Fld.HIF_QCTL_OP.asked w then s.popRewind q else s.popRelease q

/-- The counters that QMX_CNT_CLR clears (R64). -/
def State.clearMinfree (s : State) : State := s.put .QMX_FREECELLS_MINFREE s.freeCells
def State.clearXstat (s : State) : State := { s with xings := s.xings.map fun x => { x with lost := 0 } }
def State.clearEcc (s : State) : State := (s.put .QMX_ECCSTAT_UNCORR 0).put .QMX_ECCSTAT_FIXED 0
def State.clearStall (s : State) : State := s.wr Adr.QMX_STALLINFO (resetWord Adr.QMX_STALLINFO)
def State.clearDrop (s : State) : State := s.wr Adr.QMX_DROPCNT 0
def State.clearXlost (s : State) : State := s.wr Adr.QMX_XLOST 0

/-- A write to QMX_CNT_CLR (R64). -/
def State.cntClear (s : State) (w : Word) : State :=
  let s := s.whenB (Fld.QMX_CNT_CLR_MINFREE.asked w) State.clearMinfree
  let s := s.whenB (Fld.QMX_CNT_CLR_XSTAT.asked w) State.clearXstat
  let s := s.whenB (Fld.QMX_CNT_CLR_ECC.asked w) State.clearEcc
  let s := s.whenB (Fld.QMX_CNT_CLR_STALL.asked w) State.clearStall
  let s := s.whenB (Fld.QMX_CNT_CLR_DROP.asked w) State.clearDrop
  s.whenB (Fld.QMX_CNT_CLR_XLOST.asked w) State.clearXlost

/-- A write to SEC_KEYLOCK (R498): the slots named become locked; a lock is never released. -/
def State.keylockWrite (s : State) (w : Word) : State :=
  s.forEach ((List.range 32).filter fun n => w.getLsbD n) fun s n => s.lockKey n

/-- A write to SEC_KEYn (R518). -/
def State.keyWrite (s : State) (n : Nat) (w : Word) : State :=
  { s with sec := { s.sec with keyIn := s.sec.keyIn.set n w } }

/-- A write to SEC_CTRVAL: the counter of the selected record (R509, R520). -/
def State.ctrWrite (s : State) (w : Word) : State :=
  s.setCtrRec s.ctrSelected { s.ctrRec s.ctrSelected with ctr := w.toNat }

/-- A write to SEC_CTREP: VALID and EPOCH of the selected record; WARNED holds for the EPOCH that it was raised in. -/
def State.ctrepWrite (s : State) (w : Word) : State :=
  let r := s.ctrRec s.ctrSelected
  let e := Fld.SEC_CTREP_EPOCH.of w
  s.setCtrRec s.ctrSelected { r with valid := Fld.SEC_CTREP_VALID.asked w, epoch := e, warned := r.warned && r.epoch == e }

/-- A write to CLK_CMD (R241, R247, R248): FALLBACK and RESTORE in node role only. -/
def State.clkCommand (s : State) (w : Word) : State :=
  let s := s.whenB (Fld.CLK_CMD_FALLBACK.asked w && !s.hub) State.wireFallback
  let s := s.whenB (Fld.CLK_CMD_RESTORE.asked w && !s.hub) State.wireRestore
  let s := s.whenB (Fld.CLK_CMD_LFRC_CAL.asked w) State.startLfrcCal
  s.whenB (Fld.CLK_CMD_HFRC_TRIM.asked w) fun s => s.taskEffect 15

/-- A write to PWR_DAMP_CTRL (R156, R170): with both bits FORCE acts and RELEASE is ignored. -/
def State.dampControl (s : State) (w : Word) : State :=
  let s := s.whenB (Fld.PWR_DAMP_CTRL_FORCE.asked w) State.forceDamper
  let s := s.whenB (Fld.PWR_DAMP_CTRL_RELEASE.asked w && !Fld.PWR_DAMP_CTRL_FORCE.asked w) State.releaseDamper
  s.whenB (Fld.PWR_DAMP_CTRL_CLRCNT.asked w) State.dipClear

/-- A write to THM_CMD (R176, R186, R187). -/
def State.thmCommand (s : State) (w : Word) : State :=
  let s := s.whenB (Fld.THM_CMD_SAMPLE.asked w) State.startExtraSample
  let s := s.whenB (Fld.THM_CMD_SNAP.asked w) State.flueSnapshot
  s.whenB (Fld.THM_CMD_AIN.asked w) State.startAin

/-- A write to NFC_CMD (R468). -/
def State.nfcCommand (s : State) (w : Word) : State :=
  let s := s.whenB (Fld.NFC_CMD_BASEINV.asked w) State.baseInvalid
  let s := s.whenB (Fld.NFC_CMD_SAFE.asked w) State.nfcSafe
  s.whenB (Fld.NFC_CMD_FIELDOFF.asked w) State.fieldOff

/-- A write to NFP_CMD (R490); NFP_ABORT acts where both are asked for (R479). -/
def State.nfpCommand (s : State) (w : Word) : State :=
  let s := s.whenB (Fld.NFP_CMD_STOP.asked w && !Fld.NFP_CMD_ABORT.asked w) State.pollStop
  let s := s.whenB (Fld.NFP_CMD_ABORT.asked w) State.nfpAbort
  s.whenB (Fld.NFP_CMD_CLRLIST.asked w) State.clearTags

/-- A write to WIR_CMD (R392): ON to PROBE in hub role only; a disabled page powers no line. -/
def State.wirCommand (s : State) (w : Word) : State :=
  let s := s.whenB (Fld.WIR_CMD_ON.asked w && s.hub && s.enabled 14) State.linePowerOn
  let s := s.whenB (Fld.WIR_CMD_OFF.asked w && s.hub) State.lineOpen
  let s := s.whenB (Fld.WIR_CMD_SOFTOFF.asked w && s.hub) fun s => s.taskEffect 54
  let s := s.whenB (Fld.WIR_CMD_PROBE.asked w && s.hub) fun s => s.taskEffect 55
  let s := s.whenB (Fld.WIR_CMD_POLCHECK.asked w) fun s => s.taskEffect 56
  s.whenB (Fld.WIR_CMD_HOLD.asked w) State.lineHold

/-- A write to RAD_CMD (R418): CCA_START within a running RADIO task (R266). -/
def State.radCommand (s : State) (w : Word) : State :=
  let s := s.whenB (Fld.RAD_CMD_PAOFF.asked w) State.paOff
  let s := s.whenB (Fld.RAD_CMD_SLEEP.asked w) State.radToSleep
  s.whenB (Fld.RAD_CMD_CCA.asked w && s.holds .radio false) State.ccaStart

/-- A write to RDM_CMD (R442): START within a running RADIO task (R266). -/
def State.rdmCommand (s : State) (w : Word) : State :=
  let s := s.whenB (Fld.RDM_CMD_ANN.asked w) State.announceRequest
  let s := s.whenB (Fld.RDM_CMD_STOP.asked w) fun s => s.searchSet false
  s.whenB (Fld.RDM_CMD_START.asked w && s.holds .radio false) fun s => s.searchSet true

/-- A write to GPI_CMD (R530, R532). -/
def State.gpiCommand (s : State) (w : Word) : State :=
  let s := s.forEach (gpPins.filter fun n => w.getLsbD n) State.gpPulse
  s.whenB (Fld.GPI_CMD_KNOBCLR.asked w) State.knobClear

/-- The registers below offset 0x100 of pages 0 to 17 whose write is a command. -/
def State.commandLow (s : State) (p off : Nat) (w : Word) : Option State :=
  match p, off with
  | 0, 0x68 => some (s.groupWriteGo w)
  | 0, 0x74 => some (s.raiseIf (w.getLsbD 0) Ev.SYS_SWEVT)
  | 0, 0x7C => some (s.swrstWrite w)
  | 1, 0x80 => some (s.dampControl w)
  | 1, 0x84 => some (s.bankAdjusted (Fld.PWR_BANK_ADJ_OP.asked w) (Fld.PWR_BANK_ADJ_VALUE.of w))
  | 1, 0x88 => some (s.whenB (Fld.PWR_MEAS_CTRL_GO.asked w) fun s => s.taskEffect 4)
  | 2, 0xA0 => some (s.ainWrite w)
  | 2, 0xA4 => some (s.thmCommand w)
  | 2, 0xA8 => some (s.heatWrite w)
  | 2, 0xB0 => some (s.flueWrite 0 w)
  | 2, 0xB4 => some (s.flueWrite 1 w)
  | 2, 0xB8 => some (s.flueWrite 2 w)
  | 3, 0x80 => some (s.xoKeep (Fld.CLK_XO_CTRL_KEEP.asked w))
  | 3, 0x84 => some (s.clkCommand w)
  | 5, 0xE0 => some (s.groupCommand (Fld.EVR_GRPCMD_ENABLE.of w) (Fld.EVR_GRPCMD_DISABLE.of w))
  | 5, 0xE4 => some (s.softwareFire w.toNat)
  | 7, 0xC0 =>
    let op := Fld.CAL_ADJ_OP.of w
    some (if op = 1 then s.requestStep true else if op = 2 then s.requestStep false else s)
  | 8, 0x48 => some (s.setView (w.getLsbD 0))
  | 8, 0x4C => some (s.qctlWrite w)
  | 9, 0xA0 => some (s.cntClear w)
  | 10, 0x90 => some (s.keyCommand (Fld.SEC_KEYCMD_OP.of w) (Fld.SEC_KEYCMD_SLOT.of w))
  | 10, 0x94 => some (s.keylockWrite w)
  | 10, 0xC4 => some (s.ctrWrite w)
  | 10, 0xC8 => some (s.ctrepWrite w)
  | 12, 0x80 => some (s.bankWrite .NFC_TUNE_S0_C (w.toNat % 64))
  | 12, 0x84 => some (s.bankWrite .NFC_TUNE_S1_C (w.toNat % 64))
  | 12, 0x88 => some (s.bankWrite .NFC_TUNE_P0_C (w.toNat % 64))
  | 12, 0x8C => some (s.bankWrite .NFC_TUNE_P1_C (w.toNat % 64))
  | 12, 0x90 => some (s.baseWrite (w.toNat % 0x1000))
  | 12, 0x98 => some (s.nfcCommand w)
  | 13, 0x80 => some (s.nfpCommand w)
  | 13, 0xA0 => some (s.keepTag (s.get .NFP_TAGSEL_ENTRY) (w.getLsbD 29))
  | 14, 0x80 => some (s.wirCommand w)
  | 14, 0x84 => some (s.whenB (w.getLsbD 31) State.popAnnounce)
  | 16, 0x80 => some (s.rdmCommand w)
  | 16, 0xA0 => some (s.whenB (w.getLsbD 31) State.popRadioAnnounce)
  | 17, 0x84 => some (s.gpiCommand w)
  | _, _ => none

/-- Every register whose write is a command. -/
def State.commandWrite (s : State) (p off : Nat) (w : Word) : Option State :=
  if p = 4 ∧ off = 0x100 then some (s.slotCommand (Fld.SCH_SLOTCMD_OP.of w) (Fld.SCH_SLOTCMD_SLOT.of w))
  else if p = 4 ∧ off = 0x104 then
    some (s.forEach ((List.range 16).filter fun m => w.getLsbD m) State.trigger)
  else if p = 15 ∧ off = 0x100 then some (s.radCommand w)
  else if p = 5 ∧ 0x40 ≤ off ∧ off < 0xC0 then some (s.channelWrite ((off - 0x40) / 4) w)
  else if p = 5 ∧ 0xC0 ≤ off ∧ off < 0xE0 then some (s.groupWrite ((off - 0xC0) / 4) w)
  else if p = 6 ∧ 0x40 ≤ off ∧ off < 0x58 then some (s.irqSumClear ((off - 0x40) / 4) w)
  else if p = 10 ∧ 0x80 ≤ off ∧ off < 0x90 then some (s.keyWrite ((off - 0x80) / 4) w)
  else s.commandLow p off w

/-! ### One written word -/

/-- A packet store window write (R37): only while QMX is disabled. -/
def State.storeWrite (s : State) (a : Nat) (w : Word) : State :=
  if s.enabled 9 then s.accErr a true 3 else s.putMemWord a w

/-- Bits of a peer-table word that are not reserved (R316). -/
def peerMask (a : Nat) : Word :=
  match a / 4 % 4 with
  | 0 => 0xFFE0FF80
  | 2 => 0xFF1FC000
  | _ => 0xFFFFFFFF

/-- PEER_ENTRY_WRITE (R317). -/
def State.peerWrite (s : State) (a : Nat) (w : Word) : State := s.putMemWord a (w &&& peerMask a)

/-- A write at the base address of a page's register. -/
def State.baseAddrWrite (s : State) (a : Nat) (w : Word) : State :=
  let p := a / 0x400
  let off := a % 0x400
  match findRow (pageAll p) off with
  | none => s.accErr a true 0
  | some r =>
    if r.rs ≠ 0 then s.accErr a true 0
    else if off < 0x30 then s.headerWrite p off r w
    else match s.commandWrite p off w with
      | some t => t
      | none => s.plainWrite a r w

/-- A host write of one word outside the queue windows that take pushes (R9, R37, R66, R85, R100, R317). -/
def State.regWrite (s : State) (a : Nat) (w : Word) : State :=
  if a % 4 ≠ 0 then s.accErr a true 0
  else if 0x8000 ≤ a ∧ a < 0xE000 then s.storeWrite a w
  else if 0xE000 ≤ a ∧ a < 0xF000 then s.peerWrite a w
  else if inQueue a then s.accErr a true 3
  else if 0xF000 ≤ a ∨ !pageExists (a / 0x400) ∨ 0x3C0 ≤ a % 0x400 then s.accErr a true 0
  else if a % 0x400 < 0x200 then s.baseAddrWrite a w
  else if a % 0x400 < 0x240 then s.accErr a true 0
  else s.twinWrite a w

end Sys2Proof.Machine
end

