-- ==== Sys2Proof/Machine/HostIf.lean ====
section
/-! DEFINITION. Host transactions: native SPI and I²C (R106 to R123), queue bursts (R118 to R120), and the transactions
of the legacy view (R124). -/

namespace Sys2Proof.Machine

/-! ### CRC-8 (R115) -/

/-- The CRC-8 of bytes (R115): the polynomial and start value of the link header's. -/
def hostCrc (l : List Byte) : Byte := BitVec.ofNat 8 (crc8 l)

/-! ### Counts -/

/-- HIF_OVERRUN, counted (R118, R137). -/
def State.overrun (s : State) : State := (s.sat .HIF_CNT_OVR).raise Ev.HIF_OVERRUN

/-- HIF_UNDERRUN, counted (R112, R119, R137). -/
def State.underrun (s : State) : State := (s.sat .HIF_CNT_UND).raise Ev.HIF_UNDERRUN

/-- The interface is I²C (R103, R133). -/
def State.i2c (s : State) : Bool := s.get .HIF_STAT_STRAP == 1

/-- The address of the next word of a burst (R109): inside a queue window it wraps from 0x3FC to 0x3C0. After 0xFFFC it
goes on at 0x0000 (log entry 63). -/
def nextAddr (fix : Bool) (a : Nat) : Nat :=
  if fix then a
  else if inQueue a && a % 0x400 / 4 == 0xFF then a - 0x3C
  else (a + 4) % 0x10000

/-! ### Pushes (R38, R118, R303) -/

/-- Free cells of the push buffer, which holds 8: closed items that wait for credit fill it. -/
def State.pushFree (s : State) : Nat := 8 - ((List.range 8).map fun n => itemsCost (s.xing (txQ n)).waiting).sum

/-- The next closed item of engine `n` is handed across, and its words stand in its cells (R39, R118). -/
def State.pushHand (s : State) (n : Nat) (acked : Bool) : State :=
  let had := ((s.xing (txQ n)).unacked ++ (s.xing (txQ n)).owned).map (·.id)
  let t := s.handWaiting (txQ n) acked
  let new := ((t.xing (txQ n)).unacked ++ (t.xing (txQ n)).owned).filter fun i => !had.contains i.id
  t.forEach new fun s i => s.fillCells i.cells (wordsBytes i.words)

/-- A push transaction to engine `n` ends: its words are one item (R118), discarded where it is too long, finds the buffer
short or QMX disabled, or needs more cells than the queue has credits (R303). -/
def State.closePush (s : State) (n : Nat) (words : List Word) : State :=
  let k := cellsOfWords words.length
  if words.isEmpty then s
  else if 64 < words.length ∨ s.pushFree < 4 ∨ !s.enabled 9 then s.overrun
  else if s.get (.LE_TXCRED_INIT n) < k then
    let w := words.getD 0 0
    s.leFail n LeCause.TOOBIG (if s.phyOf n = Phy.NFC then 0 else pushDst w) (pushTag w) 1
  else
    let i := s.newId
    let x := i.2.xing (txQ n)
    let t : Item := { id := i.1, cost := k, cells := [], words := words, llrs := [], frame := 0 }
    (i.2.putXing (txQ n) { x with waiting := x.waiting ++ [t] }).pushHand n true

/-- A word written inside a transaction: a word for an engine's queue joins the open item, any other is written. -/
def State.wordIn (s : State) (a : Nat) (push : List Word) (w : Word) : List Word × State :=
  if !s.up then (push, s)
  else if queueWord a && decide (0x6000 ≤ a) then (push ++ [w], s) else (push, s.regWrite a w)

/-- The engine whose window an address lies in. -/
def windowEngine (a : Nat) : Nat := a / 0x400 - 24

/-- The end of a write transaction at window address `a`: an open item closes. -/
def State.endPush (s : State) (a : Nat) (push : List Word) : State :=
  if push.isEmpty || !s.up then s else s.closePush (windowEngine a) push

/-- HIF_CRC_ERR (R116). -/
def State.crcError (s : State) : State := s.live fun s => (s.sat .HIF_CNT_CRC).raise Ev.HIF_CRC_ERR

/-- The data bytes of a write transaction (R111, R115, R116): `pre` are the bytes that the first CRC also covers, `push`
the words of the open item, `close` whether the end of the bytes closes it. A word cut short is discarded. -/
def State.writeBytes (s : State) (crc fix close : Bool) (a : Nat) (pre : List Byte) (push : List Word) : List Byte → State
  | b0 :: b1 :: b2 :: b3 :: rest =>
    let w : Word := b0 ++ b1 ++ b2 ++ b3
    if crc then
      match rest with
      | c :: rest =>
        if c = hostCrc (pre ++ [b0, b1, b2, b3]) then
          let r := s.wordIn a push w
          r.2.writeBytes crc fix close (nextAddr fix a) [] r.1 rest
        else s.crcError
      | [] => if close then s.endPush a push else s
    else
      let r := s.wordIn a push w
      r.2.writeBytes crc fix close (nextAddr fix a) [] r.1 rest
  | _ => if close then s.endPush a push else s

/-! ### Pops (R119, R120, R587) -/

def State.setPop (s : State) (q : Nat) (p : Pop) : State := { s with hif := { s.hif with pops := s.hif.pops.set q p } }

/-- The current item of queue `q` leaves it. -/
def State.dropCurrent (s : State) (q : Nat) : State :=
  match s.popItem q with
  | some t => (s.freeOwned (popXing q) t.id).setPop q { pos := 0, held := false }
  | none => s

/-- An item that a pop discards for a double-bit error (R587, R588): the received frame that an engine's item was made
from is offered to the drop queue with REASON 4, in the cells of the item; any other item is freed. -/
def State.popDiscard (s : State) (q : Nat) (t : Item) : State :=
  if q < 8 ∧ bits t.desc 31 30 = 0 then s.dropFrame 4 (phyXing (s.phyOf q) + 1) t.raw t.cells else s.freeItems [t]

/-- The errors that lie in a set of cells, and the rest. -/
def eccSplit (l : List (Nat × Bool)) (cells : List Nat) : List (Nat × Bool) × List (Nat × Bool) :=
  l.partition fun e => cells.contains e.1

/-- The check of R587 on the items at the front of queue `q`: those with a double-bit error are discarded, the first other
one stays in front. The answer tells whether there is one, and gives the errors of `ecc` that no check has met. -/
def State.checkFront (s : State) (q : Nat) (ecc : List (Nat × Bool)) : List Item → Bool × List (Nat × Bool) × State
  | [] => (false, ecc, s)
  | t :: r =>
    let e := eccSplit ecc t.cells
    let s := s.ecc e.1
    if e.1.any (·.2) then
      ((s.setXing (popXing q) { s.xing (popXing q) with unacked := r }).popDiscard q t).checkFront q e.2 r
    else (true, e.2, s)

/-- The front item of queue `q` becomes current: the host island has acknowledged it (R119). -/
def State.takeFront (s : State) (q : Nat) : State :=
  let n := popXing q
  let x := s.xing n
  match x.unacked with
  | [] => s
  | t :: r => ((s.setXing n { x with unacked := r, owned := [t] }).setPop q { pos := 0, held := false }).closeShakes n

/-- One word of the current item of queue `q`, read again from its cell (R587): with a double-bit error its raw bytes,
which the model does not know (a free value). The errors of `ecc` that this read has not met are given back. -/
def State.itemWord (s : State) (q : Nat) (ecc : List (Nat × Bool)) : Word × List (Nat × Bool) × State :=
  match s.popItem q with
  | none => (0, ecc, s)
  | some t =>
    let i := (s.pop q).pos
    let e := eccSplit ecc ((t.cells[i / 16]?).toList)
    let s := (s.ecc e.1).setPop q { pos := i + 1, held := decide (16 * t.cost ≤ i + 1) }
    if e.1.any (·.2) then let f := s.fresh; (BitVec.ofNat 32 f.1, e.2, f.2) else (t.words.getD i 0, e.2, s)

/-- A pop of queue `q` (R119): the next word of the current item, else the first word of the next item, which releases
the held one; 0 with HIF_UNDERRUN from an empty queue, a held item staying held. -/
def State.popWord (s : State) (q : Nat) (ecc : List (Nat × Bool)) : Word × List (Nat × Bool) × State :=
  if (s.popItem q).isSome && !(s.pop q).held then s.itemWord q ecc
  else
    let c := s.checkFront q ecc (s.xing (popXing q)).unacked
    if c.1 then ((c.2.2.dropCurrent q).takeFront q).itemWord q c.2.1 else (0, c.2.1, c.2.2.underrun)

/-- The queue that a window address pops: 8 for QMX (R66, R119). -/
def windowQueue (a : Nat) : Nat := if a < 0x6000 then 8 else windowEngine a

/-- One word read inside a transaction, and the errors that it has not met. -/
def State.wordOut (s : State) (a : Nat) (ecc : List (Nat × Bool)) : Word × List (Nat × Bool) × State :=
  if queueWord a then s.popWord (windowQueue a) ecc
  else
    let r := s.regRead a ecc
    (r.1, (if storeAddr a then (eccSplit ecc [storeCell a]).2 else ecc), r.2)

/-- The data of a read transaction (R112, R115, R119): `late` gives 0 for the first word without a side effect; `pre` are
the bytes that the first CRC also covers. -/
def State.readWords (s : State) (crc fix late : Bool) (a : Nat) (ecc : List (Nat × Bool)) (pre : List Byte) : Nat → List Byte × State
  | 0 => ([], s)
  | n + 1 =>
    let r := if late then (0, ecc, s) else s.wordOut a ecc
    let b := wordBytes r.1
    let t := r.2.2.readWords crc fix false (nextAddr fix a) r.2.1 [] n
    (b ++ (if crc then [hostCrc (pre ++ b)] else []) ++ t.1, t.2)

/-- The end of a read transaction with CRC off: items popped whole in it are released (R120). -/
def State.releasePopped (s before : State) : State :=
  s.forEach (List.range 9) fun s q =>
    let was := (before.popItem q).map (·.id)
    let again := (before.pop q).held && was == (s.popItem q).map (·.id)
    if (s.popItem q).isSome && (s.pop q).held && !again then s.dropCurrent q else s

/-- A read transaction with its data ready `ready` byte times after the address (R112 to R114, R122): the bytes after
the address and the state. -/
def State.readTransaction (s : State) (crc fix : Bool) (a n ready : Nat) (ecc : List (Nat × Bool)) (pre : List Byte) : List Byte × State :=
  let data (late : Bool) : List Byte × State :=
    let r := s.readWords crc fix late a ecc pre n
    (r.1, if crc then r.2 else r.2.releasePopped s)
  let maxb := max 1 (s.get .HIF_WAIT_MAXB)
  if s.i2c then data false
  else if inQueue a || s.bit .HIF_WAIT_MODE then
    if maxb < ready then (List.replicate maxb (0xFF : Byte) ++ [0x3C], s.underrun)
    else
      let r := data false
      (List.replicate ready (0xFF : Byte) ++ [0xA5] ++ r.1, r.2)
  else
    let wait := s.get .HIF_WAIT_BYTES
    let late : Bool := decide (wait < ready) && decide (0 < n)
    let r := data late
    let t := if late then r.2.underrun else r.2
    (List.replicate wait (0 : Byte) ++ r.1, { t with hif := { t.hif with lateNow := late } })

/-! ### Legacy transactions (R124) -/

/-- The next register address: 0x06 never advances, 0xFF is followed by 0x00 (log entry 63). -/
def legacyNext (inc : Bool) (a : Nat) : Nat := if inc && a != 0x06 then (a + 1) % 256 else a

/-- A field of a staged register, written by the legacy view: its twin, then a single-page commit (R128). Twin writes
follow R73 and R84 as any other. -/
def State.mappedField (s : State) (f : Fld) (v : Nat) : State :=
  let s := s.twinWrite f.twin.addr (f.into (s.rd f.twin.addr) v)
  s.commitGo (f.addr / 0x400)

/-- A byte written to a mapped register of the legacy view (R127, R128). -/
def State.legacyMapped (s : State) (a : Nat) (b : Byte) : State :=
  let v := b.toNat
  if a = 0x10 then s.mappedField .NFP_TECH_TECH v
  else if a = 0x11 then s.mappedField .NFP_RATE_RATE v
  else if a = 0x12 then s.mappedField .NFC_DRV_LVL_LVL v
  else if a = 0x13 then s.mappedField .NFC_MODIDX_IDX v
  else if a = 0x14 then s.mappedField .NFP_FWT_FWT (v * 256 + s.getTwin .NFP_FWT_FWT % 256)
  else if a = 0x15 then s.mappedField .NFP_FWT_FWT (s.getTwin .NFP_FWT_FWT / 256 % 256 * 256 + v)
  else s

/-- A byte written in the legacy view. -/
def State.legacyWrite (s : State) (a : Nat) (b : Byte) : State :=
  if 0x10 ≤ a ∧ a < 0x16 then s.legacyMapped a b else s.legacyOwnWrite a b

/-- Between two bytes of a legacy write the NFC and NFP pages take their pending sets where they stand at their safe
points (R128; log entry 36). -/
def State.legacySettle (s : State) : State := (s.pageApply 12).pageApply 13

/-- The data bytes of a legacy write. -/
def State.legacyWrites (s : State) (inc : Bool) (a : Nat) : List Byte → State
  | [] => s
  | [b] => s.legacyWrite a b
  | b :: r => ((s.legacyWrite a b).legacySettle).legacyWrites inc (legacyNext inc a) r

/-- The data bytes of a legacy read. -/
def State.legacyReads (s : State) (inc : Bool) (a : Nat) : Nat → List Byte × State
  | 0 => ([], s)
  | n + 1 =>
    let r := s.legacyReadByte a
    let t := r.2.legacyReads inc (legacyNext inc a) n
    (r.1 :: t.1, t.2)

/-- A legacy transaction (R124): on SPI a command byte, the address, then data; on I²C the address first, auto-increment
always on, `n` telling a read from a write. -/
def State.legacyTransaction (s : State) (bytes : List Byte) (n : Nat) : List Byte × State :=
  if s.i2c then
    match bytes with
    | a :: data => (s.legacyWrites true a.toNat data).legacyReads true a.toNat n
    | [] => ([], s)
  else
    match bytes with
    | c :: a :: data =>
      if c.getLsbD 7 then let r := s.legacyReads (c.getLsbD 6) a.toNat n; (0 :: r.1, r.2)
      else ([0], s.legacyWrites (c.getLsbD 6) a.toNat data)
    | _ => ([], s)

/-! ### Transactions -/

/-- A transaction ends: the next one's status byte shows its LATE (R110). -/
def State.lateOver (s : State) : State := { s with hif := { s.hif with late := s.hif.lateNow, lateNow := false } }

/-- A native transaction's command byte is refused (R108). -/
def badCommand (c : Byte) : Bool := c &&& 0xC0 == 0xC0 || c &&& 0x1F != 0

/-- A native transaction: `bytes` from the host, `n` words clocked out after them on a read, `close` whether the
transaction ended in the regular way. On SPI the part returns 0x00 for the address bytes and on a write for every byte
after them (R107); I²C has no such bytes (R121). -/
def State.nativeTransaction (s : State) (bytes : List Byte) (n ready : Nat) (ecc : List (Nat × Bool)) (close : Bool) : List Byte × State :=
  let crc := s.bit .HIF_CRC_EN_EN
  let zeros := fun (k : Nat) => if s.i2c then [] else List.replicate k (0 : Byte)
  match bytes with
  | [] => ([], s)
  | c :: rest =>
    if badCommand c then ([], s.put .HIF_STAT_BADCMD 1)
    else if c &&& 0xC0 == 0x80 then ([], s)
    else match rest with
      | hi :: lo :: data =>
        let a := (hi ++ lo).toNat
        let fix := c.getLsbD 5
        if c &&& 0xC0 == 0x40 then
          let r := s.readTransaction crc fix a n ready ecc [c, hi, lo]
          (zeros 2 ++ r.1, r.2)
        else (zeros rest.length, s.writeBytes crc fix close a [c, hi, lo] [] data)
      | _ => (zeros rest.length, s)

/-- A host transaction (R106 to R124). Before SYS_READY it gives the status byte alone on SPI, and nothing on I²C,
where the address is not acknowledged; with VDD_IO absent the pins carry nothing (R143). A host access wakes the part
(R131). LATE is that of the previous transaction (R110). -/
def State.transaction (s : State) (bytes : List Byte) (n ready : Nat) (ecc : List (Nat × Bool)) (close : Bool) : State :=
  if !s.pwr.ioUp then s
  else
    let i2c := if s.up then s.i2c else s.hif.strap == 1
    let status : List Byte := if i2c then [] else [BitVec.ofNat 8 s.statusByte]
    if !s.up then { s with hostOut := status }
    else
      let t := (s.hostWake).breakEmber
      let r := if s.legacyView then t.legacyTransaction bytes n else t.nativeTransaction bytes n ready ecc close
      if r.2.up then { r.2.lateOver with hostOut := status ++ r.1 } else r.2

end Sys2Proof.Machine
end

