-- ==== Sys2Proof/Machine/Ecc.lean ====
section
/-! DEFINITION. Double-bit errors of the packet store and the items that they discard (R588). Which cells carry an
error is an input of the commands that read them. -/

namespace Sys2Proof.Machine

/-- An item of crossing or queue `n` leaves it, its cells and credits returned. -/
def State.removeItem (s : State) (n : Nat) (t : Item) : State :=
  let x := s.xing n
  let keep := fun l : List Item => l.filter fun i => i.id != t.id
  (s.setXing n { x with waiting := keep x.waiting, unacked := keep x.unacked, owned := keep x.owned }).freeItems [t]

/-- An item with a double-bit error is discarded whole (R588): a received frame not yet in the drop queue is treated
under R46 with REASON 4, as received and in its own cells; a frame on its way out is lost, a forwarded frame with its
item in the transmit queue; the transaction of a queue item ends failed (log entry 15). -/
def State.discardItem (s : State) (n : Nat) (t : Item) : State :=
  if !((s.xing n).waiting ++ (s.xing n).unacked ++ (s.xing n).owned).any (fun i => i.id == t.id) then s
  else if n = 15 then s.removeItem n t
  else if 16 ≤ n then
    let e := (n - 16) / 2
    if n % 2 = 1 then
      if bits t.desc 31 30 = 0 then (s.removeItem n { t with cells := [] }).dropFrame 4 (phyXing (s.phyOf e) + 1) t.raw t.cells
      else s.removeItem n t
    else
      let g := s.eng e
      let s := (s.removeItem n t).setEng e { g with fwd := g.fwd.filter fun f => f.1 != t.id }
      match (List.range 4).find? fun i => (s.place e i).isOpen && (s.place e i).item == t.id with
      | some i => s.endTransaction e i LeCause.BADITEM
      | none => s
  else if n = 1 then
    match s.nfp.held with
    | some h =>
      if h.item = t.id then
        (((s.removeItem n { t with cells := [] }).setNfp fun p => { p with held := none }).dropFrame 4 1 t.raw t.cells).nfcLost h
      else s.removeItem n t
    | none => s.removeItem n t
  else if n % 2 = 0 then (s.removeItem n t).txLost t.frame
  else match s.rxFrame t.frame with
    | some f => (s.dropRxFrame 4 f).fecSettle s
    | none => s.removeItem n t

/-- A received frame whose decoded codewords lie in a cell with a double-bit error is discarded likewise. -/
def State.discardFrame (s : State) (f : RxFrame) : State :=
  if (s.rxFrame f.id).isSome then (s.dropRxFrame 4 f).fecSettle s else s

/-- SECDED errors found by a read of the store, cell and double-bit (R588): counted, and every item with a double-bit
error discarded. -/
def State.storeErrors (s : State) (l : List (Nat × Bool)) : State :=
  let s := (s.ecc l).forEach (List.range 32) fun s n =>
    let x := s.xing n
    s.forEach ((x.waiting ++ x.unacked ++ x.owned).filter fun t => eccHits l t.cells) fun s t => s.discardItem n t
  s.forEach (s.rx.filter fun f => eccHits l f.cells) State.discardFrame

/-- QMX_SCRUB: every allocated cell is read once (R588). -/
def State.scrub (s : State) (l : List (Nat × Bool)) : State := s.storeErrors (l.filter fun e => s.used.contains e.1)

end Sys2Proof.Machine
end

