-- ==== Sys2Proof/Machine/NfcAir.lean ====
section
/-! DEFINITION. Signalling on the NFC field: modulation and coding by technology and rate, the bytes of the frames that the
spec spells, and the carrier periods of the exchange's own moments (R447, R471, R475, R476, R480, R481, R484). -/

namespace Sys2Proof.Machine

/-- How the reader's bits modulate the carrier (R471). -/
inductive ReaderCoding where
  | modifiedMiller | nrzL | pulse1of4 | pulse1of256 | manchester
  deriving DecidableEq, Repr

/-- How a tag answers (R471): on a subcarrier fc ÷ n, on two of them, or without one. -/
inductive TagCoding where
  | manchesterSub (n : Nat)
  | bpskSub (n : Nat)
  | singleSub (n : Nat)
  | doubleSub (n m : Nat)
  | manchester
  deriving DecidableEq, Repr

/-- A frame's signalling: the modulation index in units of 0.1 %, the coding each way, and the rate in kbit/s where a rate
code sets it. -/
structure NfcSignal where
  index  : Nat
  reader : ReaderCoding
  tag    : TagCoding
  kbit   : Option Nat
  deriving DecidableEq, Repr

/-- Reader options of technology V: VCOD, VSUB and VASK (R471). -/
structure VOptions where
  cod : Bool
  sub : Bool
  ask : Bool
  deriving DecidableEq, Repr

/-- The table of R471; technology F has no rate code 0 or 3. -/
def State.nfcSignal (s : State) (tech rate : Nat) (v : VOptions) : Option NfcSignal :=
  let ab := some (106 * 2 ^ rate)
  if tech = 0 then
    some { index := 1000, reader := .modifiedMiller, tag := if rate = 0 then .manchesterSub 16 else .bpskSub 16, kbit := ab }
  else if tech = 1 then some { index := s.modIndex, reader := .nrzL, tag := .bpskSub 16, kbit := ab }
  else if tech = 2 then
    some { index := if v.ask then s.modIndex else 1000, reader := if v.cod then .pulse1of256 else .pulse1of4
           tag := if v.sub then .doubleSub 32 28 else .singleSub 32, kbit := none }
  else if techBad (tech, rate) then none
  else some { index := s.modIndex, reader := .manchester, tag := .manchester, kbit := some (if rate = 1 then 212 else 424) }

/-- The options of NFP_RATE, and those of a command: its own VCOD and VSUB, or with DEF those of NFP_RATE (R472). -/
def State.rateOptions (s : State) : VOptions :=
  { cod := s.bit .NFP_RATE_VCOD, sub := s.bit .NFP_RATE_VSUB, ask := s.bit .NFP_RATE_VASK }
def State.commandOptions (s : State) (w : Word) : VOptions :=
  if bits w 23 23 = 1 then s.rateOptions
  else { s.rateOptions with cod := bits w 25 25 == 1, sub := bits w 24 24 == 1 }

/-- The rate code of a step's technology: 106 kbit/s for A and B, that of NFP_RATE for F where it has one, else 212 kbit/s
(R480). -/
def State.stepRate (s : State) (tech : Nat) : Nat :=
  if tech = 3 then (if techBad (3, s.get .NFP_RATE_RATE) then 1 else s.get .NFP_RATE_RATE) else 0

/-- The signalling of a frame. -/
def State.frameSignal (s : State) (f : NfcFrame) : Option NfcSignal :=
  let step := fun t => s.nfcSignal t (s.stepRate t) s.rateOptions
  match f with
  | .command w _ => s.nfcSignal (s.nfcTech w).1 (s.nfcTech w).2 (s.commandOptions w)
  | .reqa | .wupa | .anticoll _ _ | .select _ _ | .hlta | .read2 _ => step 0
  | .reqb _ _ | .wupb | .slotMarker _ | .hltb _ => step 1
  | .inventory _ _ _ | .read5 _ _ _ => step 2
  | .sensf _ => step 3

/-- The signalling on the field: that of the frame under way. -/
def State.fieldSignal (s : State) : Option NfcSignal :=
  match s.nfp.cur with
  | some x => if x.stage = .sending ∧ s.nfc.stage = .on then s.frameSignal x.frame else none
  | none => none

/-- The technology's CRC follows a command: TXCRC, but for a bit-oriented frame (R472). -/
def commandCrc (w : Word) : Bool := bits w 22 22 == 1 && !(bits w 20 18 != 0)

/-- A mask's bytes, the least significant first (R481). -/
def maskBytes (len mask : Nat) : List Byte := (List.range ((len + 7) / 8)).map fun i => BitVec.ofNat 8 (mask / 2 ^ (8 * i))

/-- The bytes of a frame, without a CRC, where the spec spells them: a command as pushed, the 16-slot INVENTORY, READ and
READ MULTIPLE BLOCKS (R472, R481, R484). The others follow their standards (R470). -/
def NfcFrame.spelled : NfcFrame → Option (List Byte)
  | .command _ b => some b
  | .inventory 16 len mask => some ([0x06, 0x01, BitVec.ofNat 8 len] ++ maskBytes len mask)
  | .read2 page => some [0x30, BitVec.ofNat 8 page]
  | .read5 uid first blocks => some ([0x22, 0x23] ++ uid ++ [BitVec.ofNat 8 first, BitVec.ofNat 8 (blocks - 1)])
  | _ => none

/-- The command code of a Type A cascade level (R480). -/
def cascadeCode (level : Nat) : Byte := if level = 0 then 0x93 else if level = 1 then 0x95 else 0x97

/-! ### Carrier periods -/

/-- GT, from NFC_FIELD_ON or between technologies: 0.1 ms is 1356 carrier periods (R475). -/
def State.guardCp (s : State) : Nat := 1356 * s.get .NFP_POLL_CFG_GT

/-- From the end of a frame to the receiver's opening, and the gap to the next frame (R476). -/
def State.openCp (s : State) : Nat := s.get .NFP_FDT_RXMIN
def State.gapCp (s : State) : Nat := s.get .NFP_FDT_GAP

/-- The listening window of a SENSF_REQ of so many time slots (R480). -/
def sensfWindow (slots : Nat) : Nat × Nat := (32768, 32768 + 16384 * slots)

/-- From the end of the previous frame of an inventory slot to the EOF that closes it (R481). -/
def slotEofCp (answered : Bool) : Nat := if answered then 4352 else 4384

/-- A tuner probe: the bank settles, then the measurement (R455). -/
def probeCp : Nat := 1356 + 1356

end Sys2Proof.Machine
end

