-- ==== Sys2Proof/Machine/Pins.lean ====
section
/-! DEFINITION. What the part's output pins carry, by the pin table (R143, R548 to R550). IRQ_A and IRQ_B stand in
Islands.lean, the GP pins in Gpi.lean, the levels that the radio asks for in Radio.lean. -/

namespace Sys2Proof.Machine

/-- A push-pull pin of the VDD_IO domain that carries `level` while the part runs: low in reset, at high impedance without
VDD_IO (R143, R549). -/
def State.ioPin (s : State) (level : Bool) : PinDrive :=
  if !s.pwr.ioUp then .highZ else if s.up && level then .high else .low

/-- LINE_PWR: high while a hub's line switch is closed, low in node role (R357, R549). -/
def State.linePowerPin (s : State) : PinDrive := s.ioPin (s.hub && s.linePwr != LinePwr.OFF)

/-- PA_EN, LNA_EN and ANT_SEL, `t` XO cycles after the origin of R402 (R401, R549). -/
def State.paEnPin (s : State) (t : Nat) : PinDrive := s.ioPin (s.radPins t).1
def State.lnaEnPin (s : State) (t : Nat) : PinDrive := s.ioPin (s.radPins t).2.1
def State.antSelPin (s : State) (t : Nat) : PinDrive := s.ioPin (s.radPins t).2.2

/-- The line transmitter's two pins (R549): high impedance in reset and in Ember; after an XO failure the zero level where
the wire island runs from the XO (R237); else as the line page sends. -/
inductive LineDrive where
  | highZ | zero | run
  deriving DecidableEq, Repr

/-- LINE_TXP and LINE_TXN. -/
def State.lineTxPins (s : State) : LineDrive :=
  if !s.up || s.pwr.phase == .ember then .highZ
  else if s.clk.xoForced && s.islandOnXo Island.WIRE then .zero else .run

/-- NFC_TX1 and NFC_TX2 are driven with the carrier: the field is up or ramps (R448, R449); low otherwise, in reset and
after an XO failure (R237, R549). -/
def State.nfcDriven (s : State) : Bool :=
  s.up && !s.clk.xoForced && (s.nfc.stage == .ramping || s.nfc.stage == .on || s.nfc.stage == .falling)

end Sys2Proof.Machine
end

