-- ==== Sys2Proof/Machine/Entry.lean ====
section
/-! DEFINITION. How a command reaches the part: as a host access in the view that holds, as a moment of the running part,
or as a router task; and the small operations that single commands carry out. -/

namespace Sys2Proof.Machine

/-! ### Who may act -/

/-- The host reaches the native registers: the part runs, VDD_IO is up, the native view is selected (R103, R124, R143). -/
def State.nativeHost (s : State) : Bool := s.up && s.pwr.ioUp && !s.legacyView

/-- The host reaches the legacy registers (R124). -/
def State.legacyHost (s : State) : Bool := s.up && s.pwr.ioUp && s.legacyView

/-- A host access wakes the part and keeps it out of Ember (R131, R145). -/
def State.accessed (s : State) : State := (s.hostWake).breakEmber

/-- A native host access: a transaction of its own without a late word. -/
def State.native (s : State) (f : State → State) : State := if s.nativeHost then (f s.accessed).lateOver else s

/-- A host access in the legacy view. -/
def State.legacyAccess (s : State) (f : State → State) : State := if s.legacyHost then (f s.accessed).lateOver else s

/-- A command that is both a router task `n` and a write of `w` to register `a`. -/
def State.taskOrWrite (s : State) (byTask : Bool) (n a : Nat) (w : Word) : State :=
  if byTask then s.live fun s => s.routerTask n else s.native fun s => s.regWrite a w

/-! ### Words that commands write -/

/-- A word with one field 1 and every other bit 0. -/
def Fld.one (f : Fld) : Word := f.into 0 1

/-- PG_CTRL of a page with one field changed and SRST, unless it is that field, 0 (R88). -/
def State.ctrlWith (s : State) (p : Nat) (f : Fld) (on : Bool) : Word :=
  f.into ((Fld.PG_CTRL_SRST p).into (s.rd (Adr.PG_CTRL p)) 0) on.toNat

/-- SCH_SLOTCMD (R218). -/
def slotCmd (op i : Nat) : Word := Fld.SCH_SLOTCMD_OP.into (Fld.SCH_SLOTCMD_SLOT.into 0 i) op

/-- SEC_KEYCMD (R519). -/
def keyCmd (op slot : Nat) : Word := Fld.SEC_KEYCMD_OP.into (Fld.SEC_KEYCMD_SLOT.into 0 slot) op

/-- An ANNOUNCE's payload (R385). -/
def announceBytes (uid : BitVec 64) (gens step : Byte) : List Byte :=
  (List.range 8).map (fun i => (uid >>> (56 - 8 * i)).setWidth 8) ++ [gens, step]

/-! ### Reads -/

/-- A word read by the host, shown in `hostOut`. -/
def State.readOut (s : State) (a : Nat) (ecc : List (Nat × Bool)) : State :=
  let r := s.regRead a ecc
  { r.2 with hostOut := wordBytes r.1 }

/-- One word popped in a transaction of its own from queue `q` (R66, R119, R120). -/
def State.popOut (s : State) (q : Nat) (ecc : List (Nat × Bool)) : State :=
  let r := s.popWord q ecc
  let t := if s.bit .HIF_CRC_EN_EN then r.2.2 else r.2.2.releasePopped s
  { t with hostOut := wordBytes r.1 }

/-- `k` words popped in one transaction from the receive queue of engine `n` (R119, R120). -/
def State.popsOut (s : State) (n k : Nat) (ecc : List (Nat × Bool)) : State :=
  let r := s.readWords false true false ((24 + n) * 0x400 + 0x3C0) ecc [] k
  let t := if s.bit .HIF_CRC_EN_EN then r.2 else r.2.releasePopped s
  { t with hostOut := r.1 }

/-! ### The fabric -/

/-- A handshake of crossing 10 or 11, whose accesses and entries take no time in the model: one that the far side holds
back stays open, with its credit, until it is acknowledged (R40, R53). -/
def State.handEntry (s : State) (n : Nat) (acked : Bool) : State :=
  let x := s.xing n
  if acked then
    if x.unacked.isEmpty then s else (s.setXing n { x with unacked := x.unacked.drop 1 }).closeShakes n
  else
    let i := s.newId
    (i.2.handItem n { id := i.1, cost := 1, cells := [], words := [], llrs := [], frame := 0 } 0 false).2

/-- ITEM_HANDOVER on crossing 5: an item of soft bits from the modem, or the fabric's acknowledgement of an earlier
one. -/
def State.handSoft (s : State) (acked : Bool) (soft : List Int) : State :=
  let s := if acked then s.ackReceive 5 else s
  if soft.isEmpty then s else s.radioItems soft false acked

/-- ITEM_HANDOVER on a receive queue: the host island holds its acknowledgement of the front item back, or does so no
longer (R53, R119); then a report that waits goes into the queue (R307). -/
def State.handHost (s : State) (n : Nat) (acked : Bool) : State :=
  let q := rxQ n
  let s := if acked then s.closeShakes q else if (s.xing q).unacked.isEmpty then s else s.openShake (consumerPage q) q
  s.retryReport n

/-- ITEM_HANDOVER on crossing or queue `n` (R39, R40): the producer hands its next item over, or the consumer acknowledges
the one handed across; `acked` tells whether the consumer acknowledges, `soft` are the soft bits of an item from the
modem. -/
def State.handover (s : State) (n : Nat) (acked : Bool) (soft : List Int) : State :=
  let s := s.setSlow n (!acked)
  match n with
  | 0 => (s.handWaiting 0 acked).nfpNext
  | 1 => if acked then s.ackHeld else s
  | 2 => (s.handWaiting 2 acked).lineNext
  | 3 => if acked then s.ackReceive 3 else s
  | 4 => (s.handWaiting 4 acked).radNext
  | 5 => s.handSoft acked soft
  | 6 => s.handWord acked
  | 7 => if acked then State.routeDecoded s.ackDecoded else s
  | 8 => s.handEncoder acked
  | 9 => if acked then s.ackEncoded else s
  | 10 => s.handEntry 10 acked
  | 11 => s.handEntry 11 acked
  | 12 => if acked then s.closeShakes 12 else s
  | n => if n < 16 then s else if n % 2 = 0 then s.pushHand ((n - 16) / 2) acked else s.handHost ((n - 16) / 2) acked

/-- RESYNC_TOKEN_RECEIVED (R49): the other side of crossing `n` sees the new epoch. A received frame of which an item
is lost is lost whole (R44), a response that is lost ends its transaction (R474), and a staged INIT of the crossing
applies (R51). -/
def State.tokenSeen (s : State) (n : Nat) (far : Bool) : State :=
  let t := s.seeToken n far
  let lost := ((s.xing n).unacked.filter fun i => !(t.xing n).unacked.any fun u => u.id == i.id).map (·.frame)
  let t := if n = 3 ∨ n = 5 then t.forEach lost fun u id => (u.discardRx id).fecSettle u else t
  let t := if n = 1 then t.heldLost else t
  if stagedXings.contains n then t.applyInit n else t

/-- RESYNC_REPLY_RECEIVED (R49): the crossing opens; the encoder's next codewords go across. -/
def State.replySeen (s : State) (n : Nat) (far : Bool) : State :=
  let t := s.seeReply n far
  if n = 8 then t.feedEncoder else t

/-- STALL_TIMEOUT (R53, R54): the handshake has been open for SYS_STALL_TO.TO ms. -/
def State.stallTimeout (s : State) (page xing : Nat) : State :=
  match s.stuck.find? fun h => h.1 == page && h.2.1 == xing with
  | some h => (s.advanceTo (h.2.2 + 1000 * s.get .SYS_STALL_TO_TO)).stall page xing
  | none => if xing = 0x3F then s.stall page xing else s

/-! ### Supplies and samples -/

/-- WAKE_EDGE (R131): `high` the new level at the pin, which carries none while VDD_IO is down (R143). -/
def State.wakeEdge (s : State) (high : Bool) : State :=
  let h := high && s.pwr.ioUp
  let t : State := { s with pwr := { s.pwr with wakeHigh := h } }
  if h && !s.pwr.wakeHigh && s.up then t.hostWake else t

/-- EXTRA_SAMPLE_COMPLETE (R176). -/
def State.extraSample (s : State) (t : Int) : State :=
  if s.thm.extra then
    (({ s with thm := { s.thm with extra := false } } : State).putS .THM_TEMP_TEMP t).raise Ev.THM_SAMPLE
  else s

/-! ### Clocks -/

/-- WIRE_RESTORE_HOLD_EXPIRY (R241): lock has held for HOLD ms. -/
def State.holdExpiry (s : State) : State :=
  if s.clk.holdRun then ({ s with clk := { s.clk with holdRun := false } } : State).wireRestore else s

/-- HFRC_TRIM_DONE (R247). -/
def State.hfrcTrimDone (s : State) : State :=
  if s.clk.hfrcTrim then
    let s := (s.trimHfrc).raise Ev.CLK_HFRC_TRIM
    ({ s with clk := { s.clk with hfrcTrim := false } } : State).syncXo
  else s

/-- LXO_EDGE_TIMEOUT (R249): no LXO edge for the time that R249 gives. -/
def State.lxoTimeout (s : State) (elapsed : Nat) : State :=
  if s.get .CLK_STAT_LXO = 0 ∨ s.get .CLK_STAT_LXO = 3 then s else s.lxoFail elapsed

/-! ### Link engines and SEC -/

/-- LINK_FRAME_TRANSMIT for engine `n` (R308), at its PHY's opportunity. -/
def State.linkTransmit (s : State) (n : Nat) : State :=
  if s.phyOf n = Phy.NFC then (s.nfcTake n).nfpNext
  else if s.phyOf n = Phy.LINE then (s.lineTake n).lineNext
  else if s.phyOf n = Phy.RADIO then s.radTake n
  else s

/-- LINK_TX_COMPLETE (R309): the frame on the line's or the radio's transmitter has ended. -/
def State.linkComplete (s : State) (radio : Bool) : State := if radio then s.radSent else s.lineSent

/-- KEY_SINK_TIMEOUT (R512, R513): the sink has been armed for TO minutes. -/
def State.sinkTimeout (s : State) : State :=
  match s.sec.sinkEnd with
  | some t => if s.bit .SEC_SINK_ARMED then (s.advanceTo t).disarmSink.put .SEC_SINK_RESULT 6 else s
  | none => s

end Sys2Proof.Machine
end

