-- ==== Sys2Proof/Machine/ExecCalendar.lean ====
section
/-! DEFINITION. The meanings of the commands of the calendar. -/

namespace Sys2Proof.Machine

/-- CAL_SECOND_BOUNDARY (R276): SUB passing from 32767 to 0 advances time and date one second, raising ticks and
evaluating alarms. -/
def execCalSecondBoundary (s : State) : Host.Outcome State Fault Refusal :=
  done (s.always fun s => (s.toBoundary).readyDue)

/-- HOUR_STEP_FORWARD (R284): CAL_ADJ OP 1 requests a forward hour step at the next boundary, or is refused with
CAL_ERR. -/
def execHourStepForward (s : State) : Host.Outcome State Fault Refusal :=
  done (s.native fun s => s.regWrite Adr.CAL_ADJ (Fld.CAL_ADJ_OP.into 0 1))

/-- HOUR_STEP_BACK (R284): CAL_ADJ OP 2 requests a backward hour step at the next boundary, or is refused with
CAL_ERR. -/
def execHourStepBack (s : State) : Host.Outcome State Fault Refusal :=
  done (s.native fun s => s.regWrite Adr.CAL_ADJ (Fld.CAL_ADJ_OP.into 0 2))

/-- CAL_TIME_READ (R281): A read of CAL_TIME at its base copies time, date and SUB into the snapshot registers. -/
def execCalTimeRead (s : State) : Host.Outcome State Fault Refusal :=
  done (s.native fun s => s.readOut Adr.CAL_TIME [])

/-- CAL_SNAPSHOT (R281): Router task CAL_SNAPSHOT copies time, date and SUB into the snapshot registers. -/
def execCalSnapshot (s : State) : Host.Outcome State Fault Refusal :=
  done (s.live fun s => s.routerTask 32)

/-- CAL_SUBSEC_SYNC (R290): Router task CAL_SUBSEC_SYNC applies the held offset to SUB, or sets NOMARK without a mark.
-/
def execCalSubsecSync (s : State) : Host.Outcome State Fault Refusal :=
  done (s.live fun s => s.routerTask 33)

/-- CAL_FULL_ALIGN (R291): With FULL set, a mark differing by a second or more is applied as a time and date
application at the next safe point. -/
def execCalFullAlign (s : State) : Host.Outcome State Fault Refusal :=
  done (s.always fun s => s.fullAlign)

end Sys2Proof.Machine
end

