-- ==== Sys2Proof/Machine/ExecClock.lean ====
section
/-! DEFINITION. The meanings of the commands of the oscillators and clock islands. -/

namespace Sys2Proof.Machine

/-- XO_START (R231): Router task XO_START sets CLK_XO_CTRL.KEEP, starting the XO and its judgement. -/
def execXoStart (s : State) : Host.Outcome State Fault Refusal :=
  done (s.live fun s => s.routerTask 10)

/-- XO_STOP (R231): Router task XO_STOP clears KEEP, and the XO stops when no condition keeps it running. -/
def execXoStop (s : State) : Host.Outcome State Fault Refusal :=
  done (s.live fun s => s.routerTask 11)

/-- XO_WINDOW_END (R233): At the end of each 2048-HFRC-cycle window the XO count is judged against tolerance. -/
def execXoWindowEnd (n : Nat) (s : State) : Host.Outcome State Fault Refusal :=
  done (s.live fun s => State.afterXo (s.windowEnds n))

/-- XO_START_TIMEOUT (R235): an XO not judged good within STARTTO ms of its start reads FAILED and raises CLK_XO_FAIL.
-/
def execXoStartTimeout (s : State) : Host.Outcome State Fault Refusal :=
  done (s.live fun s => State.afterXo s.xoTimeout)

/-- WIRE_FALLBACK (R241): Router task WIRE_FALLBACK or CLK_CMD.FALLBACK requests a switch of the node wire island to
its fallback source. -/
def execWireFallback (byTask : Bool) (s : State) : Host.Outcome State Fault Refusal :=
  done (s.taskOrWrite byTask 13 Adr.CLK_CMD Fld.CLK_CMD_FALLBACK.one)

/-- WIRE_RESTORE (R241): Router task WIRE_RESTORE or CLK_CMD.RESTORE requests a switch back to the recovered clock. -/
def execWireRestore (byTask : Bool) (s : State) : Host.Outcome State Fault Refusal :=
  done (s.taskOrWrite byTask 14 Adr.CLK_CMD Fld.CLK_CMD_RESTORE.one)

/-- WIRE_RESTORE_HOLD_EXPIRY (R241): Under AUTO, CLK_CDR_LOCK having held for HOLD ms requests a return to the
recovered clock. -/
def execWireRestoreHoldExpiry (s : State) : Host.Outcome State Fault Refusal :=
  done (s.live fun s => s.holdExpiry)

/-- WIRE_SWITCH_POINT (R242): At the switch point the wire island stops, holding the zero level and discarding input.
-/
def execWireSwitchPoint (s : State) : Host.Outcome State Fault Refusal :=
  done (s.live fun s => s.wireSwitch)

/-- WIRE_SWITCH_RESTART (R243): After 4 cycles of the new clock the wire island restarts on its new source. -/
def execWireSwitchRestart (s : State) : Host.Outcome State Fault Refusal :=
  done (s.live fun s => s.wireRuns)

/-- FEC_RAMP_STEP (R244): each ramp step's hold expires and the FEC divider moves one step, raising CLK_RAMP_DONE at
/1 or /16. -/
def execFecRampStep (s : State) : Host.Outcome State Fault Refusal :=
  done (s.live fun s => s.fecRampStep)

/-- HFRC_DISCIPLINE (R247): Once per ms the HFRC is disciplined against its reference. -/
def execHfrcDiscipline (s : State) : Host.Outcome State Fault Refusal :=
  done (s.live fun s => if s.get .CLK_HFRC_CFG_DISC = 0 then s else s.trimHfrc)

/-- HFRC_TRIM (R247): Router task HFRC_TRIM or CLK_CMD.HFRC_TRIM performs one trim against the present reference. -/
def execHfrcTrim (byTask : Bool) (s : State) : Host.Outcome State Fault Refusal :=
  done (s.taskOrWrite byTask 15 Adr.CLK_CMD Fld.CLK_CMD_HFRC_TRIM.one)

/-- HFRC_TRIM_DONE (R247): A requested HFRC trim completes and raises CLK_HFRC_TRIM. -/
def execHfrcTrimDone (s : State) : Host.Outcome State Fault Refusal :=
  done (s.live fun s => s.hfrcTrimDone)

/-- LXO_CAL (R248): Router task LXO_CAL or CLK_CMD.LFRC_CAL starts an LFRC calibration over 512 LFRC periods. -/
def execLxoCal (byTask : Bool) (s : State) : Host.Outcome State Fault Refusal :=
  done (s.taskOrWrite byTask 12 Adr.CLK_CMD Fld.CLK_CMD_LFRC_CAL.one)

/-- LFRC_CAL_DONE (R248): an LFRC calibration completes, writing TRIM and DONE, or sets NOREF without a reference. -/
def execLfrcCalDone (s : State) : Host.Outcome State Fault Refusal :=
  done (s.live fun s => s.lfrcCalDone)

/-- LXO_WINDOW_END (R249): At the end of each 256-LFRC-period window the LXO is judged good or failed, moving the
calendar to the LFRC on failure. -/
def execLxoWindowEnd (n elapsed : Nat) (s : State) : Host.Outcome State Fault Refusal :=
  done (s.always fun s => s.lxoWindow n elapsed)

/-- LXO_EDGE_TIMEOUT (R249): 64 LFRC periods without an LXO edge judge the LXO failed and raise CLK_LXO_FAIL. -/
def execLxoEdgeTimeout (elapsed : Nat) (s : State) : Host.Outcome State Fault Refusal :=
  done (s.always fun s => s.lxoTimeout elapsed)

/-- LXO_RESTORE_EDGE (R249): With AUTORESTORE, the first LXO edge after CLK_LXO_OK returns the calendar island to the
LXO. -/
def execLxoRestoreEdge (s : State) : Host.Outcome State Fault Refusal :=
  done (s.always fun s => s.lxoRestore)

/-- VOID_SYMBOL_SLOT_END (R243): 30 wire cycles after an M3 switch point the void symbol slot ends, and transmission,
reception and echo-canceller adaptation resume at the next symbol. -/
def execVoidSymbolSlotEnd (s : State) : Host.Outcome State Fault Refusal :=
  done (s.live fun s => s.voidEnd)

end Sys2Proof.Machine
end

