-- ==== Sys2Proof/Machine/ExecFabric.lean ====
section
/-! DEFINITION. The meanings of the commands of the crossings, the store and the stall monitor. -/

namespace Sys2Proof.Machine

/-- ITEM_HANDOVER (R39): A producer with credit and input for a whole item hands it across a crossing, and the
consumer takes ownership at acknowledgement. -/
def execItemHandover (n : Fin 32) (acked : Bool) (ecc : List (Nat × Bool)) (soft : List Int) (s : State) :
    Host.Outcome State Fault Refusal :=
  done (s.live fun s => (s.storeErrors ecc).handover n acked soft)

/-- RESYNC_TOKEN_RECEIVED (R49): Side B seeing a new epoch discards unacknowledged items, counts them in QMX_XLOST,
reloads credit, raises QMX_XING_RESYNC and answers with its token. -/
def execResyncTokenReceived (n : Fin 32) (far : Bool) (s : State) : Host.Outcome State Fault Refusal :=
  done (s.live fun s => s.tokenSeen n far)

/-- RESYNC_REPLY_RECEIVED (R49): Side A receiving B's token reloads its credit count and the crossing opens. -/
def execResyncReplyReceived (n : Fin 32) (far : Bool) (s : State) : Host.Outcome State Fault Refusal :=
  done (s.live fun s => s.replySeen n far)

/-- CREDIT_INIT_APPLY (R51): At a crossing's or queue's own safe point a staged credit INIT becomes active and the
count is set under R585. -/
def execCreditInitApply (n : Fin 32) (s : State) : Host.Outcome State Fault Refusal :=
  done (s.live fun s => if stagedXings.contains n.val && s.creditIdle n then s.applyInit n else s)

/-- STORE_WINDOW_WRITE (R37): A packet-store window write is stored with fresh SECDED while QMX is disabled, and
otherwise ignored with SYS_ACC_ERR. -/
def execStoreWindowWrite (addr : BitVec 16) (value : BitVec 32) (s : State) : Host.Outcome State Fault Refusal :=
  done (s.native fun s => s.regWrite addr.toNat value)

/-- STORE_WINDOW_READ (R588): A packet-store window read returns the stored bytes through SECDED, correcting and
writing back single-bit errors. -/
def execStoreWindowRead (addr : BitVec 16) (ecc : List (Nat × Bool)) (s : State) : Host.Outcome State Fault Refusal :=
  done (s.native fun s => s.readOut addr.toNat ecc)

/-- DROP_QUEUE_POP (R66): A read of the QMX queue window pops the drop queue in the item format of R47, or returns 0
with HIF_UNDERRUN when empty. -/
def execDropQueuePop (ecc : List (Nat × Bool)) (s : State) : Host.Outcome State Fault Refusal :=
  done (s.native fun s => s.popOut 8 ecc)

/-- QMX_FLUSH_DROPQ (R46): Router task QMX_FLUSH_DROPQ frees the whole drop queue. -/
def execQmxFlushDropq (s : State) : Host.Outcome State Fault Refusal :=
  done (s.live fun s => s.routerTask 34)

/-- QMX_SCRUB (R588): Router task QMX_SCRUB reads every allocated cell once, correcting as it goes. -/
def execQmxScrub (ecc : List (Nat × Bool)) (s : State) : Host.Outcome State Fault Refusal :=
  done (s.live fun s =>
    let ok := !s.taskRefused 35
    let s := s.routerTask 35
    if ok then s.scrub ecc else s)

/-- CNT_CLR_MINFREE (R64): QMX_CNT_CLR.MINFREE sets QMX_FREECELLS.MINFREE to FREE. -/
def execCntClrMinfree (s : State) : Host.Outcome State Fault Refusal :=
  done (s.native fun s => s.regWrite Adr.QMX_CNT_CLR Fld.QMX_CNT_CLR_MINFREE.one)

/-- CNT_CLR_XSTAT (R64): QMX_CNT_CLR.XSTAT clears every QMX_XSTATn.LOST. -/
def execCntClrXstat (s : State) : Host.Outcome State Fault Refusal :=
  done (s.native fun s => s.regWrite Adr.QMX_CNT_CLR Fld.QMX_CNT_CLR_XSTAT.one)

/-- CNT_CLR_ECC (R64): QMX_CNT_CLR.ECC clears QMX_ECCSTAT.UNCORR and FIXED. -/
def execCntClrEcc (s : State) : Host.Outcome State Fault Refusal :=
  done (s.native fun s => s.regWrite Adr.QMX_CNT_CLR Fld.QMX_CNT_CLR_ECC.one)

/-- CNT_CLR_STALL (R64): QMX_CNT_CLR.STALL clears QMX_STALLINFO. -/
def execCntClrStall (s : State) : Host.Outcome State Fault Refusal :=
  done (s.native fun s => s.regWrite Adr.QMX_CNT_CLR Fld.QMX_CNT_CLR_STALL.one)

/-- CNT_CLR_DROP (R64): QMX_CNT_CLR.DROP clears QMX_DROPCNT. -/
def execCntClrDrop (s : State) : Host.Outcome State Fault Refusal :=
  done (s.native fun s => s.regWrite Adr.QMX_CNT_CLR Fld.QMX_CNT_CLR_DROP.one)

/-- CNT_CLR_XLOST (R64): QMX_CNT_CLR.XLOST clears QMX_XLOST. -/
def execCntClrXlost (s : State) : Host.Outcome State Fault Refusal :=
  done (s.native fun s => s.regWrite Adr.QMX_CNT_CLR Fld.QMX_CNT_CLR_XLOST.one)

/-- STALL_TIMEOUT (R54): A handshake open for SYS_STALL_TO.TO ms raises SYS_STALL and is recorded in QMX_STALLINFO. -/
def execStallTimeout (page xing : Fin 64) (s : State) : Host.Outcome State Fault Refusal :=
  done (s.live fun s => s.stallTimeout page xing)

/-- STALL_RESET (R54): With SYS_STALL_TO.RESET set, the part resets with cause STALL 32 LFRC periods after SYS_STALL.
-/
def execStallReset (s : State) : Host.Outcome State Fault Refusal :=
  done (s.live fun s => s.stallResets)

/-- STALL_CHECK (R267): Router task STALL_CHECK tests every open handshake against SYS_STALL_TO at once. -/
def execStallCheck (s : State) : Host.Outcome State Fault Refusal :=
  done (s.live fun s => s.routerTask 3)

end Sys2Proof.Machine
end

