-- ==== Sys2Proof/Machine/ExecFec.lean ====
section
/-! DEFINITION. The meanings of the commands of forward error correction. -/

namespace Sys2Proof.Machine

/-- CODEWORD_ARRIVAL (R349): A codeword entering the FEC island is held for decoding, making a kind firing on
FEC_BURST slots when none runs. -/
def execCodewordArrival (s : State) : Host.Outcome State Fault Refusal :=
  done (s.live fun s => s.handWord true)

/-- CODEWORD_DECODED (R347): A codeword's decoding ends at a zero syndrome or at MAX iterations, and the frame is
judged under R351. -/
def execCodewordDecoded (s : State) : Host.Outcome State Fault Refusal :=
  done (s.live fun s => s.codewordDecoded)

/-- CODEWORD_ENCODED (R350): A codeword's encoding completes, raising FEC_ENC_DONE after the frame's last codeword. -/
def execCodewordEncoded (s : State) : Host.Outcome State Fault Refusal :=
  done (s.live fun s => s.encodeFirst)

/-- FEC_ABORT (R267): Router task FEC_ABORT abandons codewords in flight as a side reset of the FEC crossings. -/
def execFecAbort (s : State) : Host.Outcome State Fault Refusal :=
  done (s.live fun s => s.routerTask 38)

end Sys2Proof.Machine
end

