-- ==== Sys2Proof/Machine/ExecGpi.lean ====
section
/-! DEFINITION. The meanings of the commands of buttons, knob and plugs. -/

namespace Sys2Proof.Machine

/-- DEBOUNCE_CHANGE (R523): D consecutive orbit samples differing from a pin's state change its debounced state. -/
def execDebounceChange (n : Fin 12) (s : State) : Host.Outcome State Fault Refusal :=
  done (s.live fun s => (s.debounceChange n).gpiMoment)

/-- LONG_PRESS (R526): LONG × 100 ms after a press GPI_LONG_PRESS is raised once. -/
def execLongPress (n : Fin 12) (s : State) : Host.Outcome State Fault Refusal :=
  done (s.live fun s => s.longPress n)

/-- AUTO_REPEAT (R527): RDLY and then every RIVL while pressed GPI_REPEAT is raised. -/
def execAutoRepeat (n : Fin 12) (s : State) : Host.Outcome State Fault Refusal :=
  done (s.live fun s => s.autoRepeat n)

/-- KNOB_STATE_TAKEN (R529): A knob level held for FILT + 1 samples is taken as a transition, stepping the knob or
counting an invalid transition. -/
def execKnobStateTaken (a b : Bool) (s : State) : Host.Outcome State Fault Refusal :=
  done (s.live fun s => s.knobTaken a b)

/-- KNOB_CLEAR (R530): GPI_CMD.KNOBCLR sets GPI_KNOBCNT.COUNT to 0. -/
def execKnobClear (s : State) : Host.Outcome State Fault Refusal :=
  done (s.native fun s => s.regWrite Adr.GPI_CMD Fld.GPI_CMD_KNOBCLR.one)

/-- GP_PULSE (R532): Router task GP_PULSEn or GPI_CMD.PULSE bit n starts or restarts a pulse on an OUT pin, or sets
NOPULSE. -/
def execGpPulse (n : Fin 12) (byTask : Bool) (s : State) : Host.Outcome State Fault Refusal :=
  done (s.taskOrWrite byTask (68 + n) Adr.GPI_CMD (BitVec.ofNat 32 (2 ^ n.val)))

/-- PULSE_END (R532): At orbit k + PW × U the pulse ends and the pin returns to its inactive level. -/
def execPulseEnd (n : Fin 12) (s : State) : Host.Outcome State Fault Refusal :=
  done (s.live fun s => s.pulseEnd n)

/-- VDD_IO_LOSS (R143): VDD_IO falling below 1.50 V puts the host, IRQ and GP pins at high impedance. -/
def execVddIoLoss (s : State) : Host.Outcome State Fault Refusal :=
  done s.ioLoss

/-- VDD_IO_RETURN (R533): VDD_IO returning makes each input adopt its raw level, cancels pending timers and raises
GPI_PLUG_CHANGE for changed plugs. -/
def execVddIoReturn (pins : BitVec 12) (s : State) : Host.Outcome State Fault Refusal :=
  done (s.ioReturn pins.toNat)

end Sys2Proof.Machine
end

