-- ==== Sys2Proof/Machine/ExecHost.lean ====
section
/-! DEFINITION. The meanings of the commands of the host interface and the legacy view. -/

namespace Sys2Proof.Machine

/-- HOST_WRITE (R111): A host write transaction takes effect word by word once each word and its CRC byte are
complete, in the order sent. -/
def execHostWrite (bytes : List (BitVec 8)) (s : State) : Host.Outcome State Fault Refusal :=
  done (s.transaction bytes 0 0 [] true)

/-- HOST_READ (R112): A host read transaction returns register words after the wait bytes or ready prefix chosen by
HIF_WAIT. -/
def execHostRead (bytes : List (BitVec 8)) (n ready : Nat) (ecc : List (Nat × Bool)) (s : State) :
    Host.Outcome State Fault Refusal :=
  done (s.transaction bytes n ready ecc true)

/-- HOST_STATUS_ONLY (R108): A transaction with OP 0b10 returns the status byte only and wakes the part from Ember. -/
def execHostStatusOnly (s : State) : Host.Outcome State Fault Refusal :=
  done (s.transaction [0x80] 0 0 [] true)

/-- I2C_BUS_TIMEOUT (R123): SCL held low for 25 ms abandons the I²C transfer, releases SDA and discards open words and
push items. -/
def execI2cBusTimeout (bytes : List (BitVec 8)) (s : State) : Host.Outcome State Fault Refusal :=
  done (if s.i2c then s.transaction bytes 0 0 [] false else s)

/-- HOST_QUEUE_PUSH (R118): A transaction to a queue window pushes one item, closed at CS_N rise or STOP, or discards
it whole with HIF_OVERRUN. -/
def execHostQueuePush (n : Fin 8) (words : List (BitVec 32)) (s : State) : Host.Outcome State Fault Refusal :=
  done (s.native fun s => if words.isEmpty then s else s.closePush n words)

/-- HOST_QUEUE_POP (R119): A read of a link engine's queue window pops its receive queue from the next unread word,
after the SECDED check of R587. -/
def execHostQueuePop (n : Fin 8) (words : Nat) (ecc : List (Nat × Bool)) (s : State) :
    Host.Outcome State Fault Refusal :=
  done (s.native fun s => s.popsOut n words ecc)

/-- QUEUE_RELEASE (R120): an item is released, freed and its credits returned, at transaction end, at the next pop
with CRC on, or by HIF_QCTL OP release. -/
def execQueueRelease (q : Fin 9) (s : State) : Host.Outcome State Fault Refusal :=
  done (s.native fun s => s.regWrite Adr.HIF_QCTL (Fld.HIF_QCTL_Q.into 0 q))

/-- QUEUE_REWIND (R120): HIF_QCTL with OP rewind sets the read position of the queue's current item back to its first
word. -/
def execQueueRewind (q : Fin 9) (s : State) : Host.Outcome State Fault Refusal :=
  done (s.native fun s => s.regWrite Adr.HIF_QCTL (Fld.HIF_QCTL_OP.into (Fld.HIF_QCTL_Q.into 0 q) 1))

/-- LEGACY_VIEW_ENTER (R125): Entering the legacy view soft-resets LE7, places it under the legacy binding and
reserves scheduler slot 63. -/
def execLegacyViewEnter (s : State) : Host.Outcome State Fault Refusal :=
  done (s.native fun s => s.regWrite Adr.HIF_VIEW 1)

/-- NATIVE_VIEW_SELECT (R135): writing HIF_VIEW 0 selects the native view from the next transaction without ending the
legacy binding. -/
def execNativeViewSelect (s : State) : Host.Outcome State Fault Refusal :=
  done (if s.up && s.pwr.ioUp then ((s.accessed).setView false).lateOver else s)

/-- LEGACY_EXIT (R127): writing 0x4E to L_EXIT selects the native view from the next transaction. -/
def execLegacyExit (s : State) : Host.Outcome State Fault Refusal :=
  done (s.legacyAccess fun s => s.legacyWrite 0xFF 0x4E)

/-- LEGACY_IDLE (R126): Legacy command 0x10 ends the running or waiting legacy task. -/
def execLegacyIdle (s : State) : Host.Outcome State Fault Refusal :=
  done (s.legacyAccess fun s => s.legacyWrite 0x01 0x10)

/-- LEGACY_TRANSCEIVE (R126): Legacy command 0x21 runs one transceive from L_FIFO as an NFC_TXN task in slot 63. -/
def execLegacyTransceive (s : State) : Host.Outcome State Fault Refusal :=
  done (s.legacyAccess fun s => s.legacyWrite 0x01 0x21)

/-- LEGACY_TRANSMIT (R126): Legacy command 0x22 runs one transmit from L_FIFO as an NFC_TXN task in slot 63. -/
def execLegacyTransmit (s : State) : Host.Outcome State Fault Refusal :=
  done (s.legacyAccess fun s => s.legacyWrite 0x01 0x22)

/-- LEGACY_RECEIVE (R126): Legacy command 0x23 runs one receive as an NFC_TXN task in slot 63. -/
def execLegacyReceive (s : State) : Host.Outcome State Fault Refusal :=
  done (s.legacyAccess fun s => s.legacyWrite 0x01 0x23)

/-- LEGACY_FIELD_ON (R126): Legacy command 0x30 holds the field on in an NFC_TXN task that carries later commands. -/
def execLegacyFieldOn (s : State) : Host.Outcome State Fault Refusal :=
  done (s.legacyAccess fun s => s.legacyWrite 0x01 0x30)

/-- LEGACY_FIELD_OFF (R126): Legacy command 0x31 ends the legacy task and its field. -/
def execLegacyFieldOff (s : State) : Host.Outcome State Fault Refusal :=
  done (s.legacyAccess fun s => s.legacyWrite 0x01 0x31)

/-- LEGACY_TYPEA_ANTICOLL (R486): Legacy command 0x40 runs the Type A step with AMAX 1 and no HLTA, leaving UID and
SAK in L_FIFO. -/
def execLegacyTypeaAnticoll (s : State) : Host.Outcome State Fault Refusal :=
  done (s.legacyAccess fun s => s.legacyWrite 0x01 0x40)

/-- LEGACY_INVENTORY (R486): Legacy command 0x41 runs one 16-slot inventory without splitting, leaving DSFID and UID
per slot in L_FIFO. -/
def execLegacyInventory (s : State) : Host.Outcome State Fault Refusal :=
  done (s.legacyAccess fun s => s.legacyWrite 0x01 0x41)

/-- LEGACY_HOLD_LAPSE (R126): A FIELD_ON legacy task whose HOLD lapses with no command ends DONE. -/
def execLegacyHoldLapse (s : State) : Host.Outcome State Fault Refusal :=
  done (s.live fun s => s.legacyHoldLapse)

/-- LEGACY_FIFO_WRITE (R127): A write to L_FIFO appends a byte to the transmit FIFO, or beyond 64 bytes sets BUFOVF
and raises HIF_OVERRUN. -/
def execLegacyFifoWrite (b : BitVec 8) (s : State) : Host.Outcome State Fault Refusal :=
  done (s.legacyAccess fun s => s.legacyWrite 0x06 b)

/-- LEGACY_FIFO_READ (R128): A read of L_FIFO returns the next received byte streamed from the packet store. -/
def execLegacyFifoRead (s : State) : Host.Outcome State Fault Refusal :=
  done (s.legacyAccess fun s =>
    let r := s.legacyReadByte 0x06
    { r.2 with hostOut := [r.1] })

/-- LEGACY_FIFO_FLUSH (R127): writing 1 to L_FIFOLVL bit 7 empties the FIFO. -/
def execLegacyFifoFlush (s : State) : Host.Outcome State Fault Refusal :=
  done (s.legacyAccess fun s => s.legacyWrite 0x05 0x80)

/-- LEGACY_MAPPED_WRITE (R128): A legacy write to a mapped RS field writes its twin and requests a single-page commit
at once. -/
def execLegacyMappedWrite (a b : BitVec 8) (s : State) : Host.Outcome State Fault Refusal :=
  done (s.legacyAccess fun s => s.legacyMapped a.toNat b)

/-- IRQ_RETRIG_REASSERT (R130): With RETRIG set, an IRQ pin released by a new PEND bit asserts again after 64 HFRC
cycles. -/
def execIrqRetrigReassert (pin : Bool) (s : State) : Host.Outcome State Fault Refusal :=
  done (s.live fun s => if pin then { s with irqReleasedB := false } else { s with irqReleasedA := false })

/-- WAKE_EDGE (R131): A rising edge on WAKE brings the fabric out of Ember and raises HIF_WAKE. -/
def execWakeEdge (high : Bool) (s : State) : Host.Outcome State Fault Refusal :=
  done (s.wakeEdge high)

/-- FABRIC_AWAKE (R146): the fabric reaches its IDLE level after an Ember exit, setting AWAKE in the status byte. -/
def execFabricAwake (s : State) : Host.Outcome State Fault Refusal :=
  done (s.live fun s => s.fabricAwake)

end Sys2Proof.Machine
end

