-- ==== Sys2Proof/Machine/ExecLine.lean ====
section
/-! DEFINITION. The meanings of the commands of the Morrun line. -/

namespace Sys2Proof.Machine

/-- LINE_POWER_ON (R358): Router task LINE_POWER_ON or WIR_CMD.ON raises LINE_PWR and starts the inrush phase. -/
def execLinePowerOn (byTask : Bool) (s : State) : Host.Outcome State Fault Refusal :=
  done (s.taskOrWrite byTask 53 Adr.WIR_CMD Fld.WIR_CMD_ON.one)

/-- LINE_INRUSH_END (R358): At the end of INRUSH the line either ends as an overcurrent or enters SETTLE. -/
def execLineInrushEnd (ma : Nat) (s : State) : Host.Outcome State Fault Refusal :=
  done (s.live fun s => s.lineInrushEnd ma)

/-- LINE_SETTLE_END (R358): At the end of SETTLE the line reads ON, WIR_POWER_ON is raised and cycle 0 starts. -/
def execLineSettleEnd (s : State) : Host.Outcome State Fault Refusal :=
  done (s.live fun s => s.settleEnds)

/-- LINE_CURRENT_SAMPLE (R357): every 339 wire cycles LINE_ISNS is sampled and judged for short, overcurrent, plug and
unplug. -/
def execLineCurrentSample (ma : Nat) (s : State) : Host.Outcome State Fault Refusal :=
  done (s.live fun s => s.lineSample ma)

/-- LINE_POWER_OFF (R360): Router task LINE_POWER_OFF or WIR_CMD.OFF opens the line switch at once and raises
WIR_POWER_OFF. -/
def execLinePowerOff (byTask : Bool) (s : State) : Host.Outcome State Fault Refusal :=
  done (s.taskOrWrite byTask 7 Adr.WIR_CMD Fld.WIR_CMD_OFF.one)

/-- LINE_POWER_OFF_SOFT (R360): Router task LINE_POWER_OFF_SOFT or WIR_CMD.SOFTOFF opens the line switch at the end of
the current cycle. -/
def execLinePowerOffSoft (byTask : Bool) (s : State) : Host.Outcome State Fault Refusal :=
  done (s.taskOrWrite byTask 54 Adr.WIR_CMD Fld.WIR_CMD_SOFTOFF.one)

/-- LINE_CYCLE_BOUNDARY (R367): A hub cycle start sends the mark and beacon if a LINE_CYCLE task runs, or leaves the
cycle dark. -/
def execLineCycleBoundary (s : State) : Host.Outcome State Fault Refusal :=
  done (s.live fun s => s.cycleStarts)

/-- LINE_CYCLE_LEAD (R368): LEAD before each cycle start the WIR page acts on WAITING LINE_CYCLE slots as a trigger
firing. -/
def execLineCycleLead (s : State) : Host.Outcome State Fault Refusal :=
  done (s.live fun s => s.cycleLead)

/-- LINE_WINDOW_START (R372): At the start of a window the hub sends a legacy beacon in M1 or M2 windows and
WIR_GEN_WIN may be raised. -/
def execLineWindowStart (g : Fin 3) (s : State) : Host.Outcome State Fault Refusal :=
  done (s.live fun s => s.windowStart (g + 1))

/-- LINE_WINDOW_END (R368): At the end of the cycle's last window a LINE_CYCLE task ends DONE. -/
def execLineWindowEnd (g : Fin 4) (s : State) : Host.Outcome State Fault Refusal :=
  done (s.live fun s => s.windowEnd g)

/-- UPSTREAM_BURST_START (R374): A node's backoff reaching 0 after an IDLE_A group starts its upstream burst. -/
def execUpstreamBurstStart (left : Nat) (s : State) : Host.Outcome State Fault Refusal :=
  done (s.live fun s => s.upstream left)

/-- LINE_COLLISION (R375): the hub judging an upstream collision raises WIR_COLLISION and sends IDLE_C. -/
def execLineCollision (s : State) : Host.Outcome State Fault Refusal :=
  done (s.live fun s => s.hubCollision)

/-- IDLE_C_RECEIVED (R375): A sending node receiving IDLE_C stops its burst, raises WIR_COLLISION and doubles CW. -/
def execIdleCReceived (s : State) : Host.Outcome State Fault Refusal :=
  done (s.live fun s => s.idleC)

/-- LEGACY_LINE_FRAME_START (R376): A device starts an M1 or M2 frame once the line has been quiet for its interframe
space and backoff. -/
def execLegacyLineFrameStart (g : Fin 2) (left : Nat) (s : State) : Host.Outcome State Fault Refusal :=
  done (s.live fun s => s.legacyStart (g + 1) left)

/-- LINE_FRAME_RECEIVED (R388): A received line frame is handed to FEC or the CRC-16 check and WIR_RX_DONE is raised,
or WIR_RX_ERR for a cut burst. -/
def execLineFrameReceived (gen : Fin 3) (inverse cut : Bool) (phr llrs : List Int) (hard : List Bool) (s : State) :
    Host.Outcome State Fault Refusal :=
  done (s.live fun s => s.lineReceived (gen + 1) inverse cut phr llrs hard)

/-- EC_TRAINING_PASS_END (R379): A training pass ends, raising WIR_EC_CONV and setting ECOK if converged, or
WIR_EC_DIVERGE after the second pass. -/
def execEcTrainingPassEnd (res : Int) (s : State) : Host.Outcome State Fault Refusal :=
  done (s.live fun s => s.trainingPass res)

/-- EC_DIVERGE (R380): RES above −DIVTHR for 16 transmitting groups clears ECOK, raises WIR_EC_DIVERGE and may trigger
retraining. -/
def execEcDiverge (res : Int) (s : State) : Host.Outcome State Fault Refusal :=
  done (s.live fun s => s.ecDiverge res)

/-- EC_RETRAIN (R267): Router task EC_RETRAIN makes a kind firing on WAITING LINE_TRAIN slots. -/
def execEcRetrain (s : State) : Host.Outcome State Fault Refusal :=
  done (s.live fun s => s.routerTask 51)

/-- LINE_MARK_RECEIVED (R382): A node receiving a mark tracks clock recovery, declares lock at LOCKN marks and decodes
the beacon layout. -/
def execLineMarkReceived (err ppm : Int) (inverse : Bool) (phr : List Int) (items : List (List Int)) (s : State) :
    Host.Outcome State Fault Refusal :=
  done (s.live fun s => s.markArrives err ppm inverse phr items)

/-- LINE_MARK_MISSED (R383): an expected mark absent, counted to MISS, loses lock, raising CLK_CDR_LOSS and clearing
LAYOUT. -/
def execLineMarkMissed (s : State) : Host.Outcome State Fault Refusal :=
  done (s.live fun s => s.markMissed)

/-- CDR_PHASE_LOSS (R383): Phase error beyond ±7 wire cycles on 64 consecutive M3 symbols loses lock. -/
def execCdrPhaseLoss (s : State) : Host.Outcome State Fault Refusal :=
  done (s.live fun s => if !s.hub && s.bit .CLK_STAT_CDR then s.lineLoss else s)

/-- POLARITY_RECHECK (R384): Router task POLARITY_RECHECK or WIR_CMD.POLCHECK makes the next sync detection judge
polarity again. -/
def execPolarityRecheck (byTask : Bool) (s : State) : Host.Outcome State Fault Refusal :=
  done (s.taskOrWrite byTask 56 Adr.WIR_CMD Fld.WIR_CMD_POLCHECK.one)

/-- LINE_ANNOUNCE_RECEIVED (R386): the hub enters a received ANNOUNCE in its list, sets WIR_PRESENT and raises
WIR_NEWNODE. -/
def execLineAnnounceReceived (src : BitVec 8) (uid : BitVec 64) (gens step : BitVec 8) (s : State) :
    Host.Outcome State Fault Refusal :=
  done (s.live fun s => s.announced src.toNat (announceBytes uid gens step) false 3)

/-- LINE_ANNOUNCE_POP (R392): writing 1 to WIR_ANN_INFO.VALID pops the oldest announce entry. -/
def execLineAnnouncePop (s : State) : Host.Outcome State Fault Refusal :=
  done (s.native fun s => s.regWrite Adr.WIR_ANN_INFO Fld.WIR_ANN_INFO_VALID.one)

/-- LINE_PROBE (R387): Router task LINE_PROBE or WIR_CMD.PROBE sets PROBE in the next beacon, clearing WIR_PRESENT
when sent. -/
def execLineProbe (byTask : Bool) (s : State) : Host.Outcome State Fault Refusal :=
  done (s.taskOrWrite byTask 55 Adr.WIR_CMD Fld.WIR_CMD_PROBE.one)

/-- LINE_HOLD (R389): Router task LINE_HOLD or WIR_CMD.HOLD holds the transmitter idle until the next LINE_CYCLE task
starts. -/
def execLineHold (byTask : Bool) (s : State) : Host.Outcome State Fault Refusal :=
  done (s.taskOrWrite byTask 57 Adr.WIR_CMD Fld.WIR_CMD_HOLD.one)

/-- LINE_CYCLE_START (R267): Router task LINE_CYCLE_START makes a kind firing on WAITING LINE_CYCLE slots in hub role.
-/
def execLineCycleStart (s : State) : Host.Outcome State Fault Refusal :=
  done (s.live fun s => s.routerTask 50)

/-- LINE_TX_QUEUED (R267): Router task LINE_TX_QUEUED sends the next queued frame in its generation's window within a
running LINE task. -/
def execLineTxQueued (s : State) : Host.Outcome State Fault Refusal :=
  done (s.live fun s => s.routerTask 52)

end Sys2Proof.Machine
end

