-- ==== Sys2Proof/Machine/ExecLink.lean ====
section
/-! DEFINITION. The meanings of the commands of the link engines. -/

namespace Sys2Proof.Machine

/-- TRANSACTION_OPEN (R305): With a free window place and an eligible item, the engine opens a transaction, assigning
SEQ and advancing TXSEQ. -/
def execTransactionOpen (n : Fin 8) (s : State) : Host.Outcome State Fault Refusal :=
  done (s.live fun s => s.openOne n)

/-- LINK_FRAME_TRANSMIT (R308): At an opportunity in a running task the engine hands owed acknowledgements, forwarded
frames and DUE places to SEC, FEC and the PHY. -/
def execLinkFrameTransmit (n : Fin 8) (s : State) : Host.Outcome State Fault Refusal :=
  done (s.live fun s => s.linkTransmit n)

/-- LINK_TX_COMPLETE (R309): A frame's transmission on the PHY completes, starting its acknowledgement timeout or
ending a NOACK transaction done. -/
def execLinkTxComplete (radio : Bool) (s : State) : Host.Outcome State Fault Refusal :=
  done (s.live fun s => s.linkComplete radio)

/-- ACK_TIMEOUT (R309): At the orbit the acknowledgement timeout expires, the place enters JITTER or the transaction
fails with cause RETRIES. -/
def execAckTimeout (n : Fin 8) (place : Fin 4) (s : State) : Host.Outcome State Fault Refusal :=
  done (s.live fun s => s.ackTimeout n place)

/-- JITTER_EXPIRY (R309): A place's random retransmission delay ends and it becomes DUE. -/
def execJitterExpiry (n : Fin 8) (place : Fin 4) (s : State) : Host.Outcome State Fault Refusal :=
  done (s.live fun s => s.jitterExpiry n place)

/-- ACK_RECEIVED (R311): A received acknowledgement ends every matching open transaction to that peer, or is counted
as stray or stale. -/
def execAckReceived (s : State) : Host.Outcome State Fault Refusal :=
  done (s.live fun s => s.linkJudges true)

/-- REPORT_QUEUED (R307): A report held in REPORT for want of receive credit is queued when credit returns. -/
def execReportQueued (n : Fin 8) (s : State) : Host.Outcome State Fault Refusal :=
  done (s.live fun s => s.retryReport n)

/-- LINK_FRAME_RECEIVED (R312): A received frame that passed its checks is judged against the peer entry and accepted,
discarded or found duplicate. -/
def execLinkFrameReceived (ecc : List (Nat × Bool)) (s : State) : Host.Outcome State Fault Refusal :=
  done (s.live fun s => (s.storeErrors ecc).linkJudges false)

/-- PEER_ENTRY_WRITE (R317): A host write to a peer-table word is applied whole between two engine actions on the
entry. -/
def execPeerEntryWrite (id : BitVec 8) (w : Fin 4) (value : BitVec 32) (s : State) : Host.Outcome State Fault Refusal :=
  done (s.native fun s => s.regWrite (peerAddr id.toNat w) value)

/-- NFC_RESPONSE_QUEUED (R474): A held NFC response is queued when receive credit returns, ending the NFC transaction.
-/
def execNfcResponseQueued (s : State) : Host.Outcome State Fault Refusal :=
  done (s.live fun s => s.heldQueued)

/-- LE_KICK (R308): Router task LEn_KICK releases a hold and moves every JITTER place to DUE at once. -/
def execLeKick (n : Fin 8) (s : State) : Host.Outcome State Fault Refusal :=
  done (s.live fun s => s.routerTask (80 + 2 * n))

/-- LE_HOLD (R305): Router task LEn_HOLD stops the engine opening new transactions until LEn_KICK. -/
def execLeHold (n : Fin 8) (s : State) : Host.Outcome State Fault Refusal :=
  done (s.live fun s => s.routerTask (81 + 2 * n))

end Sys2Proof.Machine
end

