-- ==== Sys2Proof/Machine/ExecModem.lean ====
section
/-! DEFINITION. The meanings of the commands of the radio modem. -/

namespace Sys2Proof.Machine

/-- LANE_SYNC (R425): A lane finding its sync word captures the receiver, pre-empts a weaker frame, or raises
RDM_LANE_OVR. -/
def execLaneSync (syncs : List LaneSync) (s : State) : Host.Outcome State Fault Refusal :=
  done (s.live fun s => s.laneSyncs syncs)

/-- RADIO_HEADER_RECEIVED (R428): At the end of the header window the PHR or legacy header is checked, raising
RDM_HDR_OK or ending the frame. -/
def execRadioHeaderReceived (soft : List Int) (hard : List Bool) (s : State) : Host.Outcome State Fault Refusal :=
  done (s.live fun s => s.radioHeader soft hard)

/-- RADIO_FRAME_RECEIVED (R428): the last item of a received radio frame crosses to the fabric and RDM_RX_DONE is
raised. -/
def execRadioFrameReceived (llrs : List Int) (hard : List Bool) (s : State) : Host.Outcome State Fault Refusal :=
  done (s.live fun s => s.radioReceived llrs hard)

/-- RSSI_SAMPLE (R432): every 25 µs in RX or listen an RSSI sample is taken, raising RDM_RSSI_HI or RDM_RSSI_LO by
hysteresis. -/
def execRssiSample (dbm : Int) (s : State) : Host.Outcome State Fault Refusal :=
  done (s.live fun s => s.rssiSample dbm)

/-- ANNOUNCE_REQUEST (R438): RDM_CMD.ANN makes the next RAD_TX task send one ANNOUNCE first. -/
def execAnnounceRequest (s : State) : Host.Outcome State Fault Refusal :=
  done (s.native fun s => s.regWrite Adr.RDM_CMD Fld.RDM_CMD_ANN.one)

/-- RADIO_ANNOUNCE_POP (R444): writing 1 to RDM_ANN_INFO.VALID pops the oldest radio announce entry. -/
def execRadioAnnouncePop (s : State) : Host.Outcome State Fault Refusal :=
  done (s.native fun s => s.regWrite Adr.RDM_ANN_INFO Fld.RDM_ANN_INFO_VALID.one)

/-- SEARCH_START (R424): Router task SEARCH_START or RDM_CMD.START starts the lane search. -/
def execSearchStart (byTask : Bool) (s : State) : Host.Outcome State Fault Refusal :=
  done (s.taskOrWrite byTask 66 Adr.RDM_CMD Fld.RDM_CMD_START.one)

/-- SEARCH_STOP (R424): Router task SEARCH_STOP or RDM_CMD.STOP stops the lane search. -/
def execSearchStop (byTask : Bool) (s : State) : Host.Outcome State Fault Refusal :=
  done (s.taskOrWrite byTask 67 Adr.RDM_CMD Fld.RDM_CMD_STOP.one)

end Sys2Proof.Machine
end

