-- ==== Sys2Proof/Machine/ExecNfcField.lean ====
section
/-! DEFINITION. The meanings of the commands of the NFC field, the tuner and Comet. -/

namespace Sys2Proof.Machine

/-- FIELD_ON (R448): Router task FIELD_ON requests the field on within a running FIELD task. -/
def execFieldOn (s : State) : Host.Outcome State Fault Refusal :=
  done (s.live fun s => s.routerTask 39)

/-- EXT_FIELD_CHECK_END (R451): the 64 cp external field check ends, refusing the field with NFC_EXT_FIELD or starting
the driver ramp. -/
def execExtFieldCheckEnd (amp : Nat) (s : State) : Host.Outcome State Fault Refusal :=
  done (s.live fun s => s.extCheck amp)

/-- FIELD_LEVEL_REACHED (R448): the field reaches its level, NFC_FIELD_ON is raised and the mismatch measurement
starts. -/
def execFieldLevelReached (ma mv : Nat) (s : State) : Host.Outcome State Fault Refusal :=
  done (s.live fun s => s.fieldReached ma mv)

/-- MISMATCH_MEASURED (R453): A mismatch measurement updates Q, raising NFC_MISMATCH after MCONF measurements above
QTHR. -/
def execMismatchMeasured (theta : Int) (s : State) : Host.Outcome State Fault Refusal :=
  done (s.live fun s => s.mismatchMeasured theta)

/-- FIELD_OFF (R449): Router task FIELD_OFF or NFC_CMD.FIELDOFF ramps the field down and ends running FIELD tasks. -/
def execFieldOff (byTask : Bool) (s : State) : Host.Outcome State Fault Refusal :=
  done (s.taskOrWrite byTask 40 Adr.NFC_CMD Fld.NFC_CMD_FIELDOFF.one)

/-- FIELD_RAMP_DOWN_END (R449): the field's ramp-down ends and NFC_FIELD_OFF is raised. -/
def execFieldRampDownEnd (s : State) : Host.Outcome State Fault Refusal :=
  done (s.live fun s => s.rampDownEnd)

/-- FIELD_SUPPLY_SAMPLE (R450): every 128 cp with the field on VDD_TX is sampled, raising NFC_TXSUP_SAG once per
field. -/
def execFieldSupplySample (mv : Nat) (s : State) : Host.Outcome State Fault Refusal :=
  done (s.live fun s => s.fieldSupply mv)

/-- DRIVER_OVERCURRENT (R450): Eight consecutive driver-current samples above 280 mA take the field off by the fast
path and raise NFC_DRV_OVERCUR. -/
def execDriverOvercurrent (s : State) : Host.Outcome State Fault Refusal :=
  done (s.live fun s => s.driverOvercurrent)

/-- TUNE_BANK_WRITE (R452): A host write to a tuner bank switches it within 2 cp and clears BASEV and NOREARM. -/
def execTuneBankWrite (bank : Fin 4) (code : BitVec 6) (s : State) : Host.Outcome State Fault Refusal :=
  done (s.native fun s => s.regWrite (Adr.NFC_TUNE_S0 + 4 * bank) (code.setWidth 32))

/-- TUNE_SWEEP (R267): Router task TUNE_SWEEP makes a kind firing on WAITING TUNE_SWEEP slots. -/
def execTuneSweep (s : State) : Host.Outcome State Fault Refusal :=
  done (s.live fun s => s.routerTask 42)

/-- TUNER_PROBE_END (R455): A tuner probe ends, keeping or restoring its bank code and moving the search on or
finishing the sweep. -/
def execTunerProbeEnd (theta : Int) (s : State) : Host.Outcome State Fault Refusal :=
  done (s.live fun s => s.probeEnd theta)

/-- COMET_INTERVAL (R456): every IVL or FAST ms the NFC page acts on WAITING COMET slots as a trigger firing. -/
def execCometInterval (s : State) : Host.Outcome State Fault Refusal :=
  done (s.live fun s => s.cometInterval)

/-- COMET_SWEEP (R267): Router task COMET_SWEEP makes a kind firing on WAITING COMET slots. -/
def execCometSweep (s : State) : Host.Outcome State Fault Refusal :=
  done (s.live fun s => s.routerTask 41)

/-- COMET_MEASURE_END (R457): the Comet measurement interval ends with AMP, PH and θ, and the ramp-down starts. -/
def execCometMeasureEnd (amp ph : BitVec 12) (theta : Int) (s : State) : Host.Outcome State Fault Refusal :=
  done (s.live fun s => s.cometMeasured amp.toNat ph.toNat theta)

/-- COMET_CLASSIFY (R458): After the ramp-down the sweep is classified, the Comet state updated and the task ends
DONE. -/
def execCometClassify (s : State) : Host.Outcome State Fault Refusal :=
  done (s.live fun s => s.cometClassify)

/-- FIELD_AMPLITUDE_WATCH (R460): every 128 cp under a non-Comet FIELD task, 16 measurements below the reference raise
NFC_CARD_NEAR. -/
def execFieldAmplitudeWatch (amp : BitVec 12) (s : State) : Host.Outcome State Fault Refusal :=
  done (s.live fun s => s.amplitudeWatch amp.toNat)

/-- BASELINE_WRITE (R461): A host write to NFC_BASE_AMP sets BASEV for a non-zero value and clears it for zero. -/
def execBaselineWrite (amp : BitVec 12) (s : State) : Host.Outcome State Fault Refusal :=
  done (s.native fun s => s.regWrite Adr.NFC_BASE_AMP (amp.setWidth 32))

/-- BASELINE_INVALIDATE (R461): NFC_CMD.BASEINV clears BASEV so the next sweep captures the baseline. -/
def execBaselineInvalidate (s : State) : Host.Outcome State Fault Refusal :=
  done (s.native fun s => s.regWrite Adr.NFC_CMD Fld.NFC_CMD_BASEINV.one)

/-- BASELINE_CAPTURE (R461): Router task BASELINE_CAPTURE clears BASEV within a running FIELD task. -/
def execBaselineCapture (s : State) : Host.Outcome State Fault Refusal :=
  done (s.live fun s => s.routerTask 43)

/-- NFC_FORCE_SAFE (R463): Router task NFC_FORCE_SAFE or NFC_CMD.SAFE sets the NFC page's SAFE and forces the field
off. -/
def execNfcForceSafe (byTask : Bool) (s : State) : Host.Outcome State Fault Refusal :=
  done (s.taskOrWrite byTask 44 Adr.NFC_CMD Fld.NFC_CMD_SAFE.one)

end Sys2Proof.Machine
end

