-- ==== Sys2Proof/Machine/ExecNfcProto.lean ====
section
/-! DEFINITION. The meanings of the commands of the NFC protocols. -/

namespace Sys2Proof.Machine

/-- POLL_START (R267): Router task POLL_START makes a kind firing on WAITING NFC_POLL slots. -/
def execPollStart (s : State) : Host.Outcome State Fault Refusal :=
  done (s.live fun s => s.routerTask 45)

/-- POLL_GUARD_TIME_END (R475): the guard time GT after field-on or between technologies ends and the next frame or
step may start. -/
def execPollGuardTimeEnd (s : State) : Host.Outcome State Fault Refusal :=
  done (s.live fun s => s.guardEnd)

/-- POLL_STEP_END (R478): A poll step ends, raising NFP_TECH_DETECT or NFP_INV_DONE and moving to the next step or
serving phase. -/
def execPollStepEnd (s : State) : Host.Outcome State Fault Refusal :=
  done (s.live fun s => s.pollStepEnd)

/-- POLL_STOP (R479): Router task POLL_STOP or NFP_CMD.STOP ends the poll at its next step boundary and sets STOPPED.
-/
def execPollStop (byTask : Bool) (s : State) : Host.Outcome State Fault Refusal :=
  done (s.taskOrWrite byTask 46 Adr.NFP_CMD Fld.NFP_CMD_STOP.one)

/-- NFP_ABORT (R479): Router task NFP_ABORT or NFP_CMD.ABORT cuts the frame under way and ends the task ABORTED with
cause HOST. -/
def execNfpAbort (byTask : Bool) (s : State) : Host.Outcome State Fault Refusal :=
  done (s.taskOrWrite byTask 49 Adr.NFP_CMD Fld.NFP_CMD_ABORT.one)

/-- NFP_TX_QUEUED (R479): Router task NFP_TX_QUEUED sends the engine's next queued command at the next boundary. -/
def execNfpTxQueued (s : State) : Host.Outcome State Fault Refusal :=
  done (s.live fun s => s.routerTask 48)

/-- INVENTORY_START (R479): Router task INVENTORY_START adds one ISO/IEC 15693 inventory step at the next boundary. -/
def execInventoryStart (s : State) : Host.Outcome State Fault Refusal :=
  done (s.live fun s => s.routerTask 47)

/-- NFC_COMMAND_SENT (R476): the last bit of an NFC command is sent, blanking the receiver and raising NFP_TX_DONE for
host commands. -/
def execNfcCommandSent (s : State) : Host.Outcome State Fault Refusal :=
  done (s.live fun s => s.nfcSent)

/-- NFC_RECEIVER_OPEN (R476): RXMIN after a command the receiver opens, flagging an already-started response with
NFP_FDT_VIOL. -/
def execNfcReceiverOpen (early : Bool) (s : State) : Host.Outcome State Fault Refusal :=
  done (s.live fun s => s.receiverOpen early)

/-- NFC_RESPONSE_TIMEOUT (R476): No response by the frame waiting time ends the exchange with TIMEOUT and raises
NFP_RX_TIMEOUT. -/
def execNfcResponseTimeout (s : State) : Host.Outcome State Fault Refusal :=
  done (s.live fun s => s.responseTimeout)

/-- NFC_RESPONSE_RECEIVED (R473): A response ends, is classified and queued as a KIND 0 item or recorded by the
running step, raising NFP_RX_DONE. -/
def execNfcResponseReceived (bytes : List (BitVec 8)) (lastbits : Nat) (coll : Option Nat) (framing parity crcBad : Bool) (rtime amp : Nat) (s : State) :
    Host.Outcome State Fault Refusal :=
  done (s.live fun s =>
    s.responseReceived
      { bytes := bytes, lastbits := lastbits, coll := coll, framing := framing, parity := parity, crcBad := crcBad,
        rtime := rtime, amp := amp })

/-- NFC_FRAME_GAP_END (R476): GAP after a response or timeout ends and the next frame may start. -/
def execNfcFrameGapEnd (s : State) : Host.Outcome State Fault Refusal :=
  done (s.live fun s => s.gapEnd)

/-- INVENTORY_SLOT_EOF (R481): an inventory slot is closed by an EOF sent at its fixed delay. -/
def execInventorySlotEof (s : State) : Host.Outcome State Fault Refusal :=
  done (s.live fun s => s.slotEof)

/-- SENSF_LISTEN_END (R480): the ISO/IEC 18092 time-slot listen after SENSF_REQ ends. -/
def execSensfListenEnd (s : State) : Host.Outcome State Fault Refusal :=
  done (s.live fun s => s.sensfEnd)

/-- NFC_HOLD_LAPSE (R475): the transmit queue empty for HOLD ms ends an NFC_TXN task or a poll's serving phase DONE.
-/
def execNfcHoldLapse (s : State) : Host.Outcome State Fault Refusal :=
  done (s.live fun s => s.holdLapse)

/-- TAG_LIST_CLEAR (R482): NFP_CMD.CLRLIST deletes every tag-list entry whose KEEP is 0. -/
def execTagListClear (s : State) : Host.Outcome State Fault Refusal :=
  done (s.native fun s => s.regWrite Adr.NFP_CMD Fld.NFP_CMD_CLRLIST.one)

/-- TAG_KEEP_WRITE (R491): A write of KEEP through NFP_TAGWIN0 sets or clears protection of a valid entry. -/
def execTagKeepWrite (keep : Bool) (s : State) : Host.Outcome State Fault Refusal :=
  done (s.native fun s => s.regWrite (Adr.NFP_TAGWIN 0) (BitVec.ofNat 32 (keep.toNat * 2 ^ 29)))

end Sys2Proof.Machine
end

