-- ==== Sys2Proof/Machine/ExecPages.lean ====
section
/-! DEFINITION. The meanings of the commands of registers, pages, commits and resets. -/

namespace Sys2Proof.Machine

/-- REGISTER_WRITE (R9): A host write to a register that has no row of its own takes effect according to its access
code. -/
def execRegisterWrite (addr : BitVec 16) (value : BitVec 32) (s : State) : Host.Outcome State Fault Refusal :=
  done (s.native fun s => if queueWord addr.toNat && decide (0x6000 ≤ addr.toNat) then s.closePush (windowEngine addr.toNat) [value] else s.regWrite addr.toNat value)

/-- STAGED_TWIN_WRITE (R71): A write to a staged twin stores the value and sets PG_CFGSTAT.DIRTY, or is refused while
a commit is pending. -/
def execStagedTwinWrite (addr : BitVec 16) (value : BitVec 32) (s : State) : Host.Outcome State Fault Refusal :=
  done (s.native fun s => s.regWrite addr.toNat value)

/-- COMMIT_GO (R75): writing PG_COMMIT.GO requests a single-page commit, or re-issues a failed group member, and sets
PENDING. -/
def execCommitGo (p : Fin 32) (s : State) : Host.Outcome State Fault Refusal :=
  done (s.native fun s => s.regWrite (Adr.PG_COMMIT p) (Fld.PG_COMMIT_GO p).one)

/-- COMMIT_REVERT (R77): writing PG_COMMIT.REVERT copies every active RS value into its twin, clears DIRTY and cancels
a pending non-group commit. -/
def execCommitRevert (p : Fin 32) (s : State) : Host.Outcome State Fault Refusal :=
  done (s.native fun s => s.regWrite (Adr.PG_COMMIT p) (Fld.PG_COMMIT_REVERT p).one)

/-- PAGE_APPLY (R70): At its safe point a page with a pending commit applies its staged set atomically, clears PENDING
and DIRTY and advances GEN. -/
def execPageApply (p : Fin 32) (s : State) : Host.Outcome State Fault Refusal :=
  done (s.live fun s => s.pageApply p)

/-- COMMIT_TIMEOUT (R76): A commit that has not applied SYS_CMT_TIMEOUT.TO ms after its request ends without applying,
sets PG_CFGSTAT.TIMEOUT and raises SYS_CMT_TIMEOUT. -/
def execCommitTimeout (p : Fin 32) (s : State) : Host.Outcome State Fault Refusal :=
  done (s.live fun s => s.commitTimeout p)

/-- GROUP_GO (R78): writing SYS_CMT_GO.GO starts a group from a snapshot of SYS_CMT_MASK, or re-issues the unapplied
members of the outstanding group. -/
def execGroupGo (s : State) : Host.Outcome State Fault Refusal :=
  done (s.native fun s => s.regWrite Adr.SYS_CMT_GO Fld.SYS_CMT_GO_GO.one)

/-- GROUP_DRAIN (R81): writing SYS_CMT_GO.DRAIN starts a group, or re-issues the unapplied members, in DRAIN mode. -/
def execGroupDrain (s : State) : Host.Outcome State Fault Refusal :=
  done (s.native fun s => s.regWrite Adr.SYS_CMT_GO Fld.SYS_CMT_GO_DRAIN.one)

/-- GROUP_CANCEL (R81): writing SYS_CMT_GO.CANCEL ends the outstanding group, and unapplied members clear PENDING,
INGROUP and DRAINHOLD. -/
def execGroupCancel (s : State) : Host.Outcome State Fault Refusal :=
  done (s.native fun s => s.regWrite Adr.SYS_CMT_GO Fld.SYS_CMT_GO_CANCEL.one)

/-- DRAIN_GROUP_APPLY (R80): Once the last DRAIN member reaches its safe point, all members apply in one step, the
group ends and DRAINHOLD clears. -/
def execDrainGroupApply (s : State) : Host.Outcome State Fault Refusal :=
  done (s.live fun s => s.drainApply)

/-- DRAIN_GROUP_TIMEOUT (R80): if a DRAIN member has not reached its safe point at TO, no member applies, all resume
and SYS_CMT_TIMEOUT is raised. -/
def execDrainGroupTimeout (s : State) : Host.Outcome State Fault Refusal :=
  done (s.live fun s => s.drainTimeout)

/-- PAGE_LOCK (R82): writing 0x0000_4C4B to PG_LOCK locks the page's RL fields and PG_EVT_FORCE until reset; other
values raise SYS_ACC_ERR. -/
def execPageLock (p : Fin 32) (s : State) : Host.Outcome State Fault Refusal :=
  done (s.native fun s => s.regWrite (Adr.PG_LOCK p) 0x4C4B)

/-- PAGE_ENABLE (R88): A write to PG_CTRL.EN enables or disables the block, subject to refusals such as R28, R38 and
R298. -/
def execPageEnable (p : Fin 32) (on : Bool) (s : State) : Host.Outcome State Fault Refusal :=
  done (s.native fun s => s.regWrite (Adr.PG_CTRL p) (s.ctrlWith p (.PG_CTRL_EN p) on))

/-- PAGE_SAFE (R88): A write to PG_CTRL.SAFE holds the block at its safe point accepting no new work, or releases it.
-/
def execPageSafe (p : Fin 32) (on : Bool) (s : State) : Host.Outcome State Fault Refusal :=
  done (s.native fun s => s.regWrite (Adr.PG_CTRL p) (s.ctrlWith p (.PG_CTRL_SAFE p) on))

/-- PAGE_SOFT_RESET (R88): writing PG_CTRL.SRST soft-resets the block's working state, keeping configuration and lock.
-/
def execPageSoftReset (p : Fin 32) (s : State) : Host.Outcome State Fault Refusal :=
  done (s.native fun s => s.regWrite (Adr.PG_CTRL p) (s.ctrlWith p (.PG_CTRL_SRST p) true))

/-- EVENT_PEND_CLEAR (R69): writing 1 to a PG_EVT_PEND bit clears that bit in PG_EVT_RAW and PG_EVT_PEND. -/
def execEventPendClear (p : Fin 32) (bits : BitVec 32) (s : State) : Host.Outcome State Fault Refusal :=
  done (s.native fun s => s.regWrite (Adr.PG_EVT_PEND p) bits)

/-- IRQ_SUM_CLEAR (R139): writing 1 to a bit of IRQ_SUMn clears that event's pending bit in its page. -/
def execIrqSumClear (n : Fin 6) (bits : BitVec 32) (s : State) : Host.Outcome State Fault Refusal :=
  done (s.native fun s => s.regWrite (Adr.IRQ_SUM n) bits)

/-- EVENT_FORCE (R90): writing 1 to a PG_EVT_FORCE bit produces one occurrence of that event as if the block had
raised it. -/
def execEventForce (p : Fin 32) (bits : BitVec 32) (s : State) : Host.Outcome State Fault Refusal :=
  done (s.native fun s => s.regWrite (Adr.PG_EVT_FORCE p) bits)

/-- SOFTWARE_EVENT (R99): writing 1 to SYS_SWEVT bit 0 raises the event SYS_SWEVT. -/
def execSoftwareEvent (s : State) : Host.Outcome State Fault Refusal :=
  done (s.native fun s => s.regWrite Adr.SYS_SWEVT Fld.SYS_SWEVT_SW.one)

/-- SOFTWARE_RESET (R99): writing 0x0000_5A17 to SYS_SWRST resets the part with cause SOFT; other values raise
SYS_ACC_ERR. -/
def execSoftwareReset (key : BitVec 32) (s : State) : Host.Outcome State Fault Refusal :=
  done (s.native fun s => s.regWrite Adr.SYS_SWRST key)

/-- PIN_RESET (R132): RESET_N held low for 1 µs or more resets the part with cause PIN until RESET_N rises. -/
def execPinReset (s : State) : Host.Outcome State Fault Refusal :=
  done (if s.pwr.ioUp then s.resetPart Rst.PIN else s)

/-- SUPPLY_VRST (R157): VDD_MAIN falling below 1.70 V resets the part with cause VRST. -/
def execSupplyVrst (mv : Nat) (s : State) : Host.Outcome State Fault Refusal :=
  done (if mv < 1700 then s.resetPart Rst.VRST else s)

/-- EMBER_DOMAIN_LOSS (R158): VDD_MAIN falling below 1.40 V loses the Ember domain, so the next start is a POR. -/
def execEmberDomainLoss (mv : Nat) (s : State) : Host.Outcome State Fault Refusal :=
  done (if mv < 1400 then s.emberLoss else s)

/-- KINDLING (R148): Once VDD_MAIN has held at or above 1.76 V for 4 ms, or RESET_N rises, the part regulates VCORE,
loads OTP, self-checks, starts the HFRC and raises SYS_READY. -/
def execKindling (fails : Nat) (test io : Bool) (strap : Fin 3) (a1 a0 : Bool) (temp : Int) (vmain vstore : Nat) (s : State) :
    Host.Outcome State Fault Refusal :=
  done (s.kindling fails test io { strap := strap, a1 := a1, a0 := a0, temp := temp, vmain := vmain, vstore := vstore })

/-- KINDLING_IO_READY (R553): Kindling held at its CLK step resumes once VDD_IO reaches 1.50 V, and SYS_READY follows
within 0.25 ms. -/
def execKindlingIoReady (strap : Fin 3) (a1 a0 : Bool) (temp : Int) (vmain vstore : Nat) (s : State) :
    Host.Outcome State Fault Refusal :=
  done (s.kindlingIo { strap := strap, a1 := a1, a0 := a0, temp := temp, vmain := vmain, vstore := vstore })

end Sys2Proof.Machine
end

