-- ==== Sys2Proof/Machine/ExecPower.lean ====
section
/-! DEFINITION. The meanings of the commands of the supplies, the Damper and the Hearth bank. -/

namespace Sys2Proof.Machine

/-- EMBER_ENTRY (R145): At the orbit at which the entry conditions have held for HOLDOFF + 1 counts with REQ 1, the
part enters Ember. -/
def execEmberEntry (s : State) : Host.Outcome State Fault Refusal :=
  done (s.live fun s => s.emberEnter)

/-- TXSUP_LOW (R144): VDD_TX below 2.60 V for 5 µs raises PWR_TXSUP_LOW, sets TXLOW and fails a running field
transaction. -/
def execTxsupLow (mv : Nat) (s : State) : Host.Outcome State Fault Refusal :=
  done (s.live fun s => if mv < 2600 then s.txsupLow else s)

/-- TXSUP_RECOVER (R144): VDD_TX reaching 2.70 V ends the TXLOW condition. -/
def execTxsupRecover (mv : Nat) (s : State) : Host.Outcome State Fault Refusal :=
  done (s.live fun s => if 2700 ≤ mv then s.txsupRecover else s)

/-- VWARN_CROSSING (R151): VDD_MAIN falling below VWARN raises PWR_WARN, counts the dip and engages the Damper. -/
def execVwarnCrossing (mv : Nat) (s : State) : Host.Outcome State Fault Refusal :=
  done (s.live fun s => s.vwarnCross mv)

/-- M3_GROUP_COMPLETE (R153): an M3 transmission interrupted by the Damper or a hold finishes its current 16-symbol
group and then holds the line idle. -/
def execM3GroupComplete (s : State) : Host.Outcome State Fault Refusal :=
  done (s.live fun s => s.groupComplete)

/-- DWELL_START (R155): VDD_MAIN rising to VWARN + 60 mV starts the Damper's release dwell, and a fall below restarts
it. -/
def execDwellStart (mv : Nat) (s : State) : Host.Outcome State Fault Refusal :=
  done (s.live fun s => s.dwellStart mv)

/-- DAMPER_DWELL_COMPLETE (R155): the dwell completing releases a supply-caused engagement and writes PWR_LASTDIP. -/
def execDamperDwellComplete (s : State) : Host.Outcome State Fault Refusal :=
  done (s.live fun s => s.dwellDone)

/-- FORCE_DAMPER (R156): Router task FORCE_DAMPER or PWR_DAMP_CTRL.FORCE engages the Damper as forced. -/
def execForceDamper (byTask : Bool) (s : State) : Host.Outcome State Fault Refusal :=
  done (s.taskOrWrite byTask 5 Adr.PWR_DAMP_CTRL Fld.PWR_DAMP_CTRL_FORCE.one)

/-- RELEASE_DAMPER (R156): Router task RELEASE_DAMPER or PWR_DAMP_CTRL.RELEASE releases a forced engagement when no
supply-caused one is outstanding. -/
def execReleaseDamper (byTask : Bool) (s : State) : Host.Outcome State Fault Refusal :=
  done (s.taskOrWrite byTask 6 Adr.PWR_DAMP_CTRL Fld.PWR_DAMP_CTRL_RELEASE.one)

/-- DIP_COUNT_CLEAR (R170): PWR_DAMP_CTRL.CLRCNT clears PWR_DIP_COUNT and PWR_LASTDIP. -/
def execDipCountClear (s : State) : Host.Outcome State Fault Refusal :=
  done (s.native fun s => s.regWrite Adr.PWR_DAMP_CTRL Fld.PWR_DAMP_CTRL_CLRCNT.one)

/-- BANK_ADJ_ADD (R170): PWR_BANK_ADJ with OP 0 adds VALUE to a BATTERY bank, saturating at CAP. -/
def execBankAdjAdd (v : BitVec 24) (s : State) : Host.Outcome State Fault Refusal :=
  done (s.native fun s => s.regWrite Adr.PWR_BANK_ADJ (Fld.PWR_BANK_ADJ_VALUE.into 0 v.toNat))

/-- BANK_ADJ_SET (R170): PWR_BANK_ADJ with OP 1 sets a BATTERY bank's level to VALUE clamped to CAP. -/
def execBankAdjSet (v : BitVec 24) (s : State) : Host.Outcome State Fault Refusal :=
  done (s.native fun s => s.regWrite Adr.PWR_BANK_ADJ (Fld.PWR_BANK_ADJ_OP.into (Fld.PWR_BANK_ADJ_VALUE.into 0 v.toNat) 1))

/-- MEAS_STORE (R162): Router task MEAS_STORE or PWR_MEAS_CTRL.GO starts one measurement of VDD_MAIN and VSTORE_SNS.
-/
def execMeasStore (byTask : Bool) (s : State) : Host.Outcome State Fault Refusal :=
  done (s.taskOrWrite byTask 4 Adr.PWR_MEAS_CTRL Fld.PWR_MEAS_CTRL_GO.one)

/-- MEASUREMENT_DONE (R162): A requested measurement completes, updates PWR_VMEAS and a SUPERCAP level, and raises
PWR_MEAS_DONE. -/
def execMeasurementDone (vmain vstore : Nat) (s : State) : Host.Outcome State Fault Refusal :=
  done (s.live fun s => s.measurementDone vmain vstore)

/-- PERIODIC_MEASUREMENT (R162): every 10 ms, or every second in Ember, VDD_MAIN and VSTORE_SNS are measured and a
SUPERCAP level is replaced. -/
def execPeriodicMeasurement (vmain vstore : Nat) (s : State) : Host.Outcome State Fault Refusal :=
  done (s.live fun s => s.periodicMeasure vmain vstore)

end Sys2Proof.Machine
end

