-- ==== Sys2Proof/Machine/ExecRadio.lean ====
section
/-! DEFINITION. The meanings of the commands of the radio front end. -/

namespace Sys2Proof.Machine

/-- RADIO_TRANSITION_END (R395): A radio state transition completes and RAD_STATE may be raised. -/
def execRadioTransitionEnd (s : State) : Host.Outcome State Fault Refusal :=
  done (s.live fun s => s.radTransition)

/-- SYNTH_CAL (R267): Router task SYNTH_CAL makes a kind firing on WAITING RAD_CAL slots. -/
def execSynthCal (s : State) : Host.Outcome State Fault Refusal :=
  done (s.live fun s => s.routerTask 63)

/-- SYNTH_CAL_DONE (R398): A RAD_CAL task's calibration completes, records carrier and temperature, raises
RAD_CAL_DONE and ends DONE. -/
def execSynthCalDone (s : State) : Host.Outcome State Fault Refusal :=
  done (s.live fun s => s.calDone)

/-- SYNTH_CAL_LOCK_TIMEOUT (R398): Lock not reached within 420 µs of STANDBY raises RAD_LOCK_LOST and aborts the
RAD_CAL task. -/
def execSynthCalLockTimeout (s : State) : Host.Outcome State Fault Refusal :=
  done (s.live fun s => s.calTimeout)

/-- EXTPA_PIN_READBACK (R401): 1 µs after a change, PA_EN, LNA_EN or ANT_SEL found at the wrong level raises
RAD_EXTPA_FAULT and ends the transmission. -/
def execExtpaPinReadback (pin : Fin 3) (wrong : Bool) (s : State) : Host.Outcome State Fault Refusal :=
  done (s.live fun s => s.pinReadback pin wrong)

/-- RX_WINDOW_END (R405): A RAD_RX_WIN window ends, ending the task DONE and raising RDM_SEARCH_TO if no lane synced.
-/
def execRxWindowEnd (s : State) : Host.Outcome State Fault Refusal :=
  done (s.live fun s => s.windowOver)

/-- LBT_LISTEN_END (R409): A listen-before-talk assessment ends clear, turning to TX, or busy, raising RAD_CCA_BUSY
and repeating or ending the task. -/
def execLbtListenEnd (s : State) : Host.Outcome State Fault Refusal :=
  done (s.live fun s => s.listenEnd)

/-- DUTY_BUCKET_ADVANCE (R411): each SPAN seconds the duty window advances one bucket. -/
def execDutyBucketAdvance (s : State) : Host.Outcome State Fault Refusal :=
  done (s.live fun s => s.dutyAdvance)

/-- ACK_SLOT_DECISION (R408): 1356 XO cycles before an acknowledgement slot the receiver turns to TX if the verdict
and permission allow, or leaves the acknowledgement owed. -/
def execAckSlotDecision (s : State) : Host.Outcome State Fault Refusal :=
  done (s.live fun s => s.slotDecision)

/-- ACK_WAIT_END (R408): A sender's acknowledgement wait ends with no sync detected. -/
def execAckWaitEnd (s : State) : Host.Outcome State Fault Refusal :=
  done (s.live fun s => s.ackWaitEnd)

/-- RADIO_TX_TIMEOUT (R410): the radio still in TX at TO ms ramps down, raises RAD_TX_TIMEOUT and aborts the task. -/
def execRadioTxTimeout (s : State) : Host.Outcome State Fault Refusal :=
  done (s.live fun s => s.radTimeout)

/-- SYNTH_LOCK_LOST (R412): Synthesiser lock lost raises RAD_LOCK_LOST, clears calibration VALID and aborts a running
RADIO task. -/
def execSynthLockLost (s : State) : Host.Outcome State Fault Refusal :=
  done (s.live fun s => s.lockLost)

/-- TO_SLEEP (R413): Router task TO_SLEEP or RAD_CMD.SLEEP ends a running RADIO task and puts the radio in SLEEP. -/
def execToSleep (byTask : Bool) (s : State) : Host.Outcome State Fault Refusal :=
  done (s.taskOrWrite byTask 58 Adr.RAD_CMD Fld.RAD_CMD_SLEEP.one)

/-- TO_STANDBY (R413): Router task TO_STANDBY parks an RX window in STANDBY or ends a RAD_TX task at its next
pre-emption point. -/
def execToStandby (s : State) : Host.Outcome State Fault Refusal :=
  done (s.live fun s => s.routerTask 59)

/-- TO_SYNTH (R413): Router task TO_SYNTH parks an RX window in SYNTH or ends a RAD_TX task at its next pre-emption
point. -/
def execToSynth (s : State) : Host.Outcome State Fault Refusal :=
  done (s.live fun s => s.routerTask 60)

/-- TO_RX (R413): Router task TO_RX returns a parked RAD_RX_WIN task to RX. -/
def execToRx (s : State) : Host.Outcome State Fault Refusal :=
  done (s.live fun s => s.routerTask 61)

/-- TO_TX (R413): Router task TO_TX ends an acknowledgement wait or sends owed acknowledgements at once. -/
def execToTx (s : State) : Host.Outcome State Fault Refusal :=
  done (s.live fun s => s.routerTask 62)

/-- CCA_START (R413): Router task CCA_START or RAD_CMD.CCA runs one clear-channel assessment recorded in RAD_CCA_STAT.
-/
def execCcaStart (byTask : Bool) (s : State) : Host.Outcome State Fault Refusal :=
  done (s.taskOrWrite byTask 64 Adr.RAD_CMD Fld.RAD_CMD_CCA.one)

/-- PA_OFF (R413): Router task PA_OFF or RAD_CMD.PAOFF ends a transmission with ramp and lag. -/
def execPaOff (byTask : Bool) (s : State) : Host.Outcome State Fault Refusal :=
  done (s.taskOrWrite byTask 65 Adr.RAD_CMD Fld.RAD_CMD_PAOFF.one)

end Sys2Proof.Machine
end

