-- ==== Sys2Proof/Machine/ExecRouter.lean ====
section
/-! DEFINITION. The meanings of the commands of the event router. -/

namespace Sys2Proof.Machine

/-- ROUTER_OCCURRENCE (R259): the router takes an event occurrence, fires every matching enabled channel and then
carries out its group actions. -/
def execRouterOccurrence (s : State) : Host.Outcome State Fault Refusal :=
  done (s.live fun s => s.nextOccurrence)

/-- GROUP_ENABLE_CMD (R261): an EVR_GRPCMD.ENABLE bit enables a group and its unlocked members. -/
def execGroupEnableCmd (g : BitVec 8) (s : State) : Host.Outcome State Fault Refusal :=
  done (s.native fun s => s.regWrite Adr.EVR_GRPCMD (Fld.EVR_GRPCMD_ENABLE.into 0 g.toNat))

/-- GROUP_DISABLE_CMD (R261): an EVR_GRPCMD.DISABLE bit disables a group and its unlocked members. -/
def execGroupDisableCmd (g : BitVec 8) (s : State) : Host.Outcome State Fault Refusal :=
  done (s.native fun s => s.regWrite Adr.EVR_GRPCMD (Fld.EVR_GRPCMD_DISABLE.into 0 g.toNat))

/-- CHANNEL_WRITE (R260): A write to EVR_CHn is applied whole between two occurrences, locking the channel if LOCK is
set. -/
def execChannelWrite (n : Fin 32) (word : BitVec 32) (s : State) : Host.Outcome State Fault Refusal :=
  done (s.native fun s => s.regWrite (Adr.EVR_CH n) word)

/-- GROUP_SOURCE_WRITE (R263): A write to EVR_GRPn sets its sources, or is refused by a group lock with SYS_LOCK_VIOL.
-/
def execGroupSourceWrite (n : Fin 8) (word : BitVec 32) (s : State) : Host.Outcome State Fault Refusal :=
  done (s.native fun s => s.regWrite (Adr.EVR_GRP n) word)

/-- SOFTWARE_FIRE (R270): A write to EVR_SWFIRE fires the named enabled channels in order and raises EVR_SW once. -/
def execSoftwareFire (word : BitVec 32) (s : State) : Host.Outcome State Fault Refusal :=
  done (s.native fun s => s.regWrite Adr.EVR_SWFIRE word)

/-- NOP (R267): Router task NOP, and tasks 96 to 127, do nothing. -/
def execNop (s : State) : Host.Outcome State Fault Refusal :=
  done (s.live fun s => s.routerTask 0)

/-- RAISE_IRQ_A (R267): Router task RAISE_IRQ_A sets IRQ_RTR.A. -/
def execRaiseIrqA (s : State) : Host.Outcome State Fault Refusal :=
  done (s.live fun s => s.routerTask 1)

/-- RAISE_IRQ_B (R267): Router task RAISE_IRQ_B sets IRQ_RTR.B. -/
def execRaiseIrqB (s : State) : Host.Outcome State Fault Refusal :=
  done (s.live fun s => s.routerTask 2)

end Sys2Proof.Machine
end

