-- ==== Sys2Proof/Machine/ExecSched.lean ====
section
/-! DEFINITION. The meanings of the commands of the orbit and the scheduler. -/

namespace Sys2Proof.Machine

/-- ORBIT (R200): At each 1 ms orbit the bank refills, SCH_ORBIT may be raised and an admission pass runs. -/
def execOrbit (pins : BitVec 12) (s : State) : Host.Outcome State Fault Refusal :=
  done (s.live fun s => s.orbitWork pins.toNat)

/-- SCHEDULER_PASS (R212): an admission pass marks missed slots, then visits READY and deferred slots in order and
admits each that passes every check. -/
def execSchedulerPass (s : State) : Host.Outcome State Fault Refusal :=
  done (s.live fun s => s.runPass)

/-- TASK_PREEMPTED (R216): A class-3 task reaching its pre-emption point stops, becomes ABORTED with LASTEND PREEMPTED
and raises SCH_PREEMPT. -/
def execTaskPreempted (slot : Fin 64) (s : State) : Host.Outcome State Fault Refusal :=
  done (s.live fun s => s.preemptPoint slot)

/-- TASK_END (R211): A block ending a task sets SCH_ENDPEND, records STATUS, raises the end event and returns a
repeating slot to WAITING. -/
def execTaskEnd (slot : Fin 64) (failed : Bool) (s : State) : Host.Outcome State Fault Refusal :=
  done (s.live fun s => s.taskEnd slot failed)

/-- USER_TASK_TIMEOUT (R205): A USER task that has run for its duration d ends. -/
def execUserTaskTimeout (slot : Fin 64) (s : State) : Host.Outcome State Fault Refusal :=
  done (s.live fun s => s.userTimeout slot)

/-- SLOT_READY (R209): A WAITING slot becomes READY on the calendar-island cycle at which its earliest start arrives.
-/
def execSlotReady (slot : Fin 64) (s : State) : Host.Outcome State Fault Refusal :=
  done (s.live fun s => s.slotReady slot)

/-- TRIGGER_FIRE (R210): Router task SCH_TRIGm or a SCH_TRIG bit fires a trigger line, giving each WAITING slot on it
its earliest start. -/
def execTriggerFire (m : Fin 16) (byTask : Bool) (s : State) : Host.Outcome State Fault Refusal :=
  done (s.taskOrWrite byTask (16 + m) Adr.SCH_TRIG (BitVec.ofNat 32 (2 ^ m.val)))

/-- SLOT_LOAD (R218): SCH_SLOTCMD LOAD copies a slot's words into SCH_WIN0 to SCH_WIN7. -/
def execSlotLoad (slot : Fin 64) (s : State) : Host.Outcome State Fault Refusal :=
  done (s.native fun s => s.regWrite Adr.SCH_SLOTCMD (slotCmd 0 slot))

/-- SLOT_ARM (R218): SCH_SLOTCMD ARM copies SCH_WIN0 to SCH_WIN6 into a free or ended slot and moves it to WAITING. -/
def execSlotArm (slot : Fin 64) (s : State) : Host.Outcome State Fault Refusal :=
  done (s.native fun s => s.regWrite Adr.SCH_SLOTCMD (slotCmd 1 slot))

/-- SLOT_FREE (R218): SCH_SLOTCMD FREE makes a non-running slot FREE. -/
def execSlotFree (slot : Fin 64) (s : State) : Host.Outcome State Fault Refusal :=
  done (s.native fun s => s.regWrite Adr.SCH_SLOTCMD (slotCmd 2 slot))

/-- SLOT_ABORT (R218): SCH_SLOTCMD ABORT ends a pending task at once or stops a running one, ABORTED with cause HOST.
-/
def execSlotAbort (slot : Fin 64) (s : State) : Host.Outcome State Fault Refusal :=
  done (s.native fun s => s.regWrite Adr.SCH_SLOTCMD (slotCmd 3 slot))

/-- SLOT_END (R218): SCH_SLOTCMD END ends a running USER task DONE. -/
def execSlotEnd (slot : Fin 64) (s : State) : Host.Outcome State Fault Refusal :=
  done (s.native fun s => s.regWrite Adr.SCH_SLOTCMD (slotCmd 4 slot))

/-- SLOT_CMD_RESERVED (R218): A SCH_SLOTCMD with a reserved OP is refused. -/
def execSlotCmdReserved (slot : Fin 64) (op : Fin 3) (s : State) : Host.Outcome State Fault Refusal :=
  done (s.native fun s => s.regWrite Adr.SCH_SLOTCMD (slotCmd (5 + op) slot))

end Sys2Proof.Machine
end

