-- ==== Sys2Proof/Machine/ExecSec.lean ====
section
/-! DEFINITION. The meanings of the commands of security. -/

namespace Sys2Proof.Machine

/-- SEC_VERIFY_DONE (R507): SEC's counter trials for a secured received frame end, verifying it or failing it with
SEC_AUTH_FAIL. -/
def execSecVerifyDone (s : State) : Host.Outcome State Fault Refusal :=
  done (s.live fun s => s.secVerdict)

/-- KEY_LOAD (R497): SEC_KEYCMD LOAD writes SEC_KEY0 to SEC_KEY3 into an unlocked slot. -/
def execKeyLoad (slot : Fin 32) (s : State) : Host.Outcome State Fault Refusal :=
  done (s.native fun s => s.regWrite Adr.SEC_KEYCMD (keyCmd 0 slot))

/-- KEY_ZEROISE (R499): SEC_KEYCMD ZEROISE zeroises one unlocked slot. -/
def execKeyZeroise (slot : Fin 32) (s : State) : Host.Outcome State Fault Refusal :=
  done (s.native fun s => s.regWrite Adr.SEC_KEYCMD (keyCmd 1 slot))

/-- KEY_LOCK (R498): SEC_KEYCMD LOCK or a SEC_KEYLOCK bit locks a slot until reset and raises SEC_KEY_LOCKED. -/
def execKeyLock (slot : Fin 32) (byCmd : Bool) (s : State) : Host.Outcome State Fault Refusal :=
  done (s.native fun s => if byCmd then s.regWrite Adr.SEC_KEYCMD (keyCmd 2 slot) else s.regWrite Adr.SEC_KEYLOCK (BitVec.ofNat 32 (2 ^ slot.val)))

/-- KEY_WRAP (R500): SEC_KEYCMD WRAP wraps a slot's key under the device key into SEC_WRAP0 to SEC_WRAP5. -/
def execKeyWrap (slot : Fin 32) (s : State) : Host.Outcome State Fault Refusal :=
  done (s.native fun s => s.regWrite Adr.SEC_KEYCMD (keyCmd 3 slot))

/-- KEY_UNWRAP (R500): SEC_KEYCMD UNWRAP unwraps SEC_WRAP0 to SEC_WRAP5 into a slot, refusing it if the integrity
check fails. -/
def execKeyUnwrap (slot : Fin 32) (s : State) : Host.Outcome State Fault Refusal :=
  done (s.native fun s => s.regWrite Adr.SEC_KEYCMD (keyCmd 4 slot))

/-- KEY_CHECK (R502): SEC_KEYCMD CHECK writes the slot's check value to SEC_CHECK. -/
def execKeyCheck (slot : Fin 32) (s : State) : Host.Outcome State Fault Refusal :=
  done (s.native fun s => s.regWrite Adr.SEC_KEYCMD (keyCmd 5 slot))

/-- SINK_DISARM (R512): SEC_KEYCMD DISARM disarms the commissioning key sink. -/
def execSinkDisarm (s : State) : Host.Outcome State Fault Refusal :=
  done (s.native fun s => s.regWrite Adr.SEC_KEYCMD (keyCmd 6 0))

/-- SEC_ZEROISE_UNLOCKED (R499): Router task SEC_ZEROISE_UNLOCKED or SEC_KEYCMD ZEROISE ALL zeroises every unlocked
slot and disarms the sink. -/
def execSecZeroiseUnlocked (byTask : Bool) (s : State) : Host.Outcome State Fault Refusal :=
  done (s.taskOrWrite byTask 36 Adr.SEC_KEYCMD (keyCmd 7 0))

/-- KEYCMD_COMPLETE (R502): A SEC_KEYCMD completes, clears BUSY and raises SEC_DONE, or is refused with SEC_ERR. -/
def execKeycmdComplete (s : State) : Host.Outcome State Fault Refusal :=
  done (s.live fun s => s.keyComplete)

/-- SEC_KEYSINK_ARM (R512): Router task SEC_KEYSINK_ARM arms the key sink for the slot in SEC_SINKCFG.SLOT. -/
def execSecKeysinkArm (s : State) : Host.Outcome State Fault Refusal :=
  done (s.live fun s => s.routerTask 37)

/-- KEY_SINK_TIMEOUT (R512): the sink disarms TO minutes after arming and SEC_SINK.RESULT reads TIMEOUT. -/
def execKeySinkTimeout (s : State) : Host.Outcome State Fault Refusal :=
  done (s.live fun s => s.sinkTimeout)

/-- COUNTER_RECORD_WRITE (R509): A host write through SEC_CTRSEL, SEC_CTRVAL or SEC_CTREP applies to the selected
counter record between SEC operations. -/
def execCounterRecordWrite (r : Fin 3) (value : BitVec 32) (s : State) : Host.Outcome State Fault Refusal :=
  done (s.native fun s => s.regWrite (Adr.SEC_CTRSEL + 4 * r) value)

end Sys2Proof.Machine
end

