-- ==== Sys2Proof/Machine/ExecThermal.lean ====
section
/-! DEFINITION. The meanings of the commands of temperature and the Flue ledger. -/

namespace Sys2Proof.Machine

/-- PERIODIC_TEMP_SAMPLE (R174): every 328 calendar-island cycles, or 32 768 in Ember, a die temperature sample
starts. -/
def execPeriodicTempSample (s : State) : Host.Outcome State Fault Refusal :=
  done (s.live fun s => s.sampleStarts)

/-- TEMP_SAMPLE_COMPLETE (R174): A periodic sample completes, updating TEMP and FILT and stepping the comparators and
the Flue ledger. -/
def execTempSampleComplete (t : Int) (s : State) : Host.Outcome State Fault Refusal :=
  done (s.live fun s => s.sampleEnds t)

/-- TEMP_SAMPLE (R176): Router task TEMP_SAMPLE or THM_CMD.SAMPLE starts one extra sample outside the filter and
ledger. -/
def execTempSample (byTask : Bool) (s : State) : Host.Outcome State Fault Refusal :=
  done (s.taskOrWrite byTask 8 Adr.THM_CMD Fld.THM_CMD_SAMPLE.one)

/-- EXTRA_SAMPLE_COMPLETE (R176): an extra sample completes, updating TEMP and raising THM_SAMPLE. -/
def execExtraSampleComplete (t : Int) (s : State) : Host.Outcome State Fault Refusal :=
  done (s.live fun s => s.extraSample t)

/-- OVERTEMP_TRIP (R180): the die reaching 125 °C forces the field and PA off, stops the heater, sets OT and raises
THM_OVERTEMP. -/
def execOvertempTrip (s : State) : Host.Outcome State Fault Refusal :=
  done (s.live fun s => s.overtempTrip)

/-- OVERTEMP_RESET_RELEASE (R181): an over-temperature reset ends when the analogue comparator reads below 115 °C, and
Kindling runs. -/
def execOvertempResetRelease (s : State) : Host.Outcome State Fault Refusal :=
  done (s.hotOver)

/-- FLUE_SNAPSHOT (R186): Router task FLUE_SNAPSHOT or THM_CMD.SNAP copies FLUE_BIAS and TEMP into FLUE_SNAP and may
start AIN conversions. -/
def execFlueSnapshot (byTask : Bool) (s : State) : Host.Outcome State Fault Refusal :=
  done (s.taskOrWrite byTask 9 Adr.THM_CMD Fld.THM_CMD_SNAP.one)

/-- AIN_CONVERT (R187): THM_CMD.AIN starts one conversion of each enabled AIN channel. -/
def execAinConvert (s : State) : Host.Outcome State Fault Refusal :=
  done (s.native fun s => s.regWrite Adr.THM_CMD Fld.THM_CMD_AIN.one)

/-- AIN_CONVERSION_DONE (R187): an AIN conversion completes and sets its CODE and VALID. -/
def execAinConversionDone (c : Fin 2) (x : AinSample) (s : State) : Host.Outcome State Fault Refusal :=
  done (s.live fun s => s.ainResult c (ainCode x.v x.vdd))

/-- HEATER_ENABLE (R188): A write of THM_HEAT.EN switches the calibration heater on or off. -/
def execHeaterEnable (word : BitVec 32) (s : State) : Host.Outcome State Fault Refusal :=
  done (s.native fun s => s.regWrite Adr.THM_HEAT word)

/-- HEATER_TIMEOUT (R188): the heater having dissipated for MAXT minutes stops and clears EN. -/
def execHeaterTimeout (s : State) : Host.Outcome State Fault Refusal :=
  done (s.live fun s => s.heaterTimeout)

/-- FLUE_STATE_WRITE (R191): A write to FLUE_Xn is applied at the next ledger update. -/
def execFlueStateWrite (n : Fin 3) (value : BitVec 32) (s : State) : Host.Outcome State Fault Refusal :=
  done (s.native fun s => s.regWrite (Adr.FLUE_X n) value)

end Sys2Proof.Machine
end

