-- ==== Sys2Proof/Machine/Dispatch.lean ====
section
/-! DEFINITION. One arm for each command: its meaning. -/

namespace Sys2Proof.Machine

def exec (i : Instr) (s : State) : Host.Outcome State Fault Refusal :=
  match i with
  | .registerWrite addr value => Sys2Proof.Machine.execRegisterWrite addr value s
  | .stagedTwinWrite addr value => Sys2Proof.Machine.execStagedTwinWrite addr value s
  | .commitGo p => Sys2Proof.Machine.execCommitGo p s
  | .commitRevert p => Sys2Proof.Machine.execCommitRevert p s
  | .pageApply p => Sys2Proof.Machine.execPageApply p s
  | .commitTimeout p => Sys2Proof.Machine.execCommitTimeout p s
  | .groupGo => Sys2Proof.Machine.execGroupGo s
  | .groupDrain => Sys2Proof.Machine.execGroupDrain s
  | .groupCancel => Sys2Proof.Machine.execGroupCancel s
  | .drainGroupApply => Sys2Proof.Machine.execDrainGroupApply s
  | .drainGroupTimeout => Sys2Proof.Machine.execDrainGroupTimeout s
  | .pageLock p => Sys2Proof.Machine.execPageLock p s
  | .pageEnable p on => Sys2Proof.Machine.execPageEnable p on s
  | .pageSafe p on => Sys2Proof.Machine.execPageSafe p on s
  | .pageSoftReset p => Sys2Proof.Machine.execPageSoftReset p s
  | .eventPendClear p bits => Sys2Proof.Machine.execEventPendClear p bits s
  | .irqSumClear n bits => Sys2Proof.Machine.execIrqSumClear n bits s
  | .eventForce p bits => Sys2Proof.Machine.execEventForce p bits s
  | .softwareEvent => Sys2Proof.Machine.execSoftwareEvent s
  | .softwareReset key => Sys2Proof.Machine.execSoftwareReset key s
  | .pinReset => Sys2Proof.Machine.execPinReset s
  | .supplyVrst mv => Sys2Proof.Machine.execSupplyVrst mv s
  | .emberDomainLoss mv => Sys2Proof.Machine.execEmberDomainLoss mv s
  | .kindling fails test io strap a1 a0 temp vmain vstore => Sys2Proof.Machine.execKindling fails test io strap a1 a0 temp vmain vstore s
  | .kindlingIoReady strap a1 a0 temp vmain vstore => Sys2Proof.Machine.execKindlingIoReady strap a1 a0 temp vmain vstore s
  | .itemHandover n acked ecc soft => Sys2Proof.Machine.execItemHandover n acked ecc soft s
  | .resyncTokenReceived n far => Sys2Proof.Machine.execResyncTokenReceived n far s
  | .resyncReplyReceived n far => Sys2Proof.Machine.execResyncReplyReceived n far s
  | .creditInitApply n => Sys2Proof.Machine.execCreditInitApply n s
  | .storeWindowWrite addr value => Sys2Proof.Machine.execStoreWindowWrite addr value s
  | .storeWindowRead addr ecc => Sys2Proof.Machine.execStoreWindowRead addr ecc s
  | .dropQueuePop ecc => Sys2Proof.Machine.execDropQueuePop ecc s
  | .qmxFlushDropq => Sys2Proof.Machine.execQmxFlushDropq s
  | .qmxScrub ecc => Sys2Proof.Machine.execQmxScrub ecc s
  | .cntClrMinfree => Sys2Proof.Machine.execCntClrMinfree s
  | .cntClrXstat => Sys2Proof.Machine.execCntClrXstat s
  | .cntClrEcc => Sys2Proof.Machine.execCntClrEcc s
  | .cntClrStall => Sys2Proof.Machine.execCntClrStall s
  | .cntClrDrop => Sys2Proof.Machine.execCntClrDrop s
  | .cntClrXlost => Sys2Proof.Machine.execCntClrXlost s
  | .stallTimeout page xing => Sys2Proof.Machine.execStallTimeout page xing s
  | .stallReset => Sys2Proof.Machine.execStallReset s
  | .stallCheck => Sys2Proof.Machine.execStallCheck s
  | .hostWrite bytes => Sys2Proof.Machine.execHostWrite bytes s
  | .hostRead bytes n ready ecc => Sys2Proof.Machine.execHostRead bytes n ready ecc s
  | .hostStatusOnly => Sys2Proof.Machine.execHostStatusOnly s
  | .i2cBusTimeout bytes => Sys2Proof.Machine.execI2cBusTimeout bytes s
  | .hostQueuePush n words => Sys2Proof.Machine.execHostQueuePush n words s
  | .hostQueuePop n words ecc => Sys2Proof.Machine.execHostQueuePop n words ecc s
  | .queueRelease q => Sys2Proof.Machine.execQueueRelease q s
  | .queueRewind q => Sys2Proof.Machine.execQueueRewind q s
  | .legacyViewEnter => Sys2Proof.Machine.execLegacyViewEnter s
  | .nativeViewSelect => Sys2Proof.Machine.execNativeViewSelect s
  | .legacyExit => Sys2Proof.Machine.execLegacyExit s
  | .legacyIdle => Sys2Proof.Machine.execLegacyIdle s
  | .legacyTransceive => Sys2Proof.Machine.execLegacyTransceive s
  | .legacyTransmit => Sys2Proof.Machine.execLegacyTransmit s
  | .legacyReceive => Sys2Proof.Machine.execLegacyReceive s
  | .legacyFieldOn => Sys2Proof.Machine.execLegacyFieldOn s
  | .legacyFieldOff => Sys2Proof.Machine.execLegacyFieldOff s
  | .legacyTypeaAnticoll => Sys2Proof.Machine.execLegacyTypeaAnticoll s
  | .legacyInventory => Sys2Proof.Machine.execLegacyInventory s
  | .legacyHoldLapse => Sys2Proof.Machine.execLegacyHoldLapse s
  | .legacyFifoWrite b => Sys2Proof.Machine.execLegacyFifoWrite b s
  | .legacyFifoRead => Sys2Proof.Machine.execLegacyFifoRead s
  | .legacyFifoFlush => Sys2Proof.Machine.execLegacyFifoFlush s
  | .legacyMappedWrite a b => Sys2Proof.Machine.execLegacyMappedWrite a b s
  | .irqRetrigReassert pin => Sys2Proof.Machine.execIrqRetrigReassert pin s
  | .wakeEdge high => Sys2Proof.Machine.execWakeEdge high s
  | .fabricAwake => Sys2Proof.Machine.execFabricAwake s
  | .emberEntry => Sys2Proof.Machine.execEmberEntry s
  | .txsupLow mv => Sys2Proof.Machine.execTxsupLow mv s
  | .txsupRecover mv => Sys2Proof.Machine.execTxsupRecover mv s
  | .vwarnCrossing mv => Sys2Proof.Machine.execVwarnCrossing mv s
  | .m3GroupComplete => Sys2Proof.Machine.execM3GroupComplete s
  | .dwellStart mv => Sys2Proof.Machine.execDwellStart mv s
  | .damperDwellComplete => Sys2Proof.Machine.execDamperDwellComplete s
  | .forceDamper byTask => Sys2Proof.Machine.execForceDamper byTask s
  | .releaseDamper byTask => Sys2Proof.Machine.execReleaseDamper byTask s
  | .dipCountClear => Sys2Proof.Machine.execDipCountClear s
  | .bankAdjAdd v => Sys2Proof.Machine.execBankAdjAdd v s
  | .bankAdjSet v => Sys2Proof.Machine.execBankAdjSet v s
  | .measStore byTask => Sys2Proof.Machine.execMeasStore byTask s
  | .measurementDone vmain vstore => Sys2Proof.Machine.execMeasurementDone vmain vstore s
  | .periodicMeasurement vmain vstore => Sys2Proof.Machine.execPeriodicMeasurement vmain vstore s
  | .orbit pins => Sys2Proof.Machine.execOrbit pins s
  | .periodicTempSample => Sys2Proof.Machine.execPeriodicTempSample s
  | .tempSampleComplete t => Sys2Proof.Machine.execTempSampleComplete t s
  | .tempSample byTask => Sys2Proof.Machine.execTempSample byTask s
  | .extraSampleComplete t => Sys2Proof.Machine.execExtraSampleComplete t s
  | .overtempTrip => Sys2Proof.Machine.execOvertempTrip s
  | .overtempResetRelease => Sys2Proof.Machine.execOvertempResetRelease s
  | .flueSnapshot byTask => Sys2Proof.Machine.execFlueSnapshot byTask s
  | .ainConvert => Sys2Proof.Machine.execAinConvert s
  | .ainConversionDone c x => Sys2Proof.Machine.execAinConversionDone c x s
  | .heaterEnable word => Sys2Proof.Machine.execHeaterEnable word s
  | .heaterTimeout => Sys2Proof.Machine.execHeaterTimeout s
  | .flueStateWrite n value => Sys2Proof.Machine.execFlueStateWrite n value s
  | .schedulerPass => Sys2Proof.Machine.execSchedulerPass s
  | .taskPreempted slot => Sys2Proof.Machine.execTaskPreempted slot s
  | .taskEnd slot failed => Sys2Proof.Machine.execTaskEnd slot failed s
  | .userTaskTimeout slot => Sys2Proof.Machine.execUserTaskTimeout slot s
  | .slotReady slot => Sys2Proof.Machine.execSlotReady slot s
  | .triggerFire m byTask => Sys2Proof.Machine.execTriggerFire m byTask s
  | .slotLoad slot => Sys2Proof.Machine.execSlotLoad slot s
  | .slotArm slot => Sys2Proof.Machine.execSlotArm slot s
  | .slotFree slot => Sys2Proof.Machine.execSlotFree slot s
  | .slotAbort slot => Sys2Proof.Machine.execSlotAbort slot s
  | .slotEnd slot => Sys2Proof.Machine.execSlotEnd slot s
  | .slotCmdReserved slot op => Sys2Proof.Machine.execSlotCmdReserved slot op s
  | .xoStart => Sys2Proof.Machine.execXoStart s
  | .xoStop => Sys2Proof.Machine.execXoStop s
  | .xoWindowEnd n => Sys2Proof.Machine.execXoWindowEnd n s
  | .xoStartTimeout => Sys2Proof.Machine.execXoStartTimeout s
  | .wireFallback byTask => Sys2Proof.Machine.execWireFallback byTask s
  | .wireRestore byTask => Sys2Proof.Machine.execWireRestore byTask s
  | .wireRestoreHoldExpiry => Sys2Proof.Machine.execWireRestoreHoldExpiry s
  | .wireSwitchPoint => Sys2Proof.Machine.execWireSwitchPoint s
  | .wireSwitchRestart => Sys2Proof.Machine.execWireSwitchRestart s
  | .fecRampStep => Sys2Proof.Machine.execFecRampStep s
  | .hfrcDiscipline => Sys2Proof.Machine.execHfrcDiscipline s
  | .hfrcTrim byTask => Sys2Proof.Machine.execHfrcTrim byTask s
  | .hfrcTrimDone => Sys2Proof.Machine.execHfrcTrimDone s
  | .lxoCal byTask => Sys2Proof.Machine.execLxoCal byTask s
  | .lfrcCalDone => Sys2Proof.Machine.execLfrcCalDone s
  | .lxoWindowEnd n elapsed => Sys2Proof.Machine.execLxoWindowEnd n elapsed s
  | .lxoEdgeTimeout elapsed => Sys2Proof.Machine.execLxoEdgeTimeout elapsed s
  | .lxoRestoreEdge => Sys2Proof.Machine.execLxoRestoreEdge s
  | .routerOccurrence => Sys2Proof.Machine.execRouterOccurrence s
  | .groupEnableCmd g => Sys2Proof.Machine.execGroupEnableCmd g s
  | .groupDisableCmd g => Sys2Proof.Machine.execGroupDisableCmd g s
  | .channelWrite n word => Sys2Proof.Machine.execChannelWrite n word s
  | .groupSourceWrite n word => Sys2Proof.Machine.execGroupSourceWrite n word s
  | .softwareFire word => Sys2Proof.Machine.execSoftwareFire word s
  | .nop => Sys2Proof.Machine.execNop s
  | .raiseIrqA => Sys2Proof.Machine.execRaiseIrqA s
  | .raiseIrqB => Sys2Proof.Machine.execRaiseIrqB s
  | .calSecondBoundary => Sys2Proof.Machine.execCalSecondBoundary s
  | .hourStepForward => Sys2Proof.Machine.execHourStepForward s
  | .hourStepBack => Sys2Proof.Machine.execHourStepBack s
  | .calTimeRead => Sys2Proof.Machine.execCalTimeRead s
  | .calSnapshot => Sys2Proof.Machine.execCalSnapshot s
  | .calSubsecSync => Sys2Proof.Machine.execCalSubsecSync s
  | .calFullAlign => Sys2Proof.Machine.execCalFullAlign s
  | .transactionOpen n => Sys2Proof.Machine.execTransactionOpen n s
  | .linkFrameTransmit n => Sys2Proof.Machine.execLinkFrameTransmit n s
  | .linkTxComplete radio => Sys2Proof.Machine.execLinkTxComplete radio s
  | .ackTimeout n place => Sys2Proof.Machine.execAckTimeout n place s
  | .jitterExpiry n place => Sys2Proof.Machine.execJitterExpiry n place s
  | .ackReceived => Sys2Proof.Machine.execAckReceived s
  | .reportQueued n => Sys2Proof.Machine.execReportQueued n s
  | .linkFrameReceived ecc => Sys2Proof.Machine.execLinkFrameReceived ecc s
  | .peerEntryWrite id w value => Sys2Proof.Machine.execPeerEntryWrite id w value s
  | .nfcResponseQueued => Sys2Proof.Machine.execNfcResponseQueued s
  | .leKick n => Sys2Proof.Machine.execLeKick n s
  | .leHold n => Sys2Proof.Machine.execLeHold n s
  | .codewordArrival => Sys2Proof.Machine.execCodewordArrival s
  | .codewordDecoded => Sys2Proof.Machine.execCodewordDecoded s
  | .codewordEncoded => Sys2Proof.Machine.execCodewordEncoded s
  | .fecAbort => Sys2Proof.Machine.execFecAbort s
  | .linePowerOn byTask => Sys2Proof.Machine.execLinePowerOn byTask s
  | .lineInrushEnd ma => Sys2Proof.Machine.execLineInrushEnd ma s
  | .lineSettleEnd => Sys2Proof.Machine.execLineSettleEnd s
  | .lineCurrentSample ma => Sys2Proof.Machine.execLineCurrentSample ma s
  | .linePowerOff byTask => Sys2Proof.Machine.execLinePowerOff byTask s
  | .linePowerOffSoft byTask => Sys2Proof.Machine.execLinePowerOffSoft byTask s
  | .lineCycleBoundary => Sys2Proof.Machine.execLineCycleBoundary s
  | .lineCycleLead => Sys2Proof.Machine.execLineCycleLead s
  | .lineWindowStart g => Sys2Proof.Machine.execLineWindowStart g s
  | .lineWindowEnd g => Sys2Proof.Machine.execLineWindowEnd g s
  | .upstreamBurstStart left => Sys2Proof.Machine.execUpstreamBurstStart left s
  | .lineCollision => Sys2Proof.Machine.execLineCollision s
  | .idleCReceived => Sys2Proof.Machine.execIdleCReceived s
  | .legacyLineFrameStart g left => Sys2Proof.Machine.execLegacyLineFrameStart g left s
  | .lineFrameReceived gen inverse cut phr llrs hard => Sys2Proof.Machine.execLineFrameReceived gen inverse cut phr llrs hard s
  | .ecTrainingPassEnd res => Sys2Proof.Machine.execEcTrainingPassEnd res s
  | .ecDiverge res => Sys2Proof.Machine.execEcDiverge res s
  | .ecRetrain => Sys2Proof.Machine.execEcRetrain s
  | .lineMarkReceived err ppm inverse phr items => Sys2Proof.Machine.execLineMarkReceived err ppm inverse phr items s
  | .lineMarkMissed => Sys2Proof.Machine.execLineMarkMissed s
  | .cdrPhaseLoss => Sys2Proof.Machine.execCdrPhaseLoss s
  | .polarityRecheck byTask => Sys2Proof.Machine.execPolarityRecheck byTask s
  | .lineAnnounceReceived src uid gens step => Sys2Proof.Machine.execLineAnnounceReceived src uid gens step s
  | .lineAnnouncePop => Sys2Proof.Machine.execLineAnnouncePop s
  | .lineProbe byTask => Sys2Proof.Machine.execLineProbe byTask s
  | .lineHold byTask => Sys2Proof.Machine.execLineHold byTask s
  | .lineCycleStart => Sys2Proof.Machine.execLineCycleStart s
  | .lineTxQueued => Sys2Proof.Machine.execLineTxQueued s
  | .radioTransitionEnd => Sys2Proof.Machine.execRadioTransitionEnd s
  | .synthCal => Sys2Proof.Machine.execSynthCal s
  | .synthCalDone => Sys2Proof.Machine.execSynthCalDone s
  | .synthCalLockTimeout => Sys2Proof.Machine.execSynthCalLockTimeout s
  | .extpaPinReadback pin wrong => Sys2Proof.Machine.execExtpaPinReadback pin wrong s
  | .rxWindowEnd => Sys2Proof.Machine.execRxWindowEnd s
  | .lbtListenEnd => Sys2Proof.Machine.execLbtListenEnd s
  | .dutyBucketAdvance => Sys2Proof.Machine.execDutyBucketAdvance s
  | .ackSlotDecision => Sys2Proof.Machine.execAckSlotDecision s
  | .ackWaitEnd => Sys2Proof.Machine.execAckWaitEnd s
  | .radioTxTimeout => Sys2Proof.Machine.execRadioTxTimeout s
  | .synthLockLost => Sys2Proof.Machine.execSynthLockLost s
  | .toSleep byTask => Sys2Proof.Machine.execToSleep byTask s
  | .toStandby => Sys2Proof.Machine.execToStandby s
  | .toSynth => Sys2Proof.Machine.execToSynth s
  | .toRx => Sys2Proof.Machine.execToRx s
  | .toTx => Sys2Proof.Machine.execToTx s
  | .ccaStart byTask => Sys2Proof.Machine.execCcaStart byTask s
  | .paOff byTask => Sys2Proof.Machine.execPaOff byTask s
  | .laneSync syncs => Sys2Proof.Machine.execLaneSync syncs s
  | .radioHeaderReceived soft hard => Sys2Proof.Machine.execRadioHeaderReceived soft hard s
  | .radioFrameReceived llrs hard => Sys2Proof.Machine.execRadioFrameReceived llrs hard s
  | .rssiSample dbm => Sys2Proof.Machine.execRssiSample dbm s
  | .announceRequest => Sys2Proof.Machine.execAnnounceRequest s
  | .radioAnnouncePop => Sys2Proof.Machine.execRadioAnnouncePop s
  | .searchStart byTask => Sys2Proof.Machine.execSearchStart byTask s
  | .searchStop byTask => Sys2Proof.Machine.execSearchStop byTask s
  | .fieldOn => Sys2Proof.Machine.execFieldOn s
  | .extFieldCheckEnd amp => Sys2Proof.Machine.execExtFieldCheckEnd amp s
  | .fieldLevelReached ma mv => Sys2Proof.Machine.execFieldLevelReached ma mv s
  | .mismatchMeasured theta => Sys2Proof.Machine.execMismatchMeasured theta s
  | .fieldOff byTask => Sys2Proof.Machine.execFieldOff byTask s
  | .fieldRampDownEnd => Sys2Proof.Machine.execFieldRampDownEnd s
  | .fieldSupplySample mv => Sys2Proof.Machine.execFieldSupplySample mv s
  | .driverOvercurrent => Sys2Proof.Machine.execDriverOvercurrent s
  | .tuneBankWrite bank code => Sys2Proof.Machine.execTuneBankWrite bank code s
  | .tuneSweep => Sys2Proof.Machine.execTuneSweep s
  | .tunerProbeEnd theta => Sys2Proof.Machine.execTunerProbeEnd theta s
  | .cometInterval => Sys2Proof.Machine.execCometInterval s
  | .cometSweep => Sys2Proof.Machine.execCometSweep s
  | .cometMeasureEnd amp ph theta => Sys2Proof.Machine.execCometMeasureEnd amp ph theta s
  | .cometClassify => Sys2Proof.Machine.execCometClassify s
  | .fieldAmplitudeWatch amp => Sys2Proof.Machine.execFieldAmplitudeWatch amp s
  | .baselineWrite amp => Sys2Proof.Machine.execBaselineWrite amp s
  | .baselineInvalidate => Sys2Proof.Machine.execBaselineInvalidate s
  | .baselineCapture => Sys2Proof.Machine.execBaselineCapture s
  | .nfcForceSafe byTask => Sys2Proof.Machine.execNfcForceSafe byTask s
  | .pollStart => Sys2Proof.Machine.execPollStart s
  | .pollGuardTimeEnd => Sys2Proof.Machine.execPollGuardTimeEnd s
  | .pollStepEnd => Sys2Proof.Machine.execPollStepEnd s
  | .pollStop byTask => Sys2Proof.Machine.execPollStop byTask s
  | .nfpAbort byTask => Sys2Proof.Machine.execNfpAbort byTask s
  | .nfpTxQueued => Sys2Proof.Machine.execNfpTxQueued s
  | .inventoryStart => Sys2Proof.Machine.execInventoryStart s
  | .nfcCommandSent => Sys2Proof.Machine.execNfcCommandSent s
  | .nfcReceiverOpen early => Sys2Proof.Machine.execNfcReceiverOpen early s
  | .nfcResponseTimeout => Sys2Proof.Machine.execNfcResponseTimeout s
  | .nfcResponseReceived bytes lastbits coll framing parity crcBad rtime amp => Sys2Proof.Machine.execNfcResponseReceived bytes lastbits coll framing parity crcBad rtime amp s
  | .nfcFrameGapEnd => Sys2Proof.Machine.execNfcFrameGapEnd s
  | .inventorySlotEof => Sys2Proof.Machine.execInventorySlotEof s
  | .sensfListenEnd => Sys2Proof.Machine.execSensfListenEnd s
  | .nfcHoldLapse => Sys2Proof.Machine.execNfcHoldLapse s
  | .tagListClear => Sys2Proof.Machine.execTagListClear s
  | .tagKeepWrite keep => Sys2Proof.Machine.execTagKeepWrite keep s
  | .secVerifyDone => Sys2Proof.Machine.execSecVerifyDone s
  | .keyLoad slot => Sys2Proof.Machine.execKeyLoad slot s
  | .keyZeroise slot => Sys2Proof.Machine.execKeyZeroise slot s
  | .keyLock slot byCmd => Sys2Proof.Machine.execKeyLock slot byCmd s
  | .keyWrap slot => Sys2Proof.Machine.execKeyWrap slot s
  | .keyUnwrap slot => Sys2Proof.Machine.execKeyUnwrap slot s
  | .keyCheck slot => Sys2Proof.Machine.execKeyCheck slot s
  | .sinkDisarm => Sys2Proof.Machine.execSinkDisarm s
  | .secZeroiseUnlocked byTask => Sys2Proof.Machine.execSecZeroiseUnlocked byTask s
  | .keycmdComplete => Sys2Proof.Machine.execKeycmdComplete s
  | .secKeysinkArm => Sys2Proof.Machine.execSecKeysinkArm s
  | .keySinkTimeout => Sys2Proof.Machine.execKeySinkTimeout s
  | .counterRecordWrite r value => Sys2Proof.Machine.execCounterRecordWrite r value s
  | .debounceChange n => Sys2Proof.Machine.execDebounceChange n s
  | .longPress n => Sys2Proof.Machine.execLongPress n s
  | .autoRepeat n => Sys2Proof.Machine.execAutoRepeat n s
  | .knobStateTaken a b => Sys2Proof.Machine.execKnobStateTaken a b s
  | .knobClear => Sys2Proof.Machine.execKnobClear s
  | .gpPulse n byTask => Sys2Proof.Machine.execGpPulse n byTask s
  | .pulseEnd n => Sys2Proof.Machine.execPulseEnd n s
  | .vddIoLoss => Sys2Proof.Machine.execVddIoLoss s
  | .vddIoReturn pins => Sys2Proof.Machine.execVddIoReturn pins s
  | .voidSymbolSlotEnd => Sys2Proof.Machine.execVoidSymbolSlotEnd s

end Sys2Proof.Machine
end

