-- ==== Sys2Proof/Machine/Idle.lean ====
section
/-! DEFINITION. What the part does by itself while no command waits (log entry 2). -/

namespace Sys2Proof.Machine

/-- One calendar-island cycle in reset (R11): the Ember domain keeps time and judges alarms; no event is raised. -/
def State.resetCycle (s : State) : State :=
  s.emberOnly s.calendarCycle

/-- With no command waiting, the part carries out what it owes, the first of: a requested router task (R265), a waiting
occurrence (R259), a requested scheduler pass (R201); owing nothing, it lets one calendar-island cycle pass (R200, R209,
R276). -/
def State.idle (s : State) : State :=
  if !s.up then s.resetCycle
  else match s.latches with
    | n :: _ => (s.routerTask n).finish
    | [] =>
      if !s.occ.isEmpty then s.nextOccurrence.finish
      else if s.sch.passReq then s.runPass.finish
      else (s.calendarCycle).readyDue.finish

end Sys2Proof.Machine
end

