-- ==== Sys2Proof/Safety.lean ====
section
/-! DEFINITION. Safe outcomes and well-formed states, in the terms that the statements use. -/

namespace Sys2Proof.Safety

open Sys2Proof.Machine

/-- An outcome that is a next state. -/
def Goes (o : Host.Outcome State Fault Refusal) : Prop := ∃ t, o = .next t

/-- The register file and the memory keep their canonical forms. -/
def Canonical (s : State) : Prop := RegFile.wf s.regs ∧ Memory.wf s.mem

/-- Commands that are accesses of the host in the native view, whatever their operands. -/
def nativeOnly : Instr → Bool
  | .registerWrite _ _ | .stagedTwinWrite _ _ | .commitGo _ | .commitRevert _ | .groupGo | .groupDrain
    | .groupCancel | .pageLock _ | .pageEnable _ _ | .pageSafe _ _ | .pageSoftReset _ | .eventPendClear _ _
    | .irqSumClear _ _ | .eventForce _ _ | .softwareEvent | .softwareReset _ | .storeWindowWrite _ _
    | .storeWindowRead _ _ | .dropQueuePop _ | .cntClrMinfree | .cntClrXstat | .cntClrEcc | .cntClrStall
    | .cntClrDrop | .cntClrXlost | .hostQueuePush _ _ | .hostQueuePop _ _ _ | .queueRelease _ | .queueRewind _
    | .legacyViewEnter | .dipCountClear | .bankAdjAdd _ | .bankAdjSet _ | .ainConvert | .heaterEnable _
    | .flueStateWrite _ _ | .slotLoad _ | .slotArm _ | .slotFree _ | .slotAbort _ | .slotEnd _
    | .slotCmdReserved _ _ | .groupEnableCmd _ | .groupDisableCmd _ | .channelWrite _ _ | .groupSourceWrite _ _
    | .softwareFire _ | .hourStepForward | .hourStepBack | .calTimeRead | .peerEntryWrite _ _ _ | .lineAnnouncePop
    | .announceRequest | .radioAnnouncePop | .tuneBankWrite _ _ | .baselineWrite _ | .baselineInvalidate
    | .tagListClear | .tagKeepWrite _ | .keyLoad _ | .keyZeroise _ | .keyLock _ _ | .keyWrap _ | .keyUnwrap _
    | .keyCheck _ | .sinkDisarm | .counterRecordWrite _ _ | .knobClear => true
  | _ => false

/-- Commands that are accesses of the host in the legacy view. -/
def legacyOnly : Instr → Bool
  | .legacyExit | .legacyIdle | .legacyTransceive | .legacyTransmit | .legacyReceive | .legacyFieldOn
    | .legacyFieldOff | .legacyTypeaAnticoll | .legacyInventory | .legacyFifoWrite _ | .legacyFifoRead
    | .legacyFifoFlush | .legacyMappedWrite _ _ => true
  | _ => false

/-- Commands that reach a part in reset: resets, the supplies, Kindling, WAKE, host transactions, which get the status
byte alone, and the Ember domain's own moments: the calendar's and the LXO's (R11, R249, R276). -/
def reachesReset : Instr → Bool
  | .pinReset | .supplyVrst _ | .emberDomainLoss _ | .kindling _ _ _ _ _ _ _ _ _ | .kindlingIoReady _ _ _ _ _ _ => true
  | .hostWrite _ | .hostRead _ _ _ _ | .hostStatusOnly | .i2cBusTimeout _ | .wakeEdge _ | .overtempResetRelease => true
  | .vddIoLoss | .vddIoReturn _ => true
  | .calSecondBoundary | .calFullAlign | .lxoWindowEnd _ _ | .lxoEdgeTimeout _ | .lxoRestoreEdge => true
  | _ => false

/-- The router task that a command is, by its number (R267); `none` for a command, or a form of one, that is none. -/
def taskOf : Instr → Option Nat
  | .nop => some 0 | .raiseIrqA => some 1 | .raiseIrqB => some 2 | .stallCheck => some 3 | .measStore true => some 4
  | .forceDamper true => some 5 | .releaseDamper true => some 6 | .linePowerOff true => some 7 | .tempSample true => some 8
  | .flueSnapshot true => some 9 | .xoStart => some 10 | .xoStop => some 11 | .lxoCal true => some 12
  | .wireFallback true => some 13 | .wireRestore true => some 14 | .hfrcTrim true => some 15
  | .triggerFire m true => some (16 + m)
  | .calSnapshot => some 32 | .calSubsecSync => some 33 | .qmxFlushDropq => some 34 | .qmxScrub _ => some 35
  | .secZeroiseUnlocked true => some 36 | .secKeysinkArm => some 37 | .fecAbort => some 38 | .fieldOn => some 39
  | .fieldOff true => some 40 | .cometSweep => some 41 | .tuneSweep => some 42 | .baselineCapture => some 43
  | .nfcForceSafe true => some 44 | .pollStart => some 45 | .pollStop true => some 46 | .inventoryStart => some 47
  | .nfpTxQueued => some 48 | .nfpAbort true => some 49
  | .lineCycleStart => some 50 | .ecRetrain => some 51 | .lineTxQueued => some 52 | .linePowerOn true => some 53
  | .linePowerOffSoft true => some 54 | .lineProbe true => some 55 | .polarityRecheck true => some 56 | .lineHold true => some 57
  | .toSleep true => some 58 | .toStandby => some 59 | .toSynth => some 60 | .toRx => some 61 | .toTx => some 62
  | .synthCal => some 63 | .ccaStart true => some 64 | .paOff true => some 65 | .searchStart true => some 66
  | .searchStop true => some 67
  | .gpPulse n true => some (68 + n) | .leKick n => some (80 + 2 * n) | .leHold n => some (81 + 2 * n)
  | _ => none

/-- Commands that bring a part out of reset. -/
def startsPart : Instr → Bool
  | .kindling _ _ _ _ _ _ _ _ _ | .kindlingIoReady _ _ _ _ _ _ => true
  | _ => false

/-- A date of the years 2000 to 2399 and a time of day (R277, R278). -/
def calendarOk (c : Calendar) : Bool :=
  decide (c.year < 400) && decide (1 ≤ c.month) && decide (c.month ≤ 12) && decide (1 ≤ c.day)
    && decide (c.day ≤ monthDays c.year c.month) && decide (c.hour < 24) && decide (c.minute < 60) && decide (c.second < 60)

/-- A header that a coded frame can carry (R335), or a legacy one (R338, R339). -/
def headerOk (legacy : Bool) (h : Header) : Bool :=
  if legacy then
    decide (h.ftype < 4) && !h.bcast && !h.retry && !h.mic8 && decide (h.dst < 256) && decide (h.src < 256) && decide (h.seq < 16)
      && h.epoch == 0 && decide (h.len < 256) && h.hops == 0
  else
    decide (h.ftype < 8) && decide (h.dst < 256) && (!h.bcast || h.dst == 0) && decide (h.src < 256) && decide (h.seq < 256)
      && decide (h.epoch < 256) && decide (h.len < 256) && decide (h.hops < 8)

end Sys2Proof.Safety
end

