-- ==== Sys2Proof/Certificates/Slice0/Obligations.lean ====
section
/-! DEFINITION. The statements about the model. A completion statement gives, for each command of its family, the next
state itself under conditions on the state and the operands alone; since that state is written out of named operations
(`put` writes one field of one word, `wr` one word, `raise` sets one RAW bit and queues one occurrence: `WordWrites`,
`RaiseDoes`, `FinishDoes`), it gives the frame as well. `s.accessed` is `s` after the wake that a host access brings
(`HostAccessDoes`), `finish` the hand-over of the command's occurrences to the router. -/

open Sys2Proof Sys2Proof.Machine

/-! ### The queue, the idle step, the basic operations -/

/-- A step with a command in front runs it with the queue's rest. -/
def Obligations.StepRunsFrontCommand : Prop :=
  ∀ (c : Instr) (s : State), step { s with pending := c :: s.pending } = exec c s

/-- The model's idle step (the model's choice, log entry 2): a part in reset passes one calendar-island cycle; a running
part carries out the first of a latched router task, a waiting occurrence, a requested pass (whose end is a safe
point of SCH, R201), else one cycle. -/
def Obligations.IdleStep : Prop :=
  ∀ s : State, s.pending = [] →
    (s.up = false → step s = .next s.resetCycle) ∧
    (s.up = true →
      (∀ n l, s.latches = n :: l → step s = .next (s.routerTask n).finish) ∧
      (s.latches = [] → s.occ ≠ [] → step s = .next s.nextOccurrence.finish) ∧
      (s.latches = [] → s.occ = [] → s.sch.passReq = true → step s = .next (s.pass.moment 4).finish) ∧
      (s.latches = [] → s.occ = [] → s.sch.passReq = false → step s = .next (s.calendarCycle).readyDue.finish))

/-- A field written into a word keeps every other bit; written fields read back; a store to a register or a byte leaves
every other register, every other byte and all other state as they were. -/
def Obligations.WordWrites : Prop :=
  (∀ (f : Fld) (w : Word) (v i : Nat), f.lo ≤ f.hi → (i < f.lo ∨ f.hi < i) → (f.into w v).getLsbD i = w.getLsbD i) ∧
  (∀ (f : Fld) (w : Word) (v : Nat), f.lo ≤ f.hi → f.hi < 32 → f.of (f.into w v) = v % 2 ^ (f.hi + 1 - f.lo)) ∧
  (∀ (s : State) (f : Fld) (v : Nat), f.lo ≤ f.hi → f.hi < 32 → RegFile.wf s.regs = true →
    (s.put f v).get f = v % 2 ^ (f.hi + 1 - f.lo)) ∧
  (∀ (s : State) (a b : Nat) (w : Word), b ≠ a → RegFile.wf s.regs = true → (s.wr a w).rd b = s.rd b) ∧
  (∀ (s : State) (a : Nat) (w : Word), RegFile.wf s.regs = true → (s.wr a w).rd a = w) ∧
  (∀ (s : State) (a : Nat) (w : Word), s.wr a w = { s with regs := (s.wr a w).regs }) ∧
  (∀ (s : State) (a b : Nat) (x : Byte), b ≠ a → Memory.wf s.mem = true → (s.putByte a x).byteAt b = s.byteAt b) ∧
  (∀ (s : State) (a : Nat) (x : Byte), Memory.wf s.mem = true → (s.putByte a x).byteAt a = x)

/-- R69: one occurrence sets the event's RAW bit whatever EN holds, and the router receives it once; no other register,
and no state but a retriggered pin, changes. -/
def Obligations.RaiseDoes : Prop :=
  ∀ (s : State) (e p bit : Nat), eventHome e = some (p, bit) → RegFile.wf s.regs = true →
    ((s.raise e).rd (Adr.PG_EVT_RAW p)).getLsbD bit = true ∧
    (∀ i, i ≠ bit → ((s.raise e).rd (Adr.PG_EVT_RAW p)).getLsbD i = (s.rd (Adr.PG_EVT_RAW p)).getLsbD i) ∧
    (∀ a, a ≠ Adr.PG_EVT_RAW p → (s.raise e).rd a = s.rd a) ∧
    s.raise e = { s with
      regs := (s.raise e).regs, raised := s.raised ++ [e],
      irqReleasedA := (s.raise e).irqReleasedA, irqReleasedB := (s.raise e).irqReleasedB }

/-- R256, R258, R259, R269: the occurrences of one moment reach the router together, in ascending event number, behind
the ones that wait; of the islands' own the eldest first, as many as crossing 12 has credits for, and the others wait in
their islands. None is lost while the router is on; with EVR's EN 0 or SAFE 1 none is held. A handshake that a slow
crossing 12 leaves open is recorded once. Nothing else changes. -/
def Obligations.FinishDoes : Prop :=
  ∀ s : State,
    let island := s.evtWait ++ sortEvents (s.raised.filter islandEvent)
    let room := if (s.xing 12).slow then 0 else 8 - s.occ.countP islandEvent
    s.finish = { s with occ := s.finish.occ, evtWait := s.finish.evtWait, stuck := s.finish.stuck, raised := [] } ∧
    (s.routerOn = false → s.finish.occ = [] ∧ s.finish.evtWait = [] ∧ s.finish.stuck = s.stuck) ∧
    (s.routerOn = true →
      (∃ l : List Nat, s.finish.occ = s.occ ++ l ∧ l.Pairwise (· ≤ ·) ∧
        l.Perm (s.raised.filter (fun e => !islandEvent e) ++ island.take room)) ∧
      s.finish.evtWait = island.drop room ∧
      (s.finish.occ ++ s.finish.evtWait).Perm (s.occ ++ s.evtWait ++ s.raised) ∧
      (s.occ.countP islandEvent ≤ 8 → s.finish.occ.countP islandEvent ≤ 8)) ∧
    ((s.xing 12).slow = false → s.finish.stuck = s.stuck) ∧
    (s.routerOn = true → (s.xing 12).slow = true → s.evtWait = [] → s.raised.any islandEvent = true →
      s.finish.stuck = s.stuck ++ [(5, 12, s.usec)])

/-- What a host access does beside its own effect: it keeps the part out of Ember (R145), and out of Ember it wakes the
fabric with HIF_WAKE (R131). -/
def Obligations.HostAccessDoes : Prop :=
  ∀ s : State,
    (s.pwr.phase ≠ .ember → s.accessed = { s with pwr := { s.pwr with emberBroken := true } }) ∧
    (s.pwr.phase = .ember →
      s.accessed =
        ({ s with pwr := { s.pwr with phase := .waking, emberBroken := true, emberCount := 0 } } : State).raise Ev.HIF_WAKE)

/-- A native host access, an access in the legacy view and a moment of the running part find nothing to act on where they
cannot reach it: in the other view (R124), with VDD_IO absent (R143), before SYS_READY. -/
def Obligations.OutOfReach : Prop :=
  (∀ (s : State) (f : State → State), s.nativeHost = false → s.native f = s) ∧
  (∀ (s : State) (f : State → State), s.legacyHost = false → s.legacyAccess f = s) ∧
  (∀ (s : State) (f : State → State), s.up = false → s.live f = s) ∧
  (∀ s : State, s.nativeHost = true → s.up = true ∧ s.pwr.ioUp = true ∧ s.bit .HIF_VIEW_VIEW = false) ∧
  (∀ s : State, s.legacyHost = true → s.up = true ∧ s.pwr.ioUp = true ∧ s.bit .HIF_VIEW_VIEW = true) ∧
  -- what is out of reach, refused or waiting completes too: no command, in any of its forms, stops the block
  (∀ (c : Instr) (s : State), ∃ t, exec c s = .next t)

/-! ### Completion: registers, pages, commits -/

/-- The commands of registers, staging, commits and page control, each with the state it leaves. -/
def Obligations.PageCommands : Prop :=
  -- REGISTER_WRITE
  (∀ (a : BitVec 16) (w : BitVec 32) (s : State), s.nativeHost = true → (queueWord a.toNat && decide (0x6000 ≤ a.toNat)) = false →
    exec (.registerWrite a w) s = .next (s.accessed.regWrite a.toNat w).lateOver.finish) ∧
  -- a word of a push window is an item of one word
  (∀ (a : BitVec 16) (w : BitVec 32) (s : State), s.nativeHost = true → (queueWord a.toNat && decide (0x6000 ≤ a.toNat)) = true →
    exec (.registerWrite a w) s = .next (s.accessed.closePush (windowEngine a.toNat) [w]).lateOver.finish) ∧
  (∀ (p : Fin 32) (w : BitVec 32) (s : State), s.nativeHost = true → pageExists p = true →
    exec (.registerWrite (BitVec.ofNat 16 (Adr.PG_EVT_EN p)) w) s =
      let t := s.accessed
      let v := w &&& eventMask p
      let rising := decide ((t.wr (Adr.PG_EVT_EN p) v).pend p &&& ~~~t.pend p ≠ 0)
      .next ((t.retrigger p rising).wr (Adr.PG_EVT_EN p) v).lateOver.finish) ∧
  -- STAGED_TWIN_WRITE
  (∀ (a : BitVec 16) (w : BitVec 32) (s : State) (r : RegRow), s.nativeHost = true →
    a.toNat % 4 = 0 → a.toNat < 0x8000 → 0x240 ≤ a.toNat % 0x400 → a.toNat % 0x400 < 0x3C0 →
    pageExists (a.toNat / 0x400) = true →
    findRow (pageAll (a.toNat / 0x400)) (a.toNat % 0x400 - 0x200) = some r → r.rs ≠ 0 →
    a.toNat ≠ Adr.CAL_TIME + 0x200 → a.toNat ≠ Adr.CAL_DATE + 0x200 →
    let t := s.accessed
    t.locked (a.toNat / 0x400) = false → t.bit (.PG_CFGSTAT_PENDING (a.toNat / 0x400)) = false →
    exec (.stagedTwinWrite a w) s =
      .next ((t.wr a.toNat ((t.rd a.toNat &&& ~~~BitVec.ofNat 32 r.rs) ||| (w &&& BitVec.ofNat 32 r.rs))).put
        (.PG_CFGSTAT_DIRTY (a.toNat / 0x400)) 1).lateOver.finish) ∧
  -- while a commit is pending the twin refuses the write whole; the calendar's pair is noted in TWR and DWR (R73, R281)
  (∀ (a : BitVec 16) (w : BitVec 32) (s : State) (r : RegRow), s.nativeHost = true →
    a.toNat % 4 = 0 → a.toNat < 0x8000 → 0x240 ≤ a.toNat % 0x400 → a.toNat % 0x400 < 0x3C0 →
    pageExists (a.toNat / 0x400) = true →
    findRow (pageAll (a.toNat / 0x400)) (a.toNat % 0x400 - 0x200) = some r → r.rs ≠ 0 →
    s.accessed.bit (.PG_CFGSTAT_PENDING (a.toNat / 0x400)) = true →
    exec (.stagedTwinWrite a w) s = .next (s.accessed.accErr a.toNat true 1 true).lateOver.finish) ∧
  (∀ (w : BitVec 32) (s : State), s.nativeHost = true → s.accessed.locked 7 = false →
    s.accessed.bit (.PG_CFGSTAT_PENDING 7) = false →
    let t := fun (a m : Nat) => (s.accessed.wr a ((s.accessed.rd a &&& ~~~BitVec.ofNat 32 m) ||| (w &&& BitVec.ofNat 32 m))).put
      (.PG_CFGSTAT_DIRTY 7) 1
    (∀ r : RegRow, findRow (pageAll 7) (Adr.CAL_TIME % 0x400) = some r →
      exec (.stagedTwinWrite (BitVec.ofNat 16 (Adr.CAL_TIME + 0x200)) w) s =
        .next ((t (Adr.CAL_TIME + 0x200) r.rs).put .CAL_STAT_TWR 1).lateOver.finish) ∧
    (∀ r : RegRow, findRow (pageAll 7) (Adr.CAL_DATE % 0x400) = some r →
      exec (.stagedTwinWrite (BitVec.ofNat 16 (Adr.CAL_DATE + 0x200)) w) s =
        .next ((t (Adr.CAL_DATE + 0x200) r.rs).put .CAL_STAT_DWR 1).lateOver.finish)) ∧
  -- COMMIT_GO: nothing while a commit is pending; a member of a group re-issues its part; refused for its range; a clean
  -- set completes at once (R71, R73 to R75, R589)
  (∀ (p : Fin 32) (s : State), s.nativeHost = true → pageExists p = true →
    let t := s.accessed
    let u := t.put (.PG_CFGSTAT_TIMEOUT p) 0
    let member := u.bit (.PG_CFGSTAT_INGROUP p)
    let f := u.setBitAt .SYS_CMT_FAIL_FAILED p false
    let m : State := if member then { f with cmt := { f.cmt with alone := p.val :: f.cmt.alone } } else u
    let r := m.rangeCheck p
    (t.bit (.PG_CFGSTAT_PENDING p) = true → exec (.commitGo p) s = .next t.lateOver.finish) ∧
    (t.bit (.PG_CFGSTAT_PENDING p) = false →
      (∀ off, r.1 = some off →
        let v := (r.2.put (.PG_CFGSTAT_PENDING p) 0).pgErr p (.PG_ERR_RANGE p) off
        exec (.commitGo p) s =
          .next ((if member then v.setBitAt .SYS_CMT_FAIL_FAILED p true else v).raise Ev.SYS_CMT_TIMEOUT).lateOver.finish) ∧
      (r.1 = none →
        let v := r.2.put (.PG_CFGSTAT_PENDING p) 1
        (v.bit (.PG_CFGSTAT_DIRTY p) = true → exec (.commitGo p) s = .next v.lateOver.finish) ∧
        (v.bit (.PG_CFGSTAT_DIRTY p) = false → exec (.commitGo p) s = .next (v.applyPage p).lateOver.finish)))) ∧
  -- the range check: the least offset that fails; the calendar names its field with CAL_ERR (R74, R283)
  (∀ (p : Nat) (s : State),
    (p ≠ 7 → s.rangeCheck p = (firstBad (s.pageRange p), s)) ∧
    (p = 7 → s.calFault = none → s.rangeCheck p = (none, s)) ∧
    (∀ f al off, p = 7 → s.calFault = some (f, al, off) →
      s.rangeCheck p =
        (some off, (((s.put .CAL_ERRCODE_FIELD f).putBit .CAL_ERRCODE_ALARM al.isSome).put .CAL_ERRCODE_ALM (al.getD 0)).raise
          Ev.CAL_ERR))) ∧
  -- COMMIT_REVERT: a group's member refuses it; CAL's half-written pair goes with it
  (∀ (p : Fin 32) (s : State), s.nativeHost = true → pageExists p = true →
    let t := ((s.accessed.revertTwins p).put (.PG_CFGSTAT_DIRTY p) 0).put (.PG_CFGSTAT_PENDING p) 0
    (s.accessed.bit (.PG_CFGSTAT_INGROUP p) = true →
      exec (.commitRevert p) s = .next (s.accessed.accErr (Adr.PG_COMMIT p) true 1 true).lateOver.finish) ∧
    (s.accessed.bit (.PG_CFGSTAT_INGROUP p) = false → p.val ≠ 7 → exec (.commitRevert p) s = .next t.lateOver.finish) ∧
    (s.accessed.bit (.PG_CFGSTAT_INGROUP p) = false → p.val = 7 →
      exec (.commitRevert p) s = .next ((t.put .CAL_STAT_TWR 0).put .CAL_STAT_DWR 0).lateOver.finish)) ∧
  -- a page that does not exist
  (∀ (p : Fin 32) (s : State), s.nativeHost = true → pageExists p = false →
    let e := fun a => (s.accessed.accErr a true 0).lateOver.finish
    exec (.commitGo p) s = .next (e (Adr.PG_COMMIT p)) ∧ exec (.commitRevert p) s = .next (e (Adr.PG_COMMIT p)) ∧
    exec (.pageLock p) s = .next (e (Adr.PG_LOCK p)) ∧
    (∀ on, exec (.pageEnable p on) s = .next (e (Adr.PG_CTRL p)) ∧ exec (.pageSafe p on) s = .next (e (Adr.PG_CTRL p))) ∧
    exec (.pageSoftReset p) s = .next (e (Adr.PG_CTRL p)) ∧
    (∀ w, exec (.eventPendClear p w) s = .next (e (Adr.PG_EVT_PEND p)) ∧
      exec (.eventForce p w) s = .next (e (Adr.PG_EVT_FORCE p)))) ∧
  -- PAGE_APPLY
  (∀ (p : Fin 32) (s : State), s.up = true → s.bit (.PG_CFGSTAT_PENDING p) = true → s.drainHold p = false →
    s.atSafePoint p = true → s.initsReady p false = true →
    exec (.pageApply p) s = .next (s.applyPage p).finish) ∧
  -- PAGE_APPLY: away from the safe point nothing happens; a DRAIN member that has reached it holds there
  (∀ (p : Fin 32) (s : State), s.up = true →
    (s.atSafePoint p = false → exec (.pageApply p) s = .next s.finish) ∧
    (s.bit (.PG_CFGSTAT_PENDING p) = false → exec (.pageApply p) s = .next s.finish) ∧
    (s.drainHold p = false → s.initsReady p false = false → exec (.pageApply p) s = .next s.finish) ∧
    (s.drainHold p = true → s.cmt.reached.contains p.val = true → exec (.pageApply p) s = .next s.finish) ∧
    (s.atSafePoint p = true → s.bit (.PG_CFGSTAT_PENDING p) = true → s.drainHold p = true →
      s.cmt.reached.contains p.val = false →
      exec (.pageApply p) s =
        .next ({ s with cmt := { s.cmt with reached := s.cmt.reached ++ [p.val] } } : State).finish)) ∧
  -- COMMIT_TIMEOUT
  (∀ (p : Fin 32) (s : State), s.up = true → s.bit (.PG_CFGSTAT_PENDING p) = true → s.drainHold p = false →
    s.get .SYS_CMT_TIMEOUT_TO ≠ 0 →
    let t := (s.put (.PG_CFGSTAT_PENDING p) 0).put (.PG_CFGSTAT_TIMEOUT p) 1
    (t.bit (.PG_CFGSTAT_INGROUP p) = false → exec (.commitTimeout p) s = .next (t.raise Ev.SYS_CMT_TIMEOUT).finish) ∧
    (t.bit (.PG_CFGSTAT_INGROUP p) = true →
      exec (.commitTimeout p) s = .next ((t.setBitAt .SYS_CMT_FAIL_FAILED p true).raise Ev.SYS_CMT_TIMEOUT).finish)) ∧
  (∀ (p : Fin 32) (s : State), s.up = true →
    s.bit (.PG_CFGSTAT_PENDING p) = false ∨ s.drainHold p = true ∨ s.get .SYS_CMT_TIMEOUT_TO = 0 →
    exec (.commitTimeout p) s = .next s.finish) ∧
  -- GROUP_GO and GROUP_DRAIN: a new group, the unapplied members of an outstanding one, and an empty mask
  (∀ (s : State), s.nativeHost = true →
    let t := s.accessed
    let bad := (t.accErr Adr.SYS_CMT_GO true 2).lateOver.finish
    (t.groupBusy = true →
      exec .groupGo s = .next (t.issueGroup t.cmt.open_ (t.bit .SYS_CMT_MODE_MODE)).lateOver.finish ∧
      exec .groupDrain s = .next (t.issueGroup t.cmt.open_ true).lateOver.finish) ∧
    (t.groupBusy = false → t.groupMask = [] → exec .groupGo s = .next bad ∧ exec .groupDrain s = .next bad)) ∧
  (∀ (s : State), s.nativeHost = true →
    let t := s.accessed
    let u := ((t.put .SYS_CMT_STAT_APPLIED 0).put .SYS_CMT_FAIL_FAILED 0).put .SYS_CMT_INFO_BUSY 1
    let v : State := { u with cmt := { u.cmt with members := t.groupMask, open_ := t.groupMask } }
    t.groupBusy = false → t.groupMask ≠ [] →
    exec .groupGo s = .next (v.issueGroup t.groupMask (t.bit .SYS_CMT_MODE_MODE)).lateOver.finish ∧
    exec .groupDrain s = .next (v.issueGroup t.groupMask true).lateOver.finish) ∧
  -- GROUP_CANCEL
  (∀ (s : State), s.nativeHost = true → s.accessed.groupBusy = true →
    exec .groupCancel s =
      .next ((s.accessed.forEach s.accessed.cmt.open_ fun s p =>
        ((s.put (.PG_CFGSTAT_PENDING p) 0).put (.PG_CFGSTAT_INGROUP p) 0).put (.PG_STAT_DRAINHOLD p) 0).groupOver).resume.lateOver.finish) ∧
  (∀ (s : State), s.nativeHost = true → s.accessed.groupBusy = false →
    exec .groupCancel s = .next s.accessed.lateOver.finish) ∧
  -- DRAIN_GROUP_APPLY, DRAIN_GROUP_TIMEOUT: nothing before every member stands at its safe point, and nothing late then
  (∀ (s : State), s.up = true →
    (s.draining = false ∨ (s.cmt.open_.all fun p => s.drained p) = false → exec .drainGroupApply s = .next s.finish) ∧
    (s.draining = false ∨ s.get .SYS_CMT_TIMEOUT_TO = 0 ∨ (s.cmt.open_.filter fun p => !s.drained p) = [] →
      exec .drainGroupTimeout s = .next s.finish)) ∧
  (∀ (s : State), s.up = true → s.draining = true → (s.cmt.open_.all fun p => s.drained p) = true →
    exec .drainGroupApply s =
      .next ((s.forEach s.cmt.open_ fun s p => s.applyPage p).forEach s.cmt.open_ fun s p =>
        s.put (.PG_STAT_DRAINHOLD p) 0).resume.finish) ∧
  -- DRAIN_GROUP_TIMEOUT
  (∀ (s : State), s.up = true → s.draining = true → s.get .SYS_CMT_TIMEOUT_TO ≠ 0 →
    let late := s.cmt.open_.filter fun p => !s.drained p
    let t := (s.forEach s.cmt.open_ fun s p => (s.put (.PG_CFGSTAT_PENDING p) 0).put (.PG_STAT_DRAINHOLD p) 0).forEach
      late fun s p => (s.put (.PG_CFGSTAT_TIMEOUT p) 1).setBitAt .SYS_CMT_FAIL_FAILED p true
    late ≠ [] →
    exec .drainGroupTimeout s =
      .next (({ t with cmt := { t.cmt with reached := [] } } : State).resume.raise Ev.SYS_CMT_TIMEOUT).finish)

/-- The lock and the control bits of a page, each with the state it leaves. -/
def Obligations.PageControlCommands : Prop :=
  -- PAGE_LOCK
  (∀ (p : Fin 32) (s : State), s.nativeHost = true → pageExists p = true → s.accessed.locked p = false →
    exec (.pageLock p) s = .next (s.accessed.lockPage p).lateOver.finish) ∧
  -- PAGE_ENABLE; a DRAIN member at its safe point stays there (`latch`)
  (∀ (p : Fin 32) (on : Bool) (s : State), s.nativeHost = true → pageExists p = true →
    let t := s.accessed
    exec (.pageEnable p on) s =
      .next (((t.latch p (t.atSafePoint p)).latch 0 t.roleSafe).pageEnable p on).lateOver.finish) ∧
  (∀ (p : Nat) (safe : Bool) (s : State), s.drainHold p = false → s.latch p safe = s) ∧
  (∀ (p : Nat) (s : State), s.drainHold p = true → s.cmt.reached.contains p = false →
    s.latch p true = { s with cmt := { s.cmt with reached := s.cmt.reached ++ [p] } }) ∧
  (∀ s : State, (qmxUsers.any fun q => s.enabled q) = true → s.pageEnable 9 false = s.accErr (Adr.PG_CTRL 9) true 1) ∧
  (∀ s : State, (qmxUsers.any fun q => s.enabled q) = false → s.enabled 9 = true → s.pageEnable 9 false = s.qmxDisable) ∧
  (∀ s : State, s.enabled 9 = false → s.pageEnable 9 true = s.qmxEnable) ∧
  (∀ (n : Fin 8) (s : State), s.bit (.PG_CTRL_EN (24 + n)) = false → s.duplicate n = true →
    s.pageEnable (24 + n) true = s.put (.LE_STAT_DUPBIND n) 1) ∧
  (∀ (p : Fin 32) (s : State), p.val = 4 ∨ p.val = 5 ∨ p.val = 14 ∨ p.val = 17 →
    (s.bit (.PG_CTRL_EN p) = false → s.pageEnable p true = (s.put (.PG_CTRL_EN p) 1).syncIslands) ∧
    (s.bit (.PG_CTRL_EN p) = true → s.pageEnable p false = ((s.pageStops p).put (.PG_CTRL_EN p) 0).syncIslands)) ∧
  -- PAGE_SAFE
  (∀ (p : Fin 32) (on : Bool) (s : State), s.nativeHost = true → pageExists p = true →
    let t := s.accessed
    let u := (t.latch p (t.atSafePoint p)).latch 0 t.roleSafe
    exec (.pageSafe p on) s = .next ((u.pageSafe p on).pageEnable p ((t.rd (Adr.PG_CTRL p)).getLsbD 0)).lateOver.finish) ∧
  (∀ (p : Fin 32) (s : State), RegFile.wf s.accessed.regs = true → s.nativeHost = true →
    p.val = 4 ∨ p.val = 5 ∨ p.val = 17 → s.accessed.safe p = false →
    let t := s.accessed
    exec (.pageSafe p true) s =
      .next (((t.latch p (t.atSafePoint p)).latch 0 t.roleSafe).put (.PG_CTRL_SAFE p) 1).lateOver.finish) ∧
  (∀ (p : Fin 32) (s : State), RegFile.wf s.accessed.regs = true → s.nativeHost = true →
    p.val = 4 ∨ p.val = 5 ∨ p.val = 17 → s.accessed.safe p = true →
    let t := s.accessed
    exec (.pageSafe p false) s =
      .next (((t.latch p (t.atSafePoint p)).latch 0 t.roleSafe).put (.PG_CTRL_SAFE p) 0).lateOver.finish) ∧
  -- PAGE_SOFT_RESET: SRST, then SAFE and EN as they were written back
  (∀ (p : Fin 32) (s : State), s.nativeHost = true → pageExists p = true →
    let t := s.accessed
    let u := (t.latch p (t.atSafePoint p)).latch 0 t.roleSafe
    let w := t.rd (Adr.PG_CTRL p)
    exec (.pageSoftReset p) s =
      .next (((u.pageSoftReset p).pageSafe p (w.getLsbD 2)).pageEnable p (w.getLsbD 0)).lateOver.finish) ∧
  -- PAGE_LOCK of a locked page
  (∀ (p : Fin 32) (s : State), s.nativeHost = true → pageExists p = true → s.accessed.locked p = true →
    exec (.pageLock p) s = .next s.accessed.lateOver.finish) ∧
  -- EN: pages without the bit, QMX where it stands already, a page that stands so already, a page whose XO is absent, and
  -- the other pages and engines
  (∀ (p : Nat) (on : Bool) (s : State),
    (fixedPage p = true ∨ p = 10 → s.pageEnable p on = s) ∧
    (p = 9 → s.enabled 9 = true → s.pageEnable 9 true = s) ∧
    (p = 9 → s.enabled 9 = false → (qmxUsers.any fun q => s.enabled q) = false → s.pageEnable 9 false = s) ∧
    (fixedPage p = false → p ≠ 9 → p ≠ 10 →
      (s.bit (.PG_CTRL_EN p) = on → s.pageEnable p on = s) ∧
      (s.bit (.PG_CTRL_EN p) = true → s.pageEnable p false = ((s.pageStops p).put (.PG_CTRL_EN p) 0).syncIslands) ∧
      (s.bit (.PG_CTRL_EN p) = false → p = 12 ∨ p = 13 ∨ p = 15 ∨ p = 16 → s.get .CLK_XO_CFG_MODE = 2 → s.pageEnable p true = s) ∧
      (s.bit (.PG_CTRL_EN p) = false → p = 12 ∨ p = 13 ∨ p = 15 ∨ p = 16 → s.get .CLK_XO_CFG_MODE ≠ 2 →
        s.pageEnable p true = (s.put (.PG_CTRL_EN p) 1).syncIslands) ∧
      (s.bit (.PG_CTRL_EN p) = false → 24 ≤ p → s.duplicate (p - 24) = false →
        s.pageEnable p true = (s.put (.PG_CTRL_EN p) 1).syncIslands))) ∧
  -- SAFE: pages without the bit, a page that stands so already, and what its rise and its fall bring in each block
  (∀ (p : Nat) (on : Bool) (s : State),
    (fixedPage p = true ∨ p = 9 ∨ p = 10 ∨ s.safe p = on → s.pageSafe p on = s) ∧
    (fixedPage p = false → p ≠ 9 → p ≠ 10 → s.safe p ≠ on →
      let t := s.putBit (.PG_CTRL_SAFE p) on
      (24 ≤ p → s.pageSafe p on = t.engineSafe (p - 24) on) ∧
      (on = true →
        (p = 12 → s.pageSafe p on = t.nfcSafe) ∧
        (p = 13 → s.pageSafe p on = if t.nfcServing then t.nfpAbort else t) ∧
        (p = 14 → s.pageSafe p on = t.lineIdle) ∧
        (p = 15 → s.pageSafe p on = t.radToSleep) ∧
        (p = 16 → s.pageSafe p on = (t.searchSet false).radioRxErr RxErr.CUT) ∧
        (p = 4 ∨ p = 5 ∨ p = 11 ∨ p = 17 → s.pageSafe p on = t)) ∧
      (on = false → (p = 12 → s.pageSafe p on = t.syncForced) ∧ (p < 24 → p ≠ 12 → s.pageSafe p on = t)))) ∧
  -- SRST: pages without the bit, QMX in use, and the block's own reset, after which a pending commit applies
  (∀ (p : Nat) (s : State),
    (fixedPage p = true → s.pageSoftReset p = s) ∧
    (p = 9 → (qmxUsers.any fun q => s.enabled q) = true → s.pageSoftReset p = s.accErr (Adr.PG_CTRL 9) true 1) ∧
    (p = 9 → (qmxUsers.any fun q => s.enabled q) = false → s.pageSoftReset p = (s.qmxDisable.qmxEnable.reachSafe 9).syncIslands) ∧
    (p = 4 → s.pageSoftReset p = (s.schSoftReset.reachSafe 4).syncIslands) ∧
    (p = 5 → s.pageSoftReset p = (s.evrSoftReset.reachSafe 5).syncIslands) ∧
    (p = 10 → s.pageSoftReset p = (s.secSoftReset.reachSafe 10).syncIslands) ∧
    (p = 11 → s.pageSoftReset p = (s.fecSoftReset.reachSafe 11).syncIslands) ∧
    (p = 12 → s.pageSoftReset p = (s.nfcSoftReset.reachSafe 12).syncIslands) ∧
    (p = 13 → s.pageSoftReset p = (s.nfpSoftReset.reachSafe 13).syncIslands) ∧
    (p = 14 → s.pageSoftReset p = (s.wirSoftReset.reachSafe 14).syncIslands) ∧
    (p = 15 → s.pageSoftReset p = (s.radSoftReset.reachSafe 15).syncIslands) ∧
    (p = 16 → s.pageSoftReset p = (s.rdmSoftReset.reachSafe 16).syncIslands) ∧
    (p = 17 → s.pageSoftReset p = (s.gpiSoftReset.reachSafe 17).syncIslands) ∧
    (24 ≤ p → p < 31 → s.pageSoftReset p = ((s.engineSoftReset (p - 24)).reachSafe p).syncIslands) ∧
    (p = 31 → s.leg.bound = false ∨ s.legacyView = true → s.pageSoftReset p = ((s.engineSoftReset 7).reachSafe 31).syncIslands) ∧
    (p = 31 → s.leg.bound = true → s.legacyView = false →
      s.pageSoftReset p = ((s.engineSoftReset 7).legacyUnbind.reachSafe 31).syncIslands))

/-- The commands of events, of interrupt summaries and of resets, each with the state it leaves. -/
def Obligations.EventAndResetCommands : Prop :=
  -- EVENT_PEND_CLEAR, IRQ_SUM_CLEAR
  (∀ (p : Fin 32) (w : BitVec 32) (s : State), s.nativeHost = true → pageExists p = true →
    exec (.eventPendClear p w) s =
      .next (s.accessed.wr (Adr.PG_EVT_RAW p) (s.accessed.rd (Adr.PG_EVT_RAW p) &&& ~~~w)).lateOver.finish) ∧
  (∀ (n : Fin 6) (k : Fin 32) (p b : Nat) (s : State), s.nativeHost = true → eventHome (32 * n + k) = some (p, b) →
    exec (.irqSumClear n (BitVec.ofNat 32 (2 ^ k.val))) s =
      .next (s.accessed.wr (Adr.PG_EVT_RAW p) (s.accessed.rd (Adr.PG_EVT_RAW p) &&& ~~~BitVec.ofNat 32 (2 ^ b))).lateOver.finish) ∧
  -- EVENT_FORCE, SOFTWARE_EVENT
  (∀ (p : Fin 32) (e b : Nat) (s : State), s.nativeHost = true → e < 192 → eventHome e = some (p.val, b) →
    s.accessed.locked p = false →
    exec (.eventForce p (BitVec.ofNat 32 (2 ^ b))) s = .next (s.accessed.raise e).lateOver.finish) ∧
  (∀ s : State, s.nativeHost = true → exec .softwareEvent s = .next (s.accessed.raise Ev.SYS_SWEVT).lateOver.finish) ∧
  -- SOFTWARE_RESET, PIN_RESET, SUPPLY_VRST, EMBER_DOMAIN_LOSS
  (∀ s : State, s.nativeHost = true → exec (.softwareReset 0x00005A17) s = .next (s.accessed.resetPart Rst.SOFT).lateOver.finish) ∧
  (∀ s : State, s.up = true → s.pwr.ioUp = true →
    exec .pinReset s = .next (((s.resetState Rst.PIN).sat .RST_CAUSE_COUNT).put .RST_CAUSE_CAUSE 2).finish) ∧
  (∀ (mv : Nat) (s : State), s.up = true → mv < 1700 →
    exec (.supplyVrst mv) s = .next (((s.resetState Rst.VRST).sat .RST_CAUSE_COUNT).put .RST_CAUSE_CAUSE 1).finish) ∧
  (∀ (mv : Nat) (s : State), mv < 1400 →
    exec (.emberDomainLoss mv) s =
      .next { State.reset with
        pending := s.pending, ctr := s.ctr
        pwr := { Power.reset with ioUp := s.pwr.ioUp, wakeHigh := s.pwr.wakeHigh }
        hif := { Hif.reset with strap := s.hif.strap } }) ∧
  -- KINDLING, KINDLING_IO_READY
  (∀ (fails : Nat) (strap : Fin 3) (a1 a0 : Bool) (temp : Int) (vmain vstore : Nat) (s : State),
    s.pwr.phase = .inReset → 1760 ≤ vmain → fails < 3 →
    exec (.kindling fails false true strap a1 a0 temp vmain vstore) s =
      .next (s.ready { strap := strap, a1 := a1, a0 := a0, temp := temp, vmain := vmain, vstore := vstore }).finish) ∧
  (∀ (strap : Fin 3) (a1 a0 : Bool) (temp : Int) (vmain vstore : Nat) (s : State), s.pwr.phase = .waitIo →
    exec (.kindlingIoReady strap a1 a0 temp vmain vstore) s =
      .next (s.ready { strap := strap, a1 := a1, a0 := a0, temp := temp, vmain := vmain, vstore := vstore }).finish) ∧
  -- IRQ_SUM_CLEAR and EVENT_FORCE of any word: each bit in its event's page, bits of no event do nothing; a locked page refuses
  (∀ (n : Fin 6) (w : BitVec 32) (s : State), s.nativeHost = true →
    exec (.irqSumClear n w) s =
      .next (s.accessed.forEach ((List.range 32).filter fun k => w.getLsbD k) fun s k => match eventHome (32 * n + k) with
        | some (p, b) => s.wr (Adr.PG_EVT_RAW p) (s.rd (Adr.PG_EVT_RAW p) &&& ~~~BitVec.ofNat 32 (2 ^ b))
        | none => s).lateOver.finish) ∧
  (∀ (p : Fin 32) (w : BitVec 32) (s : State), s.nativeHost = true → pageExists p = true →
    (s.accessed.locked p = true →
      exec (.eventForce p w) s = .next (s.accessed.lockViol p (Adr.PG_EVT_FORCE p)).lateOver.finish) ∧
    (s.accessed.locked p = false →
      exec (.eventForce p w) s =
        .next (s.accessed.forEach ((List.range 192).filter fun e => (eventHome e).any fun h => h.1 == p.val && w.getLsbD h.2)
          State.raise).lateOver.finish)) ∧
  -- SOFTWARE_RESET with another key; RESET_N without VDD_IO; supplies above their thresholds
  (∀ (key : BitVec 32) (s : State), s.nativeHost = true → key ≠ 0x00005A17 →
    exec (.softwareReset key) s = .next (s.accessed.accErr Adr.SYS_SWRST true 2).lateOver.finish) ∧
  (∀ (mv : Nat) (s : State),
    (s.pwr.ioUp = false → exec .pinReset s = .next s.finish) ∧
    (1700 ≤ mv → exec (.supplyVrst mv) s = .next s.finish) ∧
    (1400 ≤ mv → exec (.emberDomainLoss mv) s = .next s.finish)) ∧
  -- RESET_N and a supply below VRST with the part in reset: the earlier cause by R159 stands, counted once
  (∀ (mv : Nat) (s : State), s.up = false →
    let c := fun n => if s.pwr.por then Rst.POR else firstCause (s.get .RST_CAUSE_CAUSE) n
    let t := fun ph n => (({ s with pwr := { s.pwr with phase := ph } } : State).put .RST_CAUSE_CAUSE (c n)).finish
    (s.pwr.ioUp = true → exec .pinReset s = .next (t (if s.pwr.phase = .hot then .hot else .inReset) Rst.PIN)) ∧
    (mv < 1700 →
      exec (.supplyVrst mv) s =
        .next (t (if s.pwr.phase = .held then .held else if s.pwr.phase = .hot then .hot else .inReset) Rst.VRST))) ∧
  -- KINDLING: VDD_IO low, a third failed self-check, the start threshold by the reset's cause, TEST, and no reset
  (∀ (fails : Nat) (test io : Bool) (strap : Fin 3) (a1 a0 : Bool) (temp : Int) (vmain vstore : Nat) (s : State),
    let k : Samples := { strap := strap, a1 := a1, a0 := a0, temp := temp, vmain := vmain, vstore := vstore }
    let start := if (s.pwr.por || s.get .RST_CAUSE_CAUSE == Rst.VRST) = true then 1760 else 1700
    (s.pwr.phase = .inReset → test = false → start ≤ vmain →
      (fails < 3 → io = true → exec (.kindling fails test io strap a1 a0 temp vmain vstore) s = .next (s.ready k).finish) ∧
      (fails < 3 → io = false →
        exec (.kindling fails test io strap a1 a0 temp vmain vstore) s =
          .next ({ s with pwr := { s.pwr with phase := .waitIo, ioUp := false } } : State).finish) ∧
      (3 ≤ fails →
        exec (.kindling fails test io strap a1 a0 temp vmain vstore) s =
          .next ({ s with pwr := { s.pwr with phase := .held, ioUp := io } } : State).finish)) ∧
    (s.pwr.phase ≠ .inReset ∨ test = true ∨ vmain < start →
      exec (.kindling fails test io strap a1 a0 temp vmain vstore) s = .next s.finish) ∧
    (s.pwr.phase ≠ .waitIo → exec (.kindlingIoReady strap a1 a0 temp vmain vstore) s = .next s.finish))

/-! ### Completion: the host interface and the legacy view -/

/-- The commands of native transactions and of the host queues, each with the state it leaves. -/
def Obligations.HostCommands : Prop :=
  -- HOST_WRITE: one register word, CRC off
  (∀ (hi lo b0 b1 b2 b3 : Byte) (s : State), s.nativeHost = true →
    let t := s.accessed
    let u := t.regWrite (hi ++ lo).toNat (b0 ++ b1 ++ b2 ++ b3)
    t.bit .HIF_CRC_EN_EN = false → inQueue (hi ++ lo).toNat = false → t.up = true → u.up = true →
    exec (.hostWrite [0x00, hi, lo, b0, b1, b2, b3]) s =
      .next ({ u.lateOver with
        hostOut := (if s.i2c then [] else [BitVec.ofNat 8 s.statusByte]) ++ (if t.i2c then [] else List.replicate 6 0) }
          : State).finish) ∧
  -- HOST_READ: one register word, SPI with fixed wait bytes, CRC off
  (∀ (hi lo : Byte) (ready : Nat) (ecc : List (Nat × Bool)) (s : State), s.nativeHost = true →
    let t := s.accessed
    let r := t.regRead (hi ++ lo).toNat ecc
    let v := r.2.releasePopped t
    s.i2c = false → t.i2c = false → t.bit .HIF_CRC_EN_EN = false → t.bit .HIF_WAIT_MODE = false →
    inQueue (hi ++ lo).toNat = false → ready ≤ t.get .HIF_WAIT_BYTES → v.up = true →
    exec (.hostRead [0x40, hi, lo] 1 ready ecc) s =
      .next ({ v with
        hif := { v.hif with late := false, lateNow := false }
        hostOut := [BitVec.ofNat 8 s.statusByte] ++ ([0, 0] ++ (List.replicate (t.get .HIF_WAIT_BYTES) 0 ++ wordBytes r.1)) }
          : State).finish) ∧
  -- HOST_READ: the data are late (R112); the next status byte shows it (R110)
  (∀ (hi lo : Byte) (ready : Nat) (ecc : List (Nat × Bool)) (s : State), s.nativeHost = true →
    let t := s.accessed
    let v := (t.releasePopped t).underrun
    s.i2c = false → t.i2c = false → t.bit .HIF_CRC_EN_EN = false → t.bit .HIF_WAIT_MODE = false →
    inQueue (hi ++ lo).toNat = false → t.get .HIF_WAIT_BYTES < ready → v.up = true →
    exec (.hostRead [0x40, hi, lo] 1 ready ecc) s =
      .next ({ v with
        hif := { v.hif with late := true, lateNow := false }
        hostOut := [BitVec.ofNat 8 s.statusByte] ++ ([0, 0] ++ (List.replicate (t.get .HIF_WAIT_BYTES) 0 ++ [0, 0, 0, 0])) }
          : State).finish) ∧
  -- HOST_STATUS_ONLY
  (∀ s : State, s.nativeHost = true → s.i2c = false →
    exec .hostStatusOnly s =
      .next ({ s.accessed.lateOver with hostOut := [BitVec.ofNat 8 s.statusByte] } : State).finish) ∧
  -- before SYS_READY: the status byte alone on SPI, nothing on I²C, whose address is not acknowledged (R106)
  (∀ (bytes : List Byte) (s : State), s.pwr.ioUp = true → s.up = false →
    exec (.hostWrite bytes) s =
      .next ({ s with hostOut := if s.hif.strap = 1 then [] else [BitVec.ofNat 8 s.statusByte] } : State).finish) ∧
  -- I2C_BUS_TIMEOUT: an open word is discarded
  (∀ (hi lo : Byte) (word : List Byte) (s : State), s.nativeHost = true → s.i2c = true → s.accessed.i2c = true → word.length < 4 →
    exec (.i2cBusTimeout ([0x00, hi, lo] ++ word)) s =
      .next ({ s.accessed.lateOver with hostOut := [] } : State).finish) ∧
  -- HOST_QUEUE_PUSH
  (∀ (n : Fin 8) (words : List Word) (s : State), s.nativeHost = true → words ≠ [] → words.length ≤ 64 →
    let t := s.accessed
    let x := t.newId.2.xing (txQ n)
    let k := cellsOfWords words.length
    let i : Item := { id := t.newId.1, cost := k, cells := [], words := words, llrs := [], frame := 0 }
    4 ≤ t.pushFree → t.enabled 9 = true → k ≤ t.get (.LE_TXCRED_INIT n) →
    exec (.hostQueuePush n words) s =
      .next ((t.newId.2.putXing (txQ n) { x with waiting := x.waiting ++ [i] }).pushHand n true).lateOver.finish) ∧
  -- HOST_QUEUE_POP
  (∀ (n : Fin 8) (k : Nat) (ecc : List (Nat × Bool)) (s : State), s.nativeHost = true →
    exec (.hostQueuePop n k ecc) s = .next (s.accessed.popsOut n k ecc).lateOver.finish) ∧
  -- QUEUE_RELEASE, QUEUE_REWIND
  (∀ (q : Fin 9) (i : Item) (s : State), s.nativeHost = true → s.accessed.popItem q = some i →
    ((s.accessed.pop q).held = true ∨ 0 < (s.accessed.pop q).pos) →
    exec (.queueRelease q) s =
      .next ((s.accessed.freeOwned (popXing q) i.id).setPop q { pos := 0, held := false }).lateOver.finish) ∧
  (∀ (q : Fin 9) (i : Item) (s : State), s.nativeHost = true → s.accessed.popItem q = some i →
    exec (.queueRewind q) s = .next (s.accessed.setPop q { pos := 0, held := false }).lateOver.finish) ∧
  -- IRQ_RETRIG_REASSERT
  (∀ s : State, s.up = true →
    exec (.irqRetrigReassert false) s = .next ({ s with irqReleasedA := false } : State).finish ∧
    exec (.irqRetrigReassert true) s = .next ({ s with irqReleasedB := false } : State).finish) ∧
  -- WAKE_EDGE, FABRIC_AWAKE
  (∀ s : State, s.pwr.ioUp = true → s.pwr.wakeHigh = false → s.pwr.phase = .ember →
    exec (.wakeEdge true) s =
      .next (({ s with pwr := { s.pwr with wakeHigh := true, phase := .waking, emberBroken := true, emberCount := 0 } }
        : State).raise Ev.HIF_WAKE).finish) ∧
  (∀ s : State, s.pwr.phase = .waking →
    exec .fabricAwake s = .next ({ s with pwr := { s.pwr with phase := .up } } : State).finish) ∧
  -- HOST_WRITE, HOST_READ, HOST_STATUS_ONLY and I2C_BUS_TIMEOUT of any bytes, in either view: the status byte on SPI, then
  -- what the view's transaction gives, and the part as it leaves it; nothing without VDD_IO, nor a bus timeout on SPI
  (∀ (bytes : List Byte) (n ready : Nat) (ecc : List (Nat × Bool)) (s : State),
    let status := if s.i2c then [] else [BitVec.ofNat 8 s.statusByte]
    let runs := fun (bytes : List Byte) (n ready : Nat) (ecc : List (Nat × Bool)) (close : Bool) =>
      let r := if s.legacyView then s.accessed.legacyTransaction bytes n
        else s.accessed.nativeTransaction bytes n ready ecc close
      (if r.2.up then { r.2.lateOver with hostOut := status ++ r.1 } else r.2).finish
    (s.up = true → s.pwr.ioUp = true →
      exec (.hostWrite bytes) s = .next (runs bytes 0 0 [] true) ∧
      exec (.hostRead bytes n ready ecc) s = .next (runs bytes n ready ecc true) ∧
      exec .hostStatusOnly s = .next (runs [0x80] 0 0 [] true) ∧
      (s.i2c = true → exec (.i2cBusTimeout bytes) s = .next (runs bytes 0 0 [] false))) ∧
    (s.pwr.ioUp = false →
      exec (.hostWrite bytes) s = .next s.finish ∧ exec (.hostRead bytes n ready ecc) s = .next s.finish ∧
      exec .hostStatusOnly s = .next s.finish ∧ exec (.i2cBusTimeout bytes) s = .next s.finish) ∧
    (s.i2c = false → exec (.i2cBusTimeout bytes) s = .next s.finish)) ∧
  -- a native transaction by its command byte (R107, R108): refused, status only, cut short, a read, a write
  (∀ (c hi lo : Byte) (data : List Byte) (n ready : Nat) (ecc : List (Nat × Bool)) (close : Bool) (s : State),
    let crc := s.bit .HIF_CRC_EN_EN
    let zeros := fun (k : Nat) => if s.i2c then [] else List.replicate k (0 : Byte)
    let whole := s.nativeTransaction (c :: hi :: lo :: data) n ready ecc close
    (badCommand c = true → ∀ l, s.nativeTransaction (c :: l) n ready ecc close = ([], s.put .HIF_STAT_BADCMD 1)) ∧
    (badCommand c = false → c &&& 0xC0 = 0x80 → ∀ l, s.nativeTransaction (c :: l) n ready ecc close = ([], s)) ∧
    (badCommand c = false → c &&& 0xC0 ≠ 0x80 → ∀ l, l.length < 2 →
      s.nativeTransaction (c :: l) n ready ecc close = (zeros l.length, s)) ∧
    (badCommand c = false → c &&& 0xC0 = 0x40 →
      let r := s.readTransaction crc (c.getLsbD 5) (hi ++ lo).toNat n ready ecc [c, hi, lo]
      whole = (zeros 2 ++ r.1, r.2)) ∧
    (badCommand c = false → c &&& 0xC0 = 0x00 →
      whole = (zeros (data.length + 2), s.writeBytes crc (c.getLsbD 5) close (hi ++ lo).toNat [c, hi, lo] [] data))) ∧
  -- a written word with and without CRC, one whose CRC is wrong, and one cut short (R111, R115, R116)
  (∀ (fix close : Bool) (a : Nat) (pre : List Byte) (push : List Word) (b0 b1 b2 b3 k : Byte) (rest : List Byte) (s : State),
    let r := s.wordIn a push (b0 ++ b1 ++ b2 ++ b3)
    s.writeBytes false fix close a pre push (b0 :: b1 :: b2 :: b3 :: rest) =
      r.2.writeBytes false fix close (nextAddr fix a) [] r.1 rest ∧
    (k = hostCrc (pre ++ [b0, b1, b2, b3]) →
      s.writeBytes true fix close a pre push (b0 :: b1 :: b2 :: b3 :: k :: rest) =
        r.2.writeBytes true fix close (nextAddr fix a) [] r.1 rest) ∧
    (k ≠ hostCrc (pre ++ [b0, b1, b2, b3]) →
      s.writeBytes true fix close a pre push (b0 :: b1 :: b2 :: b3 :: k :: rest) = s.crcError) ∧
    s.writeBytes true fix close a pre push [b0, b1, b2, b3] = (if close then s.endPush a push else s) ∧
    (∀ (crc : Bool) (l : List Byte), l.length < 4 →
      s.writeBytes crc fix close a pre push l = if close then s.endPush a push else s)) ∧
  -- a read's data: at once on I²C; behind wait bytes and the ready byte from a queue or in polled mode, until MAXB (R112 to
  -- R114)
  (∀ (crc fix : Bool) (a n ready : Nat) (ecc : List (Nat × Bool)) (pre : List Byte) (s : State),
    let r := s.readWords crc fix false a ecc pre n
    let t := if crc then r.2 else r.2.releasePopped s
    let maxb := max 1 (s.get .HIF_WAIT_MAXB)
    let out := s.readTransaction crc fix a n ready ecc pre
    (s.i2c = true → out = (r.1, t)) ∧
    (s.i2c = false → inQueue a = true ∨ s.bit .HIF_WAIT_MODE = true →
      (ready ≤ maxb → out = (List.replicate ready (0xFF : Byte) ++ [0xA5] ++ r.1, t)) ∧
      (maxb < ready → out = (List.replicate maxb (0xFF : Byte) ++ [0x3C], s.underrun)))) ∧
  -- HOST_QUEUE_PUSH: no words; too many, a short buffer or QMX disabled
  (∀ (n : Fin 8) (words : List Word) (s : State), s.nativeHost = true →
    (words = [] → exec (.hostQueuePush n words) s = .next s.accessed.lateOver.finish) ∧
    (words ≠ [] → 64 < words.length ∨ s.accessed.pushFree < 4 ∨ s.accessed.enabled 9 = false →
      exec (.hostQueuePush n words) s = .next (s.accessed.overrun).lateOver.finish)) ∧
  -- a pop: a further word of the current item; the next item that passes its check; an empty queue (R119, R587)
  (∀ (q : Nat) (ecc : List (Nat × Bool)) (s : State),
    let c := s.checkFront q ecc (s.xing (popXing q)).unacked
    ((s.popItem q).isSome = true → (s.pop q).held = false → s.popWord q ecc = s.itemWord q ecc) ∧
    ((s.popItem q) = none ∨ (s.pop q).held = true →
      (c.1 = true → s.popWord q ecc = ((c.2.2.dropCurrent q).takeFront q).itemWord q c.2.1) ∧
      (c.1 = false → s.popWord q ecc = (0, c.2.1, c.2.2.underrun)))) ∧
  -- QUEUE_RELEASE, QUEUE_REWIND without a current item, or without a word read of it
  (∀ (q : Fin 9) (s : State), s.nativeHost = true →
    (s.accessed.popItem q = none ∨ ((s.accessed.pop q).held = false ∧ (s.accessed.pop q).pos = 0) →
      exec (.queueRelease q) s = .next s.accessed.lateOver.finish) ∧
    (s.accessed.popItem q = none → exec (.queueRewind q) s = .next s.accessed.lateOver.finish)) ∧
  -- WAKE_EDGE: a fall, no edge, no VDD_IO, and an edge out of Ember; FABRIC_AWAKE of a part that does not wake
  (∀ (high : Bool) (s : State),
    let t : State := { s with pwr := { s.pwr with wakeHigh := high && s.pwr.ioUp } }
    (high = false ∨ s.pwr.ioUp = false ∨ s.pwr.wakeHigh = true ∨ s.up = false → exec (.wakeEdge high) s = .next t.finish) ∧
    (high = true → s.pwr.ioUp = true → s.pwr.wakeHigh = false → s.up = true → s.pwr.phase ≠ .ember →
      exec (.wakeEdge high) s = .next t.breakEmber.finish) ∧
    (s.pwr.phase ≠ .waking → exec .fabricAwake s = .next s.finish))

/-- The commands of the legacy view, each with the state it leaves. -/
def Obligations.LegacyCommands : Prop :=
  -- LEGACY_VIEW_ENTER, NATIVE_VIEW_SELECT, LEGACY_EXIT
  (∀ s : State, s.nativeHost = true → s.accessed.legacyView = false →
    exec .legacyViewEnter s = .next (s.accessed.put .HIF_VIEW_VIEW 1).legacyEnter.lateOver.finish) ∧
  (∀ s : State, s.up = true → s.pwr.ioUp = true → 
    exec .nativeViewSelect s = .next (s.accessed.put .HIF_VIEW_VIEW 0).lateOver.finish) ∧
  (∀ s : State, s.legacyHost = true → exec .legacyExit s = .next (s.accessed.put .HIF_VIEW_VIEW 0).lateOver.finish) ∧
  -- LEGACY_TRANSCEIVE to LEGACY_INVENTORY: a task starts in slot 63
  (∀ s : State, s.legacyHost = true → s.accessed.leg.bound = true → s.accessed.legacyBusy = false →
    (s.accessed.slot 63).st ≠ .running →
    exec .legacyTransceive s = .next (s.accessed.legacyBegin 0x21).lateOver.finish ∧
    exec .legacyTransmit s = .next (s.accessed.legacyBegin 0x22).lateOver.finish ∧
    exec .legacyReceive s = .next (s.accessed.legacyBegin 0x23).lateOver.finish ∧
    exec .legacyFieldOn s = .next (s.accessed.legacyBegin 0x30).lateOver.finish ∧
    exec .legacyTypeaAnticoll s = .next (s.accessed.legacyBegin 0x40).lateOver.finish ∧
    exec .legacyInventory s = .next (s.accessed.legacyBegin 0x41).lateOver.finish) ∧
  -- LEGACY_IDLE, LEGACY_FIELD_OFF: nothing without a task; a waiting task ends; a running one ends after its frame
  (∀ s : State, s.legacyHost = true → s.accessed.legacyBusy = false →
    exec .legacyIdle s = .next s.accessed.lateOver.finish ∧ exec .legacyFieldOff s = .next s.accessed.lateOver.finish) ∧
  (∀ s : State, s.legacyHost = true → s.accessed.legacyBusy = true →
    let t := s.accessed
    ((t.slot 63).st ≠ .running →
      exec .legacyIdle s = .next ((t.taskEnds 63 (.aborted Cause.HOST)).legacyIdle).lateOver.finish ∧
      exec .legacyFieldOff s = .next ((t.taskEnds 63 (.aborted Cause.HOST)).legacyIdle).lateOver.finish) ∧
    ((t.slot 63).st = .running → t.legacyFieldOn = false →
      let u := t.setLeg fun l => { l with stop := true, todo := none }
      let v := if u.nfp.cur.any fun x => x.stage == .sending then u else u.legacyDone
      exec .legacyIdle s = .next v.lateOver.finish ∧ exec .legacyFieldOff s = .next v.lateOver.finish) ∧
    ((t.slot 63).st = .running → t.legacyFieldOn = true →
      let under := t.nfp.cur.isSome || t.nfp.step.isSome
      let v := (t.setLeg fun l => { l with stop := true, todo := if under then none else l.todo }).nudge 63
      exec .legacyIdle s = .next v.lateOver.finish ∧ exec .legacyFieldOff s = .next v.lateOver.finish)) ∧
  -- LEGACY_HOLD_LAPSE
  (∀ s : State, s.up = true → exec .legacyHoldLapse s = .next s.legacyHoldLapse.finish) ∧
  -- LEGACY_FIFO_WRITE, LEGACY_FIFO_READ, LEGACY_FIFO_FLUSH
  (∀ (b : Byte) (s : State), s.legacyHost = true →
    (s.accessed.leg.txf.length < 64 →
      exec (.legacyFifoWrite b) s = .next (s.accessed.setLeg fun l => { l with txf := l.txf ++ [b] }).lateOver.finish) ∧
    (64 ≤ s.accessed.leg.txf.length →
      exec (.legacyFifoWrite b) s =
        .next (((s.accessed.setLeg fun l => { l with err := l.err ||| 32, flags := l.flags ||| 2 ^ LFlag.ERR }).sat
          .HIF_CNT_OVR).raise Ev.HIF_OVERRUN).lateOver.finish)) ∧
  (∀ (b c : Byte) (r : List Byte) (s : State), s.legacyHost = true → s.accessed.leg.rxf = b :: c :: r →
    exec .legacyFifoRead s =
      .next ({ (s.accessed.setLeg fun l => { l with rxf := c :: r }) with hostOut := [b] } : State).lateOver.finish) ∧
  (∀ s : State, s.legacyHost = true →
    exec .legacyFifoFlush s =
      .next ((s.accessed.giveCells s.accessed.leg.cells).setLeg fun l => { l with txf := [], rxf := [], cells := [] }).lateOver.finish) ∧
  -- LEGACY_MAPPED_WRITE: the twin, then a single-page commit
  (∀ (b : Byte) (s : State), s.legacyHost = true →
    exec (.legacyMappedWrite 0x10 b) s =
      .next ((s.accessed.twinWrite Fld.NFP_TECH_TECH.twin.addr
        (Fld.NFP_TECH_TECH.into (s.accessed.rd Fld.NFP_TECH_TECH.twin.addr) b.toNat)).commitGo 13).lateOver.finish ∧
    exec (.legacyMappedWrite 0x12 b) s =
      .next ((s.accessed.twinWrite Fld.NFC_DRV_LVL_LVL.twin.addr
        (Fld.NFC_DRV_LVL_LVL.into (s.accessed.rd Fld.NFC_DRV_LVL_LVL.twin.addr) b.toNat)).commitGo 12).lateOver.finish) ∧
  -- a command without the binding, within a running task, within a
  -- FIELD_ON task, and while an earlier task of slot 63 still ends (R125 to R127)
  (∀ s : State, s.legacyHost = true →
    let t := s.accessed
    let each := fun (f : Nat → Host.Outcome State Fault Refusal) =>
      exec .legacyTransceive s = f 0x21 ∧ exec .legacyTransmit s = f 0x22 ∧ exec .legacyReceive s = f 0x23 ∧
      exec .legacyTypeaAnticoll s = f 0x40 ∧ exec .legacyInventory s = f 0x41
    let refused := Host.Outcome.next (t.legErr 7).lateOver.finish
    (t.leg.bound = false →
      (each fun _ => .next t.lateOver.finish) ∧ exec .legacyFieldOn s = .next t.lateOver.finish) ∧
    (t.leg.bound = true → t.legacyBusy = true → t.legacyFieldOn = false →
      (each fun _ => refused) ∧ exec .legacyFieldOn s = refused) ∧
    (t.leg.bound = true → t.legacyBusy = true → t.legacyFieldOn = true →
      exec .legacyFieldOn s = .next t.lateOver.finish ∧
      (t.leg.todo.isSome = true ∨ t.leg.stop = true → each fun _ => refused) ∧
      (t.leg.todo = none → t.leg.stop = false →
        each fun c => .next (t.setLeg fun l => { l with todo := some c }).nfpNext.lateOver.finish)) ∧
    (t.leg.bound = true → t.legacyBusy = false → (t.slot 63).st = .running →
      (each fun _ => refused) ∧ exec .legacyFieldOn s = refused)) ∧
  -- LEGACY_FIFO_READ of the last byte and of an empty FIFO, whose byte is a free value
  (∀ (b : Byte) (s : State), s.legacyHost = true →
    let t := s.accessed
    (t.leg.rxf = [b] →
      let u := t.setLeg fun l => { l with rxf := [] }
      exec .legacyFifoRead s =
        .next ({ ((u.giveCells u.leg.cells).setLeg fun l => { l with cells := [] }) with hostOut := [b] } : State).lateOver.finish) ∧
    (t.leg.rxf = [] →
      exec .legacyFifoRead s =
        .next ({ (t.freshBelow 256).2 with hostOut := [BitVec.ofNat 8 (t.freshBelow 256).1] } : State).lateOver.finish)) ∧
  -- LEGACY_MAPPED_WRITE of the other mapped registers, and of an address that is none
  (∀ (b : Byte) (s : State), s.legacyHost = true →
    let t := s.accessed
    let sets := fun (f : Fld) (v p : Nat) =>
      Host.Outcome.next ((t.twinWrite f.twin.addr (f.into (t.rd f.twin.addr) v)).commitGo p).lateOver.finish
    exec (.legacyMappedWrite 0x11 b) s = sets .NFP_RATE_RATE b.toNat 13 ∧
    exec (.legacyMappedWrite 0x13 b) s = sets .NFC_MODIDX_IDX b.toNat 12 ∧
    exec (.legacyMappedWrite 0x14 b) s = sets .NFP_FWT_FWT (b.toNat * 256 + t.getTwin .NFP_FWT_FWT % 256) 13 ∧
    exec (.legacyMappedWrite 0x15 b) s = sets .NFP_FWT_FWT (t.getTwin .NFP_FWT_FWT / 256 % 256 * 256 + b.toNat) 13 ∧
    ∀ a : BitVec 8, a.toNat < 0x10 ∨ 0x16 ≤ a.toNat → exec (.legacyMappedWrite a b) s = .next t.lateOver.finish)

/-! ### Completion: supplies, temperature, scheduler, clocks -/

/-- The commands of the supplies, the Damper and the Hearth bank, each with the state it leaves. -/
def Obligations.PowerCommands : Prop :=
  -- EMBER_ENTRY
  (∀ s : State, s.up = true → s.emberReady = true → s.pwr.emberBroken = false → s.get .PWR_EMBER_HOLDOFF < s.pwr.emberCount →
    exec .emberEntry s = .next ({ s with pwr := { s.pwr with phase := .ember } } : State).finish) ∧
  -- TXSUP_LOW, TXSUP_RECOVER
  (∀ (mv : Nat) (s : State), s.up = true → mv < 2600 → s.bit .PWR_MODE_TXLOW = false →
    exec (.txsupLow mv) s =
      .next (((s.put .PWR_MODE_TXLOW 1).raise Ev.PWR_TXSUP_LOW).forceField Cause.BLOCK).finish) ∧
  (∀ (mv : Nat) (s : State), s.up = true → 2700 ≤ mv →
    exec (.txsupRecover mv) s = .next (s.put .PWR_MODE_TXLOW 0).syncForced.finish) ∧
  -- VWARN_CROSSING
  (∀ (mv : Nat) (s : State), s.up = true → mv < 1900 + 50 * s.get .PWR_WARN_LVL_LVL → s.pwr.supplyEng = false →
    s.bit .PWR_MODE_DAMPER = false →
    exec (.vwarnCrossing mv) s =
      .next ((({ s with pwr := { s.pwr with mainMv := mv, supplyEng := true, minV := mv, dipUs := s.usec } } : State).sat
        .PWR_DIP_COUNT_COUNT).raise Ev.PWR_WARN).damperOn.finish) ∧
  -- VWARN_CROSSING while the Damper is engaged: no second warning, no count (R156)
  (∀ (mv : Nat) (s : State), s.up = true → mv < 1900 + 50 * s.get .PWR_WARN_LVL_LVL → s.pwr.supplyEng = false →
    s.bit .PWR_MODE_DAMPER = true →
    exec (.vwarnCrossing mv) s =
      .next ({ s with pwr := { s.pwr with mainMv := mv, supplyEng := true, minV := mv, dipUs := s.usec } } : State).finish) ∧
  (∀ (mv : Nat) (s : State), s.up = true → mv < 1900 + 50 * s.get .PWR_WARN_LVL_LVL → s.pwr.supplyEng = true →
    exec (.vwarnCrossing mv) s =
      .next ({ s.put .PWR_MODE_DWELL 0 with pwr := { s.pwr with mainMv := mv, minV := min s.pwr.minV mv } } : State).finish) ∧
  -- an application that changes VWARN judges VDD_MAIN against it (R151; the level is the last one that a command told,
  -- log entry 59)
  (∀ s old : State,
    (s.get .PWR_WARN_LVL_LVL = old.get .PWR_WARN_LVL_LVL → s.warnApplied old = s) ∧
    (s.get .PWR_WARN_LVL_LVL ≠ old.get .PWR_WARN_LVL_LVL →
      s.warnApplied old = if s.pwr.supplyEng then s.dwellStart s.pwr.mainMv else s.vwarnCross s.pwr.mainMv)) ∧
  -- M3_GROUP_COMPLETE
  (∀ s : State, s.up = true → exec .m3GroupComplete s = .next s.groupComplete.finish) ∧
  -- DWELL_START, DAMPER_DWELL_COMPLETE
  (∀ (mv : Nat) (s : State), s.up = true → s.pwr.supplyEng = true → s.bit .PWR_MODE_DWELL = false →
    1900 + 50 * s.get .PWR_WARN_LVL_LVL + 60 ≤ mv →
    exec (.dwellStart mv) s =
      .next ({ s with
        pwr := { s.pwr with mainMv := mv, minV := min s.pwr.minV mv, dwellUs := s.usec }, regs := (s.put .PWR_MODE_DWELL 1).regs } : State).finish) ∧
  (∀ s : State, s.up = true → s.pwr.supplyEng = true → s.bit .PWR_MODE_DWELL = true →
    let t := s.advanceTo (s.pwr.dwellUs + 250 * (s.get .PWR_DAMP_DWELL_DWELL + 1))
    let u := (t.put .PWR_LASTDIP_MINV (min t.pwr.minV 0xFFF)).put .PWR_LASTDIP_DUR (min ((t.usec - t.pwr.dipUs) / 250) 0xFFFF)
    let v : State := { u.put .PWR_MODE_DWELL 0 with pwr := { u.pwr with supplyEng := false } }
    (v.bit .PWR_MODE_FORCED = true → exec .damperDwellComplete s = .next v.finish) ∧
    (v.bit .PWR_MODE_FORCED = false → exec .damperDwellComplete s = .next v.damperOff.finish)) ∧
  -- FORCE_DAMPER, RELEASE_DAMPER, by register and by router task
  (∀ s : State, s.nativeHost = true → exec (.forceDamper false) s = .next (s.accessed.put .PWR_MODE_FORCED 1).damperOn.lateOver.finish) ∧
  (∀ s : State, s.up = true → s.enabled 1 = true → s.safe 1 = false →
    let t : State := { s with latches := s.latches.filter (· != 5) }
    exec (.forceDamper true) s = .next (t.put .PWR_MODE_FORCED 1).damperOn.finish) ∧
  (∀ s : State, s.nativeHost = true → s.accessed.bit .PWR_MODE_FORCED = true → s.accessed.pwr.supplyEng = false →
    exec (.releaseDamper false) s = .next (s.accessed.put .PWR_MODE_FORCED 0).damperOff.lateOver.finish) ∧
  (∀ s : State, s.up = true → s.enabled 1 = true → s.safe 1 = false → s.bit .PWR_MODE_FORCED = true →
    let t : State := { s with latches := s.latches.filter (· != 6) }
    (s.pwr.supplyEng = true → exec (.releaseDamper true) s = .next (t.put .PWR_MODE_FORCED 0).finish) ∧
    (s.pwr.supplyEng = false → exec (.releaseDamper true) s = .next (t.put .PWR_MODE_FORCED 0).damperOff.finish)) ∧
  -- DIP_COUNT_CLEAR
  (∀ s : State, s.nativeHost = true →
    exec .dipCountClear s = .next ((s.accessed.wr Adr.PWR_DIP_COUNT 0).wr Adr.PWR_LASTDIP 0).lateOver.finish) ∧
  -- BANK_ADJ_ADD, BANK_ADJ_SET
  (∀ (v : BitVec 24) (s : State), s.nativeHost = true → s.accessed.get .PWR_BANK_KIND_KIND = 2 →
    let t := s.accessed
    exec (.bankAdjAdd v) s =
      .next ((t.setBank (min (t.get .PWR_BANK_CAP_CAP) (t.bankLevel + v.toNat))).moment 1).lateOver.finish ∧
    exec (.bankAdjSet v) s = .next ((t.setBank (min (t.get .PWR_BANK_CAP_CAP) v.toNat)).moment 1).lateOver.finish) ∧
  -- BANK_ADJ_ADD, BANK_ADJ_SET of another kind: refused, cause 1
  (∀ (v : BitVec 24) (s : State), s.nativeHost = true → s.accessed.get .PWR_BANK_KIND_KIND ≠ 2 →
    exec (.bankAdjAdd v) s = .next (s.accessed.accErr Adr.PWR_BANK_ADJ true 1).lateOver.finish ∧
    exec (.bankAdjSet v) s = .next (s.accessed.accErr Adr.PWR_BANK_ADJ true 1).lateOver.finish) ∧
  -- MEAS_STORE, MEASUREMENT_DONE, PERIODIC_MEASUREMENT
  (∀ s : State, s.nativeHost = true →
    exec (.measStore false) s = .next ({ s.accessed with pwr := { s.accessed.pwr with measuring := true } } : State).lateOver.finish) ∧
  (∀ s : State, s.up = true → s.enabled 1 = true → s.safe 1 = false →
    let t : State := { s with latches := s.latches.filter (· != 4) }
    exec (.measStore true) s = .next ({ t with pwr := { t.pwr with measuring := true } } : State).finish) ∧
  (∀ (vmain vstore : Nat) (s : State), s.up = true →
    let due := s.pwr.measUs + (if s.pwr.phase = .ember then 1000000 else 10000)
    let t := s.advanceTo due
    exec (.periodicMeasurement vmain vstore) s =
      .next (({ t with pwr := { t.pwr with measUs := if s.usec ≤ due then due else s.usec } } : State).measured
        vmain vstore).finish) ∧
  (∀ (vmain vstore : Nat) (s : State),
    let t := (({ s with pwr := { s.pwr with mainMv := vmain } } : State).put .PWR_VMEAS_VMAIN vmain).put .PWR_VMEAS_VSTORE
      (min vstore 3600)
    (t.get .PWR_BANK_KIND_KIND ≠ 1 → s.measured vmain vstore = t) ∧
    (t.get .PWR_BANK_KIND_KIND = 1 → (t.setBank (t.capLevel (min vstore 3600))).get .PWR_BANK_KIND_KIND = 1 →
      s.measured vmain vstore = (t.setBank (t.capLevel (min vstore 3600))).moment 1)) ∧
  (∀ (vmain vstore : Nat) (s : State), s.up = true → s.pwr.measuring = true →
    exec (.measurementDone vmain vstore) s =
      .next ((({ s with pwr := { s.pwr with measuring := false } } : State).measured vmain vstore).raise
        Ev.PWR_MEAS_DONE).finish) ∧
  -- what is not due: EMBER_ENTRY before its conditions have held, a supply on the other side of its threshold or told already,
  -- a dwell that does not run, a measurement that nobody asked for
  (∀ (mv vstore : Nat) (s : State), s.up = true →
    (s.emberReady = false ∨ s.pwr.emberBroken = true ∨ s.pwr.emberCount ≤ s.get .PWR_EMBER_HOLDOFF →
      exec .emberEntry s = .next s.finish) ∧
    (2600 ≤ mv ∨ s.bit .PWR_MODE_TXLOW = true → exec (.txsupLow mv) s = .next s.finish) ∧
    (mv < 2700 → exec (.txsupRecover mv) s = .next s.finish) ∧
    (s.pwr.supplyEng = false ∨ s.bit .PWR_MODE_DWELL = false → exec .damperDwellComplete s = .next s.finish) ∧
    (s.pwr.measuring = false → exec (.measurementDone mv vstore) s = .next s.finish)) ∧
  -- VWARN_CROSSING and DWELL_START tell VDD_MAIN's level even where they judge nothing; a dwell under way goes on, and below
  -- VWARN + 60 mV it stops (R155)
  (∀ (mv : Nat) (s : State), s.up = true →
    let t : State := { s with pwr := { s.pwr with mainMv := mv } }
    (1900 + 50 * s.get .PWR_WARN_LVL_LVL ≤ mv → exec (.vwarnCrossing mv) s = .next t.finish) ∧
    (s.pwr.supplyEng = false → exec (.dwellStart mv) s = .next t.finish) ∧
    (s.pwr.supplyEng = true → s.bit .PWR_MODE_DWELL = true →
      let u : State := { t with pwr := { t.pwr with minV := min t.pwr.minV mv } }
      (1900 + 50 * s.get .PWR_WARN_LVL_LVL + 60 ≤ mv → exec (.dwellStart mv) s = .next (u.put .PWR_MODE_DWELL 1).finish) ∧
      (mv < 1900 + 50 * s.get .PWR_WARN_LVL_LVL + 60 → exec (.dwellStart mv) s = .next (u.put .PWR_MODE_DWELL 0).finish)) ∧
    (s.pwr.supplyEng = true → s.bit .PWR_MODE_DWELL = false → mv < 1900 + 50 * s.get .PWR_WARN_LVL_LVL + 60 →
      exec (.dwellStart mv) s =
        .next ({ t.put .PWR_MODE_DWELL 0 with pwr := { t.pwr with minV := min t.pwr.minV mv, dwellUs := t.usec } } : State).finish)) ∧
  -- RELEASE_DAMPER by register under a supply-caused engagement, and either way where nothing was forced (R156)
  (∀ s : State, s.nativeHost = true →
    (s.accessed.bit .PWR_MODE_FORCED = true → s.accessed.pwr.supplyEng = true →
      exec (.releaseDamper false) s = .next (s.accessed.put .PWR_MODE_FORCED 0).lateOver.finish) ∧
    (s.accessed.bit .PWR_MODE_FORCED = false → exec (.releaseDamper false) s = .next s.accessed.lateOver.finish)) ∧
  (∀ s : State, s.up = true → s.enabled 1 = true → s.safe 1 = false → s.bit .PWR_MODE_FORCED = false →
    exec (.releaseDamper true) s = .next ({ s with latches := s.latches.filter (· != 6) } : State).finish)

/-- The commands of temperature, the analogue inputs, the heater and the Flue ledger, each with the state it leaves. -/
def Obligations.ThermalCommands : Prop :=
  -- PERIODIC_TEMP_SAMPLE, TEMP_SAMPLE_COMPLETE
  (∀ s : State, s.up = true →
    let t := s.calendarCycles (s.thm.start + (if s.pwr.phase = .ember then 32768 else 328) - s.cyc)
    exec .periodicTempSample s = .next ({ t with thm := { t.thm with sampling := true, start := t.cyc } } : State).finish) ∧
  (∀ (x : Int) (s : State), s.up = true → s.thm.sampling = true →
    let t := (((({ s with thm := { s.thm with sampling := false } } : State).putS .THM_TEMP_TEMP x).overtempClears.takeSample
      x).forEach (List.range 4) fun s c => s.stepComparator c).flueUpdate.ainPeriodic.calCompare
    exec (.tempSampleComplete x) s =
      .next ((t.raiseIf (t.bit .THM_CFG_SAMPLEEVT) Ev.THM_SAMPLE).moment 2).finish) ∧
  -- TEMP_SAMPLE, EXTRA_SAMPLE_COMPLETE
  (∀ s : State, s.nativeHost = true →
    exec (.tempSample false) s = .next ({ s.accessed with thm := { s.accessed.thm with extra := true } } : State).lateOver.finish) ∧
  (∀ s : State, s.up = true → s.enabled 2 = true → s.safe 2 = false →
    let t : State := { s with latches := s.latches.filter (· != 8) }
    exec (.tempSample true) s = .next ({ t with thm := { t.thm with extra := true } } : State).finish) ∧
  (∀ (x : Int) (s : State), s.up = true → s.thm.extra = true →
    exec (.extraSampleComplete x) s =
      .next ((({ s with thm := { s.thm with extra := false } } : State).putS .THM_TEMP_TEMP x).raise Ev.THM_SAMPLE).finish) ∧
  -- OVERTEMP_TRIP, OVERTEMP_RESET_RELEASE
  (∀ s : State, s.up = true → s.bit .THM_FLAGS_OT = false → s.bit .THM_CFG_OTRESET = false →
    exec .overtempTrip s =
      .next ((((((s.put .THM_FLAGS_OT 1).sat .THM_OTCOUNT_COUNT).syncHeater).put .THM_HEAT_EN 0).raise
        Ev.THM_OVERTEMP).radOvertemp.forceField Cause.OVERTEMP).finish) ∧
  (∀ s : State, s.pwr.phase = .hot →
    exec .overtempResetRelease s = .next ({ s with pwr := { s.pwr with phase := .inReset } } : State).finish) ∧
  -- FLUE_SNAPSHOT
  (∀ s : State, s.nativeHost = true →
    let t := s.accessed
    let u := (t.put .FLUE_SNAP_TEMP (t.get .THM_TEMP_TEMP)).put .FLUE_SNAP_BIAS (t.get .FLUE_BIAS_BIAS)
    u.bit .THM_AIN_CTRL_SNAPAIN = false → exec (.flueSnapshot false) s = .next u.lateOver.finish) ∧
  (∀ s : State, s.up = true → s.enabled 2 = true → s.safe 2 = false →
    let t : State := { s with latches := s.latches.filter (· != 9) }
    let u := (t.put .FLUE_SNAP_TEMP (t.get .THM_TEMP_TEMP)).put .FLUE_SNAP_BIAS (t.get .FLUE_BIAS_BIAS)
    u.bit .THM_AIN_CTRL_SNAPAIN = true → exec (.flueSnapshot true) s = .next u.startAin.finish) ∧
  -- AIN_CONVERT, AIN_CONVERSION_DONE
  (∀ s : State, s.nativeHost = true → s.accessed.bit .THM_AIN_CTRL_CH0EN = true → s.accessed.bit .THM_AIN_CTRL_CH1EN = true →
    s.accessed.thm.ainBusy = [] →
    exec .ainConvert s = .next ({ s.accessed with thm := { s.accessed.thm with ainBusy := [0, 1] } } : State).lateOver.finish) ∧
  (∀ (c : Fin 2) (x : AinSample) (s : State), s.up = true → s.thm.ainBusy.contains c.val = true →
    exec (.ainConversionDone c x) s =
      .next ((({ s with thm := { s.thm with ainBusy := s.thm.ainBusy.filter (· != c.val) } } : State).put (.THM_AIN_CODE c)
        (ainCode x.v x.vdd)).put (.THM_AIN_VALID c) 1).finish) ∧
  (∀ v vdd : Nat, (vdd ≤ v → ainCode v vdd = 16383) ∧
    (v < vdd → ainCode v vdd * vdd ≤ 16384 * v ∧ 16384 * v < (ainCode v vdd + 1) * vdd)) ∧
  -- HEATER_ENABLE, HEATER_TIMEOUT
  (∀ (w : BitVec 32) (s : State), s.nativeHost = true → s.accessed.bit .THM_FLAGS_HEAT = false →
    s.accessed.bit .THM_HEAT_EN = false →
    exec (.heaterEnable w) s =
      .next ((({ s.accessed with thm := { s.accessed.thm with heatRun := 0 } } : State).wr Adr.THM_HEAT
        (w &&& 0xFF31)).syncHeater).lateOver.finish) ∧
  (∀ s : State, s.up = true → s.bit .THM_FLAGS_HEAT = true →
    exec .heaterTimeout s =
      .next (((s.advanceTo (s.thm.heatSince + (s.heatLimit - s.thm.heatRun))).put .THM_HEAT_EN
        0).syncHeater).finish) ∧
  -- FLUE_STATE_WRITE
  (∀ (n : Fin 3) (w : BitVec 32) (s : State), s.nativeHost = true →
    exec (.flueStateWrite n w) s =
      .next ({ s.accessed with thm := { s.accessed.thm with xWrite := s.accessed.thm.xWrite.set n (some w.toNat) } }
        : State).lateOver.finish) ∧
  -- what finds nothing under way: a sample that nobody started, a conversion that does not run, a heater that is off, a die
  -- that has tripped already, a part that is in no over-temperature reset
  (∀ (x : Int) (c : Fin 2) (v : AinSample) (s : State), s.up = true →
    (s.thm.sampling = false → exec (.tempSampleComplete x) s = .next s.finish) ∧
    (s.thm.extra = false → exec (.extraSampleComplete x) s = .next s.finish) ∧
    (s.thm.ainBusy.contains c.val = false → exec (.ainConversionDone c v) s = .next s.finish) ∧
    (s.bit .THM_FLAGS_HEAT = false → exec .heaterTimeout s = .next s.finish) ∧
    (s.bit .THM_FLAGS_OT = true → exec .overtempTrip s = .next s.finish)) ∧
  (∀ s : State, s.pwr.phase ≠ .hot → exec .overtempResetRelease s = .next s.finish) ∧
  -- OVERTEMP_TRIP with OTRESET 1: the trip's forced states, then a reset that holds until the comparator releases it (R181)
  (∀ s : State, s.up = true → s.bit .THM_FLAGS_OT = false → s.bit .THM_CFG_OTRESET = true →
    let t := ((((((s.put .THM_FLAGS_OT 1).sat .THM_OTCOUNT_COUNT).syncHeater).put .THM_HEAT_EN 0).raise
      Ev.THM_OVERTEMP).radOvertemp.forceField Cause.OVERTEMP).resetPart Rst.OVERTEMP
    exec .overtempTrip s = .next ({ t with pwr := { t.pwr with phase := .hot } } : State).finish) ∧
  -- FLUE_SNAPSHOT by register with SNAPAIN 1, by router task with SNAPAIN 0
  (∀ s : State, s.nativeHost = true →
    let t := s.accessed
    let u := (t.put .FLUE_SNAP_TEMP (t.get .THM_TEMP_TEMP)).put .FLUE_SNAP_BIAS (t.get .FLUE_BIAS_BIAS)
    u.bit .THM_AIN_CTRL_SNAPAIN = true → exec (.flueSnapshot false) s = .next u.startAin.lateOver.finish) ∧
  (∀ s : State, s.up = true → s.enabled 2 = true → s.safe 2 = false →
    let t : State := { s with latches := s.latches.filter (· != 9) }
    let u := (t.put .FLUE_SNAP_TEMP (t.get .THM_TEMP_TEMP)).put .FLUE_SNAP_BIAS (t.get .FLUE_BIAS_BIAS)
    u.bit .THM_AIN_CTRL_SNAPAIN = false → exec (.flueSnapshot true) s = .next u.finish) ∧
  -- AIN_CONVERT of any enabled channels: a channel that converts already starts no second conversion
  (∀ s : State, s.nativeHost = true →
    exec .ainConvert s = .next s.accessed.startAin.lateOver.finish ∧
    (∀ c, s.accessed.startAin.thm.ainBusy.contains c = true ↔
      (s.accessed.thm.ainBusy.contains c = true ∨ (c = 0 ∧ s.accessed.bit .THM_AIN_CTRL_CH0EN = true) ∨
        (c = 1 ∧ s.accessed.bit .THM_AIN_CTRL_CH1EN = true)))) ∧
  -- HEATER_ENABLE while the heater runs (its run so far is settled), and while EN is 1 and it is held off (R188)
  (∀ (w : BitVec 32) (s : State), s.nativeHost = true →
    (s.accessed.bit .THM_FLAGS_HEAT = true →
      exec (.heaterEnable w) s =
        .next ((((s.accessed.put .THM_HEAT_EN 0).syncHeater).wr Adr.THM_HEAT (w &&& 0xFF31)).syncHeater).lateOver.finish) ∧
    (s.accessed.bit .THM_FLAGS_HEAT = false → s.accessed.bit .THM_HEAT_EN = true →
      exec (.heaterEnable w) s = .next ((s.accessed.wr Adr.THM_HEAT (w &&& 0xFF31)).syncHeater).lateOver.finish))

/-- The commands of the orbit and the scheduler, each with the state it leaves. -/
def Obligations.SchedulerCommands : Prop :=
  -- ORBIT
  (∀ (pins : BitVec 12) (s : State), s.up = true →
    let t := s.advanceTo (max (s.sch.orbit + 1) (s.usec / 1000) * 1000)
    let u : State := { t with sch := { t.sch with orbit := max (s.sch.orbit + 1) (s.usec / 1000) } }
    let v := (u.refillBank.moment 1).raiseIf (u.bit .SCH_CFG_ORBITEVT) Ev.SCH_ORBIT
    let w := ((v.readyDue.countLong.emberOrbit.pass).moment 4).gpiSample pins.toNat
    exec (.orbit pins) s = .next (if w.gpiSafe then w.moment 17 else w).finish) ∧
  -- SCHEDULER_PASS
  (∀ s : State, s.up = true → s.enabled 4 = true →
    let t := ({ s with sch := { s.sch with passReq := false } } : State).forEach slotNumbers fun s i =>
      if (s.slot i).candidate && s.deadlineOver (s.slot i) then s.taskEnds i .missed else s
    let u := t.forEach t.passOrder fun s i => if (s.slot i).candidate then s.visit i else s
    let started := t.passOrder.filter fun i => (u.slot i).st == .running
    (t.takesWork 4 = true →
      exec .schedulerPass s =
        .next ((u.forEach started fun s i => if (s.slot i).st == .running then s.handToBlock i else s).moment 4).finish) ∧
    (t.takesWork 4 = false → exec .schedulerPass s = .next (t.moment 4).finish)) ∧
  -- TASK_PREEMPTED, TASK_END, USER_TASK_TIMEOUT
  (∀ (i : Fin 64) (s : State), s.up = true → (s.slot i).preempt = true → (s.slot i).st = .running →
    (s.slot i).kind = Kind.USER → (s.slot i).abort = false →
    exec (.taskPreempted i) s = .next (s.taskEnds i .preempted).finish) ∧
  (∀ (i : Fin 64) (s : State), s.up = true → (s.slot i).st = .running → kindResource (s.slot i).kind = none →
    exec (.taskEnd i false) s = .next (s.taskEnds i .done).finish ∧
    exec (.taskEnd i true) s = .next (s.taskEnds i (.aborted Cause.BLOCK)).finish) ∧
  (∀ (i : Fin 64) (s : State), s.up = true → (s.slot i).st = .running → (s.slot i).kind = Kind.USER →
    exec (.userTaskTimeout i) s =
      .next ((s.advanceTo (s.usec + ((s.slot i).durMs * 1000 - (s.schTime + 2 ^ 32 - (s.slot i).started) % 2 ^ 32))).taskEnds i
        .done).finish) ∧
  -- SLOT_READY
  (∀ (i : Fin 64) (e : Nat) (s : State), s.up = true → (s.slot i).st = .waiting → (s.slot i).estart = some e →
    (e + 2 ^ 32 - s.schTime) % 2 ^ 32 < 2 ^ 31 →
    exec (.slotReady i) s = .next (s.advanceTo (s.usec + (e + 2 ^ 32 - s.schTime) % 2 ^ 32)).readyDue.finish) ∧
  -- TRIGGER_FIRE, by register and by router task
  (∀ (m : Fin 16) (s : State), s.nativeHost = true → exec (.triggerFire m false) s = .next (s.accessed.trigger m).lateOver.finish) ∧
  (∀ (m : Fin 16) (s : State), s.up = true →
    exec (.triggerFire m true) s =
      .next (({ s with latches := s.latches.filter (· != 16 + m.val) } : State).trigger m).finish) ∧
  -- SLOT_LOAD
  (∀ (i : Fin 64) (s : State), s.nativeHost = true →
    exec (.slotLoad i) s =
      .next ((s.accessed.forEach (List.range 7) fun s k => s.wr (Adr.SCH_WIN k) ((s.accessed.slot i).word k)).wr Adr.SCH_WIN7
        (s.accessed.slot i).status).lateOver.finish) ∧
  -- SLOT_ARM of a relative start
  (∀ (i : Fin 64) (s : State), s.nativeHost = true →
    let u := s.accessed
    let t : Slot := { Slot.empty with st := .waiting, words := (List.range 7).map fun k => u.rd (Adr.SCH_WIN k) }
    u.legacyHolds i = false →
    ((u.slot i).st = .free ∨ (u.slot i).st = .done ∨ (u.slot i).st = .missed ∨ (u.slot i).st = .aborted) →
    descriptorFault t = none → t.trigen = false → t.tbase = false →
    exec (.slotArm i) s = .next (u.setSlot i { t with estart := some ((u.schTime + t.start) % 2 ^ 32) }).lateOver.finish) ∧
  -- SLOT_FREE, SLOT_ABORT, SLOT_END
  (∀ (i : Fin 64) (s : State), s.nativeHost = true → s.accessed.legacyHolds i = false → (s.accessed.slot i).st ≠ .running →
    exec (.slotFree i) s = .next (s.accessed.setSlot i Slot.empty).lateOver.finish) ∧
  (∀ (i : Fin 64) (s : State), s.nativeHost = true → s.accessed.legacyHolds i = false →
    (((s.accessed.slot i).st = .waiting ∨ (s.accessed.slot i).st = .ready ∨ (s.accessed.slot i).st.deferred = true) →
      exec (.slotAbort i) s =
        .next ((s.accessed.setSlot i { s.accessed.slot i with abort := true }).taskEnds i
          (.aborted Cause.HOST)).lateOver.finish) ∧
    ((s.accessed.slot i).st = .running →
      exec (.slotAbort i) s =
        .next ((s.accessed.setSlot i { s.accessed.slot i with abort := true }).nudge i).lateOver.finish)) ∧
  (∀ (i : Fin 64) (s : State), s.nativeHost = true → (s.accessed.slot i).st = .running → (s.accessed.slot i).kind = Kind.USER →
    exec (.slotEnd i) s = .next (s.accessed.taskEnds i .done).lateOver.finish) ∧
  -- SLOT_CMD_RESERVED: refused with SCH_SLOT_ERR, cause 8
  (∀ (i : Fin 64) (op : Fin 3) (s : State), s.nativeHost = true → (s.accessed.raise Ev.SCH_SLOT_ERR).bit .SCH_ERRINFO_VALID = false →
    exec (.slotCmdReserved i op) s =
      .next ((((s.accessed.raise Ev.SCH_SLOT_ERR).put .SCH_ERRINFO_VALID 1).put .SCH_ERRINFO_SLOT i).put .SCH_ERRINFO_CAUSE 8).lateOver.finish) ∧
  -- SCHEDULER_PASS with the page off: no slot is missed and none is visited
  (∀ s : State, s.up = true → s.enabled 4 = false →
    exec .schedulerPass s = .next (({ s with sch := { s.sch with passReq := false } } : State).moment 4).finish) ∧
  -- TASK_PREEMPTED of a task that nobody asked to stop; of a running block's task, which stops as its block stops
  (∀ (i : Fin 64) (s : State), s.up = true →
    ((s.slot i).preempt = false → exec (.taskPreempted i) s = .next s.finish) ∧
    ((s.slot i).preempt = true → (s.slot i).st ≠ .running → exec (.taskPreempted i) s = .next s.finish) ∧
    ((s.slot i).preempt = true → (s.slot i).st = .running →
      (kindResource (s.slot i).kind = some .field → s.nfcServing = true → exec (.taskPreempted i) s = .next s.nfpNext.finish) ∧
      (kindResource (s.slot i).kind = some .field → s.nfcServing = false → exec (.taskPreempted i) s = .next s.finish) ∧
      (kindResource (s.slot i).kind = some .radio → (s.slot i).abort = false → (s.slot i).kind = Kind.RAD_RX_WIN →
        exec (.taskPreempted i) s = .next s.winNext.finish) ∧
      (kindResource (s.slot i).kind = some .radio → (s.slot i).abort = false → (s.slot i).kind ≠ Kind.RAD_RX_WIN →
        exec (.taskPreempted i) s = .next s.radNext.finish) ∧
      (kindResource (s.slot i).kind = some .radio → (s.slot i).abort = true →
        exec (.taskPreempted i) s = .next s.radToSleep.finish) ∧
      (kindResource (s.slot i).kind = some .line → exec (.taskPreempted i) s = .next s.lineStop.finish) ∧
      (kindResource (s.slot i).kind = some .decoder → exec (.taskPreempted i) s = .next s.burstStep.finish) ∧
      ((s.slot i).kind = Kind.USER → (s.slot i).abort = true →
        exec (.taskPreempted i) s = .next (s.taskEnds i (.aborted Cause.HOST)).finish))) ∧
  -- TASK_END of a task that a block runs: what the block has under way for it ends with it; of a slot that does not run, nothing
  (∀ (i : Fin 64) (failed : Bool) (s : State), s.up = true →
    let e : TaskEnd := if failed then .aborted Cause.BLOCK else .done
    ((s.slot i).st ≠ .running → exec (.taskEnd i failed) s = .next s.finish) ∧
    ((s.slot i).st = .running →
      (kindResource (s.slot i).kind = some .field → exec (.taskEnd i failed) s = .next (s.fieldEnd e).finish) ∧
      (kindResource (s.slot i).kind = some .radio → exec (.taskEnd i failed) s = .next (s.radEnd e).finish) ∧
      ((s.slot i).kind = Kind.LINE_CYCLE → exec (.taskEnd i failed) s = .next (s.lineIdle.taskEnds i e).finish) ∧
      ((s.slot i).kind = Kind.LINE_TRAIN → exec (.taskEnd i failed) s = .next (s.lineIdle.trainOver.taskEnds i e).finish) ∧
      (kindResource (s.slot i).kind = some .decoder → exec (.taskEnd i failed) s = .next (s.taskEnds i e).finish))) ∧
  (∀ (i : Fin 64) (s : State), s.up = true → (s.slot i).st ≠ .running ∨ (s.slot i).kind ≠ Kind.USER →
    exec (.userTaskTimeout i) s = .next s.finish) ∧
  -- SLOT_READY of a start that has arrived already, of a slot that the calendar starts, and of one that is not due
  (∀ (i : Fin 64) (s : State), s.up = true →
    ((s.slot i).st ≠ .waiting → exec (.slotReady i) s = .next s.finish) ∧
    ((s.slot i).st = .waiting →
      (∀ e, (s.slot i).estart = some e → 2 ^ 31 ≤ (e + 2 ^ 32 - s.schTime) % 2 ^ 32 →
        exec (.slotReady i) s = .next s.readyDue.finish) ∧
      ((s.slot i).estart = none → s.slotDue i = true → exec (.slotReady i) s = .next s.readyDue.finish) ∧
      ((s.slot i).estart = none → s.slotDue i = false → exec (.slotReady i) s = .next s.finish))) ∧
  -- SLOT_ARM of a slot that a trigger starts or the calendar does
  (∀ (i : Fin 64) (s : State), s.nativeHost = true →
    let u := s.accessed
    let t : Slot := { Slot.empty with st := .waiting, words := (List.range 7).map fun k => u.rd (Adr.SCH_WIN k) }
    u.legacyHolds i = false →
    ((u.slot i).st = .free ∨ (u.slot i).st = .done ∨ (u.slot i).st = .missed ∨ (u.slot i).st = .aborted) →
    descriptorFault t = none →
    (t.trigen = true → exec (.slotArm i) s = .next (u.setSlot i t).lateOver.finish) ∧
    (t.trigen = false → t.tbase = true →
      exec (.slotArm i) s = .next (u.setSlot i { t with skipDay := decide (t.start ≤ u.timeOfDay) }).lateOver.finish)) ∧
  -- every refusal of R218 raises SCH_SLOT_ERR, and the first one is recorded with its cause (R217, R227)
  (∀ (i : Fin 64) (s : State), s.nativeHost = true →
    let u := s.accessed
    let refused (c : Nat) : State :=
      let t := u.raise Ev.SCH_SLOT_ERR
      if t.bit .SCH_ERRINFO_VALID then t
      else ((t.put .SCH_ERRINFO_VALID 1).put .SCH_ERRINFO_SLOT i).put .SCH_ERRINFO_CAUSE c
    let ended := (u.slot i).st = .free ∨ (u.slot i).st = .done ∨ (u.slot i).st = .missed ∨ (u.slot i).st = .aborted
    (u.legacyHolds i = true → ∀ c, c ∈ [Instr.slotArm i, .slotFree i, .slotAbort i] →
      exec c s = .next (refused 5).lateOver.finish) ∧
    (u.legacyHolds i = false →
      (¬ ended → exec (.slotArm i) s = .next (refused 1).lateOver.finish) ∧
      (∀ c, ended → descriptorFault { Slot.empty with st := .waiting, words := (List.range 7).map fun k => u.rd (Adr.SCH_WIN k) } = some c →
        exec (.slotArm i) s = .next (refused c).lateOver.finish) ∧
      ((u.slot i).st = .running → exec (.slotFree i) s = .next (refused 1).lateOver.finish) ∧
      (ended → exec (.slotAbort i) s = .next (refused 1).lateOver.finish)) ∧
    ((u.slot i).st ≠ .running ∨ (u.slot i).kind ≠ Kind.USER → exec (.slotEnd i) s = .next (refused 6).lateOver.finish) ∧
    (∀ op : Fin 3, exec (.slotCmdReserved i op) s = .next (refused 8).lateOver.finish))

/-- The commands of the oscillators and clock islands, each with the state it leaves. -/
def Obligations.ClockCommands : Prop :=
  -- XO_START, XO_STOP
  (∀ s : State, s.up = true → s.enabled 3 = true → s.safe 3 = false →
    exec .xoStart s =
      .next (({ s with latches := s.latches.filter (· != 10) } : State).put .CLK_XO_CTRL_KEEP 1).syncXo.finish ∧
    exec .xoStop s =
      .next (({ s with latches := s.latches.filter (· != 11) } : State).put .CLK_XO_CTRL_KEEP 0).syncXo.finish) ∧
  -- XO_WINDOW_END: counted; good, failed, or neither
  (∀ (n : Nat) (s : State), s.up = true → s.get .CLK_STAT_XO ≠ 0 →
    let t := s.countWindow n
    let f := t.xoFail.moment 3
    (t.xoGood = true → t.clk.xoBad < 2 → exec (.xoWindowEnd n) s = .next (t.moment 3).finish) ∧
    (t.xoGood = true → 2 ≤ t.clk.xoBad → f.failResets = false → exec (.xoWindowEnd n) s = .next f.finish) ∧
    (t.xoGood = true → 2 ≤ t.clk.xoBad → f.failResets = true →
      exec (.xoWindowEnd n) s = .next (f.resetPart Rst.XO_FAIL).finish) ∧
    (t.xoGood = false → t.xoJudgedGood = true → exec (.xoWindowEnd n) s = .next (t.xoOk.moment 3).finish) ∧
    (t.xoGood = false → t.xoJudgedGood = false → exec (.xoWindowEnd n) s = .next (t.moment 3).finish)) ∧
  -- XO_START_TIMEOUT
  (∀ s : State, s.up = true → s.get .CLK_STAT_XO = 1 → s.xoFail.failResets = false →
    exec .xoStartTimeout s = .next s.xoFail.finish) ∧
  -- WIRE_FALLBACK, WIRE_RESTORE
  (∀ s : State, s.nativeHost = true → s.accessed.hub = false → s.accessed.get .CLK_STAT_WSRC < 2 →
    let t := s.accessed
    let req := if t.wireSrc = t.wireFallbackSrc then none else some t.wireFallbackSrc
    exec (.wireFallback false) s = .next ({ t with clk := { t.clk with wireReq := req } } : State).lateOver.finish) ∧
  (∀ s : State, s.up = true → s.hub = false → s.enabled 3 = true → s.safe 3 = false → s.get .CLK_STAT_WSRC < 2 →
    let t : State := { s with latches := s.latches.filter (· != 13) }
    let req := if t.wireSrc = t.wireFallbackSrc then none else some t.wireFallbackSrc
    exec (.wireFallback true) s = .next ({ t with clk := { t.clk with wireReq := req } } : State).finish) ∧
  (∀ s : State, s.nativeHost = true → s.accessed.hub = false → s.accessed.bit .CLK_STAT_CDR = true →
    s.accessed.get .CLK_STAT_WSRC ≠ 1 →
    let t := s.accessed
    exec (.wireRestore false) s =
      .next ({ t with clk := { t.clk with wireReq := if t.wireSrc = 1 then none else some 1 } } : State).lateOver.finish) ∧
  -- WIRE_FALLBACK and WIRE_RESTORE that name the source in use are ignored, a waiting switch included (R241)
  (∀ s : State, s.nativeHost = true → s.accessed.hub = false →
    (2 ≤ s.accessed.get .CLK_STAT_WSRC → exec (.wireFallback false) s = .next s.accessed.lateOver.finish) ∧
    (s.accessed.get .CLK_STAT_WSRC = 1 → exec (.wireRestore false) s = .next s.accessed.lateOver.finish)) ∧
  (∀ s : State, s.up = true → s.hub = false → s.enabled 3 = true → s.safe 3 = false → s.bit .CLK_STAT_CDR = true →
    s.get .CLK_STAT_WSRC ≠ 1 →
    let t : State := { s with latches := s.latches.filter (· != 14) }
    exec (.wireRestore true) s =
      .next ({ t with clk := { t.clk with wireReq := if t.wireSrc = 1 then none else some 1 } } : State).finish) ∧
  -- WIRE_RESTORE_HOLD_EXPIRY, WIRE_SWITCH_POINT, WIRE_SWITCH_RESTART, VOID_SYMBOL_SLOT_END
  (∀ s : State, s.up = true → s.clk.holdRun = true → s.hub = false → s.bit .CLK_STAT_CDR = true → s.get .CLK_STAT_WSRC ≠ 1 →
    exec .wireRestoreHoldExpiry s =
      .next ({ s with clk := { s.clk with
        holdRun := false, wireReq := if s.wireSrc = 1 then none else some 1 } } : State).finish) ∧
  (∀ (src : Nat) (s : State), s.up = true → s.clk.wireReq = some src → s.clk.wireStop = false →
    (s.legacySending = false →
      exec .wireSwitchPoint s =
        .next ({ s with clk := { s.clk with
          wireReq := none, wireStop := true, wireTo := src, voidSlot := s.get .WIR_STAT_WIN == 3 } } : State).finish) ∧
    (s.legacySending = true → exec .wireSwitchPoint s = .next s.finish)) ∧
  (∀ s : State, s.up = true → s.clk.wireStop = true →
    let src := if s.clk.wireTo = 2 ∧ s.xoGood = false then 3 else s.clk.wireTo
    let t : State := { s.put .CLK_STAT_WSRC src with clk := { s.clk with wireStop := false } }
    (2 ≤ src →
      exec .wireSwitchRestart s = .next ((t.sat .CLK_FAILCNT_WIRE).raise Ev.CLK_WIRE_FALLBACK).syncXo.finish) ∧
    (src = 1 → exec .wireSwitchRestart s = .next (t.raise Ev.CLK_WIRE_RESTORE).syncXo.finish) ∧
    (src = 0 → exec .wireSwitchRestart s = .next t.syncXo.finish)) ∧
  (∀ s : State, s.up = true → s.clk.voidSlot = true → s.clk.wireStop = false →
    exec .voidSymbolSlotEnd s = .next ({ s with clk := { s.clk with voidSlot := false } } : State).lineNext.finish) ∧
  -- what finds nothing to act on: a window with the XO off, a start that is not under way, a hold that does not run, no switch
  -- that waits, no stopped island, no void slot
  (∀ (n : Nat) (s : State), s.up = true →
    (s.get .CLK_STAT_XO = 0 → exec (.xoWindowEnd n) s = .next s.finish) ∧
    (s.get .CLK_STAT_XO ≠ 1 → exec .xoStartTimeout s = .next s.finish) ∧
    (s.clk.holdRun = false → exec .wireRestoreHoldExpiry s = .next s.finish) ∧
    (s.clk.wireReq = none ∨ s.clk.wireStop = true → exec .wireSwitchPoint s = .next s.finish) ∧
    (s.clk.wireStop = false → exec .wireSwitchRestart s = .next s.finish) ∧
    (s.clk.voidSlot = false ∨ s.clk.wireStop = true → exec .voidSymbolSlotEnd s = .next s.finish)) ∧
  -- XO_START_TIMEOUT whose failure policy resets the part (R238)
  (∀ s : State, s.up = true → s.get .CLK_STAT_XO = 1 → s.xoFail.failResets = true →
    exec .xoStartTimeout s = .next (s.xoFail.resetPart Rst.XO_FAIL).finish) ∧
  -- WIRE_RESTORE_HOLD_EXPIRY in hub role, without lock, or on the recovered clock already: the hold ends, nothing is requested
  (∀ s : State, s.up = true → s.clk.holdRun = true → s.hub = true ∨ s.bit .CLK_STAT_CDR = false ∨ s.get .CLK_STAT_WSRC = 1 →
    exec .wireRestoreHoldExpiry s = .next ({ s with clk := { s.clk with holdRun := false } } : State).finish) ∧
  -- WIRE_FALLBACK and WIRE_RESTORE in hub role, WIRE_RESTORE without lock, and both as router tasks that name the source in use
  (∀ s : State, s.nativeHost = true →
    (s.accessed.hub = true → exec (.wireFallback false) s = .next s.accessed.lateOver.finish) ∧
    (s.accessed.hub = true ∨ s.accessed.bit .CLK_STAT_CDR = false →
      exec (.wireRestore false) s = .next s.accessed.lateOver.finish)) ∧
  (∀ s : State, s.up = true → s.hub = false → s.enabled 3 = true → s.safe 3 = false →
    (2 ≤ s.get .CLK_STAT_WSRC →
      exec (.wireFallback true) s = .next ({ s with latches := s.latches.filter (· != 13) } : State).finish) ∧
    (s.bit .CLK_STAT_CDR = false ∨ s.get .CLK_STAT_WSRC = 1 →
      exec (.wireRestore true) s = .next ({ s with latches := s.latches.filter (· != 14) } : State).finish))

/-- The commands of the FEC divider, the HFRC, the LFRC and the LXO, each with the state it leaves. -/
def Obligations.OscillatorCommands : Prop :=
  -- FEC_RAMP_STEP: one step towards /1, or towards /16 where decoder and encoder were idle for the whole step
  (∀ s : State, s.up = true → s.bit .PWR_MODE_DAMPER = false → s.get (.gate Island.FEC) = Gate.RUN →
    let d := s.get .CLK_FEC_DIV_DIV
    let idle := !s.fecWork && (s.fec.idleStep || d == 0)
    let t : State := { s with fec := { s.fec with idleStep := s.fec.work.isNone } }
    (idle = false → d = 0 → exec .fecRampStep s = .next (t.put .CLK_FEC_DIV_RAMP 0).finish) ∧
    (idle = false → d = 1 →
      exec .fecRampStep s = .next (((t.put .CLK_FEC_DIV_DIV 0).put .CLK_FEC_DIV_RAMP 0).raise Ev.CLK_RAMP_DONE).finish) ∧
    (idle = false → 2 ≤ d →
      exec .fecRampStep s = .next ((t.put .CLK_FEC_DIV_DIV (d - 1)).put .CLK_FEC_DIV_RAMP 1).finish) ∧
    (idle = true → d ≠ 3 → d ≠ 4 →
      exec .fecRampStep s = .next ((t.put .CLK_FEC_DIV_DIV (d + 1)).put .CLK_FEC_DIV_RAMP 1).finish) ∧
    (idle = true → d = 3 →
      exec .fecRampStep s = .next (((t.put .CLK_FEC_DIV_DIV 4).put .CLK_FEC_DIV_RAMP 0).raise Ev.CLK_RAMP_DONE).finish) ∧
    (idle = true → d = 4 →
      exec .fecRampStep s = .next ((t.put (.gate Island.FEC) Gate.GATED).put .CLK_FEC_DIV_RAMP 0).finish)) ∧
  -- HFRC_DISCIPLINE, HFRC_TRIM, HFRC_TRIM_DONE: the code that a trim reaches is a free value
  (∀ s : State, s.up = true → s.get .CLK_HFRC_CFG_DISC ≠ 0 → s.hfrcRef ≠ 0 →
    exec .hfrcDiscipline s = .next ((s.freshBelow 4096).2.put .CLK_HFRC_STAT_TRIM (s.freshBelow 4096).1).finish) ∧
  (∀ s : State, s.nativeHost = true →
    exec (.hfrcTrim false) s = .next ({ s.accessed with clk := { s.accessed.clk with hfrcTrim := true } } : State).lateOver.finish) ∧
  (∀ s : State, s.up = true → s.enabled 3 = true → s.safe 3 = false →
    let t : State := { s with latches := s.latches.filter (· != 15) }
    exec (.hfrcTrim true) s = .next ({ t with clk := { t.clk with hfrcTrim := true } } : State).finish) ∧
  (∀ s : State, s.up = true → s.clk.hfrcTrim = true →
    let t := s.trimHfrc.raise Ev.CLK_HFRC_TRIM
    exec .hfrcTrimDone s = .next ({ t with clk := { t.clk with hfrcTrim := false } } : State).syncXo.finish) ∧
  -- LXO_CAL, LFRC_CAL_DONE
  (∀ s : State, s.nativeHost = true → s.accessed.get .CLK_XO_CFG_MODE ≠ 2 →
    exec (.lxoCal false) s = .next ({ s.accessed with clk := { s.accessed.clk with lfrcCal := some 1 } } : State).syncXo.lateOver.finish) ∧
  (∀ s : State, s.up = true → s.enabled 3 = true → s.safe 3 = false → s.get .CLK_XO_CFG_MODE ≠ 2 →
    let t : State := { s with latches := s.latches.filter (· != 12) }
    exec (.lxoCal true) s = .next ({ t with clk := { t.clk with lfrcCal := some 1 } } : State).syncXo.finish) ∧
  (∀ s : State, s.up = true → s.clk.lfrcCal = some 1 →
    let t : State := { s with clk := { s.clk with lfrcCal := none } }
    (s.xoGood = true →
      exec .lfrcCalDone s =
        .next (((t.freshBelow 1024).2.put .CLK_LFRC_CAL_TRIM (t.freshBelow 1024).1).put .CLK_LFRC_CAL_DONE 1).syncXo.finish) ∧
    (s.xoGood = false → exec .lfrcCalDone s = .next (t.put .CLK_LFRC_CAL_NOREF 1).syncXo.finish)) ∧
  -- LXO_WINDOW_END, LXO_EDGE_TIMEOUT, LXO_RESTORE_EDGE
  (∀ (n el : Nat) (s : State), s.up = true → s.get .CLK_STAT_LXO ≠ 0 → s.get .CLK_STAT_LXO ≠ 2 → 236 ≤ n → n ≤ 276 →
    7 ≤ s.clk.lxoRun →
    exec (.lxoWindowEnd n el) s =
      .next (({ s.put .CLK_STAT_LXO 2 with clk := { s.clk with lxoRun := s.clk.lxoRun + 1, lxoBad := 0, lxoBack := true } }
        : State).raise Ev.CLK_LXO_OK).finish) ∧
  (∀ (el : Nat) (s : State), s.up = true → s.get .CLK_STAT_LXO = 1 ∨ s.get .CLK_STAT_LXO = 2 →
    exec (.lxoEdgeTimeout el) s = .next (s.lxoFail el).finish) ∧
  (∀ s : State, s.up = true → s.clk.lxoBack = true → s.bit .CLK_LXO_CFG_AUTORESTORE = true →
    s.bit .CLK_LXO_CFG_PRESENT = true →
    exec .lxoRestoreEdge s =
      .next ({ s.put .CLK_STAT_CALSRC 0 with clk := { s.clk with lxoBack := false } } : State).finish) ∧
  -- the LXO's judgement goes on in reset (R11, R249), where no event is raised and the page's counters stand
  (∀ (n el : Nat) (s : State), s.up = false →
    exec (.lxoWindowEnd n el) s = .next (s.emberOnly (s.lxoWindow n el)).finish ∧
    exec (.lxoEdgeTimeout el) s = .next (s.emberOnly (s.lxoTimeout el)).finish ∧
    exec .lxoRestoreEdge s = .next (s.emberOnly s.lxoRestore).finish) ∧
  (∀ s t : State,
    (s.emberOnly t).pwr = s.pwr ∧ (s.emberOnly t).raised = s.raised ∧ (s.emberOnly t).cal = t.cal ∧
      (RegFile.wf t.regs = true → (s.emberOnly t).rd Fld.CLK_FAILCNT_XO.addr = s.rd Fld.CLK_FAILCNT_XO.addr)) ∧
  -- what finds nothing to act on: a ramp under the Damper or of a gated island, a discipline that is off or without a reference,
  -- a trim or a calibration that nobody asked for
  (∀ s : State, s.up = true →
    (s.bit .PWR_MODE_DAMPER = true ∨ s.get (.gate Island.FEC) ≠ Gate.RUN → exec .fecRampStep s = .next s.finish) ∧
    (s.get .CLK_HFRC_CFG_DISC = 0 ∨ s.hfrcRef = 0 → exec .hfrcDiscipline s = .next s.finish) ∧
    (s.clk.hfrcTrim = false → exec .hfrcTrimDone s = .next s.finish) ∧
    (s.clk.lfrcCal = none → exec .lfrcCalDone s = .next s.finish)) ∧
  -- LXO_CAL with the XO ABSENT: the recovered line clock of a locked node is the reference, or there is none (R248)
  (∀ s : State, s.nativeHost = true → s.accessed.get .CLK_XO_CFG_MODE = 2 →
    let ref := if s.accessed.hub = false ∧ s.accessed.bit .CLK_STAT_CDR = true then 2 else 0
    exec (.lxoCal false) s = .next ({ s.accessed with clk := { s.accessed.clk with lfrcCal := some ref } } : State).syncXo.lateOver.finish) ∧
  (∀ s : State, s.up = true → s.enabled 3 = true → s.safe 3 = false → s.get .CLK_XO_CFG_MODE = 2 →
    let t : State := { s with latches := s.latches.filter (· != 12) }
    let ref := if s.hub = false ∧ s.bit .CLK_STAT_CDR = true then 2 else 0
    exec (.lxoCal true) s = .next ({ t with clk := { t.clk with lfrcCal := some ref } } : State).syncXo.finish) ∧
  (∀ s : State, s.up = true →
    let t : State := { s with clk := { s.clk with lfrcCal := none } }
    (s.clk.lfrcCal = some 2 → s.bit .CLK_STAT_CDR = true →
      exec .lfrcCalDone s =
        .next (((t.freshBelow 1024).2.put .CLK_LFRC_CAL_TRIM (t.freshBelow 1024).1).put .CLK_LFRC_CAL_DONE 1).syncXo.finish) ∧
    (s.clk.lfrcCal = some 2 → s.bit .CLK_STAT_CDR = false →
      exec .lfrcCalDone s = .next (t.put .CLK_LFRC_CAL_NOREF 1).syncXo.finish) ∧
    (s.clk.lfrcCal = some 0 → exec .lfrcCalDone s = .next (t.put .CLK_LFRC_CAL_NOREF 1).syncXo.finish)) ∧
  -- LXO_WINDOW_END: absent; a good window that settles nothing; a bad one, and the second in a row (R249)
  (∀ (n el : Nat) (s : State), s.up = true →
    (s.get .CLK_STAT_LXO = 0 → exec (.lxoWindowEnd n el) s = .next s.finish) ∧
    (s.get .CLK_STAT_LXO ≠ 0 → 236 ≤ n → n ≤ 276 → s.get .CLK_STAT_LXO = 2 ∨ s.clk.lxoRun < 7 →
      exec (.lxoWindowEnd n el) s =
        .next ({ s with clk := { s.clk with lxoRun := s.clk.lxoRun + 1, lxoBad := 0 } } : State).finish) ∧
    (s.get .CLK_STAT_LXO ≠ 0 → n < 236 ∨ 276 < n →
      let t : State := { s with clk := { s.clk with lxoRun := 0, lxoBad := s.clk.lxoBad + 1 } }
      (s.get .CLK_STAT_LXO ≠ 3 → 1 ≤ s.clk.lxoBad → exec (.lxoWindowEnd n el) s = .next (t.lxoFail el).finish) ∧
      (s.get .CLK_STAT_LXO = 3 ∨ s.clk.lxoBad = 0 → exec (.lxoWindowEnd n el) s = .next t.finish)) ∧
    (s.get .CLK_STAT_LXO = 0 ∨ s.get .CLK_STAT_LXO = 3 → exec (.lxoEdgeTimeout el) s = .next s.finish) ∧
    (s.clk.lxoBack = false ∨ s.bit .CLK_LXO_CFG_AUTORESTORE = false ∨ s.bit .CLK_LXO_CFG_PRESENT = false →
      exec .lxoRestoreEdge s = .next s.finish))

/-- The commands of the event router, each with the state it leaves. -/
def Obligations.RouterCommands : Prop :=
  -- ROUTER_OCCURRENCE: the occurrence that waits longest; channels ascending, then groups ascending
  (∀ (e : Nat) (r : List Nat) (s : State), s.up = true → s.occ = e :: r → s.routerOn = true →
    let t : State := { s with occ := r }
    exec .routerOccurrence s =
      .next ((t.forEach (t.matching e) State.fireChannel).forEach groups fun s g => s.groupOccurrence e g).finish) ∧
  -- GROUP_ENABLE_CMD, GROUP_DISABLE_CMD of one group
  (∀ (g : Fin 8) (s : State), s.nativeHost = true → s.accessed.locked 5 = false → s.accessed.bit (.EVR_GRP_LOCK g) = false →
    exec (.groupEnableCmd (BitVec.ofNat 8 (2 ^ g.val))) s = .next (s.accessed.groupAction g true).lateOver.finish ∧
    exec (.groupDisableCmd (BitVec.ofNat 8 (2 ^ g.val))) s = .next (s.accessed.groupAction g false).lateOver.finish) ∧
  -- CHANNEL_WRITE, GROUP_SOURCE_WRITE without a lock: the whole word, LOCK kept once set
  (∀ (n : Fin 32) (w : BitVec 32) (s : State), s.nativeHost = true → s.accessed.locked 5 = false →
    s.accessed.bit (.EVR_CH_LOCK n) = false →
    exec (.channelWrite n w) s =
      .next (s.accessed.wr (Adr.EVR_CH n) ((w &&& 0xC0FF7FFF) ||| (s.accessed.rd (Adr.EVR_CH n) &&& 0x80000000))).lateOver.finish) ∧
  (∀ (n : Fin 8) (w : BitVec 32) (s : State), s.nativeHost = true → s.accessed.locked 5 = false →
    s.accessed.bit (.EVR_GRP_LOCK n) = false →
    exec (.groupSourceWrite n w) s =
      .next (s.accessed.wr (Adr.EVR_GRP n) ((w &&& 0x8000FFFF) ||| (s.accessed.rd (Adr.EVR_GRP n) &&& 0x80000000))).lateOver.finish) ∧
  -- SOFTWARE_FIRE of one enabled channel
  (∀ (n : Fin 32) (s : State), s.nativeHost = true → s.accessed.routerOn = true → s.accessed.bit (.EVR_CH_EN n) = true →
    exec (.softwareFire (BitVec.ofNat 32 (2 ^ n.val))) s = .next ((s.accessed.fireChannel n).raise Ev.EVR_SW).lateOver.finish) ∧
  -- NOP, RAISE_IRQ_A, RAISE_IRQ_B
  (∀ s : State, s.up = true → exec .nop s = .next ({ s with latches := s.latches.filter (· != 0) } : State).finish) ∧
  (∀ s : State, s.up = true → s.enabled 6 = true → s.safe 6 = false →
    exec .raiseIrqA s = .next (({ s with latches := s.latches.filter (· != 1) } : State).put .IRQ_RTR_A 1).finish ∧
    exec .raiseIrqB s = .next (({ s with latches := s.latches.filter (· != 2) } : State).put .IRQ_RTR_B 1).finish) ∧
  -- every router task: in the other role a NOP; refused and counted with its target off or held safe, without the running
  -- task that it acts in, and as a kind firing that no slot waits for (R266); its latch clears in each case
  (∀ (c : Instr) (n : Nat) (s : State), Safety.taskOf c = some n → s.up = true →
    let t : State := { s with latches := s.latches.filter (· != n) }
    let refused := ((t.sat .EVR_CNT_REF).put .EVR_STAT_REFTASK n).finish
    (taskRole n = some (!s.hub) → exec c s = .next t.finish) ∧
    (taskRole n ≠ some (!s.hub) →
      (∀ p, taskTarget n = some p → s.enabled p = false ∨ s.safe p = true → exec c s = .next refused) ∧
      (∀ r txin, taskHonour n = .running r txin → s.holds r txin = false → exec c s = .next refused) ∧
      (∀ k, taskHonour n = .kind k → s.kindWaiting k = false → exec c s = .next refused))) ∧
  -- GROUP_ENABLE_CMD, GROUP_DISABLE_CMD of any groups, a locked group refused; under the page lock all of them are (R263, R264)
  (∀ (w : BitVec 8) (s : State), s.nativeHost = true →
    let u := s.accessed
    (u.locked 5 = true →
      (w.toNat = 0 → exec (.groupEnableCmd w) s = .next u.lateOver.finish ∧ exec (.groupDisableCmd w) s = .next u.lateOver.finish) ∧
      (w.toNat ≠ 0 →
        exec (.groupEnableCmd w) s = .next (u.lockViol 5 Adr.EVR_GRPCMD).lateOver.finish ∧
        exec (.groupDisableCmd w) s = .next (u.lockViol 5 Adr.EVR_GRPCMD).lateOver.finish)) ∧
    (u.locked 5 = false →
      let all (on : Bool) : State := u.forEach groups fun s g =>
        if w.getLsbD g then (if s.bit (.EVR_GRP_LOCK g) then s.lockViol 5 Adr.EVR_GRPCMD else s.groupAction g on) else s
      exec (.groupEnableCmd w) s = .next (all true).lateOver.finish ∧
      exec (.groupDisableCmd w) s = .next (all false).lateOver.finish)) ∧
  -- CHANNEL_WRITE, GROUP_SOURCE_WRITE under the page's or the word's own lock: refused where a bit would change
  (∀ (n : Fin 32) (w : BitVec 32) (s : State), s.nativeHost = true →
    s.accessed.locked 5 = true ∨ s.accessed.bit (.EVR_CH_LOCK n) = true →
    let old := s.accessed.rd (Adr.EVR_CH n)
    let new := (w &&& 0xC0FF7FFF) ||| (old &&& 0x80000000)
    ((old ^^^ new) &&& 0xC0FF7FFF ≠ 0 → exec (.channelWrite n w) s = .next (s.accessed.lockViol 5 (Adr.EVR_CH n)).lateOver.finish) ∧
    ((old ^^^ new) &&& 0xC0FF7FFF = 0 → exec (.channelWrite n w) s = .next (s.accessed.wr (Adr.EVR_CH n) new).lateOver.finish)) ∧
  (∀ (n : Fin 8) (w : BitVec 32) (s : State), s.nativeHost = true →
    s.accessed.locked 5 = true ∨ s.accessed.bit (.EVR_GRP_LOCK n) = true →
    let old := s.accessed.rd (Adr.EVR_GRP n)
    let new := (w &&& 0x8000FFFF) ||| (old &&& 0x80000000)
    ((old ^^^ new) &&& 0x8000FFFF ≠ 0 → exec (.groupSourceWrite n w) s = .next (s.accessed.lockViol 5 (Adr.EVR_GRP n)).lateOver.finish) ∧
    ((old ^^^ new) &&& 0x8000FFFF = 0 → exec (.groupSourceWrite n w) s = .next (s.accessed.wr (Adr.EVR_GRP n) new).lateOver.finish)) ∧
  -- SOFTWARE_FIRE of any channels, ascending, those without EN passed over; with the router off EVR_SW alone; of none, nothing
  (∀ (w : BitVec 32) (s : State), s.nativeHost = true →
    let u := s.accessed
    (w.toNat = 0 → exec (.softwareFire w) s = .next u.lateOver.finish) ∧
    (w.toNat ≠ 0 → u.routerOn = false → exec (.softwareFire w) s = .next (u.raise Ev.EVR_SW).lateOver.finish) ∧
    (w.toNat ≠ 0 → u.routerOn = true →
      exec (.softwareFire w) s =
        .next ((u.forEach (channels.filter fun i => w.getLsbD i && u.bit (.EVR_CH_EN i)) State.fireChannel).raise
          Ev.EVR_SW).lateOver.finish)) ∧
  -- ROUTER_OCCURRENCE with none waiting, and with the router off, where it is lost
  (∀ s : State, s.up = true →
    (s.occ = [] → exec .routerOccurrence s = .next s.finish) ∧
    (∀ e r, s.occ = e :: r → s.routerOn = false → exec .routerOccurrence s = .next ({ s with occ := r } : State).finish))

/-- The commands of the calendar, each with the state it leaves. -/
def Obligations.CalendarCommands : Prop :=
  -- CAL_SECOND_BOUNDARY: the cycles up to the boundary pass; one where SUB stands at its last count
  (∀ s : State, s.up = true →
    let n := 32768 - s.cal.sub + 32768 * s.cal.stretch
    let t := s.calendarCycles 1
    ((s.cal.align = none ∨ n ≤ 2) → exec .calSecondBoundary s = .next (s.calendarCycles n).readyDue.finish) ∧
    (s.cal.align.isSome = true → 2 < n →
      exec .calSecondBoundary s =
        .next (t.calendarCycles (32768 - t.cal.sub + 32768 * t.cal.stretch)).readyDue.finish)) ∧
  (∀ s : State, s.up = true → s.cal.sub = 32767 → s.cal.stretch = 0 →
    exec .calSecondBoundary s = .next s.arrive.calendarCycle.readyDue.finish) ∧
  -- CAL_SECOND_BOUNDARY and CAL_FULL_ALIGN in reset, where the calendar goes on (R11, R276)
  (∀ s : State, s.up = false →
    exec .calSecondBoundary s = .next (s.emberOnly s.toBoundary.readyDue).finish ∧
    exec .calFullAlign s = .next (s.emberOnly s.fullAlign).finish) ∧
  -- HOUR_STEP_FORWARD, HOUR_STEP_BACK
  (∀ s : State, s.nativeHost = true → s.accessed.cal.step = none →
    exec .hourStepForward s =
      .next (({ s.accessed with cal := { s.accessed.cal with step := some true } } : State).put .CAL_STAT_ADJPEND 1).lateOver.finish ∧
    ((s.accessed.cal.nextSecond.firstDay && s.accessed.cal.nextSecond.hour == 0) = false →
      exec .hourStepBack s =
        .next (({ s.accessed with cal := { s.accessed.cal with step := some false } } : State).put .CAL_STAT_ADJPEND 1).lateOver.finish)) ∧
  -- CAL_TIME_READ, CAL_SNAPSHOT
  (∀ s : State, s.nativeHost = true →
    exec .calTimeRead s =
      .next ({ s.accessed.calSnapshot with hostOut := wordBytes s.accessed.cal.timeWord } : State).lateOver.finish) ∧
  (∀ s : State, s.up = true → s.enabled 7 = true → s.safe 7 = false →
    exec .calSnapshot s = .next ({ s with latches := s.latches.filter (· != 32) } : State).calSnapshot.finish) ∧
  -- CAL_SUBSEC_SYNC: the mark's offset within the second, or NOMARK
  (∀ s : State, s.up = true → s.enabled 7 = true → s.safe 7 = false →
    let t : State := { s with latches := s.latches.filter (· != 33) }
    let x := (s.cal.sub : Int) + s.getS .CAL_SYNCSTAT_OFS
    (s.hub = false → s.bit .CAL_SYNCSTAT_VALID = true → 0 ≤ x → x < 32768 →
      exec .calSubsecSync s =
        .next ({ t.put .CAL_SYNCSTAT_VALID 0 with cal := { t.cal with sub := x.toNat } } : State).finish) ∧
    -- a result below 0 makes the second longer, one from 32768 on passes its boundary at once (R290; log entry 52)
    (s.hub = false → s.bit .CAL_SYNCSTAT_VALID = true → x < 0 →
      exec .calSubsecSync s =
        .next ({ t.put .CAL_SYNCSTAT_VALID 0 with
          cal := { t.cal with sub := (x + 32768).toNat, stretch := t.cal.stretch + 1 } } : State).finish) ∧
    (s.hub = false → s.bit .CAL_SYNCSTAT_VALID = true → 32768 ≤ x → s.cal.stretch = 0 →
      exec .calSubsecSync s = .next ((t.put .CAL_SYNCSTAT_VALID 0).secondBoundary (x.toNat - 32768)).finish) ∧
    (s.hub = true → exec .calSubsecSync s = .next (t.put .CAL_SYNCSTAT_NOMARK 1).finish) ∧
    (s.bit .CAL_SYNCSTAT_VALID = false → exec .calSubsecSync s = .next (t.put .CAL_SYNCSTAT_NOMARK 1).finish)) ∧
  -- CAL_FULL_ALIGN
  (∀ (l : List Nat) (s : State), s.up = true → s.cal.align = some l → (s.cal.sub ≠ 32767 ∨ 0 < s.cal.stretch) →
    exec .calFullAlign s =
      .next ((((({ s with cal := { Calendar.ofList l with step := none, align := none } } : State).calSet true).newDate
        s.cal).put .CAL_SYNCSTAT_VALID 0).put .CAL_SYNCSTAT_STEPPED 1).finish) ∧
  -- an hour step beside one that waits, and one back across the calendar's first hour: refused with CAL_ERR, field 8 (R284)
  (∀ s : State, s.nativeHost = true →
    let t := (((s.accessed.put .CAL_ERRCODE_FIELD 8).put .CAL_ERRCODE_ALARM 0).put .CAL_ERRCODE_ALM 0).raise Ev.CAL_ERR
    (s.accessed.cal.step.isSome = true →
      exec .hourStepForward s = .next t.lateOver.finish ∧ exec .hourStepBack s = .next t.lateOver.finish) ∧
    (s.accessed.cal.nextSecond.firstDay = true → s.accessed.cal.nextSecond.hour = 0 →
      exec .hourStepBack s = .next t.lateOver.finish)) ∧
  -- CAL_SUBSEC_SYNC past the end of a second that lasts longer: one of its passes is over, no boundary (R290)
  (∀ s : State, s.up = true → s.enabled 7 = true → s.safe 7 = false →
    let t : State := { s with latches := s.latches.filter (· != 33) }
    let x := (s.cal.sub : Int) + s.getS .CAL_SYNCSTAT_OFS
    s.hub = false → s.bit .CAL_SYNCSTAT_VALID = true → 32768 ≤ x → 0 < s.cal.stretch →
    exec .calSubsecSync s =
      .next ({ t.put .CAL_SYNCSTAT_VALID 0 with
        cal := { t.cal with sub := x.toNat - 32768, stretch := t.cal.stretch - 1 } } : State).finish) ∧
  -- CAL_FULL_ALIGN with none due, and in the last cycle of a second, which is no safe point (R282, R291)
  (∀ s : State, s.up = true → s.cal.align = none ∨ (s.cal.sub = 32767 ∧ s.cal.stretch = 0) →
    exec .calFullAlign s = .next s.finish)

/-! ### Completion: crossings, link engines, FEC, security -/

/-- The commands of the crossings, the packet store and the stall monitor, each with the state it leaves. -/
def Obligations.FabricCommands : Prop :=
  -- ITEM_HANDOVER on each of the crossings and queues
  (∀ (acked : Bool) (ecc : List (Nat × Bool)) (soft : List Int) (s : State), s.up = true →
    -- the consumer acknowledges, or holds its acknowledgement back
    let t := fun (n : Nat) => (s.storeErrors ecc).putXing n { (s.storeErrors ecc).xing n with slow := !acked }
    let five := if acked then (t 5).ackReceive 5 else t 5
    exec (.itemHandover 0 acked ecc soft) s = .next ((t 0).handWaiting 0 acked).nfpNext.finish ∧
    exec (.itemHandover 1 acked ecc soft) s = .next (if acked then (t 1).ackHeld else t 1).finish ∧
    exec (.itemHandover 2 acked ecc soft) s = .next ((t 2).handWaiting 2 acked).lineNext.finish ∧
    exec (.itemHandover 3 acked ecc soft) s = .next (if acked then (t 3).ackReceive 3 else t 3).finish ∧
    exec (.itemHandover 4 acked ecc soft) s = .next ((t 4).handWaiting 4 acked).radNext.finish ∧
    exec (.itemHandover 5 acked ecc soft) s =
      .next (if soft.isEmpty then five else five.radioItems soft false acked).finish ∧
    exec (.itemHandover 6 acked ecc soft) s = .next ((t 6).handWord acked).finish ∧
    exec (.itemHandover 7 acked ecc soft) s = .next (if acked then State.routeDecoded (t 7).ackDecoded else t 7).finish ∧
    exec (.itemHandover 8 acked ecc soft) s = .next ((t 8).handEncoder acked).finish ∧
    exec (.itemHandover 9 acked ecc soft) s = .next (if acked then (t 9).ackEncoded else t 9).finish ∧
    exec (.itemHandover 10 acked ecc soft) s = .next ((t 10).handEntry 10 acked).finish ∧
    exec (.itemHandover 11 acked ecc soft) s = .next ((t 11).handEntry 11 acked).finish ∧
    exec (.itemHandover 12 acked ecc soft) s = .next (if acked then (t 12).closeShakes 12 else t 12).finish) ∧
  (∀ (n : Fin 8) (acked : Bool) (ecc : List (Nat × Bool)) (soft : List Int) (s : State), s.up = true →
    let t := fun (n : Nat) => (s.storeErrors ecc).putXing n { (s.storeErrors ecc).xing n with slow := !acked }
    let q := 17 + 2 * n.val
    let r := t q
    let u := if acked then r.closeShakes q else if (r.xing q).unacked.isEmpty then r else r.openShake (consumerPage q) q
    exec (.itemHandover ⟨16 + 2 * n.val, by omega⟩ acked ecc soft) s =
      .next ((t (16 + 2 * n.val)).pushHand n acked).finish ∧
    exec (.itemHandover ⟨17 + 2 * n.val, by omega⟩ acked ecc soft) s = .next (u.retryReport n).finish) ∧
  -- RESYNC_TOKEN_RECEIVED: side B of R49; then what the loss of a frame's items brings, and a staged INIT of the crossing
  (∀ (n : Fin 32) (far : Bool) (s : State), s.up = true →
    let t := s.seeToken n far
    let lost := ((s.xing n).unacked.filter fun i => !(t.xing n).unacked.any fun u => u.id == i.id).map (·.frame)
    (10 ≤ n.val → n.val < 16 → exec (.resyncTokenReceived n far) s = .next t.finish) ∧
    ((n.val < 10 ∨ 16 ≤ n.val) → n.val ≠ 1 → n.val ≠ 3 → n.val ≠ 5 →
      exec (.resyncTokenReceived n far) s = .next (t.applyInit n).finish) ∧
    (n.val = 1 → exec (.resyncTokenReceived n far) s = .next (t.heldLost.applyInit n).finish) ∧
    ((n.val = 3 ∨ n.val = 5) →
      exec (.resyncTokenReceived n far) s =
        .next ((t.forEach lost fun u id => (u.discardRx id).fecSettle u).applyInit n).finish)) ∧
  -- RESYNC_REPLY_RECEIVED: a producer has its whole count again, and the crossing opens (R49)
  (∀ (n : Fin 32) (far : Bool) (s : State), s.up = true →
    let x := s.xing n
    let x := if far == farConsumes n then x else { x with debt := 0 }
    (far = true → x.repR = true →
      let t := (s.setXing n { x with repR := false, waitR := false }).closeShakes n
      exec (.resyncReplyReceived n true) s = .next (if n.val = 8 then t.feedEncoder else t).finish) ∧
    (far = false → x.repL = true →
      let t := (s.setXing n { x with repL := false, waitL := false }).closeShakes n
      exec (.resyncReplyReceived n false) s = .next (if n.val = 8 then t.feedEncoder else t).finish)) ∧
  -- CREDIT_INIT_APPLY
  (∀ (n : Fin 32) (s : State), s.up = true → (n.val < 10 ∨ 16 ≤ n.val) → s.creditIdle n = true →
    s.bit (.PG_CFGSTAT_PENDING (initPage n)) = true → s.drainHold (initPage n) = false →
    s.getTwin (initFld n) ≠ s.get (initFld n) →
    exec (.creditInitApply n) s =
      .next ((s.put (initFld n) (s.getTwin (initFld n))).judgeCredit n (s.credit n)).finish) ∧
  -- STORE_WINDOW_WRITE, STORE_WINDOW_READ
  (∀ (a : BitVec 16) (w : BitVec 32) (s : State), s.nativeHost = true → a.toNat % 4 = 0 → 0x8000 ≤ a.toNat → a.toNat < 0xE000 →
    s.accessed.enabled 9 = false →
    exec (.storeWindowWrite a w) s = .next (s.accessed.putBytes a.toNat (wordBytes w)).lateOver.finish) ∧
  (∀ (a : BitVec 16) (s : State), s.nativeHost = true → a.toNat % 4 = 0 → 0x8000 ≤ a.toNat → a.toNat < 0xE000 →
    exec (.storeWindowRead a []) s =
      .next ({ s.accessed with hostOut := wordBytes (s.accessed.memWord a.toNat) } : State).lateOver.finish) ∧
  -- DROP_QUEUE_POP, QMX_FLUSH_DROPQ, QMX_SCRUB
  (∀ (ecc : List (Nat × Bool)) (s : State), s.nativeHost = true →
    let r := s.accessed.popWord 8 ecc
    (s.accessed.bit .HIF_CRC_EN_EN = true →
      exec (.dropQueuePop ecc) s = .next ({ r.2.2 with hostOut := wordBytes r.1 } : State).lateOver.finish) ∧
    (s.accessed.bit .HIF_CRC_EN_EN = false →
      exec (.dropQueuePop ecc) s =
        .next ({ r.2.2.releasePopped s.accessed with hostOut := wordBytes r.1 } : State).lateOver.finish)) ∧
  (∀ s : State, s.up = true → s.enabled 9 = true → s.safe 9 = false →
    let t : State := { s with latches := s.latches.filter (· != 34) }
    exec .qmxFlushDropq s =
      .next ((t.freeItems ((t.xing 15).waiting ++ (t.xing 15).unacked ++ (t.xing 15).owned)).setXing 15
        { t.xing 15 with waiting := [], unacked := [], owned := [] }).finish) ∧
  (∀ (ecc : List (Nat × Bool)) (s : State), s.up = true → s.enabled 9 = true → s.safe 9 = false →
    let t : State := { s with latches := s.latches.filter (· != 35) }
    exec (.qmxScrub ecc) s = .next (t.storeErrors (ecc.filter fun e => t.used.contains e.1)).finish) ∧
  -- The counters that QMX_CNT_CLR clears
  (∀ s : State, s.nativeHost = true →
    exec .cntClrMinfree s = .next (s.accessed.put .QMX_FREECELLS_MINFREE (384 - s.accessed.used.length)).lateOver.finish ∧
    exec .cntClrXstat s =
      .next ({ s.accessed with xings := s.accessed.xings.map fun x => { x with lost := 0 } } : State).lateOver.finish ∧
    exec .cntClrEcc s = .next ((s.accessed.put .QMX_ECCSTAT_UNCORR 0).put .QMX_ECCSTAT_FIXED 0).lateOver.finish ∧
    exec .cntClrStall s = .next (s.accessed.wr Adr.QMX_STALLINFO (resetWord Adr.QMX_STALLINFO)).lateOver.finish ∧
    exec .cntClrDrop s = .next (s.accessed.wr Adr.QMX_DROPCNT 0).lateOver.finish ∧
    exec .cntClrXlost s = .next (s.accessed.wr Adr.QMX_XLOST 0).lateOver.finish) ∧
  -- STALL_TIMEOUT, STALL_RESET, STALL_CHECK
  (∀ (page : Fin 64) (s : State), s.up = true → s.get .SYS_STALL_TO_TO ≠ 0 → s.pwr.phase ≠ .ember → s.stuck = [] →
    let t := ((s.put .QMX_STALLINFO_VALID 1).put .QMX_STALLINFO_PAGE page).put .QMX_STALLINFO_XING 0x3F
    exec (.stallTimeout page 0x3F) s =
      .next ({ t.raise Ev.SYS_STALL with stallReset := t.stallReset || t.bit .SYS_STALL_TO_RESET } : State).finish) ∧
  (∀ (page xing : Fin 64) (h : Nat × Nat × Nat) (s : State), s.up = true →
    (s.stuck.find? fun h => h.1 == page.val && h.2.1 == xing.val) = some h →
    exec (.stallTimeout page xing) s =
      .next ((s.advanceTo (h.2.2 + 1000 * s.get .SYS_STALL_TO_TO)).stall page xing).finish) ∧
  (∀ s : State, s.up = true → s.stallReset = true → exec .stallReset s = .next (s.resetPart Rst.STALL).finish) ∧
  (∀ s : State, s.up = true → s.enabled 0 = true → s.safe 0 = false →
    exec .stallCheck s = .next ({ s with latches := s.latches.filter (· != 3) } : State).stallCheck.finish) ∧
  -- RESYNC_REPLY_RECEIVED that nobody waits for; ITEM_HANDOVER where no crossing is
  (∀ (n : Fin 32) (far : Bool) (s : State), s.up = true →
    (if far then (s.xing n).repR else (s.xing n).repL) = false →
    exec (.resyncReplyReceived n far) s = .next (if n.val = 8 then s.feedEncoder else s).finish) ∧
  (∀ (n : Fin 32) (acked : Bool) (soft : List Int) (s : State), s.up = true → n.val = 13 ∨ n.val = 14 ∨ n.val = 15 →
    exec (.itemHandover n acked [] soft) s =
      .next ((s.storeErrors []).putXing n { (s.storeErrors []).xing n with slow := !acked }).finish) ∧
  -- CREDIT_INIT_APPLY of what has no staged INIT, of a crossing in use, and with nothing to apply
  (∀ (n : Fin 32) (s : State), s.up = true →
    (10 ≤ n.val ∧ n.val < 16) ∨ s.creditIdle n = false ∨ s.bit (.PG_CFGSTAT_PENDING (initPage n)) = false ∨
      s.drainHold (initPage n) = true ∨ s.getTwin (initFld n) = s.get (initFld n) →
    exec (.creditInitApply n) s = .next s.finish) ∧
  -- STORE_WINDOW_WRITE while QMX is enabled is refused (R37); any other address is a word like every other's (WordWrites)
  (∀ (a : BitVec 16) (w : BitVec 32) (s : State), s.nativeHost = true →
    (a.toNat % 4 = 0 → 0x8000 ≤ a.toNat → a.toNat < 0xE000 → s.accessed.enabled 9 = true →
      exec (.storeWindowWrite a w) s = .next (s.accessed.accErr a.toNat true 3).lateOver.finish) ∧
    exec (.storeWindowWrite a w) s = .next (s.accessed.regWrite a.toNat w).lateOver.finish) ∧
  -- STORE_WINDOW_READ of a cell that SECDED finds wrong: counted; two wrong bits give a free value (R588). Unaligned: refused
  (∀ (a : BitVec 16) (ecc : List (Nat × Bool)) (s : State), s.nativeHost = true →
    let l := ecc.filter fun e => e.1 == storeCell a.toNat
    let t := s.accessed.ecc l
    let f := t.fresh
    (a.toNat % 4 = 0 → 0x8000 ≤ a.toNat → a.toNat < 0xE000 → l.any (·.2) = false →
      exec (.storeWindowRead a ecc) s =
        .next ({ t with hostOut := wordBytes (s.accessed.memWord a.toNat) } : State).lateOver.finish) ∧
    (a.toNat % 4 = 0 → 0x8000 ≤ a.toNat → a.toNat < 0xE000 → l.any (·.2) = true →
      exec (.storeWindowRead a ecc) s =
        .next ({ f.2 with hostOut := wordBytes (BitVec.ofNat 32 f.1) } : State).lateOver.finish) ∧
    (a.toNat % 4 ≠ 0 →
      exec (.storeWindowRead a ecc) s =
        .next ({ s.accessed.accErr a.toNat false 0 with hostOut := wordBytes 0 } : State).lateOver.finish)) ∧
  -- STALL_TIMEOUT of a handshake that is not open; no stall without a limit, in Ember, or across an island that waits (R53)
  (∀ (page xing : Fin 64) (s : State), s.up = true →
    (s.stuck.find? fun h => h.1 == page.val && h.2.1 == xing.val) = none →
    (xing.val ≠ 0x3F → exec (.stallTimeout page xing) s = .next s.finish) ∧
    (xing.val = 0x3F → exec (.stallTimeout page xing) s = .next (s.stall page xing).finish)) ∧
  (∀ (page xing : Nat) (s : State),
    (s.get .SYS_STALL_TO_TO = 0 ∨ s.pwr.phase = .ember ∨ s.xingIslandWaits xing = true → s.stall page xing = s) ∧
    (s.get .SYS_STALL_TO_TO ≠ 0 → s.pwr.phase ≠ .ember → s.xingIslandWaits xing = false →
      let t := ((s.put .QMX_STALLINFO_VALID 1).put .QMX_STALLINFO_PAGE page).put .QMX_STALLINFO_XING xing
      s.stall page xing =
        { t.raise Ev.SYS_STALL with stallReset := t.stallReset || t.bit .SYS_STALL_TO_RESET })) ∧
  (∀ s : State, s.up = true → s.stallReset = false → exec .stallReset s = .next s.finish)

/-- The commands of the link engines, each with the state it leaves. -/
def Obligations.LinkCommands : Prop :=
  -- TRANSACTION_OPEN on LINE and RADIO, on NFC
  (∀ (n : Fin 8) (i : Nat) (t : Item) (s : State), s.up = true → s.takesWork (24 + n) = true → s.phyOf n ≠ Phy.NONE →
    (phyPages (s.phyOf n)).all s.enabled = true → s.bit (.LE_STAT_HELD n) = false → s.freePlace n = some i →
    s.eligible n = some t →
    (s.phyOf n ≠ Phy.NFC → s.openRefusal n t = none → exec (.transactionOpen n) s = .next (s.openPlace n i t).finish) ∧
    (s.phyOf n = Phy.NFC → nfcRefusal t = none → exec (.transactionOpen n) s = .next (s.openPlace n i t).finish)) ∧
  -- LINK_FRAME_TRANSMIT on each PHY, LINK_TX_COMPLETE
  (∀ (n : Fin 8) (s : State), s.up = true →
    (s.phyOf n = Phy.NFC → exec (.linkFrameTransmit n) s = .next (s.nfcTake n).nfpNext.finish) ∧
    (s.phyOf n = Phy.LINE → s.genOf n = s.get .WIR_STAT_WIN → s.mayTransmit n = true → s.hasFrame n = true →
      exec (.linkFrameTransmit n) s = .next (s.transmitOne n).lineNext.finish) ∧
    (s.phyOf n = Phy.LINE → (s.genOf n ≠ s.get .WIR_STAT_WIN ∨ s.mayTransmit n = false ∨ s.hasFrame n = false) →
      exec (.linkFrameTransmit n) s = .next s.lineNext.finish) ∧
    (s.phyOf n = Phy.RADIO → exec (.linkFrameTransmit n) s = .next (s.radTake n).finish)) ∧
  (∀ s : State, s.up = true →
    exec (.linkTxComplete false) s = .next s.lineSent.finish ∧ exec (.linkTxComplete true) s = .next s.radSent.finish) ∧
  -- ACK_TIMEOUT: failed after the last attempt, else a random delay (a free value)
  (∀ (n : Fin 8) (i : Fin 4) (s : State), s.up = true → (s.place n i).st = .waitAck → s.enabled (24 + n) = true →
    s.safe (24 + n) = false →
    let t := s.advanceTo (((s.place n i).due + 999) / 1000 * 1000)
    let f := t.freshBelow ((s.place n i).jitter + 1)
    ((s.place n i).most < (s.place n i).tries →
      exec (.ackTimeout n i) s = .next (t.endTransaction n i LeCause.RETRIES).finish) ∧
    ((s.place n i).tries ≤ (s.place n i).most →
      exec (.ackTimeout n i) s =
        .next (f.2.setPlace n i (if f.1 = 0 then { s.place n i with st := .due }
          else { s.place n i with st := .jitter, due := t.usec + f.1 * 1000 })).finish)) ∧
  -- JITTER_EXPIRY
  (∀ (n : Fin 8) (i : Fin 4) (s : State), s.up = true → (s.place n i).st = .jitter → s.enabled (24 + n) = true →
    s.safe (24 + n) = false →
    exec (.jitterExpiry n i) s =
      .next ((s.advanceTo (s.place n i).due).setPlace n i { s.place n i with st := .due }).finish) ∧
  -- ACK_RECEIVED, LINK_FRAME_RECEIVED: the bound engine judges the first frame that waits
  (∀ (f : RxFrame) (n : Nat) (s : State), s.up = true → s.linkFront true = some f →
    s.boundEngine (xingPhy f.xing) f.gen = some n →
    exec .ackReceived s = .next ((s.judgeAck n f).tellRadio s n f).finish) ∧
  (∀ (f : RxFrame) (n : Nat) (s : State), s.up = true → s.linkFront false = some f →
    s.boundEngine (xingPhy f.xing) f.gen = some n →
    exec (.linkFrameReceived []) s = .next ((s.judgeFrame n f).tellRadio s n f).finish) ∧
  -- REPORT_QUEUED: the first report that waits; where the queue does not take it, it stays in REPORT
  (∀ (n : Fin 8) (i : Nat) (s : State), s.up = true →
    ((List.range 4).find? fun i => (s.place n i).st == .report) = some i →
    let w := (s.place n i).report
    let r := s.queueRx n [w] []
    (r.1 = true → exec (.reportQueued n) s = .next (r.2.setPlace n i Place.free).finish) ∧
    (r.1 = false →
      exec (.reportQueued n) s = .next (r.2.setPlace n i { r.2.place n i with st := .report, report := w }).finish)) ∧
  -- PEER_ENTRY_WRITE
  (∀ (id : BitVec 8) (w : Fin 4) (v : BitVec 32) (s : State), s.nativeHost = true →
    exec (.peerEntryWrite id w v) s =
      .next (s.accessed.putBytes (peerAddr id.toNat w) (wordBytes (v &&& peerMask (peerAddr id.toNat w)))).lateOver.finish) ∧
  -- NFC_RESPONSE_QUEUED
  (∀ s : State, s.up = true → exec .nfcResponseQueued s = .next s.heldQueued.finish) ∧
  -- LE_KICK, LE_HOLD
  (∀ (n : Fin 8) (s : State), s.up = true → s.enabled (24 + n) = true → s.safe (24 + n) = false →
    let t : State := { s with latches := s.latches.filter (· != 80 + 2 * n.val) }
    exec (.leKick n) s =
      .next ((t.put (.LE_STAT_HELD n) 0).setEng n
        { t.eng n with places := (t.eng n).places.map fun p => if p.st = .jitter then { p with st := .due } else p }).finish) ∧
  (∀ (n : Fin 8) (s : State), s.up = true → s.enabled (24 + n) = true → s.safe (24 + n) = false →
    exec (.leHold n) s =
      .next (({ s with latches := s.latches.filter (· != 81 + 2 * n.val) } : State).put (.LE_STAT_HELD n) 1).finish) ∧
  -- TRANSACTION_OPEN of a push that its engine refuses (R306; an exhausted counter is SEC's error as well), and of an engine
  -- that opens none
  (∀ (n : Fin 8) (i : Nat) (t : Item) (c : Nat) (s : State), s.up = true → s.takesWork (24 + n) = true → s.phyOf n ≠ Phy.NONE →
    (phyPages (s.phyOf n)).all s.enabled = true → s.bit (.LE_STAT_HELD n) = false → s.freePlace n = some i →
    s.eligible n = some t →
    (s.phyOf n = Phy.NFC → nfcRefusal t = some c → exec (.transactionOpen n) s = .next (s.refuseItem n i t c).finish) ∧
    (s.phyOf n ≠ Phy.NFC → s.openRefusal n t = some (c, false) →
      exec (.transactionOpen n) s = .next (s.refuseItem n i t c).finish) ∧
    (s.phyOf n ≠ Phy.NFC → s.openRefusal n t = some (c, true) →
      exec (.transactionOpen n) s =
        .next ((s.secErr SecCause.EXHAUSTED (pushDst t.desc) (s.txKeySlot n (pushBcast t.desc) (pushDst t.desc))).refuseItem
          n i t c).finish)) ∧
  (∀ (n : Fin 8) (s : State), s.up = true →
    s.takesWork (24 + n) = false ∨ s.phyOf n = Phy.NONE ∨ (phyPages (s.phyOf n)).all s.enabled = false ∨
      s.bit (.LE_STAT_HELD n) = true ∨ s.freePlace n = none ∨ s.eligible n = none →
    exec (.transactionOpen n) s = .next s.finish) ∧
  -- LINK_FRAME_TRANSMIT of an unbound engine; a timeout, a delay or a report that is not due; an engine that stands still (R325)
  (∀ (n : Fin 8) (i : Fin 4) (s : State), s.up = true →
    (s.phyOf n = Phy.NONE → exec (.linkFrameTransmit n) s = .next s.finish) ∧
    ((s.place n i).st ≠ .waitAck ∨ s.enabled (24 + n) = false ∨ s.safe (24 + n) = true →
      exec (.ackTimeout n i) s = .next s.finish) ∧
    ((s.place n i).st ≠ .jitter ∨ s.enabled (24 + n) = false ∨ s.safe (24 + n) = true →
      exec (.jitterExpiry n i) s = .next s.finish) ∧
    (((List.range 4).find? fun i => (s.place n i).st == .report) = none → exec (.reportQueued n) s = .next s.finish)) ∧
  -- ACK_RECEIVED, LINK_FRAME_RECEIVED with no frame; of a generation that no engine is bound to: dropped, reason 2 (R46); a
  -- double-bit error in the frame's cells first (R588)
  (∀ s : State, s.up = true →
    (s.linkFront true = none → exec .ackReceived s = .next s.finish) ∧
    (∀ f, s.linkFront true = some f → s.boundEngine (xingPhy f.xing) f.gen = none →
      exec .ackReceived s = .next (s.dropRxFrame 2 f).finish)) ∧
  (∀ (ecc : List (Nat × Bool)) (s : State), s.up = true →
    let t := s.storeErrors ecc
    (t.linkFront false = none → exec (.linkFrameReceived ecc) s = .next t.finish) ∧
    (∀ f, t.linkFront false = some f → t.boundEngine (xingPhy f.xing) f.gen = none →
      exec (.linkFrameReceived ecc) s = .next (t.dropRxFrame 2 f).finish) ∧
    (∀ f n, t.linkFront false = some f → t.boundEngine (xingPhy f.xing) f.gen = some n →
      exec (.linkFrameReceived ecc) s = .next ((t.judgeFrame n f).tellRadio t n f).finish))

/-- The commands of forward error correction, each with the state it leaves. -/
def Obligations.FecCommands : Prop :=
  -- CODEWORD_ARRIVAL: the first whole codeword goes across crossing 6; a kind firing on FEC_BURST where none runs
  (∀ (f : RxFrame) (w : List Int) (s : State), s.up = true →
    (s.rx.findSome? fun f => if f.stage = .coming then f.nextWord.map fun w => (f, w) else none) = some (f, w) →
    (s.xing 6).unacked = [] →
    let i := (s.consumeItems f w.length).newId
    let c : Item := { id := i.1, cost := 1, cells := [], words := [], llrs := w, frame := f.id }
    let u := (i.2.handItem 6 c 0 true).2.setRx { f with offered := f.offered + 1 }
    (s.takesWork 11 = true → s.accepts 6 1 = true →
      ((u.xing 6).owned.any (fun t => t.id == c.id) = true → exec .codewordArrival s = .next u.fecArrival.finish) ∧
      ((u.xing 6).owned.any (fun t => t.id == c.id) = false → exec .codewordArrival s = .next u.finish)) ∧
    -- no room (R351 step 3): the frame is discarded; while the INIT changes in DRAIN the codeword waits (R51)
    (s.enabled 11 = true → s.stopped 6 = true → exec .codewordArrival s = .next s.finish) ∧
    (s.stopped 6 = false → s.accepts 6 1 = false → exec .codewordArrival s = .next (s.fecFull f).finish)) ∧
  (∀ s : State, s.up = true → (s.xing 6).unacked ≠ [] → exec .codewordArrival s = .next (s.ackItem 6).fecArrival.finish) ∧
  (∀ s : State,
    (s.runningKind Kind.FEC_BURST = none → s.fecArrival = (s.kindFiring Kind.FEC_BURST).fecWake.fecStart) ∧
    ((s.runningKind Kind.FEC_BURST).isSome = true → s.fecArrival = s.fecWake.fecStart)) ∧
  -- CODEWORD_DECODED: on to the frame's engine or page once the frame has passed every step
  (∀ s : State, s.up = true →
    exec .codewordDecoded s =
      .next (match s.decodeFirst.2 with
        | none => s.decodeFirst.1
        | some f => s.decodeFirst.1.routeFrame f).finish) ∧
  -- CODEWORD_ENCODED: the codeword goes back on crossing 9, FEC_ENC_DONE after a frame's last one; without credit the
  -- encoder waits
  (∀ (c : Item) (r : List Item) (f : TxFrame) (s : State), s.up = true →
    let t := s.fecStart
    t.fec.work = some true → (t.xing 8).owned = c :: r → t.txFrame c.frame = some f →
    let i := t.newId
    let bits := codewordSent f.code (whiten (bytesBits f.bytes)) (t.encoded f)
    let u : Item := { id := i.1, cost := 1, cells := [], words := [], llrs := bitLlrs bits, frame := f.id }
    let h := i.2.handItem 9 u 0 true
    (h.1 = false → exec .codewordEncoded s = .next h.2.finish) ∧
    (h.1 = true →
      let v := ((h.2.freeOwned 8 c.id).fecWorked true).raiseIf (f.ncw ≤ t.encoded f + 1) Ev.FEC_ENC_DONE
      exec .codewordEncoded s = .next (v.takeEncoded.feedEncoder.fecSettle s).finish)) ∧
  (∀ s : State, s.up = true → s.fecStart.fec.work ≠ some true → exec .codewordEncoded s = .next s.fecStart.finish) ∧
  -- FEC_ABORT
  (∀ s : State, s.up = true → s.enabled 11 = true → s.safe 11 = false →
    exec .fecAbort s = .next ({ s with latches := s.latches.filter (· != 38) } : State).fecAbort.finish) ∧
  -- CODEWORD_ARRIVAL with no whole codeword; while FEC takes no work, the frame is discarded (R349)
  (∀ s : State, s.up = true → (s.xing 6).unacked = [] →
    let front := s.rx.findSome? fun f => if f.stage = .coming then f.nextWord.map fun w => (f, w) else none
    (front = none → exec .codewordArrival s = .next s.finish) ∧
    (∀ f w, front = some (f, w) → s.stopped 6 = false → s.takesWork 11 = false →
      exec .codewordArrival s = .next (s.fecFull f).finish) ∧
    (∀ f w, front = some (f, w) → s.enabled 11 = false → exec .codewordArrival s = .next (s.fecFull f).finish)) ∧
  -- CODEWORD_ENCODED of a frame that is gone: its codeword is let go
  (∀ s : State, s.up = true →
    let t := s.fecStart
    ∀ c r, t.fec.work = some true → (t.xing 8).owned = c :: r → t.txFrame c.frame = none →
      exec .codewordEncoded s = .next (((t.freeOwned 8 c.id).fecWorked true).feedEncoder.fecSettle s).finish)

/-- The commands of security, each with the state it leaves. -/
def Obligations.SecurityCommands : Prop :=
  -- SEC_VERIFY_DONE: no key, no counter found, or a verified frame on its way to its engine, as received but for the
  -- decrypted payload beside it; the key is the one with which the verification began; then SEC begins with the next frame
  (∀ (f : RxFrame) (s : State), s.up = true →
    let t := s.secStart
    (t.rx.find? fun f => f.stage == .sec) = some f →
    let h := f.header
    let n := (t.boundEngine (xingPhy f.xing) f.gen).getD 0
    let slot := if h.bcast then t.get (.LE_CFG_BKEY n) else t.peer h.src Peer.KEY
    let record := t.ctrRec (rxCtrKey h)
    (f.key = some none →
      exec .secVerifyDone s = .next ((t.dropRx f.id).authFail SecCause.NOKEY h.src slot).secStart.finish) ∧
    (∀ key, f.key = some (some key) →
      exec .secVerifyDone s =
        .next ((match t.verifyFrame (h.nonceOf f.legacy) record key (h.aad f.legacy) f.body f.mic with
          | none => (t.dropRx f.id).authFail SecCause.AUTH h.src slot
          | some (c, high, p) =>
            let g : RxFrame := { f with ctr := some c, high := high, plain := some p }
            if h.ftype ≠ 1 then t.toEngine n g
            else if high then
              (t.setCtrRec (rxCtrKey h) { valid := true, epoch := h.epoch, ctr := c, warned := false }).toEngine n g
            else (t.dropRx f.id).replay h.src slot).secStart).finish)) ∧
  (∀ (f : RxFrame) (s : State), (s.rx.find? fun f => f.stage == .sec) = some f → f.key = none → s.drainHold 10 = false →
    s.secStart = s.setRx { f with key := some (s.keyOf (s.rxKeySlot f)) }) ∧
  -- The SEC_KEYCMD commands: BUSY, and the command in progress
  (∀ (slot : Fin 32) (s : State), s.nativeHost = true → s.accessed.sec.cmd = none →
    let t := s.accessed.latch 10 s.accessed.secQuiet
    let begun : Nat → Nat → State := fun op n => 
      { t.put .SEC_SINK_BUSY 1 with sec := { t.sec with cmd := some (op, n), cmdKey := t.keyOf n } }
    exec (.keyLoad slot) s = .next (begun 0 slot).lateOver.finish ∧
    exec (.keyZeroise slot) s = .next (begun 1 slot).lateOver.finish ∧
    exec (.keyLock slot true) s = .next (begun 2 slot).lateOver.finish ∧
    exec (.keyWrap slot) s = .next (begun 3 slot).lateOver.finish ∧
    exec (.keyUnwrap slot) s = .next (begun 4 slot).lateOver.finish ∧
    exec (.keyCheck slot) s = .next (begun 5 slot).lateOver.finish ∧
    exec .sinkDisarm s = .next (begun 6 0).lateOver.finish ∧
    exec (.secZeroiseUnlocked false) s = .next (begun 7 0).lateOver.finish) ∧
  -- A SEC_KEYCMD while one is in progress: refused with BUSY
  (∀ (slot : Fin 32) (s : State), s.nativeHost = true → s.accessed.sec.cmd.isSome = true →
    let t := fun (n : Nat) => s.accessed.secErr SecCause.BUSY 0 n
    exec (.keyLoad slot) s = .next (t slot).lateOver.finish ∧ exec (.keyZeroise slot) s = .next (t slot).lateOver.finish ∧
    exec (.keyLock slot true) s = .next (t slot).lateOver.finish ∧ exec (.keyWrap slot) s = .next (t slot).lateOver.finish ∧
    exec (.keyUnwrap slot) s = .next (t slot).lateOver.finish ∧ exec (.keyCheck slot) s = .next (t slot).lateOver.finish ∧
    exec .sinkDisarm s = .next (t 0).lateOver.finish ∧ exec (.secZeroiseUnlocked false) s = .next (t 0).lateOver.finish) ∧
  -- KEY_LOCK by SEC_KEYLOCK
  (∀ (slot : Fin 32) (s : State), s.nativeHost = true → s.accessed.keyLocked slot = false →
    exec (.keyLock slot false) s =
      .next ((s.accessed.setBitAt .SEC_KEYLOCK_LOCK slot true).raise Ev.SEC_KEY_LOCKED).lateOver.finish) ∧
  -- SEC_ZEROISE_UNLOCKED and SEC_KEYSINK_ARM by router task
  (∀ s : State, s.up = true → s.enabled 10 = true → s.safe 10 = false →
    let t : State := { s with latches := s.latches.filter (· != 36) }
    exec (.secZeroiseUnlocked true) s =
      .next (t.forEach (List.range 32) fun s n => if s.keyLocked n then s else s.setKey n none).disarmSink.finish) ∧
  (∀ s : State, s.up = true → s.enabled 10 = true → s.safe 10 = false →
    exec .secKeysinkArm s = .next ({ s with latches := s.latches.filter (· != 37) } : State).armSink.finish) ∧
  -- KEYCMD_COMPLETE; while the page holds at its safe point in a DRAIN issue the command waits
  (∀ s : State, s.up = true → s.pageHeld 10 = true → exec .keycmdComplete s = .next s.finish) ∧
  (∀ (op slot : Nat) (s : State), s.up = true → s.sec.cmd = some (op, slot) → s.pageHeld 10 = false →
    let t : State := { s.put .SEC_SINK_BUSY 0 with sec := { s.sec with cmd := none } }
    (∀ u, t.keyEffect op slot = .inl u → exec .keycmdComplete s = .next (u.raise Ev.SEC_DONE).finish) ∧
    (∀ c, t.keyEffect op slot = .inr c → exec .keycmdComplete s = .next (t.secErr c 0 slot).finish)) ∧
  -- KEY_SINK_TIMEOUT
  (∀ (e : Nat) (s : State), s.up = true → s.sec.sinkEnd = some e → s.bit .SEC_SINK_ARMED = true →
    exec .keySinkTimeout s = .next ((s.advanceTo e).disarmSink.put .SEC_SINK_RESULT 6).finish) ∧
  -- COUNTER_RECORD_WRITE
  (∀ (w : BitVec 32) (s : State), s.nativeHost = true →
    exec (.counterRecordWrite 0 w) s = .next (s.accessed.regWrite Adr.SEC_CTRSEL w).lateOver.finish ∧
    exec (.counterRecordWrite 1 w) s =
      .next (s.accessed.setCtrRec s.accessed.ctrSelected
        { s.accessed.ctrRec s.accessed.ctrSelected with ctr := w.toNat }).lateOver.finish ∧
    exec (.counterRecordWrite 2 w) s = .next (s.accessed.ctrepWrite w).lateOver.finish) ∧
  -- what finds nothing to act on: no frame before SEC or one whose verification a DRAIN issue holds back, a slot locked
  -- already, no command in progress, no armed sink
  (∀ s : State, s.up = true →
    (s.rx.all (fun f => f.stage != .sec) = true → exec .secVerifyDone s = .next s.finish) ∧
    (∀ f, (s.rx.find? fun f => f.stage == .sec) = some f → f.key = none → s.drainHold 10 = true →
      exec .secVerifyDone s = .next s.finish) ∧
    (s.sec.cmd = none → exec .keycmdComplete s = .next s.finish) ∧
    (s.sec.sinkEnd = none ∨ s.bit .SEC_SINK_ARMED = false → exec .keySinkTimeout s = .next s.finish)) ∧
  (∀ (slot : Fin 32) (s : State), s.nativeHost = true → s.accessed.keyLocked slot = true →
    exec (.keyLock slot false) s = .next s.accessed.lateOver.finish)

/-! ### Completion: the Morrun line -/

/-- The commands of line power and of the hub's cycle, each with the state it leaves. -/
def Obligations.LinePowerCommands : Prop :=
  -- LINE_POWER_ON by register and by router task
  (∀ s : State, s.nativeHost = true → s.accessed.hub = true → s.accessed.enabled 14 = true → s.accessed.linePwr = LinePwr.OFF →
    exec (.linePowerOn false) s =
      .next ((s.accessed.put .WIR_STAT_PWR LinePwr.INRUSH).setLine fun l =>
        { l with samples := [], above := 0, below := 0, excess := 0, twice := 0, softOff := false }).lateOver.finish) ∧
  (∀ s : State, s.up = true → s.hub = true → s.enabled 14 = true → s.safe 14 = false → s.linePwr = LinePwr.OFF →
    exec (.linePowerOn true) s =
      .next ((({ s with latches := s.latches.filter (· != 53) } : State).put .WIR_STAT_PWR LinePwr.INRUSH).setLine fun l =>
        { l with samples := [], above := 0, below := 0, excess := 0, twice := 0, softOff := false }).finish) ∧
  -- LINE_INRUSH_END, LINE_SETTLE_END
  (∀ (ma : Nat) (s : State), s.up = true → s.linePwr = LinePwr.INRUSH → (s.lineSample ma).linePwr = LinePwr.INRUSH →
    (min ma 1000 ≤ (s.lineSample ma).ilim →
      exec (.lineInrushEnd ma) s = .next ((s.lineSample ma).put .WIR_STAT_PWR LinePwr.SETTLE).finish) ∧
    ((s.lineSample ma).ilim < min ma 1000 → exec (.lineInrushEnd ma) s = .next (s.lineSample ma).lineOvercurrent.finish)) ∧
  (∀ s : State, s.up = true → s.linePwr = LinePwr.SETTLE →
    let u := s.moment 14
    let t := u.forEach (List.range 8) fun s i => s.put (.WIR_PRESENT_BITS i) 0
    u.linePwr = LinePwr.SETTLE →
    exec .lineSettleEnd s =
      .next (((t.put .WIR_STAT_PWR LinePwr.ON).put .WIR_STAT_CYCNO 0).raise Ev.WIR_POWER_ON).hubCycle.readyDue.finish) ∧
  -- LINE_CURRENT_SAMPLE: a short at once from 1000 mA
  (∀ (ma : Nat) (s : State), s.up = true → s.hub = true → s.linePwr ≠ LinePwr.OFF →
    (1000 ≤ ma → exec (.lineCurrentSample ma) s = .next (s.put .WIR_ISNS_I 1000).lineShort.finish) ∧
    (ma < 1000 → s.linePwr = LinePwr.INRUSH →
      exec (.lineCurrentSample ma) s = .next ((s.put .WIR_ISNS_I ma).lineBase ma).finish)) ∧
  -- LINE_POWER_OFF, LINE_POWER_OFF_SOFT
  (∀ s : State, s.nativeHost = true → s.accessed.hub = true →
    exec (.linePowerOff false) s = .next s.accessed.lineOpen.lateOver.finish ∧
    exec (.linePowerOffSoft false) s = .next (s.accessed.setLine fun l => { l with softOff := true }).lateOver.finish) ∧
  (∀ s : State, s.up = true → s.hub = true → s.enabled 14 = true → s.safe 14 = false →
    exec (.linePowerOff true) s = .next ({ s with latches := s.latches.filter (· != 7) } : State).lineOpen.finish ∧
    exec (.linePowerOffSoft true) s =
      .next (({ s with latches := s.latches.filter (· != 54) } : State).setLine fun l => { l with softOff := true }).finish) ∧
  -- LINE_CYCLE_BOUNDARY, LINE_CYCLE_LEAD
  (∀ s : State, s.up = true → s.hub = true → s.linePwr = LinePwr.ON → s.enabled 14 = true → s.islandWaits Island.WIRE = false →
    let u := s.moment 14
    (s.line.softOff = false → u.gridRuns = true → u.line.softOff = false →
      exec .lineCycleBoundary s = .next (u.wrap .WIR_STAT_CYCNO).hubCycle.finish) ∧
    (s.line.softOff = true → exec .lineCycleBoundary s = .next s.lineOpen.finish)) ∧
  (∀ s : State, s.up = true → s.enabled 14 = true → s.safe 14 = false →
    (if s.hub then s.linePwr == LinePwr.ON else s.bit .WIR_STAT_LAYOUT) = true →
    exec .lineCycleLead s = .next (s.kindFiring Kind.LINE_CYCLE).finish) ∧
  -- LINE_WINDOW_START within a LINE_CYCLE task, LINE_WINDOW_END
  (∀ (g : Fin 3) (s : State), s.up = true → s.enabled 14 = true → s.windowLen (g.val + 1) ≠ 0 →
    (if s.hub then s.linePwr == LinePwr.ON else s.bit .WIR_STAT_LAYOUT) = true → s.lineServing = true →
    let p := s.put .WIR_STAT_WIN (g.val + 1)
    let w := p.setLine fun l => { l with room := p.windowLen (g.val + 1) * windowXo }
    let t := w.raiseIf (w.bit .WIR_CFG_WINEVT) Ev.WIR_GEN_WIN
    let u := t.sendAnnounce (g.val + 1)
    t.lineTraining = false →
    (u.hub = false → exec (.lineWindowStart g) s = .next (u.lineContend (g.val + 1)).finish) ∧
    (u.hub = true → g.val = 2 → exec (.lineWindowStart g) s = .next u.hubNext.finish) ∧
    (u.hub = true → g.val < 2 → u.lineHeld = false →
      exec (.lineWindowStart g) s = .next (u.sendWindowBeacon (g.val + 1)).finish)) ∧
  (∀ (g : Fin 4) (i : Nat) (s : State), s.up = true → (g.val == s.lastWindow) = true →
    let t := (((if g.val = 3 then s.m3Ends else s).acksHeldOver g).put .WIR_STAT_WIN 4).setLine fun l =>
      { l with winHeard := false, room := 0, backoff := none }
    t.runningKind Kind.LINE_CYCLE = some i →
    (t.lineServing = true → exec (.lineWindowEnd g) s = .next (t.taskEnds i .done).finish) ∧
    (t.lineServing = false → exec (.lineWindowEnd g) s = .next t.finish)) ∧
  -- LINE_PROBE, LINE_HOLD
  (∀ s : State, s.nativeHost = true → s.accessed.hub = true →
    exec (.lineProbe false) s = .next (s.accessed.setLine fun l => { l with probe := true }).lateOver.finish) ∧
  (∀ s : State, s.up = true → s.hub = true → s.enabled 14 = true → s.safe 14 = false → s.holds .line false = true →
    exec (.lineProbe true) s =
      .next (({ s with latches := s.latches.filter (· != 55) } : State).setLine fun l => { l with probe := true }).finish) ∧
  (∀ s : State, s.nativeHost = true → exec (.lineHold false) s = .next (s.accessed.put .WIR_STAT_HELD 1).lineIdle.lateOver.finish) ∧
  (∀ s : State, s.up = true → s.enabled 14 = true → s.safe 14 = false →
    exec (.lineHold true) s =
      .next (({ s with latches := s.latches.filter (· != 57) } : State).put .WIR_STAT_HELD 1).lineIdle.finish) ∧
  -- LINE_CYCLE_START, EC_RETRAIN, LINE_TX_QUEUED
  (∀ s : State, s.up = true → s.hub = true → s.kindWaiting Kind.LINE_CYCLE = true →
    exec .lineCycleStart s =
      .next (({ s with latches := s.latches.filter (· != 50) } : State).kindFiring Kind.LINE_CYCLE).finish) ∧
  (∀ s : State, s.up = true → s.kindWaiting Kind.LINE_TRAIN = true →
    exec .ecRetrain s =
      .next (({ s with latches := s.latches.filter (· != 51) } : State).kindFiring Kind.LINE_TRAIN).finish) ∧
  (∀ s : State, s.up = true → s.enabled 14 = true → s.safe 14 = false → s.holds .line false = true →
    exec .lineTxQueued s =
      .next (({ s with latches := s.latches.filter (· != 52) } : State).forEach (List.range 8) State.lineTake).lineNext.finish) ∧
  -- LINE_POWER_ON elsewhere than at a hub's line that is OFF; LINE_POWER_OFF, LINE_POWER_OFF_SOFT and LINE_PROBE in node role
  (∀ s : State, s.nativeHost = true →
    (s.accessed.hub = false ∨ s.accessed.enabled 14 = false ∨ s.accessed.linePwr ≠ LinePwr.OFF →
      exec (.linePowerOn false) s = .next s.accessed.lateOver.finish) ∧
    (s.accessed.hub = false →
      exec (.linePowerOff false) s = .next s.accessed.lateOver.finish ∧
      exec (.linePowerOffSoft false) s = .next s.accessed.lateOver.finish ∧
      exec (.lineProbe false) s = .next s.accessed.lateOver.finish)) ∧
  (∀ s : State, s.up = true → s.hub = true → s.enabled 14 = true → s.safe 14 = false → s.linePwr ≠ LinePwr.OFF →
    exec (.linePowerOn true) s = .next ({ s with latches := s.latches.filter (· != 53) } : State).finish) ∧
  -- LINE_INRUSH_END, LINE_SETTLE_END out of their phase; a sample that ends the inrush itself (R359)
  (∀ (ma : Nat) (s : State), s.up = true →
    (s.linePwr ≠ LinePwr.INRUSH → exec (.lineInrushEnd ma) s = .next s.finish) ∧
    (s.linePwr = LinePwr.INRUSH → (s.lineSample ma).linePwr ≠ LinePwr.INRUSH →
      exec (.lineInrushEnd ma) s = .next (s.lineSample ma).finish) ∧
    (s.linePwr ≠ LinePwr.SETTLE → exec .lineSettleEnd s = .next s.finish)) ∧
  -- LINE_CURRENT_SAMPLE in SETTLE and ON (R359, R361): two samples at twice ILIM are a short, OCT above it an overcurrent
  (∀ (ma : Nat) (s : State), s.up = true →
    (s.hub = false ∨ s.linePwr = LinePwr.OFF → exec (.lineCurrentSample ma) s = .next s.finish) ∧
    (s.hub = true → s.linePwr = LinePwr.SETTLE ∨ s.linePwr = LinePwr.ON → ma < 1000 →
      let p := s.put .WIR_ISNS_I ma
      let two := if 2 * p.ilim ≤ ma then s.line.twice + 1 else 0
      let exc := if p.ilim < ma then s.line.excess + 1 else 0
      let t := p.setLine fun l => { l with twice := two, excess := exc }
      (2 ≤ two → exec (.lineCurrentSample ma) s = .next t.lineShort.finish) ∧
      (two < 2 → t.get .WIR_PWR_CFG_OCT ≤ exc → exec (.lineCurrentSample ma) s = .next t.lineOvercurrent.finish) ∧
      (two < 2 → exc < t.get .WIR_PWR_CFG_OCT →
        (s.linePwr = LinePwr.SETTLE → exec (.lineCurrentSample ma) s = .next (t.lineBase ma).finish) ∧
        (s.linePwr = LinePwr.ON → exec (.lineCurrentSample ma) s = .next (t.linePlug ma).finish)))) ∧
  -- LINE_CYCLE_BOUNDARY and LINE_CYCLE_LEAD without a grid
  (∀ s : State, s.up = true →
    (s.hub = false ∨ s.linePwr ≠ LinePwr.ON ∨ s.enabled 14 = false ∨ s.islandWaits Island.WIRE = true →
      exec .lineCycleBoundary s = .next s.finish) ∧
    (s.enabled 14 = false ∨ s.safe 14 = true ∨
        (if s.hub then s.linePwr == LinePwr.ON else s.bit .WIR_STAT_LAYOUT) = false →
      exec .lineCycleLead s = .next s.finish)) ∧
  -- LINE_WINDOW_START of a window that the layout leaves out or that no task serves; within a LINE_TRAIN task (R379); at a hub
  -- whose transmitter is held
  (∀ (g : Fin 3) (s : State), s.up = true →
    let on := s.enabled 14 && s.windowLen (g.val + 1) != 0 && (if s.hub then s.linePwr == LinePwr.ON else s.bit .WIR_STAT_LAYOUT)
    let w := (s.put .WIR_STAT_WIN (g.val + 1)).setLine fun l => { l with
      room := (s.put .WIR_STAT_WIN (g.val + 1)).windowLen (g.val + 1) * windowXo }
    let t := w.raiseIf (w.bit .WIR_CFG_WINEVT) Ev.WIR_GEN_WIN
    let v := t.setLine fun l => { l with trains := true }
    let u := t.sendAnnounce (g.val + 1)
    ((on && (s.lineServing || (s.lineTraining && g.val == 2))) = false → exec (.lineWindowStart g) s = .next s.finish) ∧
    ((on && (s.lineServing || (s.lineTraining && g.val == 2))) = true →
      (t.lineTraining = true →
        (v.hub = false → exec (.lineWindowStart g) s = .next (v.lineContend 3).finish) ∧
        (v.hub = true → v.lineHeld = false → unitsFit 3 trainingUnits (v.windowLen 3 * windowXo / unitXo 3) = true →
          exec (.lineWindowStart g) s = .next v.trainStart.finish) ∧
        (v.hub = true → v.lineHeld = true ∨ unitsFit 3 trainingUnits (v.windowLen 3 * windowXo / unitXo 3) = false →
          exec (.lineWindowStart g) s = .next v.finish)) ∧
      (t.lineTraining = false → u.hub = true → g.val < 2 → u.lineHeld = true →
        exec (.lineWindowStart g) s = .next u.finish))) ∧
  -- LINE_WINDOW_END of the last window without a LINE_CYCLE task, and of one before the last
  (∀ (g : Fin 4) (s : State), s.up = true →
    let t := (((if g.val = 3 then s.m3Ends else s).acksHeldOver g).put .WIR_STAT_WIN 4).setLine fun l =>
      { l with winHeard := false, room := 0, backoff := none }
    ((g.val == s.lastWindow) = true → t.runningKind Kind.LINE_CYCLE = none → exec (.lineWindowEnd g) s = .next t.finish) ∧
    ((g.val == s.lastWindow) = false → g.val = 0 → exec (.lineWindowEnd g) s = .next t.finish) ∧
    ((g.val == s.lastWindow) = false → g.val ≠ 0 → exec (.lineWindowEnd g) s = .next t.lineStop.finish))

/-- The commands of line reception, of contention, of echo cancelling and of announcing, each with the state it leaves. -/
def Obligations.LineReceiveCommands : Prop :=
  -- UPSTREAM_BURST_START: at a hub the burst's onset; in a node's LINE_TRAIN task its training burst
  (∀ (left : Nat) (s : State), s.up = true → s.get .WIR_STAT_WIN = 3 → s.enabled 14 = true →
    (s.hub = true →
      exec (.upstreamBurstStart left) s = .next (s.setLine fun l => { l with upBusy := true }).finish) ∧
    (s.hub = false → s.bit .WIR_STAT_LAYOUT = true → s.lineHeld = false → s.lineTraining = true → s.line.trains = true →
      s.bit .WIR_STAT_TRAINING = false → unitsFit 3 trainingUnits left = true →
      exec (.upstreamBurstStart left) s =
        .next ((s.put .WIR_STAT_TRAINING 1).setLine fun l => { l with
          backoff := none, begun := true, taps := if l.begun then l.taps else List.replicate 64 0 }).finish)) ∧
  -- UPSTREAM_BURST_START, LEGACY_LINE_FRAME_START: a frame that fits goes on the line
  (∀ (left : Nat) (f : TxFrame) (s : State), s.up = true → s.hub = false → s.get .WIR_STAT_WIN = 3 →
    s.bit .WIR_STAT_LAYOUT = true → s.lineHeld = false → s.enabled 14 = true → s.lineTraining = false →
    s.lineServing = true → s.bit .WIR_STAT_ECOK = true → s.line.sending = none → s.lineFront 3 = some f →
    unitsFit 3 f.lineUnits left = true →
    let t := s.setLine fun l => { l with
      sending := some f.id, backoff := none, again := none, room := (left - f.lineUnits) * unitXo f.gen }
    exec (.upstreamBurstStart left) s = .next (if s.line.again = some f.id then t else t.frameStarts f).finish) ∧
  (∀ (g : Fin 2) (left : Nat) (f : TxFrame) (s : State), s.up = true → s.get .WIR_STAT_WIN = g.val + 1 →
    s.line.winHeard = true → s.lineHeld = false → s.enabled 14 = true → s.lineServing = true → s.line.sending = none →
    s.lineFront (g.val + 1) = some f → unitsFit (g.val + 1) f.lineUnits left = true →
    let t := s.setLine fun l => { l with
      sending := some f.id, backoff := none, again := none, room := (left - f.lineUnits) * unitXo f.gen }
    exec (.legacyLineFrameStart g left) s = .next (if s.line.again = some f.id then t else t.frameStarts f).finish) ∧
  -- LINE_COLLISION, IDLE_C_RECEIVED
  (∀ s : State, s.up = true → s.hub = true → s.get .WIR_STAT_WIN = 3 →
    exec .lineCollision s =
      .next (((s.setLine fun l => { l with collided := true }).sat .WIR_CNT_COLL).raise Ev.WIR_COLLISION).finish) ∧
  (∀ (id : Nat) (s : State), s.up = true → s.hub = false → s.get .WIR_STAT_WIN = 3 → s.clk.wireStop = false →
    s.line.sending = some id →
    let t := s.adaptPart (match s.txFrame id with
      | some f => f.lineLevels
      | none => [])
    exec .idleCReceived s =
      .next (((t.setLine fun l => { l with sending := none, again := some id }).doubleCw.raise
        Ev.WIR_COLLISION).lineContend 3).finish) ∧
  -- LINE_FRAME_RECEIVED: polarity, a cut burst, an M3 frame, an M1 or M2 frame
  (∀ (gen : Fin 3) (inverse cut : Bool) (phr llrs : List Int) (hard : List Bool) (s : State), s.up = true →
    s.lineHears = true →
    let u := if s.hub && gen.val + 1 == 3 then s.setLine fun l => { l with upBusy := false } else s
    (u.syncDetected inverse).1 = true →
    let t := (u.syncDetected inverse).2
    (cut = true → exec (.lineFrameReceived gen inverse cut phr llrs hard) s = .next t.lineRxErr.finish) ∧
    (cut = false → gen.val = 2 →
      exec (.lineFrameReceived gen inverse cut phr llrs hard) s = .next (t.lineCoded phr llrs).finish) ∧
    (cut = false → gen.val < 2 →
      exec (.lineFrameReceived gen inverse cut phr llrs hard) s = .next (t.lineLegacy (gen.val + 1) hard).finish)) ∧
  -- UPSTREAM_BURST_START: a node outside the M3 window, without a layout, or held; in training with no burst to start; without a
  -- task, convergence, or a frame that fits (R374, R377)
  (∀ (left : Nat) (s : State), s.up = true →
    (s.get .WIR_STAT_WIN ≠ 3 ∨ s.enabled 14 = false → exec (.upstreamBurstStart left) s = .next s.finish) ∧
    (s.hub = false →
      (s.bit .WIR_STAT_LAYOUT = false ∨ s.lineHeld = true → exec (.upstreamBurstStart left) s = .next s.finish) ∧
      (s.lineTraining = true →
        s.line.trains = false ∨ s.bit .WIR_STAT_TRAINING = true ∨ unitsFit 3 trainingUnits left = false →
        exec (.upstreamBurstStart left) s = .next s.finish) ∧
      (s.lineTraining = false →
        s.lineServing = false ∨ s.bit .WIR_STAT_ECOK = false ∨ s.line.sending.isSome = true ∨ s.lineFront 3 = none ∨
          (∃ f, s.lineFront 3 = some f ∧ unitsFit 3 f.lineUnits left = false) →
        exec (.upstreamBurstStart left) s = .next s.finish))) ∧
  (∀ (g : Fin 2) (left : Nat) (s : State), s.up = true →
    s.get .WIR_STAT_WIN ≠ g.val + 1 ∨ s.line.winHeard = false ∨ s.lineHeld = true ∨ s.enabled 14 = false ∨
      s.lineServing = false ∨ s.line.sending.isSome = true ∨ s.lineFront (g.val + 1) = none ∨
      (∃ f, s.lineFront (g.val + 1) = some f ∧ unitsFit (g.val + 1) f.lineUnits left = false) →
    exec (.legacyLineFrameStart g left) s = .next s.finish) ∧
  -- LINE_COLLISION, IDLE_C_RECEIVED outside the M3 window or in the other role; an IDLE_C within a training burst, which is
  -- sent again, and one that meets no burst
  (∀ s : State, s.up = true →
    (s.hub = false ∨ s.get .WIR_STAT_WIN ≠ 3 → exec .lineCollision s = .next s.finish) ∧
    (s.hub = true ∨ s.get .WIR_STAT_WIN ≠ 3 ∨ s.clk.wireStop = true → exec .idleCReceived s = .next s.finish) ∧
    (s.hub = false → s.get .WIR_STAT_WIN = 3 → s.clk.wireStop = false → s.line.sending = none →
      (s.bit .WIR_STAT_TRAINING = true →
        exec .idleCReceived s =
          .next (((((s.adaptPart trainingLevels).put .WIR_STAT_TRAINING 0).doubleCw).raise
            Ev.WIR_COLLISION).lineContend 3).finish) ∧
      (s.bit .WIR_STAT_TRAINING = false → exec .idleCReceived s = .next s.finish))) ∧
  -- LINE_FRAME_RECEIVED while nobody listens, and a burst with the inverse word at a hub, which discards it (R384)
  (∀ (gen : Fin 3) (inverse cut : Bool) (phr llrs : List Int) (hard : List Bool) (s : State), s.up = true →
    (s.lineHears = false → exec (.lineFrameReceived gen inverse cut phr llrs hard) s = .next s.finish) ∧
    (s.lineHears = true → s.hub = true →
      let u := if gen.val = 2 then s.setLine fun l => { l with upBusy := false } else s
      exec (.lineFrameReceived gen true cut phr llrs hard) s = .next u.lineRxErr.finish))

/-- The commands of echo cancelling, of marks and of announcing on the line, each with the state it leaves. -/
def Obligations.LineTrackingCommands : Prop :=
  -- EC_TRAINING_PASS_END: converged, first pass, second pass
  (∀ (res : Int) (s : State), s.up = true → s.bit .WIR_STAT_TRAINING = true → s.line.cutting = false → s.lineHeld = false →
    let t := (s.adapt trainingLevels).putS .WIR_EC_RES_RES res
    (res ≤ -4 * (t.get .WIR_EC_CTRL_CONVTHR : Int) →
      let u := ((((t.put .WIR_STAT_ECOK 1).put .WIR_STAT_TRAINFAIL 0).raise Ev.WIR_EC_CONV).put .WIR_STAT_TRAINING 0).setLine
        fun l => { l with trains := false, begun := false, passes := 0, cw := 0 }
      (u.runningKind Kind.LINE_TRAIN = none → exec (.ecTrainingPassEnd res) s = .next u.finish) ∧
      (∀ i, u.runningKind Kind.LINE_TRAIN = some i → exec (.ecTrainingPassEnd res) s = .next (u.taskEnds i .done).finish)) ∧
    (-4 * (t.get .WIR_EC_CTRL_CONVTHR : Int) < res → t.line.passes = 0 →
      exec (.ecTrainingPassEnd res) s = .next (t.setLine fun l => { l with passes := 1 }).finish) ∧
    (-4 * (t.get .WIR_EC_CTRL_CONVTHR : Int) < res → 1 ≤ t.line.passes →
      let u := ((((t.put .WIR_STAT_ECOK 0).put .WIR_STAT_TRAINFAIL 1).raise Ev.WIR_EC_DIVERGE).put .WIR_STAT_TRAINING 0).setLine
        fun l => { l with trains := false, begun := false, passes := 0, cw := 0 }
      ∀ i, u.runningKind Kind.LINE_TRAIN = some i → exec (.ecTrainingPassEnd res) s = .next (u.taskEnds i .done).finish)) ∧
  -- EC_DIVERGE
  (∀ (res : Int) (s : State), s.up = true → s.bit .WIR_STAT_ECOK = true → -4 * (s.get .WIR_EC_CTRL_DIVTHR : Int) < res →
    -- the M3 burst under way ends: without ECOK nothing is sent
    let burst := s.get .WIR_STAT_WIN == 3 && match s.line.sending.bind s.txFrame with
      | some f => f.gen == 3
      | none => false
    let r := if burst then s.lineAbandon else s
    let t := (((r.putS .WIR_EC_RES_RES res).put .WIR_STAT_ECOK 0).sat .WIR_CNT2_ECDIV).raise Ev.WIR_EC_DIVERGE
    (t.bit .WIR_EC_CTRL_AUTO = false → exec (.ecDiverge res) s = .next t.finish) ∧
    (t.bit .WIR_EC_CTRL_AUTO = true → exec (.ecDiverge res) s = .next (t.kindFiring Kind.LINE_TRAIN).finish)) ∧
  -- LINE_MARK_RECEIVED in a node
  (∀ (err ppm : Int) (inverse : Bool) (phr : List Int) (items : List (List Int)) (s : State), s.up = true →
    s.hearsMarks = true →
    let o := s.moment 14
    o.hearsMarks = true →
    let t := (((o.judgePolarity inverse).setLine fun l => { l with cycles := l.cycles + 1, annSent := false })).markTiming err ppm
    let u := t.put .WIR_STAT_WIN (if t.lineServing then 0 else 4)
    let v := u.raiseIf (u.bit .WIR_CFG_CYCEVT) Ev.WIR_CYCLE_START
    ((v.rxBegin 3 3 0 phr 0x80 v.cyc).1 = none →
      exec (.lineMarkReceived err ppm inverse phr items) s = .next (v.rxBegin 3 3 0 phr 0x80 v.cyc).2.2.finish) ∧
    (∀ id, (v.rxBegin 3 3 0 phr 0x80 v.cyc).1 = some id →
      exec (.lineMarkReceived err ppm inverse phr items) s =
        .next (items.zipIdx.foldl (fun s t => (s.rxItem id t.1 (t.2 + 1 == items.length) true).2)
          (v.rxBegin 3 3 0 phr 0x80 v.cyc).2.2).finish)) ∧
  -- LINE_MARK_MISSED, CDR_PHASE_LOSS
  (∀ s : State, s.up = true → s.hub = false → s.enabled 14 = true → s.bit .WIR_CDR_STAT_ACQ = true →
    let t := ((s.sat .WIR_CDR_STAT_MISSED).sat .WIR_CNT2_DARK).setLine fun l =>
      { l with cycles := l.cycles + 1, annSent := false }
    (t.get .WIR_CDR_STAT_MISSED < t.get .WIR_CDR_CFG_MISS → exec .lineMarkMissed s = .next t.finish) ∧
    (t.get .WIR_CDR_CFG_MISS ≤ t.get .WIR_CDR_STAT_MISSED → exec .lineMarkMissed s = .next t.lineLoss.finish)) ∧
  (∀ s : State, s.up = true → s.hub = false → s.bit .CLK_STAT_CDR = true → exec .cdrPhaseLoss s = .next s.lineLoss.finish) ∧
  -- POLARITY_RECHECK
  (∀ s : State, s.nativeHost = true →
    exec (.polarityRecheck false) s = .next (s.accessed.setLine fun l => { l with judgePol := true }).lateOver.finish) ∧
  (∀ s : State, s.up = true → s.enabled 14 = true → s.safe 14 = false →
    exec (.polarityRecheck true) s =
      .next (({ s with latches := s.latches.filter (· != 56) } : State).setLine fun l => { l with judgePol := true }).finish) ∧
  -- LINE_ANNOUNCE_RECEIVED of an M3 node, LINE_ANNOUNCE_POP
  (∀ (src : BitVec 8) (uid : BitVec 64) (gens step : BitVec 8) (s : State), s.up = true → s.hub = true →
    s.line.list.length < 8 → (s.line.list.any fun a => a.id == src.toNat && !a.acked) = false →
    ∃ a : Announce, a.id = src.toNat ∧ a.uid = uid.toNat ∧ a.gens = gens.toNat % 8 ∧ a.step = step.toNat ∧ a.legacy = false ∧
      a.rep = s.bitAt (.WIR_PRESENT_BITS (src.toNat / 32)) (src.toNat % 32) ∧ a.acked = false ∧ a.popped = false ∧
      exec (.lineAnnounceReceived src uid gens step) s =
        .next ((((s.setBitAt (.WIR_PRESENT_BITS (src.toNat / 32)) (src.toNat % 32) true).setLine fun l =>
          { l with list := l.list ++ [a] }).showAnnounce).raise Ev.WIR_NEWNODE).finish) ∧
  (∀ (i : Nat) (s : State), s.nativeHost = true → (s.accessed.line.list.findIdx? fun a => !a.popped) = some i →
    exec .lineAnnouncePop s =
      .next (s.accessed.setLine fun l => { l with
        list := l.list.zipIdx.map fun e => if e.2 = i then { e.1 with popped := true } else e.1 }).pruneAnnounces.lateOver.finish) ∧
  -- what finds nothing to act on: a pass that is being cut or does not run, a divergence that is none, marks that nobody
  -- hears or misses, a clock that was not locked, an announce that no hub takes or that fills no free entry, an empty list
  (∀ (res err ppm : Int) (inverse : Bool) (phr : List Int) (items : List (List Int)) (s : State), s.up = true →
    (s.bit .WIR_STAT_TRAINING = false ∨ s.line.cutting = true ∨ s.lineHeld = true →
      exec (.ecTrainingPassEnd res) s = .next s.finish) ∧
    (s.bit .WIR_STAT_ECOK = false ∨ res ≤ -4 * (s.get .WIR_EC_CTRL_DIVTHR : Int) → exec (.ecDiverge res) s = .next s.finish) ∧
    (s.hearsMarks = false → exec (.lineMarkReceived err ppm inverse phr items) s = .next s.finish) ∧
    (s.hub = true ∨ s.enabled 14 = false ∨ s.bit .WIR_CDR_STAT_ACQ = false → exec .lineMarkMissed s = .next s.finish) ∧
    (s.hub = true ∨ s.bit .CLK_STAT_CDR = false → exec .cdrPhaseLoss s = .next s.finish)) ∧
  (∀ (src : BitVec 8) (uid : BitVec 64) (gens step : BitVec 8) (s : State), s.up = true →
    s.hub = false ∨ 8 ≤ s.line.list.length ∨ (s.line.list.any fun a => a.id == src.toNat && !a.acked) = true →
    exec (.lineAnnounceReceived src uid gens step) s = .next s.finish) ∧
  (∀ s : State, s.nativeHost = true → (s.accessed.line.list.findIdx? fun a => !a.popped) = none →
    exec .lineAnnouncePop s = .next s.accessed.lateOver.finish) ∧
  -- EC_TRAINING_PASS_END, the second failed pass without a LINE_TRAIN task
  (∀ (res : Int) (s : State), s.up = true → s.bit .WIR_STAT_TRAINING = true → s.line.cutting = false → s.lineHeld = false →
    let t := (s.adapt trainingLevels).putS .WIR_EC_RES_RES res
    1 ≤ t.line.passes → -4 * (t.get .WIR_EC_CTRL_CONVTHR : Int) < res →
    let u := ((((t.put .WIR_STAT_ECOK 0).put .WIR_STAT_TRAINFAIL 1).raise Ev.WIR_EC_DIVERGE).put .WIR_STAT_TRAINING 0).setLine
      (fun l => { l with trains := false, begun := false, passes := 0, cw := 0 })
    u.runningKind Kind.LINE_TRAIN = none → exec (.ecTrainingPassEnd res) s = .next u.finish)

/-! ### Completion: the radio -/

/-- The commands of the radio front end, each with the state it leaves. -/
def Obligations.RadioCommands : Prop :=
  -- RADIO_TRANSITION_END: to SLEEP without a task, into an RX window, into TX with a whole frame
  (∀ s : State, s.up = true → s.rad.goal = some Rad.SLEEP → s.radTask = none →
    exec .radioTransitionEnd s =
      .next ((s.setRadState Rad.SLEEP).setRad fun r => { r with goal := none }).syncSearch.finish) ∧
  (∀ s : State, s.up = true → s.rad.goal = some Rad.RX → s.radState = Rad.SYNTH → s.radKind Kind.RAD_RX_WIN = true →
    s.rad.opened = false →
    let t := (s.setRadState Rad.RX).setRad fun r => { r with goal := none, opened := true }
    exec .radioTransitionEnd s = .next (t.setRdm fun m => { m with on := !t.bit .RDM_CFG_MANUAL }).syncSearch.finish) ∧
  (∀ (id : Nat) (f : TxFrame) (s : State), s.up = true → s.rad.goal = some Rad.TX → s.radState = Rad.SYNTH →
    s.rad.tx = some id → s.txFrame id = some f → f.kind ≠ .beacon → (s.xing 4).owned.any (fun t => t.frame == f.id) = true →
    exec .radioTransitionEnd s =
      .next (((s.setRadState Rad.TX).setRad fun r =>
        { r with air := true, goal := none, mode := f.mode }).frameStarts f).syncSearch.finish) ∧
  -- out of SLEEP it waits for the modem island's clock (R232), and in a DRAIN issue it leaves neither SLEEP nor STANDBY
  -- upwards (R80)
  (∀ (g : Nat) (s : State), s.up = true → s.rad.goal = some g → s.radState = Rad.SLEEP → g ≠ Rad.SLEEP →
    s.get (.gate Island.MODEM) ≠ Gate.RUN → exec .radioTransitionEnd s = .next s.finish) ∧
  (∀ (g : Nat) (s : State), s.up = true → s.rad.goal = some g → s.radState = Rad.STANDBY → 2 ≤ g → s.drainHold 15 = true →
    exec .radioTransitionEnd s = .next s.finish) ∧
  -- SYNTH_CAL, SYNTH_CAL_DONE, SYNTH_CAL_LOCK_TIMEOUT
  (∀ s : State, s.up = true → s.kindWaiting Kind.RAD_CAL = true →
    exec .synthCal s = .next (({ s with latches := s.latches.filter (· != 63) } : State).kindFiring Kind.RAD_CAL).finish) ∧
  (∀ s : State, s.up = true → s.radKind Kind.RAD_CAL = true → s.radState = Rad.STANDBY →
    let t := (s.put .RAD_CAL_FREQ_N s.carrier).put .RAD_CAL_STAT_TCAL (s.get .THM_TEMP_FILT)
    let t := (t.put .RAD_CAL_STAT_VALID 1).calArm
    (t.drainHold 15 = false →
      exec .synthCalDone s = .next ((t.setRadState Rad.SYNTH).raise Ev.RAD_CAL_DONE |>.radEnd .done).finish) ∧
    (t.drainHold 15 = true → exec .synthCalDone s = .next (t.raise Ev.RAD_CAL_DONE |>.radEnd .done).finish)) ∧
  (∀ s : State, s.up = true → s.radKind Kind.RAD_CAL = true → s.radState = Rad.STANDBY →
    exec .synthCalLockTimeout s =
      .next ((((s.sat .RAD_CNT_LOCKLOST).raise Ev.RAD_LOCK_LOST).calInvalid).radEnd (.aborted Cause.BLOCK)).finish) ∧
  -- EXTPA_PIN_READBACK, with no transmission under way, with one, and without VDD_IO
  (∀ (pin : Fin 3) (s : State), s.up = true →
    (s.pwr.ioUp = true → s.rad.tx = none →
      exec (.extpaPinReadback pin true) s = .next (s.raise Ev.RAD_EXTPA_FAULT).finish) ∧
    (s.pwr.ioUp = true → s.rad.tx.isSome = true →
      exec (.extpaPinReadback pin true) s =
        .next ((s.raise Ev.RAD_EXTPA_FAULT).radAbort TxCause.PINFAULT Cause.BLOCK Rad.SYNTH).finish) ∧
    (s.pwr.ioUp = false → exec (.extpaPinReadback pin true) s = .next s.finish) ∧
    exec (.extpaPinReadback pin false) s = .next s.finish) ∧
  -- RX_WINDOW_END with and without a sync
  (∀ s : State, s.up = true → s.radKind Kind.RAD_RX_WIN = true → s.rad.opened = true → s.rad.closing = false →
    let shut := fun t : State =>
      (t.setRad fun r => { r with closing := true, listen := none, flush := false, ccaReq := false }).syncSearch.winNext
    (s.rad.synced = true → exec .rxWindowEnd s = .next (shut s).finish) ∧
    (s.rad.synced = false → exec .rxWindowEnd s = .next (shut ((s.sat .RDM_CNT_SRCHTO).raise Ev.RDM_SEARCH_TO)).finish)) ∧
  -- LBT_LISTEN_END: clear, and busy with another try left
  (∀ (id : Nat) (h : Int) (s : State), s.up = true → s.radState = Rad.RX → s.rad.goal = none → s.rad.listen = some false →
    s.rad.chosen = some id → s.rad.highest = some h →
    (h < s.getS .RDM_CCA_THR_THR →
      exec .lbtListenEnd s = .next ((s.setRad fun r => { r with listen := none }).startTx id).finish) ∧
    (s.getS .RDM_CCA_THR_THR ≤ h → s.rad.tries + 1 < s.get .RAD_LBT_TRIES →
      exec .lbtListenEnd s =
        .next ((((s.sat .RAD_CNT_CCABUSY).raise Ev.RAD_CCA_BUSY).setRad
          fun r => { r with tries := s.rad.tries + 1, highest := none }).drawListen).finish)) ∧
  -- DUTY_BUCKET_ADVANCE
  (∀ s : State, s.up = true →
    exec .dutyBucketAdvance s = .next ((s.setRad fun r => { r with duty := 0 :: r.duty.take 59 }).showDuty).finish) ∧
  -- ACK_SLOT_DECISION: an acknowledgement that is not due
  (∀ (k : AckSlot) (s : State), s.up = true → s.rad.slot = some k → k.due = none →
    exec .ackSlotDecision s = .next ((s.setRad fun r => { r with slot := none }).winNext).finish) ∧
  -- ACK_WAIT_END
  (∀ s : State, s.up = true → s.rad.wait = true → s.rad.waitSync = false →
    exec .ackWaitEnd s = .next ((s.setRad fun r => { r with wait := false, waitSync := false }).radGo Rad.SYNTH).finish) ∧
  -- RADIO_TX_TIMEOUT, SYNTH_LOCK_LOST
  (∀ s : State, s.up = true → s.radState = Rad.TX → s.rad.air = true →
    exec .radioTxTimeout s = .next (s.radRampOff TxCause.TIMEOUT Cause.BLOCK).finish) ∧
  (∀ s : State, s.up = true → 2 ≤ s.radState →
    exec .synthLockLost s =
      .next ((((s.sat .RAD_CNT_LOCKLOST).raise Ev.RAD_LOCK_LOST).calInvalid).radAbort TxCause.LOCK Cause.BLOCK
        Rad.STANDBY).finish) ∧
  -- RADIO_TRANSITION_END with no transition under way, within a RAD_CAL task's calibration, and on every other way than into TX
  (∀ s : State, s.up = true → s.rad.goal = none → exec .radioTransitionEnd s = .next s.finish) ∧
  (∀ (g : Nat) (s : State), s.up = true → s.rad.goal = some g → s.radState = Rad.STANDBY → 2 ≤ g → s.radKind Kind.RAD_CAL = true →
    exec .radioTransitionEnd s = .next s.finish) ∧
  (∀ (g : Nat) (s : State), s.up = true → s.rad.goal = some g →
    let st := radHop s.radState g
    let t := s.setRadState st
    let u := if st = g then t.setRad fun r => { r with goal := none } else t
    s.radState ≠ Rad.SLEEP ∨ st = Rad.SLEEP ∨ s.get (.gate Island.MODEM) = Gate.RUN →
    s.drainHold 15 = false ∨ Rad.STANDBY < s.radState ∨ st ≤ Rad.STANDBY →
    s.radState ≠ Rad.STANDBY ∨ st ≠ Rad.SYNTH ∨ s.radKind Kind.RAD_CAL = false → st ≠ Rad.TX →
    (st = Rad.SLEEP → exec .radioTransitionEnd s = .next u.radStart.syncSearch.finish) ∧
    (st = Rad.STANDBY → Rad.STANDBY < g → exec .radioTransitionEnd s = .next u.radLeaves.syncSearch.finish) ∧
    (Rad.STANDBY < st → st ≠ g → exec .radioTransitionEnd s = .next u.syncSearch.finish) ∧
    (st ≠ Rad.SLEEP → st = g → st ≠ Rad.RX ∨ u.radKind Kind.RAD_RX_WIN = false →
      exec .radioTransitionEnd s = .next u.radNext.syncSearch.finish) ∧
    (st = Rad.RX → st = g → u.radKind Kind.RAD_RX_WIN = true → u.rad.opened = true →
      exec .radioTransitionEnd s = .next u.winNext.syncSearch.finish)) ∧
  -- RADIO_TRANSITION_END into TX: no frame any more, a beacon, a frame that is not whole in the transmit buffer
  (∀ s : State, s.up = true → s.rad.goal = some Rad.TX → s.radState = Rad.SYNTH ∨ s.radState = Rad.RX →
    (s.rad.tx.bind s.txFrame = none →
      exec .radioTransitionEnd s = .next ((s.setRad fun r => { r with tx := none }).radGo Rad.RX).syncSearch.finish) ∧
    (∀ f : TxFrame, s.rad.tx.bind s.txFrame = some f →
      (f.kind = .beacon →
        exec .radioTransitionEnd s =
          .next (((s.setRadState Rad.TX).setRad fun r => { r with air := true, goal := none }).beaconStart f).syncSearch.finish) ∧
      (f.kind ≠ .beacon → (s.xing 4).owned.any (fun t => t.frame == f.id) = false →
        exec .radioTransitionEnd s =
          .next (((s.setRad fun r => { r with tx := none, goal := none }).frameUnsent f.id).winNext).syncSearch.finish))) ∧
  -- what finds nothing to act on: no calibration under way, no window open, no listen, no slot, no wait, no transmission
  (∀ s : State, s.up = true →
    (s.radKind Kind.RAD_CAL = false ∨ s.radState ≠ Rad.STANDBY →
      exec .synthCalDone s = .next s.finish ∧ exec .synthCalLockTimeout s = .next s.finish) ∧
    (s.radKind Kind.RAD_RX_WIN = false ∨ s.rad.opened = false ∨ s.rad.closing = true →
      exec .rxWindowEnd s = .next s.finish) ∧
    (s.radState ≠ Rad.RX ∨ s.rad.goal.isSome = true ∨ s.rad.listen = none ∨ s.rad.listen = some false ∧ s.rad.chosen = none →
      exec .lbtListenEnd s = .next s.finish) ∧
    (s.rad.slot = none → exec .ackSlotDecision s = .next s.finish) ∧
    (s.rad.wait = false ∨ s.rad.waitSync = true → exec .ackWaitEnd s = .next s.finish) ∧
    (s.radState ≠ Rad.TX ∨ s.rad.air = false → exec .radioTxTimeout s = .next s.finish) ∧
    (s.radState < 2 → exec .synthLockLost s = .next s.finish)) ∧
  -- LBT_LISTEN_END: with no sample the medium is clear; busy at the last try; and a CCA_START's assessment (R434)
  (∀ (id : Nat) (s : State), s.up = true → s.radState = Rad.RX → s.rad.goal = none → s.rad.listen = some false →
    s.rad.chosen = some id →
    (s.rad.highest = none → exec .lbtListenEnd s = .next ((s.setRad fun r => { r with listen := none }).startTx id).finish) ∧
    (∀ h : Int, s.rad.highest = some h → s.getS .RDM_CCA_THR_THR ≤ h → s.get .RAD_LBT_TRIES ≤ s.rad.tries + 1 →
      exec .lbtListenEnd s =
        .next (((((s.sat .RAD_CNT_CCABUSY).raise Ev.RAD_CCA_BUSY).setRad
          fun r => { r with listen := none, chosen := none }).frameUnsent id).radTxEnd RadEnd.CCA).finish)) ∧
  (∀ s : State, s.up = true → s.radState = Rad.RX → s.rad.goal = none → s.rad.listen = some true →
    let busy := match s.rad.highest with
      | some h => decide (s.getS .RDM_CCA_THR_THR ≤ h)
      | none => false
    let t := (((s.put .RAD_CCA_STAT_VALID 1).putBit .RAD_CCA_STAT_BUSY busy).putS .RAD_CCA_STAT_RSSI
      (s.rad.highest.getD (-128))).setRad fun r => { r with listen := none }
    (∀ st, s.rad.parked = some st → exec .lbtListenEnd s = .next ((t.radGo st).syncSearch).finish) ∧
    (s.rad.parked = none → exec .lbtListenEnd s = .next ((t.radNext.winNext).syncSearch).finish)) ∧
  -- ACK_SLOT_DECISION: an acknowledgement that is due turns to TX where everything allows it, and else stays owed
  (∀ (k : AckSlot) (d : Nat × Nat) (s : State), s.up = true → s.rad.slot = some k → k.due = some d →
    let t := s.setRad fun r => { r with slot := none }
    let may := t.mayAck && t.takesWork (24 + d.1) && t.radState == Rad.RX && t.rad.goal.isNone && t.rdm.cap.isNone
      && t.peer d.2 Peer.ACKOWED == 1
    let u := t.radAck d.1 d.2 (some k.mode)
    (may = true → u.rad.tx.isSome = true → exec .ackSlotDecision s = .next u.finish) ∧
    (may = true → u.rad.tx = none → exec .ackSlotDecision s = .next u.winNext.finish) ∧
    (may = false → exec .ackSlotDecision s = .next t.winNext.finish))

/-- The radio's router tasks and the bits of RAD_CMD, each with the state it leaves. -/
def Obligations.RadioTaskCommands : Prop :=
  -- TO_SLEEP, CCA_START, PA_OFF by register
  (∀ s : State, s.nativeHost = true → s.accessed.radTask.isSome = true →
    exec (.toSleep false) s = .next (s.accessed.radAbort TxCause.HOST Cause.HOST Rad.SLEEP).lateOver.finish) ∧
  (∀ s : State, s.nativeHost = true → s.accessed.holds .radio false = true →
    exec (.ccaStart false) s =
      .next (((s.accessed.setRad fun r => { r with ccaReq := true }).radNext).winNext).lateOver.finish) ∧
  (∀ s : State, s.nativeHost = true → s.accessed.radState = Rad.TX → s.accessed.rad.tx.isSome = true →
    exec (.paOff false) s = .next (s.accessed.radRampOff TxCause.HOST Cause.HOST).lateOver.finish) ∧
  -- TO_SLEEP, CCA_START, PA_OFF by router task
  (∀ s : State, s.up = true → s.enabled 15 = true → s.safe 15 = false →
    let t := fun n => ({ s with latches := s.latches.filter (· != n) } : State)
    (s.radTask.isSome = true → exec (.toSleep true) s = .next ((t 58).radAbort TxCause.HOST Cause.HOST Rad.SLEEP).finish) ∧
    (s.holds .radio false = true →
      exec (.ccaStart true) s = .next ((((t 64).setRad fun r => { r with ccaReq := true }).radNext).winNext).finish) ∧
    (s.radState = Rad.TX → s.rad.tx.isSome = true →
      exec (.paOff true) s = .next ((t 65).radRampOff TxCause.HOST Cause.HOST).finish)) ∧
  -- TO_STANDBY, TO_SYNTH in an RX window and in a RAD_TX task
  (∀ s : State, s.up = true → s.enabled 15 = true → s.safe 15 = false → s.holds .radio false = true →
    let park := fun n st =>
      (({ s with latches := s.latches.filter (· != n) } : State).setRad fun r => { r with parked := some st, listen := none }).radRise st
    let last := fun n =>
      (({ s with latches := s.latches.filter (· != n) } : State).setRad fun r => { r with hostEnd := true }).radNext
    (s.radKind Kind.RAD_RX_WIN = true → s.rdm.cap = none → s.rad.tx = none → s.rad.closing = false →
      exec .toStandby s = .next (park 59 Rad.STANDBY).finish ∧ exec .toSynth s = .next (park 60 Rad.SYNTH).finish) ∧
    (s.radKind Kind.RAD_TX = true →
      exec .toStandby s = .next (last 59).finish ∧ exec .toSynth s = .next (last 60).finish)) ∧
  -- TO_RX from where a window is parked, its carrier and its calibration judged again on the way out of STANDBY
  (∀ (st : Nat) (s : State), s.up = true → s.enabled 15 = true → s.safe 15 = false → s.holds .radio false = true →
    s.rad.parked = some st →
    exec .toRx s =
      .next ((({ s with latches := s.latches.filter (· != 61) } : State).setRad fun r => { r with parked := none }).radRise
        Rad.RX).finish) ∧
  (∀ (st : Nat) (s : State),
    let t := s.radGo st
    (s.radState ≠ Rad.STANDBY ∨ st ≤ Rad.STANDBY → s.radRise st = t) ∧
    (s.radState = Rad.STANDBY → Rad.STANDBY < st →
      (inBand t.carrier = false → s.radRise st = (t.put .RAD_STATE_BADFREQ 1).radEnd (.aborted Cause.BLOCK)) ∧
      (inBand t.carrier = true → t.radKind Kind.RAD_CAL = false → t.calValid t.carrier = false →
        s.radRise st = (t.put .RAD_STATE_NOCAL 1).radEnd (.aborted Cause.BLOCK)) ∧
      (inBand t.carrier = true → t.calValid t.carrier = true → s.radRise st = t))) ∧
  -- TO_TX: an acknowledgement wait ends; owed acknowledgements go out
  (∀ s : State, s.up = true → s.enabled 15 = true → s.safe 15 = false → s.holds .radio true = true →
    (s.radKind Kind.RAD_TX = true → s.rad.wait = true →
      exec .toTx s =
        .next (((({ s with latches := s.latches.filter (· != 62) } : State).radRxErr RxErr.CUT).setRad fun r =>
          { r with wait := false, waitSync := false }).radGo Rad.SYNTH).finish) ∧
    (s.radKind Kind.RAD_RX_WIN = true → s.rdm.cap = none → s.mayAck = true →
      exec .toTx s =
        .next ((({ s with latches := s.latches.filter (· != 62) } : State).setRad fun r => { r with flush := true }).winNext).finish)) ∧
  -- what finds nothing to act on: no RADIO task, no transmission, no window that can be parked or is parked, no wait, no permission
  (∀ s : State, s.nativeHost = true →
    (s.accessed.radTask = none → exec (.toSleep false) s = .next s.accessed.lateOver.finish) ∧
    (s.accessed.holds .radio false = false → exec (.ccaStart false) s = .next s.accessed.lateOver.finish) ∧
    (s.accessed.radState ≠ Rad.TX ∨ s.accessed.rad.tx = none → exec (.paOff false) s = .next s.accessed.lateOver.finish)) ∧
  (∀ s : State, s.up = true → s.enabled 15 = true → s.safe 15 = false →
    let t := fun n => ({ s with latches := s.latches.filter (· != n) } : State)
    (s.holds .radio false = true →
      (s.radState ≠ Rad.TX ∨ s.rad.tx = none → exec (.paOff true) s = .next (t 65).finish) ∧
      (s.radKind Kind.RAD_TX = false →
        s.radKind Kind.RAD_RX_WIN = false ∨ s.rdm.cap.isSome = true ∨ s.rad.tx.isSome = true ∨ s.rad.closing = true →
        exec .toStandby s = .next (t 59).finish ∧ exec .toSynth s = .next (t 60).finish) ∧
      (s.rad.parked = none → exec .toRx s = .next (t 61).finish)) ∧
    (s.holds .radio true = true →
      (s.radKind Kind.RAD_TX = true → s.rad.wait = false → exec .toTx s = .next (t 62).finish) ∧
      (s.radKind Kind.RAD_TX = false →
        s.radKind Kind.RAD_RX_WIN = false ∨ s.rdm.cap.isSome = true ∨ s.mayAck = false →
        exec .toTx s = .next (t 62).finish)))

/-- The commands of the radio modem, each with the state it leaves. -/
def Obligations.ModemCommands : Prop :=
  -- LANE_SYNC of one lane that searches in mode `m`, within its SYNCERR errors: it captures the receiver, takes it over
  -- from a weaker frame in its header window, or is an overrun
  (∀ (x : LaneSync) (m : Nat) (s : State), s.up = true → s.laneMode x.lane = some m → x.errs ≤ s.get (.RDM_LANE_SYNCERR x.lane) →
    let t := (s.setBitAt .RDM_STAT_SYNCED x.lane true).setRad fun r => { r with synced := true }
    (s.rdm.cap = none → s.drainHold 16 = false →
      exec (.laneSync [x]) s = .next (t.capture x.lane m (s.level x.dbm) x.ofs).finish) ∧
    (∀ c : Capture, s.rdm.cap = some c →
      (c.window = true → t.bit .RDM_CFG_PREEMPT = true → c.lane ≠ x.lane → c.level + t.get .RDM_CFG_PREDB ≤ s.level x.dbm →
        exec (.laneSync [x]) s =
          .next ((((t.put .RDM_RXINFO_ERR RxErr.PREEMPTED).sat .RDM_CNT_PREEMPT).raise Ev.RDM_PREEMPT).capture x.lane m
            (s.level x.dbm) x.ofs).finish) ∧
      (c.window = false ∨ t.bit .RDM_CFG_PREEMPT = false ∨ c.lane = x.lane ∨ s.level x.dbm < c.level + t.get .RDM_CFG_PREDB →
        exec (.laneSync [x]) s = .next ((t.sat .RDM_CNT_LANEOVR).raise Ev.RDM_LANE_OVR).finish))) ∧
  -- LANE_SYNC of a lane that does not search, or of a word with more errors
  (∀ (x : LaneSync) (s : State), s.up = true →
    s.laneMode x.lane = none ∨ s.get (.RDM_LANE_SYNCERR x.lane) < x.errs → exec (.laneSync [x]) s = .next s.finish) ∧
  -- which lanes search (R424)
  (∀ (lane : Nat) (s : State),
    (s.bit .RDM_STAT_SEARCH = false → s.laneMode lane = none) ∧
    (s.bit .RDM_STAT_SEARCH = true → s.rad.wait = true → s.laneMode lane = some s.rad.mode) ∧
    (s.bit .RDM_STAT_SEARCH = true → s.rad.wait = false → s.bit (.RDM_LANE_EN lane) = true →
      s.laneMode lane = some (s.get (.RDM_LANE_MODE lane))) ∧
    (s.bit .RDM_STAT_SEARCH = true → s.rad.wait = false → s.bit (.RDM_LANE_EN lane) = false → s.laneMode lane = none)) ∧
  -- LANE_SYNC of two lanes in one cycle: the higher level first, then the lower lane
  (∀ (x y : LaneSync) (s : State), s.up = true →
    s.level y.dbm < s.level x.dbm ∨ (s.level y.dbm = s.level x.dbm ∧ x.lane < y.lane) →
    exec (.laneSync [x, y]) s = .next ((s.laneSync x).laneSync y).finish ∧
    exec (.laneSync [y, x]) s = .next ((s.laneSync x).laneSync y).finish) ∧
  -- RADIO_HEADER_RECEIVED of mode 0: a length the medium admits goes on, another ends the frame with LEGHDR
  (∀ (c : Capture) (soft : List Int) (hard : List Bool) (s : State), s.up = true → s.rdm.cap = some c → c.window = true →
    c.mode = 0 →
    let len := (readLegacy (toBytes (whiten (hard.take 32)))).len
    (len ≤ 192 →
      exec (.radioHeaderReceived soft hard) s =
        .next (((s.setRdm fun m => { m with cap := some { c with window := false } })).raise Ev.RDM_HDR_OK).finish) ∧
    (192 < len → exec (.radioHeaderReceived soft hard) s = .next ((s.radRxErr RxErr.LEGHDR).rxOver).finish)) ∧
  -- RADIO_HEADER_RECEIVED of a coded mode: three PHR copies that fail end the frame with PHR, others open the frame
  (∀ (c : Capture) (soft : List Int) (hard : List Bool) (s : State), s.up = true → s.rdm.cap = some c → c.window = true →
    c.mode ≠ 0 →
    let r := s.rxBegin 5 2 c.mode soft (rssiByte c.level) c.mark
    (r.2.1 = true → r.2.2.rdm.cap.isSome = true →
      exec (.radioHeaderReceived soft hard) s = .next ((r.2.2.radRxErr RxErr.PHR).rxOver).finish) ∧
    (r.2.1 = false →
      exec (.radioHeaderReceived soft hard) s =
        .next ((r.2.2.setRdm fun m => { m with cap := some { c with window := false, frame := r.1 } }).raise Ev.RDM_HDR_OK).finish)) ∧
  -- RADIO_FRAME_RECEIVED: a frame that FEC did not take, received to its end
  (∀ (c : Capture) (llrs : List Int) (hard : List Bool) (s : State), s.up = true → s.rdm.cap = some c → c.mode ≠ 0 →
    c.window = false → c.frame = none →
    exec (.radioFrameReceived llrs hard) s = .next ((s.radioRxDone 0).rxOver).finish) ∧
  -- RADIO_FRAME_RECEIVED of a coded frame: its last item crosses, or is discarded and the frame with it (DROP)
  (∀ (c : Capture) (id : Nat) (f : RxFrame) (h : Header) (llrs : List Int) (hard : List Bool) (s : State), s.up = true →
    s.rdm.cap = some c → c.mode ≠ 0 → c.window = false → c.frame = some id → s.rxFrame id = some f → llrs.length < 576 →
    hardHeader (f.llrs ++ llrs) = some h →
    let r := s.rxItem id llrs true true
    (r.1 = true →
      exec (.radioFrameReceived llrs hard) s = .next (((r.2.radioRxDone h.ftype).openSlot id c.mode).rxOver).finish) ∧
    (r.1 = false → exec (.radioFrameReceived llrs hard) s = .next (r.2.radioRxErr RxErr.DROP).finish)) ∧
  -- RADIO_FRAME_RECEIVED of mode 0
  (∀ (c : Capture) (llrs : List Int) (hard : List Bool) (s : State), s.up = true → s.rdm.cap = some c → c.mode = 0 →
    c.window = false →
    let r := s.rxLegacy 5 1 0 hard (rssiByte c.level) c.mark
    (∀ f : RxFrame, r.1 = some f →
      exec (.radioFrameReceived llrs hard) s =
        .next ((((r.2.radioRxDone f.header.ftype).openSlot f.id 0).rxOver).legacyArrived f).finish) ∧
    (r.1 = none → exec (.radioFrameReceived llrs hard) s = .next (r.2.radioRxErr RxErr.DROP).finish)) ∧
  -- RSSI_SAMPLE between the two thresholds, at HI and above, below LO; in a listen the highest sample is kept (R434)
  (∀ (dbm : Int) (s : State), s.up = true → s.radState = Rad.RX → s.rad.goal = none → s.rad.listen = none →
    let v := s.level dbm
    let t := s.putS .RDM_RSSI_NOW v
    (v < s.getS .RDM_RSSI_CFG_HI → s.getS .RDM_RSSI_CFG_LO ≤ v → exec (.rssiSample dbm) s = .next t.finish) ∧
    (s.getS .RDM_RSSI_CFG_HI ≤ v → s.getS .RDM_RSSI_CFG_LO ≤ v →
      exec (.rssiSample dbm) s =
        .next ((t.raiseIf s.rdm.hiArmed Ev.RDM_RSSI_HI).setRdm fun m => { m with hiArmed := false, loArmed := true }).finish) ∧
    (v < s.getS .RDM_RSSI_CFG_HI → v < s.getS .RDM_RSSI_CFG_LO →
      exec (.rssiSample dbm) s =
        .next ((t.raiseIf s.rdm.loArmed Ev.RDM_RSSI_LO).setRdm fun m => { m with hiArmed := true, loArmed := false }).finish)) ∧
  (∀ (dbm h : Int) (cca : Bool) (s : State), s.up = true → s.radState = Rad.RX → s.rad.goal = none → s.rad.listen = some cca →
    s.rad.highest = some h → s.level dbm < s.getS .RDM_RSSI_CFG_HI → s.getS .RDM_RSSI_CFG_LO ≤ s.level dbm →
    exec (.rssiSample dbm) s =
      .next ((s.putS .RDM_RSSI_NOW (s.level dbm)).setRad fun r => { r with highest := some (max h (s.level dbm)) }).finish) ∧
  (∀ (dbm : Int) (s : State), s.up = true → s.radState ≠ Rad.RX → exec (.rssiSample dbm) s = .next s.finish) ∧
  -- ANNOUNCE_REQUEST in node role and in hub role, RADIO_ANNOUNCE_POP
  (∀ s : State, s.nativeHost = true → s.accessed.hub = false →
    exec .announceRequest s = .next (s.accessed.setRdm fun m => { m with annReq := true }).lateOver.finish) ∧
  (∀ s : State, s.nativeHost = true → s.accessed.hub = true →
    exec .announceRequest s = .next s.accessed.lateOver.finish) ∧
  (∀ s : State, s.nativeHost = true →
    exec .radioAnnouncePop s =
      .next ((s.accessed.setRdm fun m => { m with list := m.list.drop 1 }).showRadioAnnounce).lateOver.finish) ∧
  -- SEARCH_START, SEARCH_STOP in an RX window
  (∀ s : State, s.nativeHost = true → s.accessed.radKind Kind.RAD_RX_WIN = true →
    (s.accessed.holds .radio false = true →
      exec (.searchStart false) s = .next ((s.accessed.setRdm fun m => { m with on := true }).syncSearch).lateOver.finish) ∧
    exec (.searchStop false) s = .next ((s.accessed.setRdm fun m => { m with on := false }).syncSearch).lateOver.finish) ∧
  (∀ s : State, s.up = true → s.enabled 16 = true → s.safe 16 = false → s.radKind Kind.RAD_RX_WIN = true →
    (s.holds .radio false = true →
      exec (.searchStart true) s =
        .next ((({ s with latches := s.latches.filter (· != 66) } : State).setRdm fun m => { m with on := true }).syncSearch).finish) ∧
    exec (.searchStop true) s =
      .next ((({ s with latches := s.latches.filter (· != 67) } : State).setRdm fun m => { m with on := false }).syncSearch).finish) ∧
  -- LANE_SYNC of no lane, and of a searching lane of a page that drains (R80)
  (∀ s : State, s.up = true → exec (.laneSync []) s = .next s.finish) ∧
  (∀ (x : LaneSync) (s : State), s.up = true → s.drainHold 16 = true → s.rdm.cap = none →
    exec (.laneSync [x]) s = .next s.finish) ∧
  -- RADIO_HEADER_RECEIVED and RADIO_FRAME_RECEIVED out of their moments
  (∀ (soft llrs : List Int) (hard : List Bool) (s : State), s.up = true →
    (s.rdm.cap = none →
      exec (.radioHeaderReceived soft hard) s = .next s.finish ∧ exec (.radioFrameReceived llrs hard) s = .next s.finish) ∧
    (∀ c, s.rdm.cap = some c →
      (c.window = false → exec (.radioHeaderReceived soft hard) s = .next s.finish) ∧
      (c.window = true → exec (.radioFrameReceived llrs hard) s = .next s.finish))) ∧
  -- RADIO_FRAME_RECEIVED of a coded frame that has been dropped, and of one codeword whose header does not hold (R429)
  (∀ (c : Capture) (id : Nat) (llrs : List Int) (hard : List Bool) (s : State), s.up = true → s.rdm.cap = some c → c.mode ≠ 0 →
    c.window = false → c.frame = some id →
    (s.rxFrame id = none → exec (.radioFrameReceived llrs hard) s = .next (s.radioRxErr RxErr.DROP).finish) ∧
    (∀ f : RxFrame, s.rxFrame id = some f → llrs.length < 576 → hardHeader (f.llrs ++ llrs) = none →
      let r := s.rxItem id llrs true true
      (r.1 = false → exec (.radioFrameReceived llrs hard) s = .next (r.2.radioRxErr RxErr.DROP).finish) ∧
      (r.1 = true → f.ncw = 1 → exec (.radioFrameReceived llrs hard) s = .next (r.2.radioRxErr RxErr.HDR).finish) ∧
      (r.1 = true → f.ncw ≠ 1 →
        exec (.radioFrameReceived llrs hard) s = .next (((r.2.radioRxDone 0).openSlot id c.mode).rxOver).finish))) ∧
  -- RSSI_SAMPLE in a transition; where HI lies below LO; a listen's first sample, and one that is an event as well
  (∀ (dbm : Int) (s : State), s.up = true → s.rad.goal.isSome = true → exec (.rssiSample dbm) s = .next s.finish) ∧
  (∀ (dbm : Int) (s : State), s.up = true → s.radState = Rad.RX → s.rad.goal = none →
    s.rad.listen.isSome = true ∨ s.getS .RDM_RSSI_CFG_HI ≤ s.level dbm ∧ s.level dbm < s.getS .RDM_RSSI_CFG_LO →
    let v := s.level dbm
    let hi := decide (s.getS .RDM_RSSI_CFG_HI ≤ v)
    let lo := decide (v < s.getS .RDM_RSSI_CFG_LO)
    let top := match s.rad.highest with
      | some h => max h v
      | none => v
    let t := (s.putS .RDM_RSSI_NOW v).setRad fun r => { r with highest := if s.rad.listen.isSome then some top else r.highest }
    let u := (t.raiseIf (hi && s.rdm.hiArmed) Ev.RDM_RSSI_HI).raiseIf (lo && s.rdm.loArmed) Ev.RDM_RSSI_LO
    exec (.rssiSample dbm) s =
      .next (u.setRdm fun m => { m with
        hiArmed := lo || (!hi && m.hiArmed), loArmed := hi || (!lo && m.loArmed) }).finish) ∧
  -- SEARCH_START, SEARCH_STOP outside an RX window
  (∀ s : State, s.nativeHost = true → s.accessed.radKind Kind.RAD_RX_WIN = false →
    exec (.searchStart false) s = .next s.accessed.lateOver.finish ∧ exec (.searchStop false) s = .next s.accessed.lateOver.finish) ∧
  (∀ s : State, s.up = true → s.enabled 16 = true → s.safe 16 = false → s.radKind Kind.RAD_RX_WIN = false →
    (s.holds .radio false = true →
      exec (.searchStart true) s = .next ({ s with latches := s.latches.filter (· != 66) } : State).finish) ∧
    exec (.searchStop true) s = .next ({ s with latches := s.latches.filter (· != 67) } : State).finish)

/-! ### Completion: the NFC field and its protocols -/

/-- The commands of the NFC field, each with the state it leaves. -/
def Obligations.NfcFieldCommands : Prop :=
  -- FIELD_ON within a poll or a transaction task, from every state of the field; within another FIELD task it does nothing
  (∀ s : State, s.up = true → s.enabled 12 = true → s.safe 12 = false → s.holds .field false = true →
    let t : State := { s with latches := s.latches.filter (· != 39) }
    (s.nfcServing = false → exec .fieldOn s = .next t.finish) ∧
    (s.nfcServing = true →
      (s.nfc.stage = .off → s.drainHold 12 = false →
        exec .fieldOn s =
          .next (t.setNfc fun f =>
            { f with stage := if s.bit .NFC_EXT_CFG_EN then .checking else .ramping, loud := true, again := false }).finish) ∧
      (s.nfc.stage = .off → s.drainHold 12 = true →
        exec .fieldOn s = .next (t.setNfc fun f => { f with again := true }).finish) ∧
      (s.nfc.stage = .falling → exec .fieldOn s = .next (t.setNfc fun f => { f with again := true }).finish) ∧
      (s.nfc.stage ≠ .off → s.nfc.stage ≠ .falling → exec .fieldOn s = .next t.finish))) ∧
  -- EXT_FIELD_CHECK_END: the ramp starts, or a foreign field ends the task; without a check or a clock nothing happens
  (∀ (amp : Nat) (s : State), s.up = true → s.nfc.stage = .checking → s.nfcRuns = true →
    (amp < s.get .NFC_EXT_CFG_THR →
      exec (.extFieldCheckEnd amp) s =
        .next ((s.put .NFC_STAT_EXTF 0).setNfc fun f => { f with stage := .ramping }).finish) ∧
    (s.get .NFC_EXT_CFG_THR ≤ amp →
      let t := (((s.put .NFC_STAT_EXTF 1).sat .NFC_CNT_EXTF).raise Ev.NFC_EXT_FIELD).setNfc fun f => { f with stage := .off }
      (s.fieldKind Kind.COMET = true → exec (.extFieldCheckEnd amp) s = .next (t.cometEnds Comet.EXT false).finish) ∧
      (s.fieldKind Kind.TUNE_SWEEP = true →
        exec (.extFieldCheckEnd amp) s = .next (t.fieldEnd (.aborted Cause.BLOCK)).finish) ∧
      (s.nfcServing = true →
        let u := if s.legacyTask then (t.nfpLast NfcErr.EXTFIELD 0).legShow NfcErr.EXTFIELD else t.extFieldCommand s.fieldEngine
        exec (.extFieldCheckEnd amp) s = .next (u.fieldEnd (.aborted Cause.BLOCK)).finish))) ∧
  (∀ (amp : Nat) (s : State), s.up = true → s.nfc.stage ≠ .checking ∨ s.nfcRuns = false →
    exec (.extFieldCheckEnd amp) s = .next s.finish) ∧
  -- FIELD_LEVEL_REACHED under a Comet sweep, a tuner sweep, a poll or a transaction task
  (∀ (ma mv : Nat) (s : State), s.up = true → s.nfc.stage = .ramping → s.nfcRuns = true →
    let t := ((((s.put .NFC_STAT_FIELD 1).put .NFC_DRV_STAT_I (min ma 511)).put .NFC_DRV_STAT_VTX (min mv 8191)).setNfc
      fun f => { f with stage := .on, sagged := false, ref := none, lows := 0 }).raiseIf s.nfc.loud Ev.NFC_FIELD_ON
    (s.fieldKind Kind.COMET = true → exec (.fieldLevelReached ma mv) s = .next t.finish) ∧
    (s.fieldKind Kind.TUNE_SWEEP = true →
      exec (.fieldLevelReached ma mv) s =
        .next ((t.put .NFC_STAT_TUNING 1).setNfc fun f => { f with
          sweep := some { qstart := 0, best := 0, made := 0, step := 8, bank := 0, dir := 0, improved := false,
                          before := 0 } }).finish) ∧
    (s.nfcServing = true →
      exec (.fieldLevelReached ma mv) s = .next (t.setNfp fun p => { p with guard := true }).finish)) ∧
  (∀ (ma mv : Nat) (s : State), s.up = true → s.nfc.stage ≠ .ramping ∨ s.nfcRuns = false →
    exec (.fieldLevelReached ma mv) s = .next s.finish) ∧
  -- MISMATCH_MEASURED: a Comet sweep measures over its own interval, and without a field nothing is measured
  (∀ (theta : Int) (s : State), s.up = true →
    s.fieldKind Kind.COMET = true ∨ s.nfc.stage ≠ .on ∨ s.bit .NFC_STAT_FIELD = false →
    exec (.mismatchMeasured theta) s = .next s.finish) ∧
  -- at or below the threshold, and above it
  (∀ (theta : Int) (s : State), s.up = true → s.nfc.stage = .on → s.bit .NFC_STAT_FIELD = true →
    s.fieldKind Kind.COMET = false →
    let t := s.showQ theta
    (mismatchQ theta ≤ t.get .NFC_TUNE_CFG_QTHR →
      exec (.mismatchMeasured theta) s =
        .next (((t.put .NFC_MISMATCH_Q_CNT 0).put .NFC_STAT_NOREARM 0).setNfc fun f => { f with armed := true }).finish) ∧
    (t.get .NFC_TUNE_CFG_QTHR < mismatchQ theta →
      let u := t.sat .NFC_MISMATCH_Q_CNT
      let v := (u.setNfc fun f => { f with armed := false }).raise Ev.NFC_MISMATCH
      (u.nfc.armed = false ∨ u.bit .NFC_STAT_NOREARM = true ∨ u.get .NFC_MISMATCH_Q_CNT < u.get .NFC_TUNE_CFG_MCONF →
        exec (.mismatchMeasured theta) s = .next u.finish) ∧
      (u.nfc.armed = true → u.bit .NFC_STAT_NOREARM = false → u.get .NFC_TUNE_CFG_MCONF ≤ u.get .NFC_MISMATCH_Q_CNT →
        (v.bit .NFC_TUNE_CFG_AUTO = false → exec (.mismatchMeasured theta) s = .next v.finish) ∧
        (v.bit .NFC_TUNE_CFG_AUTO = true →
          exec (.mismatchMeasured theta) s = .next (v.kindFiring Kind.TUNE_SWEEP).finish)))) ∧
  -- FIELD_OFF with no FIELD task, under a Comet sweep, and under another task
  (∀ s : State, s.nativeHost = true →
    let a := s.accessed
    (a.fieldTask = none → exec (.fieldOff false) s = .next a.fieldDown.lateOver.finish) ∧
    (a.fieldKind Kind.COMET = true → exec (.fieldOff false) s = .next (a.cometEnds Comet.INVALID false).lateOver.finish) ∧
    (a.fieldTask.isSome = true → a.fieldKind Kind.COMET = false →
      exec (.fieldOff false) s =
        .next ((a.cutExchange NfcErr.FIELD_LOST).fieldEnd (.aborted Cause.HOST)).lateOver.finish)) ∧
  (∀ s : State, s.up = true → s.enabled 12 = true → s.safe 12 = false →
    let t : State := { s with latches := s.latches.filter (· != 40) }
    (s.fieldTask = none → exec (.fieldOff true) s = .next t.fieldDown.finish) ∧
    (s.fieldKind Kind.COMET = true → exec (.fieldOff true) s = .next (t.cometEnds Comet.INVALID false).finish) ∧
    (s.fieldTask.isSome = true → s.fieldKind Kind.COMET = false →
      exec (.fieldOff true) s = .next ((t.cutExchange NfcErr.FIELD_LOST).fieldEnd (.aborted Cause.HOST)).finish)) ∧
  -- FIELD_RAMP_DOWN_END, with and without a field waiting to come back
  (∀ s : State, s.up = true → s.nfc.stage = .falling →
    let t := ((s.put .NFC_STAT_FIELD 0).raiseIf s.nfc.loud Ev.NFC_FIELD_OFF).setNfc fun f => { f with stage := .off, again := false }
    (s.nfc.again = false ∨ s.fieldTask = none → exec .fieldRampDownEnd s = .next t.syncIslands.finish) ∧
    (s.nfc.again = true → s.fieldTask.isSome = true →
      exec .fieldRampDownEnd s = .next t.fieldRequest.syncIslands.finish)) ∧
  (∀ s : State, s.up = true → s.nfc.stage ≠ .falling → exec .fieldRampDownEnd s = .next s.finish) ∧
  -- FIELD_SUPPLY_SAMPLE: below SAGV, once a field
  (∀ (mv : Nat) (s : State), s.up = true → s.nfc.stage = .on → s.nfc.sagged = false →
    mv < 2700 + 100 * s.get .NFC_DRV_LVL_SAGV →
    exec (.fieldSupplySample mv) s =
      .next (((s.put .NFC_STAT_SAG 1).setNfc fun f => { f with sagged := true }).raise Ev.NFC_TXSUP_SAG).finish) ∧
  (∀ (mv : Nat) (s : State), s.up = true →
    s.nfc.stage ≠ .on ∨ s.nfc.sagged = true ∨ 2700 + 100 * s.get .NFC_DRV_LVL_SAGV ≤ mv →
    exec (.fieldSupplySample mv) s = .next s.finish) ∧
  -- DRIVER_OVERCURRENT
  (∀ s : State, s.up = true →
    (s.nfc.stage = .on ∨ s.nfc.stage = .ramping →
      exec .driverOvercurrent s =
        .next (((s.sat .NFC_CNT_OVERCUR).raise Ev.NFC_DRV_OVERCUR).forceField Cause.BLOCK).finish) ∧
    (s.nfc.stage ≠ .on → s.nfc.stage ≠ .ramping → exec .driverOvercurrent s = .next s.finish)) ∧
  -- TUNE_BANK_WRITE
  (∀ (code : BitVec 6) (s : State), s.nativeHost = true →
    exec (.tuneBankWrite 0 code) s = .next (s.accessed.bankWrite .NFC_TUNE_S0_C code.toNat).lateOver.finish ∧
    exec (.tuneBankWrite 1 code) s = .next (s.accessed.bankWrite .NFC_TUNE_S1_C code.toNat).lateOver.finish ∧
    exec (.tuneBankWrite 2 code) s = .next (s.accessed.bankWrite .NFC_TUNE_P0_C code.toNat).lateOver.finish ∧
    exec (.tuneBankWrite 3 code) s = .next (s.accessed.bankWrite .NFC_TUNE_P1_C code.toNat).lateOver.finish)

/-- The commands of the tuner, of Comet and its baseline, and of the forced field-off, each with the state it leaves. -/
def Obligations.TunerAndCometCommands : Prop :=
  -- TUNE_SWEEP, COMET_SWEEP as kind firings
  (∀ s : State, s.up = true → s.kindWaiting Kind.TUNE_SWEEP = true →
    exec .tuneSweep s =
      .next (({ s with latches := s.latches.filter (· != 42) } : State).kindFiring Kind.TUNE_SWEEP).finish) ∧
  (∀ s : State, s.up = true → s.kindWaiting Kind.COMET = true →
    exec .cometSweep s = .next (({ s with latches := s.latches.filter (· != 41) } : State).kindFiring Kind.COMET).finish) ∧
  -- TUNER_PROBE_END: probe 0, a better probe, and one that restores its bank; a stop that was asked for ends the sweep here
  (∀ (theta : Int) (w : Sweep) (s : State), s.up = true → s.nfc.stage = .on → s.nfc.sweep = some w →
    let q := mismatchQ theta
    let t := s.showQ theta
    let go : State → Sweep → State := fun u v => match s.fieldTask.bind fun i => (s.slot i).stopEnd with
      | some e => (u.setNfc fun f => { f with sweep := some { v with before := u.get (sweepBank v.bank) } }).fieldEnd e
      | none => u.sweepNext v 64
    (w.made = 0 → exec (.tunerProbeEnd theta) s = .next (go t { w with qstart := q, best := q, made := 1 }).finish) ∧
    (w.made ≠ 0 → q < w.best →
      exec (.tunerProbeEnd theta) s =
        .next (go t { w with best := q, made := w.made + 1, improved := true, bank := w.bank + 1, dir := 0 }).finish) ∧
    (w.made ≠ 0 → w.best ≤ q →
      exec (.tunerProbeEnd theta) s =
        .next (go (t.put (sweepBank w.bank) w.before) { w with made := w.made + 1, dir := w.dir + 1 }).finish)) ∧
  (∀ (theta : Int) (s : State), s.up = true → s.nfc.stage ≠ .on ∨ s.nfc.sweep = none →
    exec (.tunerProbeEnd theta) s = .next s.finish) ∧
  -- COMET_INTERVAL: IVL in CLEAR with no count running, FAST otherwise; off, disabled or held safe nothing fires
  (∀ s : State, s.up = true → s.enabled 12 = true → s.safe 12 = false → s.get .NFC_COMET_IVL_IVL ≠ 0 →
    let fires := fun ms =>
      let t := s.advanceTo (s.nfc.fired + 1000 * ms)
      (t.setNfc fun f => { f with fired := t.usec }).kindFiring Kind.COMET
    (s.get .NFC_STAT_STATE = Comet.CLEAR → s.cometCounting = false →
      exec .cometInterval s = .next (fires (s.get .NFC_COMET_IVL_IVL)).finish) ∧
    (s.get .NFC_STAT_STATE ≠ Comet.CLEAR ∨ s.cometCounting = true →
      exec .cometInterval s = .next (fires (s.get .NFC_COMET_IVL_FAST)).finish)) ∧
  (∀ s : State, s.up = true → s.enabled 12 = false ∨ s.safe 12 = true ∨ s.get .NFC_COMET_IVL_IVL = 0 →
    exec .cometInterval s = .next s.finish) ∧
  -- COMET_MEASURE_END
  (∀ (amp ph : BitVec 12) (theta : Int) (s : State), s.up = true →
    (s.fieldKind Kind.COMET = true → s.nfc.stage = .on →
      exec (.cometMeasureEnd amp ph theta) s =
        .next (((s.mismatch theta).setNfc fun f => { f with meas := some (amp.toNat, ph.toNat) }).fieldDown).finish) ∧
    (s.fieldKind Kind.COMET = false ∨ s.nfc.stage ≠ .on → exec (.cometMeasureEnd amp ph theta) s = .next s.finish)) ∧
  -- COMET_CLASSIFY without a baseline takes one; with one it classifies, counts and tracks
  (∀ (amp ph : Nat) (s : State), s.up = true → s.nfc.meas = some (amp, ph) → s.fieldKind Kind.COMET = true →
    s.nfc.stage = .off →
    let t := (s.put .NFC_COMET_STAT_AMP amp).put .NFC_COMET_STAT_PH ph
    let base := t.get .NFC_BASE_AMP_AMP
    (t.bit .NFC_STAT_BASEV = false →
      exec .cometClassify s = .next ((t.baseCapture amp ph).cometEnds Comet.INVALID false).finish) ∧
    (t.bit .NFC_STAT_BASEV = true →
      -- rel is the stated quotient, for a baseline of 0 a free value
      let d := t.relDrop base amp
      let dp := phaseDiff ph (t.get .NFC_BASE_PH_PH)
      let cls := d.2.cometClass d.1 dp
      let r := d.2.cometStep cls
      (base ≠ 0 → d = ((1024 * ((base : Int) - amp)) / base, t)) ∧
      (cls = Comet.CLEAR → d.2.get .NFC_STAT_STATE = Comet.CLEAR →
        exec .cometClassify s = .next ((r.1.baseTrack amp dp).cometEnds cls r.2).finish) ∧
      (cls ≠ Comet.CLEAR ∨ d.2.get .NFC_STAT_STATE ≠ Comet.CLEAR →
        exec .cometClassify s = .next (r.1.cometEnds cls r.2).finish))) ∧
  (∀ s : State, s.up = true → s.nfc.meas = none ∨ s.fieldKind Kind.COMET = false ∨ s.nfc.stage ≠ .off →
    exec .cometClassify s = .next s.finish) ∧
  -- FIELD_AMPLITUDE_WATCH takes its reference first, then counts what lies low; the sixteenth in a row is a card
  (∀ (amp : BitVec 12) (s : State), s.up = true → s.nfc.stage = .on → s.nfcServing = true →
    (s.nfc.ref = none →
      exec (.fieldAmplitudeWatch amp) s = .next (s.setNfc fun f => { f with ref := some amp.toNat, lows := 0 }).finish) ∧
    (∀ base : Nat, s.nfc.ref = some base →
      let d := s.relDrop base amp.toNat
      (base ≠ 0 → d = ((1024 * ((base : Int) - amp.toNat)) / base, s)) ∧
      (d.1 < s.get .NFC_CARD_THR_REL →
        exec (.fieldAmplitudeWatch amp) s = .next (d.2.setNfc fun f => { f with lows := 0 }).finish) ∧
      ((s.get .NFC_CARD_THR_REL : Int) ≤ d.1 → s.nfc.lows < 15 →
        exec (.fieldAmplitudeWatch amp) s = .next (d.2.setNfc fun f => { f with lows := f.lows + 1 }).finish) ∧
      ((s.get .NFC_CARD_THR_REL : Int) ≤ d.1 → 15 ≤ s.nfc.lows →
        exec (.fieldAmplitudeWatch amp) s = .next (d.2.setNfc fun f => { f with ref := none, lows := 0 }).cardNear.finish))) ∧
  (∀ (amp : BitVec 12) (s : State), s.up = true → s.nfc.stage ≠ .on ∨ s.nfcServing = false →
    exec (.fieldAmplitudeWatch amp) s = .next s.finish) ∧
  -- BASELINE_WRITE, BASELINE_INVALIDATE, BASELINE_CAPTURE
  (∀ (amp : BitVec 12) (s : State), s.nativeHost = true →
    exec (.baselineWrite amp) s =
      .next ((s.accessed.put .NFC_BASE_AMP_AMP amp.toNat).put .NFC_STAT_BASEV (if amp = 0 then 0 else 1)).lateOver.finish) ∧
  (∀ s : State, s.nativeHost = true → exec .baselineInvalidate s = .next (s.accessed.put .NFC_STAT_BASEV 0).lateOver.finish) ∧
  (∀ s : State, s.up = true → s.enabled 12 = true → s.safe 12 = false → s.holds .field false = true →
    exec .baselineCapture s =
      .next (({ s with latches := s.latches.filter (· != 43) } : State).put .NFC_STAT_BASEV 0).finish) ∧
  -- NFC_FORCE_SAFE
  (∀ s : State, s.nativeHost = true →
    exec (.nfcForceSafe false) s = .next ((s.accessed.put (.PG_CTRL_SAFE 12) 1).forceField Cause.BLOCK).lateOver.finish) ∧
  (∀ s : State, s.up = true → s.enabled 12 = true → s.safe 12 = false →
    exec (.nfcForceSafe true) s =
      .next ((({ s with latches := s.latches.filter (· != 44) } : State).put (.PG_CTRL_SAFE 12) 1).forceField
        Cause.BLOCK).finish)

/-- The commands of the NFC protocols, each with the state it leaves. -/
def Obligations.NfcProtocolCommands : Prop :=
  -- POLL_START as a kind firing
  (∀ s : State, s.up = true → s.kindWaiting Kind.NFC_POLL = true →
    exec .pollStart s =
      .next (({ s with latches := s.latches.filter (· != 45) } : State).kindFiring Kind.NFC_POLL).finish) ∧
  -- POLL_GUARD_TIME_END, NFC_FRAME_GAP_END: a waiting frame starts once both are over, without a frame the next turn follows
  (∀ s : State, s.up = true →
    let g := s.setNfp fun p => { p with guard := false }
    let h := s.setNfp fun p => { p with gap := false }
    let sends := fun (u : State) (x : Exchange) => u.setNfp fun p => { p with cur := some { x with stage := .sending } }
    (∀ x : Exchange, s.nfp.cur = some x → x.stage = .waiting →
      (s.nfp.guard = true → s.nfp.gap = false → exec .pollGuardTimeEnd s = .next (sends g x).finish) ∧
      (s.nfp.gap = true → s.nfp.guard = false → exec .nfcFrameGapEnd s = .next (sends h x).finish) ∧
      (s.nfp.gap = true → s.nfp.guard = true →
        exec .pollGuardTimeEnd s = .next g.finish ∧ exec .nfcFrameGapEnd s = .next h.finish)) ∧
    (∀ x : Exchange, s.nfp.cur = some x → x.stage ≠ .waiting →
      (s.nfp.guard = true → exec .pollGuardTimeEnd s = .next g.finish) ∧
      (s.nfp.gap = true → exec .nfcFrameGapEnd s = .next h.finish)) ∧
    (s.nfp.cur = none →
      (s.nfp.guard = true → exec .pollGuardTimeEnd s = .next g.nfpNext.finish) ∧
      (s.nfp.gap = true → exec .nfcFrameGapEnd s = .next h.nfpNext.finish)) ∧
    (s.nfp.guard = false → exec .pollGuardTimeEnd s = .next s.finish) ∧
    (s.nfp.gap = false → exec .nfcFrameGapEnd s = .next s.finish)) ∧
  -- POLL_STEP_END: NFP_INV_DONE after the last step, GT before the next discovery; an inventory in an NFC_TXN task returns
  -- to serving; in the legacy view the command is over
  (∀ (q : PollStep) (s : State), s.up = true → s.nfp.step = some q → q.isOver = true → s.nfp.held = none →
    let t := s.setNfp fun p => { p with step := none }
    let serves := fun u : State => if s.fieldKind Kind.NFC_TXN = true then u.put .NFP_STAT_PHASE 4 else u
    (s.legacyTask = false →
      (s.nfp.todo = [] → exec .pollStepEnd s = .next (serves (t.raise Ev.NFP_INV_DONE)).nfpNext.finish) ∧
      (∀ k l, s.nfp.todo = .discovery k :: l →
        exec .pollStepEnd s = .next (serves (t.setNfp fun p => { p with guard := true })).nfpNext.finish) ∧
      (∀ k l, s.nfp.todo = k :: l → k = .presence ∨ k = .read ∨ k = .inventory →
        exec .pollStepEnd s = .next (serves t).nfpNext.finish)) ∧
    (s.legacyTask = true → s.nfp.todo = [] →
      exec .pollStepEnd s =
        .next ((serves ((t.legFlag LFlag.RXDONE).setNfp fun p => { p with ended := p.ended + 1 })).commandOver false).finish)) ∧
  (∀ s : State, s.up = true →
    (s.nfp.step = none → exec .pollStepEnd s = .next s.finish) ∧
    (∀ q : PollStep, s.nfp.step = some q → q.isOver = false ∨ s.nfp.held.isSome = true →
      exec .pollStepEnd s = .next s.finish)) ∧
  -- POLL_STOP, NFP_ABORT by register and by router task
  (∀ s : State, s.nativeHost = true →
    let a := s.accessed
    (a.fieldKind Kind.NFC_POLL = true →
      exec (.pollStop false) s = .next ((a.setNfp fun p => { p with stop := true }).nfpNext).lateOver.finish) ∧
    (a.fieldKind Kind.NFC_POLL = false → exec (.pollStop false) s = .next a.lateOver.finish) ∧
    (a.nfcServing = true →
      exec (.nfpAbort false) s = .next ((a.cutExchange NfcErr.ABORT).fieldEnd (.aborted Cause.HOST)).lateOver.finish) ∧
    (a.nfcServing = false → exec (.nfpAbort false) s = .next a.lateOver.finish)) ∧
  (∀ s : State, s.up = true → s.enabled 13 = true → s.safe 13 = false →
    let t := fun n => ({ s with latches := s.latches.filter (· != n) } : State)
    (s.fieldKind Kind.NFC_POLL = true → s.latches.contains 49 = false →
      exec (.pollStop true) s = .next (((t 46).setNfp fun p => { p with stop := true }).nfpNext).finish) ∧
    (s.fieldKind Kind.NFC_POLL = false ∨ s.latches.contains 49 = true → exec (.pollStop true) s = .next (t 46).finish) ∧
    (s.nfcServing = true →
      exec (.nfpAbort true) s = .next (((t 49).cutExchange NfcErr.ABORT).fieldEnd (.aborted Cause.HOST)).finish) ∧
    (s.nfcServing = false → exec (.nfpAbort true) s = .next (t 49).finish) ∧
  -- NFP_TX_QUEUED, INVENTORY_START; under a Comet or a tuner sweep they do nothing
    (s.holds .field false = true → s.nfcServing = true →
      exec .nfpTxQueued s =
        .next (((((t 48).setNfp fun p => { p with addTx := true })).nfcTake s.fieldEngine).nfpNext).finish ∧
      exec .inventoryStart s = .next (((t 47).setNfp fun p => { p with addInv := true }).nfpNext).finish) ∧
    (s.holds .field false = true → s.nfcServing = false →
      exec .nfpTxQueued s = .next (t 48).finish ∧ exec .inventoryStart s = .next (t 47).finish)) ∧
  -- NFC_COMMAND_SENT: of a command that waits for a response, of a TRANSMIT, of HLTA and of a step's other frames; a legacy
  -- task that 0x10 or 0x31 asks to end ends with the frame (R126)
  (∀ s : State, s.up = true →
    let stops := fun u : State => if (u.legacyTask && u.leg.stop && !u.legacyFieldOn) = true then u.legacyDone else u
    (∀ x : Exchange, s.nfp.cur = some x → x.stage = .sending →
      let blank := fun u : State => u.setNfp fun p => { p with cur := some { x with stage := .blank } }
      let gap := fun u : State => u.setNfp fun p => { p with cur := none, gap := true }
      (∀ (w : Word) (body : List Byte), x.frame = .command w body →
        let t := s.raise Ev.NFP_TX_DONE
        let ended := fun u : State => u.setNfp fun p => { p with cur := none, gap := true, ended := p.ended + 1 }
        (x.owner ≠ .legacy → nfcOp w ≠ 1 → exec .nfcCommandSent s = .next (stops (blank t)).finish) ∧
        (x.owner = .legacy → nfcOp w ≠ 1 →
          exec .nfcCommandSent s = .next (stops (blank (t.legFlag LFlag.TXDONE))).finish) ∧
        (∀ n i item, x.owner = .engine n i item → nfcOp w = 1 →
          let u := ended t
          exec .nfcCommandSent s =
            .next (stops ((if (u.place n i).item = item then u.endTransaction n i 0 else u).commandOver false)).finish) ∧
        (x.owner = .legacy → nfcOp w = 1 →
          exec .nfcCommandSent s = .next (stops ((ended (t.legFlag LFlag.TXDONE)).commandOver false)).finish)) ∧
      (∀ q : PollStep, x.frame = .hlta → s.nfp.step = some q →
        (q.kind = .presence → exec .nfcCommandSent s = .next (stops ((gap s).presenceEnds q true)).finish) ∧
        (q.kind ≠ .presence → exec .nfcCommandSent s = .next (stops (gap s).aNext).finish)) ∧
      ((∀ w body, x.frame ≠ .command w body) → x.frame ≠ .hlta → exec .nfcCommandSent s = .next (stops (blank s)).finish)) ∧
    (s.nfp.cur = none ∨ (∃ x, s.nfp.cur = some x ∧ x.stage ≠ .sending) →
      exec .nfcCommandSent s = .next (stops s).finish)) ∧
  -- NFC_RECEIVER_OPEN, with a response already under way and without
  (∀ (x : Exchange) (s : State), s.up = true → s.nfp.cur = some x → x.stage = .blank →
    let t := fun early => s.setNfp fun p => { p with cur := some { x with stage := .listening, early := early } }
    exec (.nfcReceiverOpen false) s = .next (t false).finish ∧
    exec (.nfcReceiverOpen true) s = .next (((t true).sat .NFP_CNT_FDTVIOL).raise Ev.NFP_FDT_VIOL).finish) ∧
  (∀ (early : Bool) (s : State), s.up = true → s.nfp.cur = none ∨ (∃ x, s.nfp.cur = some x ∧ x.stage ≠ .blank) →
    exec (.nfcReceiverOpen early) s = .next s.finish) ∧
  -- NFC_RESPONSE_TIMEOUT and NFC_RESPONSE_RECEIVED of a host's or a legacy command, of a step's frames and while the receiver
  -- is not open
  (∀ (x : Exchange) (r : Response) (s : State), s.up = true → s.nfp.cur = some x →
    let got := exec (.nfcResponseReceived r.bytes r.lastbits r.coll r.framing r.parity r.crcBad r.rtime r.amp) s
    (x.stage ≠ .listening → exec .nfcResponseTimeout s = .next s.finish ∧ got = .next s.finish) ∧
    (x.stage = .listening →
      (∀ (w : Word) (body : List Byte), x.frame = .command w body → x.owner ≠ .step →
        exec .nfcResponseTimeout s =
          .next (((((s.sat .NFP_CNT_TIMEOUT).raise Ev.NFP_RX_TIMEOUT).setNfp fun p =>
            { p with cur := none, gap := true }).exchangeFails x NfcErr.TIMEOUT).commandOver true).finish ∧
        got = .next (s.commandResponse x w r).finish) ∧
      (∀ q : PollStep, x.owner = .step → s.nfp.step = some q →
        (∀ a b, x.frame = .inventory 16 a b →
          exec .nfcResponseTimeout s = .next s.finish ∧ got = .next ((s.countResponse r true).vAnswer q r).finish) ∧
        (∀ n, x.frame = .sensf n → q.kind ≠ .presence →
          exec .nfcResponseTimeout s = .next s.finish ∧ got = .next ((s.countResponse r true).fAnswer q r).finish) ∧
        (∀ n, x.frame = .sensf n → q.kind = .presence →
          exec .nfcResponseTimeout s = .next (s.stepAnswer x.frame none).finish ∧
          got = .next ((s.countResponse r true).stepAnswer x.frame (some r)).finish) ∧
        -- REQA, WUPA and anticollision have no CRC, the other frames' answers have
        (x.frame = .reqa ∨ x.frame = .wupa ∨ (∃ l k, x.frame = .anticoll l k) →
          exec .nfcResponseTimeout s = .next (s.stepAnswer x.frame none).finish ∧
          got = .next ((s.countResponse r false).stepAnswer x.frame (some r)).finish) ∧
        ((∃ l p, x.frame = .select l p) ∨ (∃ a n, x.frame = .reqb a n) ∨ (∃ n, x.frame = .slotMarker n) ∨
          (∃ p, x.frame = .hltb p) ∨ x.frame = .wupb ∨ (∃ a b, x.frame = .inventory 1 a b) ∨ (∃ k, x.frame = .read2 k) ∨
          (∃ u k n, x.frame = .read5 u k n) →
          exec .nfcResponseTimeout s = .next (s.stepAnswer x.frame none).finish ∧
          got = .next ((s.countResponse r true).stepAnswer x.frame (some r)).finish)))) ∧
  (∀ (r : Response) (s : State), s.up = true → s.nfp.cur = none →
    exec .nfcResponseTimeout s = .next s.finish ∧
    exec (.nfcResponseReceived r.bytes r.lastbits r.coll r.framing r.parity r.crcBad r.rtime r.amp) s = .next s.finish) ∧
  -- INVENTORY_SLOT_EOF before the last slot, after it, with the list full, and outside an inventory
  (∀ (x : Exchange) (q : PollStep) (a b : Nat) (s : State), s.up = true → s.nfp.cur = some x →
    s.nfp.step = some q → x.frame = .inventory 16 a b → (x.stage = .blank ∨ x.stage = .listening) →
    (q.slot < 15 →
      exec .inventorySlotEof s =
        .next ((s.setStep fun q => { q with slot := q.slot + 1 }).setNfp fun p =>
          { p with cur := some { x with stage := .blank, early := false } }).finish) ∧
    (15 ≤ q.slot →
      exec .inventorySlotEof s =
        .next ((s.setNfp fun p => { p with cur := none, gap := true }).setStep fun q =>
          { q with masks := if s.nfp.full then [] else nextMask q.masks }).inventoryFrame.finish)) ∧
  (∀ s : State, s.up = true →
    s.nfp.cur = none ∨ s.nfp.step = none ∨
      (∃ x, s.nfp.cur = some x ∧ ((∀ a b, x.frame ≠ .inventory 16 a b) ∨ x.stage = .sending ∨ x.stage = .waiting)) →
    exec .inventorySlotEof s = .next s.finish) ∧
  -- SENSF_LISTEN_END: the request is repeated once for a failed slot; a presence check goes without its answer
  (∀ (x : Exchange) (q : PollStep) (a : Nat) (s : State), s.up = true → s.nfp.cur = some x → s.nfp.step = some q →
    x.frame = .sensf a → (x.stage = .blank ∨ x.stage = .listening) →
    let t := s.setNfp fun p => { p with cur := none, gap := true }
    (q.kind ≠ .presence → q.bad = false ∨ q.rounds ≠ 1 → exec .sensfListenEnd s = .next t.stepOver.finish) ∧
    (q.kind ≠ .presence → q.bad = true → q.rounds = 1 →
      exec .sensfListenEnd s =
        .next ((t.setStep fun q => { q with rounds := 2, bad := false }).stepFrame (.sensf q.slots)).finish) ∧
    (q.kind = .presence → exec .sensfListenEnd s = .next (s.stepAnswer x.frame none).finish)) ∧
  (∀ s : State, s.up = true →
    s.nfp.cur = none ∨ s.nfp.step = none ∨
      (∃ x, s.nfp.cur = some x ∧ ((∀ a, x.frame ≠ .sensf a) ∨ x.stage = .sending ∨ x.stage = .waiting)) →
    exec .sensfListenEnd s = .next s.finish) ∧
  -- NFC_HOLD_LAPSE with the queue empty; with something under way or queued nothing happens
  (∀ s : State, s.up = true →
    (s.nfcServing = true → s.nfp.serving = true → s.nfp.cur = none → s.nfp.held = none →
      s.nfp.step = none → s.legacyTask = false → (s.xing (txQ s.fieldEngine)).owned = [] →
      exec .nfcHoldLapse s = .next (s.fieldEnd .done).finish) ∧
    (s.nfcServing = false ∨ s.nfp.serving = false ∨ s.nfp.cur.isSome = true ∨ s.nfp.held.isSome = true ∨
      s.nfp.step.isSome = true ∨ s.legacyTask = true ∨ (s.xing (txQ s.fieldEngine)).owned ≠ [] →
      exec .nfcHoldLapse s = .next s.finish)) ∧
  -- TAG_LIST_CLEAR, TAG_KEEP_WRITE
  (∀ s : State, s.nativeHost = true →
    exec .tagListClear s =
      .next (s.accessed.setTags (s.accessed.nfp.tags.map fun t => if t.keep then t else Tag.none)).lateOver.finish ∧
    ∀ keep : Bool,
      let i := s.accessed.get .NFP_TAGSEL_ENTRY
      ((s.accessed.tag i).valid = true →
        exec (.tagKeepWrite keep) s = .next (s.accessed.setTag i { s.accessed.tag i with keep := keep }).lateOver.finish) ∧
      ((s.accessed.tag i).valid = false → exec (.tagKeepWrite keep) s = .next s.accessed.lateOver.finish))

/-! ### Completion: buttons, knob, plugs -/

/-- The commands of buttons, knob, plugs and pulses, each with the state it leaves. -/
def Obligations.GpiCommands : Prop :=
  -- DEBOUNCE_CHANGE: a button or a plug changes; before D samples have differed, on a pin of another mode and while the page
  -- does not watch its pins nothing changes
  (∀ (n : Fin 12) (s : State), s.up = true → s.gpiWatches = true → s.gpMode n = GpMode.BUTTON →
    (s.gpDebounce n ≤ (s.gp n).count →
      let t := s.setBitAt .GPI_LEVEL_DEB n (!s.gpActive n)
      exec (.debounceChange n) s =
        .next ((t.setGp n fun p =>
          { p with count := 0, press := if s.gpActive n then none else some t.orbitUs, longed := false,
                   lastRpt := none }).buttonEdge n (!s.gpActive n)).gpiMoment.finish) ∧
    ((s.gp n).count < s.gpDebounce n → exec (.debounceChange n) s = .next s.gpiMoment.finish)) ∧
  (∀ (n : Fin 12) (s : State), s.up = true → s.gpiWatches = true → s.gpMode n = GpMode.PLUG →
    s.gpDebounce n ≤ (s.gp n).count →
    let t := s.setBitAt .GPI_LEVEL_DEB n (!s.gpActive n)
    exec (.debounceChange n) s =
      .next ((t.setGp n fun p => { p with count := 0, press := none, longed := false, lastRpt := none }).plugChanged
        n).gpiMoment.finish) ∧
  (∀ (n : Fin 12) (s : State), s.up = true →
    s.gpiWatches = false ∨ (s.gpMode n ≠ GpMode.BUTTON ∧ s.gpMode n ≠ GpMode.PLUG) →
    exec (.debounceChange n) s = .next s.gpiMoment.finish) ∧
  -- LONG_PRESS, AUTO_REPEAT; without a press, without LONGEN or RPTEN, a second time and behind a release nothing happens
  (∀ (n : Fin 12) (k : Nat) (s : State), s.up = true → s.gpiWatches = true → s.debounceDue n = false → (s.gp n).press = some k →
    (s.bit (.GPI_CFG_LONGEN n) = true → (s.gp n).longed = false →
      exec (.longPress n) s =
        .next ((((s.advanceTo (k + s.get .GPI_LONG_LONG * 100000)).setGp n fun p =>
          { p with longed := true }).setBitAt .GPI_EVPIN_LONG n true).raise Ev.GPI_LONG_PRESS).finish) ∧
    (s.bit (.GPI_CFG_RPTEN n) = true → (s.gp n).lastRpt = none →
      exec (.autoRepeat n) s =
        .next ((((s.advanceTo (k + s.get .GPI_LONG_RDLY * 10000)).setGp n fun p =>
          { p with lastRpt := some (k + s.get .GPI_LONG_RDLY * 10000) }).setBitAt .GPI_EVPIN_RPT n true).raise
            Ev.GPI_REPEAT).finish) ∧
    (∀ l, s.bit (.GPI_CFG_RPTEN n) = true → (s.gp n).lastRpt = some l →
      exec (.autoRepeat n) s =
        .next ((((s.advanceTo (l + s.get .GPI_LONG_RIVL * 10000)).setGp n fun p =>
          { p with lastRpt := some (l + s.get .GPI_LONG_RIVL * 10000) }).setBitAt .GPI_EVPIN_RPT n true).raise
            Ev.GPI_REPEAT).finish)) ∧
  (∀ (n : Fin 12) (s : State), s.up = true →
    ((s.gp n).press = none ∨ s.gpiWatches = false ∨ s.debounceDue n = true →
      exec (.longPress n) s = .next s.finish ∧ exec (.autoRepeat n) s = .next s.finish) ∧
    (s.bit (.GPI_CFG_LONGEN n) = false ∨ (s.gp n).longed = true → exec (.longPress n) s = .next s.finish) ∧
    (s.bit (.GPI_CFG_RPTEN n) = false → exec (.autoRepeat n) s = .next s.finish)) ∧
  -- KNOB_STATE_TAKEN: the first state, an invalid transition, none, one under X4 and one towards or into the detent
  (∀ (a b : Bool) (s : State), s.up = true → s.gpiWatches = true → s.bit .GPI_KNOB_EN = true →
    let t : State := { s with gpi := { s.gpi with knob := some (a, b) } }
    let detent := s.bit .GPI_KNOB_DETENT
    (s.gpi.knob = none → exec (.knobStateTaken a b) s = .next t.finish) ∧
    (∀ old, s.gpi.knob = some old →
      (knobSign old (a, b) = none → exec (.knobStateTaken a b) s = .next ((t.sat .GPI_KNOBCNT_ERR).setKnobSub 0).finish) ∧
      (knobSign old (a, b) = some 0 → exec (.knobStateTaken a b) s = .next t.finish) ∧
      (∀ g, knobSign old (a, b) = some g → g ≠ 0 →
        let sign := if s.bit .GPI_KNOB_DIR then -g else g
        let sub := s.knobSub + sign
        (s.bit .GPI_KNOB_X4 = true → exec (.knobStateTaken a b) s = .next (t.knobStep sign).finish) ∧
        (s.bit .GPI_KNOB_X4 = false → (a, b) ≠ (detent, detent) →
          exec (.knobStateTaken a b) s = .next (t.setKnobSub sub).finish) ∧
        (s.bit .GPI_KNOB_X4 = false → (a, b) = (detent, detent) →
          (sub = 4 → exec (.knobStateTaken a b) s = .next ((t.setKnobSub 0).knobStep 1).finish) ∧
          (sub = -4 → exec (.knobStateTaken a b) s = .next ((t.setKnobSub 0).knobStep (-1)).finish) ∧
          (sub ≠ 4 → sub ≠ -4 → exec (.knobStateTaken a b) s = .next (t.setKnobSub 0).finish))))) ∧
  (∀ (a b : Bool) (s : State), s.up = true → s.gpiWatches = false ∨ s.bit .GPI_KNOB_EN = false →
    exec (.knobStateTaken a b) s = .next s.finish) ∧
  -- KNOB_CLEAR
  (∀ s : State, s.nativeHost = true → exec .knobClear s = .next (s.accessed.put .GPI_KNOBCNT_COUNT 0).lateOver.finish) ∧
  -- GP_PULSE by router task on an OUT pin, and on another pin
  (∀ (n : Fin 12) (s : State), s.up = true → s.enabled 17 = true → s.safe 17 = false → s.gpiWatches = true →
    s.takesWork 17 = true →
    let t := { s with latches := s.latches.filter (· != 68 + n.val) }
    let ms := s.get (.GPI_CFG_PW n) * (if s.bit (.GPI_CFG_UNIT n) then 100 else 1)
    (s.gpMode n = GpMode.OUT →
      exec (.gpPulse n true) s =
        .next (t.setGp n fun p => { p with pulse := some ((s.usec / 1000 + 1 + ms) * 1000) }).finish) ∧
    (s.gpMode n ≠ GpMode.OUT → exec (.gpPulse n true) s = .next (t.put .GPI_PLUGCHG_NOPULSE 1).finish)) ∧
  -- GP_PULSE by register
  (∀ (n : Fin 12) (s : State), s.nativeHost = true → exec (.gpPulse n false) s = .next (s.accessed.gpPulse n).lateOver.finish) ∧
  -- PULSE_END
  (∀ (n : Fin 12) (k : Nat) (s : State), s.up = true → (s.gp n).pulse = some k →
    exec (.pulseEnd n) s = .next ((s.advanceTo k).setGp n fun p => { p with pulse := none }).finish) ∧
  (∀ (n : Fin 12) (s : State), s.up = true → (s.gp n).pulse = none → exec (.pulseEnd n) s = .next s.finish) ∧
  -- VDD_IO_LOSS, VDD_IO_RETURN with the page watching; a knob in use adopts its levels (the model's choice, log entry 77)
  (∀ s : State, exec .vddIoLoss s = .next ({ s with pwr := { s.pwr with ioUp := false } } : State).finish) ∧
  (∀ (pins : BitVec 12) (s : State),
    let t : State := { s with pwr := { s.pwr with ioUp := true } }
    (s.up = false ∨ s.enabled 17 = false → exec (.vddIoReturn pins) s = .next t.finish) ∧
    (s.up = true → s.enabled 17 = true →
      let k : State :=
        if s.bit .GPI_KNOB_EN then
          { t with gpi := { t.gpi with knob := some (pins.toNat % 2 == 1, pins.toNat / 2 % 2 == 1) } }
        else t
      exec (.vddIoReturn pins) s =
        .next (k.forEach gpPins fun s n =>
          let u := (s.setGp n fun p => { p with level := pins.toNat / 2 ^ n % 2 == 1, pulse := none }).adopt n
          if u.gpMode n = GpMode.PLUG ∧ u.gpActive n ≠ s.gpActive n then u.plugChanged n else u).finish))

/-! ### Events, resets, Kindling -/

/-- R69: the event words of a page. -/
def Obligations.EventWords : Prop :=
  -- an occurrence sets RAW whatever EN holds, and the router receives it whether or not its bit is enabled or set
  (∀ (s : State) (e p b : Nat), eventHome e = some (p, b) → RegFile.wf s.regs = true →
    ((s.raise e).rd (Adr.PG_EVT_RAW p)).getLsbD b = true ∧ (s.raise e).raised = s.raised ++ [e]) ∧
  -- PEND reads RAW AND EN
  (∀ (p : Fin 32) (s : State), pageExists p = true →
    s.regRead (Adr.PG_EVT_PEND p) [] = (s.rd (Adr.PG_EVT_RAW p) &&& s.rd (Adr.PG_EVT_EN p), s)) ∧
  -- a 1 written to a PEND bit clears it in RAW, and therefore in PEND
  (∀ (p : Fin 32) (w : BitVec 32) (s : State), s.nativeHost = true → pageExists p = true → RegFile.wf s.accessed.regs = true →
    ∃ t, exec (.eventPendClear p w) s = .next t ∧
      t.rd (Adr.PG_EVT_RAW p) = s.accessed.rd (Adr.PG_EVT_RAW p) &&& ~~~w ∧ t.pend p = s.accessed.pend p &&& ~~~w) ∧
  -- the interrupt lines see the pages through PEND alone
  (∀ (s t : State) (b : Bool), (∀ p, s.pend p = t.pend p) → s.rd Adr.IRQ_ROUTE = t.rd Adr.IRQ_ROUTE →
    s.rd Adr.IRQ_RTR = t.rd Adr.IRQ_RTR → s.legacyView = t.legacyView → s.leg = t.leg → s.irqRequest b = t.irqRequest b)

/-- R149: failed self-checks. -/
def Obligations.KindlingFailures : Prop :=
  -- fewer than three failures: Kindling repeats and ends as without them
  (∀ (fails : Nat) (test io : Bool) (strap : Fin 3) (a1 a0 : Bool) (temp : Int) (vmain vstore : Nat) (s : State), fails < 3 →
    exec (.kindling fails test io strap a1 a0 temp vmain vstore) s = exec (.kindling 0 test io strap a1 a0 temp vmain vstore) s) ∧
  -- after the third the part holds in reset, READY 0
  (∀ (fails : Nat) (io : Bool) (strap : Fin 3) (a1 a0 : Bool) (temp : Int) (vmain vstore : Nat) (s : State),
    s.pwr.phase = .inReset → s.raised = [] → 1760 ≤ vmain → 3 ≤ fails → ∃ t,
      exec (.kindling fails false io strap a1 a0 temp vmain vstore) s = .next t ∧ t.pwr.phase = .held ∧
        t.statusByte < 128 ∧ (∀ e, e ∈ t.occ → e ∈ s.occ ++ s.evtWait) ∧
        t.rd (Adr.PG_EVT_RAW 0) = s.rd (Adr.PG_EVT_RAW 0)) ∧
  -- nothing but POR or RESET_N starts Kindling again
  (∀ (c : Instr) (s t : State), s.pwr.phase = .held → s.raised = [] → c ≠ .pinReset → (∀ mv, c ≠ .emberDomainLoss mv) →
    exec c s = .next t → t.pwr.phase = .held ∧ t.statusByte < 128 ∧ (∀ e, e ∈ t.occ → e ∈ s.occ ++ s.evtWait) ∧
      t.rd (Adr.PG_EVT_RAW 0) = s.rd (Adr.PG_EVT_RAW 0)) ∧
  (∀ s : State, s.pwr.phase = .held → s.pwr.ioUp = true → ∃ t, exec .pinReset s = .next t ∧ t.pwr.phase = .inReset) ∧
  (∀ (mv : Nat) (s : State), s.pwr.phase = .held → mv < 1400 → ∃ t,
    exec (.emberDomainLoss mv) s = .next t ∧ t.pwr.phase = .inReset)

/-- R158: below 1.40 V the Ember domain is lost and the next start is a POR. -/
def Obligations.EmberDomainLost : Prop :=
  ∀ (mv : Nat) (s : State), mv < 1400 → ∃ t, exec (.emberDomainLoss mv) s = .next t ∧
    t.pwr.por = true ∧ t.pwr.phase = .inReset ∧
    t.get .RST_CAUSE_CAUSE = 0 ∧ t.get .RST_CAUSE_COUNT = 0 ∧
    t.cal =
      { year := 0, month := 1, day := 1, hour := 0, minute := 0, second := 0, sub := 0, step := none, align := none,
        stretch := 0 } ∧
    t.get .CAL_STAT_VALID = 0 ∧ ∀ n, n < 16 → t.rd (Adr.PWR_KEEP n) = 0

/-- R11: every reset but POR keeps the registers of the Ember domain and the calendar; the other registers, the twins
of the CAL page apart (R280), take their reset values. CLK_STAT keeps CALSRC and LXO. -/
def Obligations.EmberDomainKept : Prop :=
  ∀ (s : State) (cause : Nat), RegFile.wf s.regs = true →
    (∀ a, keptWord false a = true → a ≠ Adr.CAL_STAT → (s.resetState cause).rd a = s.rd a) ∧
    (∀ a, keptWord (cause == Rst.STALL) a = false → a ≠ Adr.CLK_STAT → ¬(0x1E00 ≤ a ∧ a < 0x2000) →
      (s.resetState cause).rd a = State.reset.rd a) ∧
    (s.resetState cause).get .CLK_STAT_CALSRC = s.get .CLK_STAT_CALSRC ∧
    (s.resetState cause).get .CLK_STAT_LXO = s.get .CLK_STAT_LXO ∧
    (s.resetState cause).cal = s.cal ∧ (s.resetState cause).mem = [] ∧ (s.resetState cause).pwr.phase = .inReset

/-- R102, R159: two causes before Kindling has run are recorded as the earlier of them in the order of R159 and count
once. That such causes arise together is the model's reading (log entry 5). -/
def Obligations.ResetCauses : Prop :=
  ∀ (s : State) (a b : Nat), s.up = true → RegFile.wf s.regs = true → a ∈ rstOrder → b ∈ rstOrder →
    let t := (s.resetPart a).resetPart b
    t.get .RST_CAUSE_CAUSE = firstCause a b ∧ t.get .RST_CAUSE_COUNT = min 255 (s.get .RST_CAUSE_COUNT + 1) ∧ t.up = false

/-- A part in reset: a command that does not reach it leaves it as it is. -/
def Obligations.ResetInert : Prop :=
  ∀ (c : Instr) (s : State), s.up = false → Safety.reachesReset c = false → exec c s = .next s.finish

/-- R148: a part in reset stays in reset over every step whose command is not Kindling's. -/
def Obligations.ResetHolds : Prop :=
  ∀ s t : State, s.up = false → (∀ c rest, s.pending = c :: rest → Safety.startsPart c = false) → step s = .next t → t.up = false

/-- The state at reset: nothing waits, the part is in reset at a POR, the files are in canonical form, and registers hold
the values that the spec's tables give for reset. -/
def Obligations.ResetValues : Prop :=
  State.reset.pending = [] ∧ State.reset.occ = [] ∧ State.reset.latches = [] ∧ State.reset.up = false ∧
  State.reset.pwr.por = true ∧ Safety.Canonical State.reset ∧ Safety.calendarOk State.reset.cal = true ∧
  State.reset.rd Adr.SYS_PARTID = 0x00004864 ∧ State.reset.rd Adr.SYS_STEPID = 0x00000201 ∧
  State.reset.get .SYS_ROLE_ROLE = 0 ∧ State.reset.get .SYS_STALL_TO_TO = 10 ∧ State.reset.get .RST_CAUSE_CAUSE = 0 ∧
  State.reset.get .PWR_WARN_LVL_LVL = 8 ∧ State.reset.get .CLK_XO_TOL_TOL = 8 ∧ State.reset.get .SCH_MUTEX_FIELD_RADIO = 1 ∧
  State.reset.get (.EVR_GRP_EN_SRC 0) = 255 ∧ State.reset.get .HIF_WAIT_MAXB = 64 ∧ State.reset.get .QMX_FREECELLS_FREE = 384 ∧
  State.reset.get .SEC_CFG_FWD = 8 ∧ State.reset.get .FEC_ITER_MAX_MAX = 12 ∧ State.reset.get .NFC_TUNE_S0_C = 32 ∧
  State.reset.get (.RAD_PATAB_DBM 31) = 28 ∧ State.reset.get .PWR_EMBER_HOLDOFF = 2 ∧ State.reset.rd Adr.CAL_SNAPDATE = 0x60000101 ∧
  State.reset.cal.dateWord = 0x60000101

/-! ### Views, access errors, locks -/

/-- A host access where the host has no access: with the legacy view selected, VDD_IO absent or the part in reset, no
native register access does anything; none in the legacy view does where that view does not hold. -/
def Obligations.ViewsShutOut : Prop :=
  (∀ (c : Instr) (s : State), Safety.nativeOnly c = true → s.nativeHost = false → exec c s = .next s.finish) ∧
  (∀ (c : Instr) (s : State), Safety.legacyOnly c = true → s.legacyHost = false → exec c s = .next s.finish)

/-- R85, R94, R100: a write to an address that is no register's is ignored, raises SYS_ACC_ERR, and is recorded in
SYS_ACC_INFO where nothing is recorded yet. -/
def Obligations.AccessErrors : Prop :=
  -- misaligned, reserved space, offsets 0x200 to 0x23F
  (∀ (a : BitVec 16) (w : BitVec 32) (s : State), s.nativeHost = true →
    (a.toNat % 4 ≠ 0 ∨ 0xF000 ≤ a.toNat ∨ (0x4800 ≤ a.toNat ∧ a.toNat < 0x6000) ∨
      (a.toNat < 0x8000 ∧ 0x200 ≤ a.toNat % 0x400 ∧ a.toNat % 0x400 < 0x240)) →
    exec (.registerWrite a w) s = .next (s.accessed.accErr a.toNat true 0).lateOver.finish) ∧
  -- the base address of a staged register
  (∀ (a : BitVec 16) (w : BitVec 32) (r : RegRow) (s : State), s.nativeHost = true → a.toNat < 0x8000 → a.toNat % 4 = 0 →
    a.toNat % 0x400 < 0x200 → pageExists (a.toNat / 0x400) = true →
    findRow (pageAll (a.toNat / 0x400)) (a.toNat % 0x400) = some r → r.rs ≠ 0 →
    exec (.registerWrite a w) s = .next (s.accessed.accErr a.toNat true 0).lateOver.finish) ∧
  -- what is recorded
  (∀ (a cause : Nat) (wr pw : Bool) (s : State), RegFile.wf s.regs = true → a < 0x10000 → cause < 4 →
    s.bit .SYS_ACC_INFO_VALID = false →
    let t := s.accErr a wr cause pw
    t.bit .SYS_ACC_INFO_VALID = true ∧ t.bit .SYS_ACC_INFO_WRITE = wr ∧ t.get .SYS_ACC_INFO_CAUSE = cause ∧
      t.get .SYS_ACC_INFO_ADDR = a) ∧
  (∀ (a cause : Nat) (wr pw : Bool) (s : State), RegFile.wf s.regs = true → s.bit .SYS_ACC_INFO_VALID = true →
    (s.accErr a wr cause pw).rd Adr.SYS_ACC_INFO = s.rd Adr.SYS_ACC_INFO) ∧
  (∀ (a cause p : Nat) (wr pw : Bool) (s : State), RegFile.wf s.regs = true → pageOf a = some p →
    (s.accErr a wr cause pw).get (if pw then .PG_ERR_PENDWR p else .PG_ERR_ACC p) = 1)

/-- R71, R84: a write to a staged twin of a locked page keeps the lockable fields, takes the others, sets DIRTY, and
raises SYS_LOCK_VIOL exactly where it would change a lockable field. -/
def Obligations.LockedTwin : Prop :=
  ∀ (p : Fin 32) (off : Nat) (r : RegRow) (w : BitVec 32) (s : State), s.nativeHost = true → RegFile.wf s.accessed.regs = true →
    pageExists p = true → 0x40 ≤ off → off < 0x1C0 → off % 4 = 0 → findRow (pageAll p) off = some r → r.rs ≠ 0 →
    s.accessed.bit (.PG_CFGSTAT_PENDING p) = false → s.accessed.locked p = true →
    let a := p.val * 0x400 + off + 0x200
    let rs : Word := BitVec.ofNat 32 r.rs
    let rl : Word := BitVec.ofNat 32 r.rl
    ∃ u : State, exec (.stagedTwinWrite (BitVec.ofNat 16 a) w) s = .next u.lateOver.finish ∧
      (∀ i, rl.getLsbD i = true → (u.rd a).getLsbD i = (s.accessed.rd a).getLsbD i) ∧
      (∀ i, rs.getLsbD i = true → rl.getLsbD i = false → (u.rd a).getLsbD i = w.getLsbD i) ∧
      u.bit (.PG_CFGSTAT_DIRTY p) = true ∧
      (u.raised = s.accessed.raised ++ if (s.accessed.rd a ^^^ w) &&& rs &&& rl = 0 then [] else [Ev.SYS_LOCK_VIOL])

/-- A word stored in the peer table or, with QMX disabled, in the packet store (R37, R317): it stands there, its reserved
bits aside, and every other byte is unchanged. -/
def Obligations.MemoryStores : Prop :=
  (∀ (id : BitVec 8) (k : Fin 4) (w : BitVec 32) (s : State), s.nativeHost = true → Memory.wf s.mem = true →
    let a := peerAddr id.toNat k
    ∃ t, exec (.peerEntryWrite id k w) s = .next t ∧ t.memWord a = w &&& peerMask a ∧
      (∀ b, b < a ∨ a + 4 ≤ b → t.byteAt b = s.byteAt b) ∧ Memory.wf t.mem = true ∧ t.regs = s.accessed.regs) ∧
  (∀ (a : BitVec 16) (w : BitVec 32) (s : State), s.nativeHost = true → Memory.wf s.mem = true → a.toNat % 4 = 0 →
    0x8000 ≤ a.toNat → a.toNat < 0xE000 →
    (s.accessed.enabled 9 = false → ∃ t, exec (.storeWindowWrite a w) s = .next t ∧ t.memWord a.toNat = w ∧
      (∀ b, b < a.toNat ∨ a.toNat + 4 ≤ b → t.byteAt b = s.byteAt b) ∧ Memory.wf t.mem = true ∧ t.regs = s.accessed.regs) ∧
    (s.accessed.enabled 9 = true → ∃ t, exec (.storeWindowWrite a w) s = .next t ∧ t.mem = s.mem))

/-! ### Blocks -/

/-- R303: a push item that needs more cells than the queue has credits. -/
def Obligations.PushTooBig : Prop :=
  ∀ (n : Fin 8) (words : List (BitVec 32)) (s : State), s.nativeHost = true → RegFile.wf s.accessed.regs = true → words ≠ [] →
    words.length ≤ 64 → 4 ≤ s.accessed.pushFree → s.accessed.enabled 9 = true →
    s.accessed.get (.LE_TXCRED_INIT n) < cellsOfWords words.length →
    ∃ t, exec (.hostQueuePush n words) s = .next t ∧ t.xings = s.xings ∧ t.engines = s.engines ∧
      (t.rd (Adr.PG_EVT_RAW (24 + n))).getLsbD 2 = true ∧ t.bit (.LE_FAILINFO_VALID n) = true ∧
      t.get (.LE_FAILINFO_CAUSE n) = LeCause.TOOBIG

/-- R177: one periodic sample of a comparator of level l, hysteresis h and dwell d. -/
def Obligations.ComparatorRule : Prop :=
  ∀ (l h filt : Int) (d count : Nat),
    -- beyond and returned, for POL 0 and POL 1
    (∀ below : Bool,
      let beyond := if below then filt ≤ l else l ≤ filt
      let returned := if below then l + h ≤ filt else filt ≤ l - h
      -- ARMED counts samples beyond, TRIPPED samples returned; the d-th changes the state and sets the count to 0
      (beyond → count + 1 < d → comparatorStep below l h d false count filt = (false, count + 1)) ∧
      (beyond → d ≤ count + 1 → comparatorStep below l h d false count filt = (true, 0)) ∧
      (returned → count + 1 < d → comparatorStep below l h d true count filt = (true, count + 1)) ∧
      (returned → d ≤ count + 1 → comparatorStep below l h d true count filt = (false, 0)) ∧
      -- any other sample sets the count to 0
      (¬ beyond → comparatorStep below l h d false count filt = (false, 0)) ∧
      (¬ returned → comparatorStep below l h d true count filt = (true, 0)))

/-- R258, R259: what one occurrence requests. A channel fires where its EN was 1 before the occurrence and its SRC
names the event; it fires on the occurrence that disables it and not on the one that enables it. A TASK from 96 to 127
requests NOP. -/
def Obligations.RouterFires : Prop :=
  ∀ (s : State) (e : Nat), e < 192 → s.routerOn = true → RegFile.wf s.regs = true →
    let task := fun (i : Nat) => if s.get (.EVR_CH_TASK i) < 96 then s.get (.EVR_CH_TASK i) else Task.NOP
    (∀ i, i < 32 → s.bit (.EVR_CH_EN i) = true → s.get (.EVR_CH_SRC i) = e → task i ∈ (s.routeOccurrence e).latches) ∧
    (∀ n, n ∈ (s.routeOccurrence e).latches →
      n ∈ s.latches ∨ ∃ i, i < 32 ∧ s.bit (.EVR_CH_EN i) = true ∧ s.get (.EVR_CH_SRC i) = e ∧ task i = n)

/-- R497: no register shows key material: what the host reads at any address does not depend on the keys held or on the
words written to SEC_KEY0 to SEC_KEY3. -/
def Obligations.KeysUnreadable : Prop :=
  ∀ (s : State) (keys : List (Option (List Byte))) (keyIn : List Word) (a : Nat) (ecc : List (Nat × Bool)),
    (({ s with sec := { s.sec with keys := keys, keyIn := keyIn } } : State).regRead a ecc).1 = (s.regRead a ecc).1

/-- R498, R499: a locked slot keeps its key over every key command, over a zeroise of the unlocked slots and over the key
sink, and it stays locked. -/
def Obligations.LockedSlots : Prop :=
  ∀ (n : Nat) (s : State), n < 32 → RegFile.wf s.regs = true → s.keyLocked n = true →
    (s.keyComplete.keyOf n = s.keyOf n ∧ s.keyComplete.keyLocked n = true) ∧
    (s.zeroiseAll.keyOf n = s.keyOf n ∧ s.zeroiseAll.keyLocked n = true) ∧
    ∀ p, (s.sinkExamine p).2.keyOf n = s.keyOf n ∧ (s.sinkExamine p).2.keyLocked n = true

/-- R277, R278, R279: the calendar holds a date and a time over every second and every hour step. -/
def Obligations.CalendarValid : Prop :=
  (∀ c : Calendar, Safety.calendarOk c = true → Safety.calendarOk c.nextSecond = true ∧
    ∀ f, Safety.calendarOk (c.hourStep f) = true) ∧
  (∀ (s t : State), Safety.calendarOk s.cal = true → s.up = true → s.cal.align = none → exec .calSecondBoundary s = .next t →
    Safety.calendarOk t.cal = true)

/-- R277, R279: the weekday of the day after a date is the next one of the week, over the whole range and its wrap. -/
def Obligations.WeekdayFollows : Prop :=
  ∀ c : Calendar, Safety.calendarOk c = true →
    weekday c.nextDay.year c.nextDay.month c.nextDay.day = weekday c.year c.month c.day % 7 + 1

/-- R529, R530: with X4 0 the knob steps only on entry into the detent state, by the four transitions since the last one;
every other valid transition only moves SUB. -/
def Obligations.KnobDetents : Prop :=
  ∀ (old new : Bool × Bool) (g : Int) (s : State), s.up = true → s.gpiWatches = true → RegFile.wf s.regs = true →
    s.bit .GPI_KNOB_EN = true → s.bit .GPI_KNOB_X4 = false → s.gpi.knob = some old → knobSign old new = some g → g ≠ 0 →
    let sign := if s.bit .GPI_KNOB_DIR then -g else g
    let t : State := { s with gpi := { s.gpi with knob := some new } }
    let detent := s.bit .GPI_KNOB_DETENT
    (new ≠ (detent, detent) → exec (.knobStateTaken new.1 new.2) s = .next (t.setKnobSub (s.knobSub + sign)).finish) ∧
    (new = (detent, detent) → s.knobSub + sign = 4 →
      exec (.knobStateTaken new.1 new.2) s = .next ((t.setKnobSub 0).knobStep 1).finish) ∧
    (new = (detent, detent) → s.knobSub + sign = -4 →
      exec (.knobStateTaken new.1 new.2) s = .next ((t.setKnobSub 0).knobStep (-1)).finish) ∧
    (new = (detent, detent) → s.knobSub + sign ≠ 4 → s.knobSub + sign ≠ -4 →
      exec (.knobStateTaken new.1 new.2) s = .next (t.setKnobSub 0).finish)

/-! ### Frames, codes, ciphers -/

/-- R340: the check values over the ASCII string 123456789. -/
def Obligations.CheckValues : Prop :=
  let l : List Byte := [0x31, 0x32, 0x33, 0x34, 0x35, 0x36, 0x37, 0x38, 0x39]
  crc8 l = 0xF4 ∧ crc16 l = 0x29B1 ∧ crc32 l = 0xCBF43926 ∧
  crc16Bytes l = [0x29, 0xB1] ∧ crc32Bytes l = [0x26, 0x39, 0xF4, 0xCB]

/-- R363, R365: the levels of M3 bit pairs and M1 bits, in thirds of A; M2 pads a frame with zero bits to a multiple of 3
and never sends the pair of zero levels (R364); a burst is its preamble and sync word followed by the frame's bits (R366),
as many units as it takes of its window (R362), and INV negates every level (R384). -/
def Obligations.LineLevels : Prop :=
  -- M3: a stream of bit pairs, the first bit of a pair the first stream bit
  (∀ (a b : Bool) (l : List Bool),
    m3Levels (a :: b :: l) =
      (match a, b with
        | false, false => -3
        | false, true => -1
        | true, true => 1
        | true, false => 3) :: m3Levels l) ∧
  -- M1: two halves of 1440 XO cycles
  (∀ (b : Bool) (l : List Bool), m1Levels (b :: l) = (if b then [-3, 3] else [3, -3]) ++ m1Levels l) ∧ unitXo 1 = 2 * 1440 ∧
  -- M2
  (∀ a b c : Bool, m2Pair a b c ≠ (0, 0)) ∧
  (∀ l : List Bool, (m2Padded l).length % 3 = 0 ∧ (m2Padded l).length < l.length + 3 ∧ (m2Padded l).take l.length = l ∧
    (m2Padded l).drop l.length = List.replicate ((m2Padded l).length - l.length) false) ∧
  -- a burst
  (∀ f : TxFrame, f.lineLevels.take (lineHead f.gen).length = lineHead f.gen) ∧
  (∀ f : TxFrame, f.gen = 3 → f.lineLevels.length = f.lineUnits) ∧
  (∀ f : TxFrame, f.gen = 2 → f.lineLevels.length = f.lineUnits) ∧
  (∀ f : TxFrame, f.gen = 1 → f.lineLevels.length = 2 * f.lineUnits) ∧
  (∀ (id : Nat) (f : TxFrame) (s : State), s.line.sending = some id → s.txFrame id = some f →
    (s.bit .WIR_STAT_INV = false → s.lineLevels = f.lineLevels) ∧
    (s.bit .WIR_STAT_INV = true → s.lineLevels = f.lineLevels.map fun v => -v))

/-- R341: whitening, and its undoing with the same sequence. -/
def Obligations.Whitening : Prop :=
  -- each frame bit is XORed with one output bit of a generator that starts at 0x1FF
  (∀ l : List Bool, whiten l = whitenFrom (0x1FF#9).toNat l) ∧
  (∀ (s : BitVec 9) (b : Bool) (l : List Bool),
    whitenFrom s.toNat (b :: l) =
      (b ^^ s.getLsbD 0) :: whitenFrom ((s >>> 1) ||| (if s.getLsbD 0 ^^ s.getLsbD 5 then 0x100#9 else 0#9)).toNat l) ∧
  -- the first nine output bits are 1
  (∀ l : List Bool, (whiten (List.replicate 9 false ++ l)).take 9 = List.replicate 9 true) ∧
  (∀ l : List Bool, whiten (whiten l) = l)

/-- R335, R338: the header read from the bytes of a header is that header, with every field at every value its layout
admits; HDRCHK is the CRC-8 of bytes 0 to 5. -/
def Obligations.HeaderRoundTrip : Prop :=
  (∀ (h : Header) (l : List Byte), Safety.headerOk false h = true →
    readCoded (h.bytes false ++ l) = h ∧ (h.bytes false).length = 8 ∧ at8 (h.bytes false) 7 = crc8 ((h.bytes false).take 6)) ∧
  (∀ (h : Header) (l : List Byte), Safety.headerOk true h = true →
    readLegacy (h.bytes true ++ l) = h ∧ (h.bytes true).length = 4)

/-- R344: the encoder is systematic, and every codeword satisfies every check of its code. -/
def Obligations.CodewordsSatisfyChecks : Prop :=
  ∀ (c : Nat) (u : List Bool), c < 4 → u.length = codeK c →
    (encodeWord c u).length = codeN c ∧ (encodeWord c u).take (codeK c) = u ∧ syndromeZero c (encodeWord c u) = true

/-- R493: what CCM* protects verifies under the same key, nonce and additional data, and gives the message back. -/
def Obligations.CcmRoundTrip : Prop :=
  ∀ (key nonce aad msg : List Byte) (m : Nat), key.length = 16 → m ≤ 16 →
    ccmVerify key nonce aad ((ccmProtect key nonce aad msg m).take msg.length) ((ccmProtect key nonce aad msg m).drop msg.length) =
      some msg

/-- R500: a wrapped key is 24 bytes and unwraps to itself. -/
def Obligations.KeyWrapRoundTrip : Prop :=
  ∀ kek key : List Byte, kek.length = 16 → key.length = 16 →
    (keyWrap kek key).length = 24 ∧ keyUnwrap kek (keyWrap kek key) = some key
end

