-- ==== Sys2Proof/Laws/State.lean ====
section
/-! SUPPORT. What each basic update of the state leaves as it was: one lemma per field and update. -/

namespace Sys2Proof.Machine

/-! A register word -/

@[simp] theorem State.wr_pending (s : State) (a : Nat) (w : Word) : (s.wr a w).pending = s.pending := rfl
@[simp] theorem State.wr_mem (s : State) (a : Nat) (w : Word) : (s.wr a w).mem = s.mem := rfl
@[simp] theorem State.wr_ctr (s : State) (a : Nat) (w : Word) : (s.wr a w).ctr = s.ctr := rfl
@[simp] theorem State.wr_cyc (s : State) (a : Nat) (w : Word) : (s.wr a w).cyc = s.cyc := rfl
@[simp] theorem State.wr_raised (s : State) (a : Nat) (w : Word) : (s.wr a w).raised = s.raised := rfl
@[simp] theorem State.wr_occ (s : State) (a : Nat) (w : Word) : (s.wr a w).occ = s.occ := rfl
@[simp] theorem State.wr_evtWait (s : State) (a : Nat) (w : Word) : (s.wr a w).evtWait = s.evtWait := rfl
@[simp] theorem State.wr_latches (s : State) (a : Nat) (w : Word) : (s.wr a w).latches = s.latches := rfl
@[simp] theorem State.wr_irqReleasedA (s : State) (a : Nat) (w : Word) : (s.wr a w).irqReleasedA = s.irqReleasedA := rfl
@[simp] theorem State.wr_irqReleasedB (s : State) (a : Nat) (w : Word) : (s.wr a w).irqReleasedB = s.irqReleasedB := rfl
@[simp] theorem State.wr_ids (s : State) (a : Nat) (w : Word) : (s.wr a w).ids = s.ids := rfl
@[simp] theorem State.wr_xings (s : State) (a : Nat) (w : Word) : (s.wr a w).xings = s.xings := rfl
@[simp] theorem State.wr_used (s : State) (a : Nat) (w : Word) : (s.wr a w).used = s.used := rfl
@[simp] theorem State.wr_stuck (s : State) (a : Nat) (w : Word) : (s.wr a w).stuck = s.stuck := rfl
@[simp] theorem State.wr_stallReset (s : State) (a : Nat) (w : Word) : (s.wr a w).stallReset = s.stallReset := rfl
@[simp] theorem State.wr_hostOut (s : State) (a : Nat) (w : Word) : (s.wr a w).hostOut = s.hostOut := rfl
@[simp] theorem State.wr_cmt (s : State) (a : Nat) (w : Word) : (s.wr a w).cmt = s.cmt := rfl
@[simp] theorem State.wr_pwr (s : State) (a : Nat) (w : Word) : (s.wr a w).pwr = s.pwr := rfl
@[simp] theorem State.wr_thm (s : State) (a : Nat) (w : Word) : (s.wr a w).thm = s.thm := rfl
@[simp] theorem State.wr_sch (s : State) (a : Nat) (w : Word) : (s.wr a w).sch = s.sch := rfl
@[simp] theorem State.wr_clk (s : State) (a : Nat) (w : Word) : (s.wr a w).clk = s.clk := rfl
@[simp] theorem State.wr_cal (s : State) (a : Nat) (w : Word) : (s.wr a w).cal = s.cal := rfl
@[simp] theorem State.wr_engines (s : State) (a : Nat) (w : Word) : (s.wr a w).engines = s.engines := rfl
@[simp] theorem State.wr_tx (s : State) (a : Nat) (w : Word) : (s.wr a w).tx = s.tx := rfl
@[simp] theorem State.wr_rx (s : State) (a : Nat) (w : Word) : (s.wr a w).rx = s.rx := rfl
@[simp] theorem State.wr_fec (s : State) (a : Nat) (w : Word) : (s.wr a w).fec = s.fec := rfl
@[simp] theorem State.wr_leg (s : State) (a : Nat) (w : Word) : (s.wr a w).leg = s.leg := rfl
@[simp] theorem State.wr_sec (s : State) (a : Nat) (w : Word) : (s.wr a w).sec = s.sec := rfl
@[simp] theorem State.wr_line (s : State) (a : Nat) (w : Word) : (s.wr a w).line = s.line := rfl
@[simp] theorem State.wr_rad (s : State) (a : Nat) (w : Word) : (s.wr a w).rad = s.rad := rfl
@[simp] theorem State.wr_rdm (s : State) (a : Nat) (w : Word) : (s.wr a w).rdm = s.rdm := rfl
@[simp] theorem State.wr_nfc (s : State) (a : Nat) (w : Word) : (s.wr a w).nfc = s.nfc := rfl
@[simp] theorem State.wr_nfp (s : State) (a : Nat) (w : Word) : (s.wr a w).nfp = s.nfp := rfl
@[simp] theorem State.wr_gpi (s : State) (a : Nat) (w : Word) : (s.wr a w).gpi = s.gpi := rfl
@[simp] theorem State.wr_hif (s : State) (a : Nat) (w : Word) : (s.wr a w).hif = s.hif := rfl
@[simp] theorem State.wr_regs (s : State) (a : Nat) (w : Word) : (s.wr a w).regs = RegFile.set s.regs a w := rfl

/-! A field -/

@[simp] theorem State.put_pending (s : State) (f : Fld) (v : Nat) : (s.put f v).pending = s.pending := rfl
@[simp] theorem State.put_mem (s : State) (f : Fld) (v : Nat) : (s.put f v).mem = s.mem := rfl
@[simp] theorem State.put_ctr (s : State) (f : Fld) (v : Nat) : (s.put f v).ctr = s.ctr := rfl
@[simp] theorem State.put_cyc (s : State) (f : Fld) (v : Nat) : (s.put f v).cyc = s.cyc := rfl
@[simp] theorem State.put_raised (s : State) (f : Fld) (v : Nat) : (s.put f v).raised = s.raised := rfl
@[simp] theorem State.put_occ (s : State) (f : Fld) (v : Nat) : (s.put f v).occ = s.occ := rfl
@[simp] theorem State.put_evtWait (s : State) (f : Fld) (v : Nat) : (s.put f v).evtWait = s.evtWait := rfl
@[simp] theorem State.put_latches (s : State) (f : Fld) (v : Nat) : (s.put f v).latches = s.latches := rfl
@[simp] theorem State.put_irqReleasedA (s : State) (f : Fld) (v : Nat) : (s.put f v).irqReleasedA = s.irqReleasedA := rfl
@[simp] theorem State.put_irqReleasedB (s : State) (f : Fld) (v : Nat) : (s.put f v).irqReleasedB = s.irqReleasedB := rfl
@[simp] theorem State.put_ids (s : State) (f : Fld) (v : Nat) : (s.put f v).ids = s.ids := rfl
@[simp] theorem State.put_xings (s : State) (f : Fld) (v : Nat) : (s.put f v).xings = s.xings := rfl
@[simp] theorem State.put_used (s : State) (f : Fld) (v : Nat) : (s.put f v).used = s.used := rfl
@[simp] theorem State.put_stuck (s : State) (f : Fld) (v : Nat) : (s.put f v).stuck = s.stuck := rfl
@[simp] theorem State.put_stallReset (s : State) (f : Fld) (v : Nat) : (s.put f v).stallReset = s.stallReset := rfl
@[simp] theorem State.put_hostOut (s : State) (f : Fld) (v : Nat) : (s.put f v).hostOut = s.hostOut := rfl
@[simp] theorem State.put_cmt (s : State) (f : Fld) (v : Nat) : (s.put f v).cmt = s.cmt := rfl
@[simp] theorem State.put_pwr (s : State) (f : Fld) (v : Nat) : (s.put f v).pwr = s.pwr := rfl
@[simp] theorem State.put_thm (s : State) (f : Fld) (v : Nat) : (s.put f v).thm = s.thm := rfl
@[simp] theorem State.put_sch (s : State) (f : Fld) (v : Nat) : (s.put f v).sch = s.sch := rfl
@[simp] theorem State.put_clk (s : State) (f : Fld) (v : Nat) : (s.put f v).clk = s.clk := rfl
@[simp] theorem State.put_cal (s : State) (f : Fld) (v : Nat) : (s.put f v).cal = s.cal := rfl
@[simp] theorem State.put_engines (s : State) (f : Fld) (v : Nat) : (s.put f v).engines = s.engines := rfl
@[simp] theorem State.put_tx (s : State) (f : Fld) (v : Nat) : (s.put f v).tx = s.tx := rfl
@[simp] theorem State.put_rx (s : State) (f : Fld) (v : Nat) : (s.put f v).rx = s.rx := rfl
@[simp] theorem State.put_fec (s : State) (f : Fld) (v : Nat) : (s.put f v).fec = s.fec := rfl
@[simp] theorem State.put_leg (s : State) (f : Fld) (v : Nat) : (s.put f v).leg = s.leg := rfl
@[simp] theorem State.put_sec (s : State) (f : Fld) (v : Nat) : (s.put f v).sec = s.sec := rfl
@[simp] theorem State.put_line (s : State) (f : Fld) (v : Nat) : (s.put f v).line = s.line := rfl
@[simp] theorem State.put_rad (s : State) (f : Fld) (v : Nat) : (s.put f v).rad = s.rad := rfl
@[simp] theorem State.put_rdm (s : State) (f : Fld) (v : Nat) : (s.put f v).rdm = s.rdm := rfl
@[simp] theorem State.put_nfc (s : State) (f : Fld) (v : Nat) : (s.put f v).nfc = s.nfc := rfl
@[simp] theorem State.put_nfp (s : State) (f : Fld) (v : Nat) : (s.put f v).nfp = s.nfp := rfl
@[simp] theorem State.put_gpi (s : State) (f : Fld) (v : Nat) : (s.put f v).gpi = s.gpi := rfl
@[simp] theorem State.put_hif (s : State) (f : Fld) (v : Nat) : (s.put f v).hif = s.hif := rfl

/-! A one-bit field -/

@[simp] theorem State.putBit_pending (s : State) (f : Fld) (b : Bool) : (s.putBit f b).pending = s.pending := rfl
@[simp] theorem State.putBit_mem (s : State) (f : Fld) (b : Bool) : (s.putBit f b).mem = s.mem := rfl
@[simp] theorem State.putBit_ctr (s : State) (f : Fld) (b : Bool) : (s.putBit f b).ctr = s.ctr := rfl
@[simp] theorem State.putBit_cyc (s : State) (f : Fld) (b : Bool) : (s.putBit f b).cyc = s.cyc := rfl
@[simp] theorem State.putBit_raised (s : State) (f : Fld) (b : Bool) : (s.putBit f b).raised = s.raised := rfl
@[simp] theorem State.putBit_occ (s : State) (f : Fld) (b : Bool) : (s.putBit f b).occ = s.occ := rfl
@[simp] theorem State.putBit_evtWait (s : State) (f : Fld) (b : Bool) : (s.putBit f b).evtWait = s.evtWait := rfl
@[simp] theorem State.putBit_latches (s : State) (f : Fld) (b : Bool) : (s.putBit f b).latches = s.latches := rfl
@[simp] theorem State.putBit_irqReleasedA (s : State) (f : Fld) (b : Bool) : (s.putBit f b).irqReleasedA = s.irqReleasedA := rfl
@[simp] theorem State.putBit_irqReleasedB (s : State) (f : Fld) (b : Bool) : (s.putBit f b).irqReleasedB = s.irqReleasedB := rfl
@[simp] theorem State.putBit_ids (s : State) (f : Fld) (b : Bool) : (s.putBit f b).ids = s.ids := rfl
@[simp] theorem State.putBit_xings (s : State) (f : Fld) (b : Bool) : (s.putBit f b).xings = s.xings := rfl
@[simp] theorem State.putBit_used (s : State) (f : Fld) (b : Bool) : (s.putBit f b).used = s.used := rfl
@[simp] theorem State.putBit_stuck (s : State) (f : Fld) (b : Bool) : (s.putBit f b).stuck = s.stuck := rfl
@[simp] theorem State.putBit_stallReset (s : State) (f : Fld) (b : Bool) : (s.putBit f b).stallReset = s.stallReset := rfl
@[simp] theorem State.putBit_hostOut (s : State) (f : Fld) (b : Bool) : (s.putBit f b).hostOut = s.hostOut := rfl
@[simp] theorem State.putBit_cmt (s : State) (f : Fld) (b : Bool) : (s.putBit f b).cmt = s.cmt := rfl
@[simp] theorem State.putBit_pwr (s : State) (f : Fld) (b : Bool) : (s.putBit f b).pwr = s.pwr := rfl
@[simp] theorem State.putBit_thm (s : State) (f : Fld) (b : Bool) : (s.putBit f b).thm = s.thm := rfl
@[simp] theorem State.putBit_sch (s : State) (f : Fld) (b : Bool) : (s.putBit f b).sch = s.sch := rfl
@[simp] theorem State.putBit_clk (s : State) (f : Fld) (b : Bool) : (s.putBit f b).clk = s.clk := rfl
@[simp] theorem State.putBit_cal (s : State) (f : Fld) (b : Bool) : (s.putBit f b).cal = s.cal := rfl
@[simp] theorem State.putBit_engines (s : State) (f : Fld) (b : Bool) : (s.putBit f b).engines = s.engines := rfl
@[simp] theorem State.putBit_tx (s : State) (f : Fld) (b : Bool) : (s.putBit f b).tx = s.tx := rfl
@[simp] theorem State.putBit_rx (s : State) (f : Fld) (b : Bool) : (s.putBit f b).rx = s.rx := rfl
@[simp] theorem State.putBit_fec (s : State) (f : Fld) (b : Bool) : (s.putBit f b).fec = s.fec := rfl
@[simp] theorem State.putBit_leg (s : State) (f : Fld) (b : Bool) : (s.putBit f b).leg = s.leg := rfl
@[simp] theorem State.putBit_sec (s : State) (f : Fld) (b : Bool) : (s.putBit f b).sec = s.sec := rfl
@[simp] theorem State.putBit_line (s : State) (f : Fld) (b : Bool) : (s.putBit f b).line = s.line := rfl
@[simp] theorem State.putBit_rad (s : State) (f : Fld) (b : Bool) : (s.putBit f b).rad = s.rad := rfl
@[simp] theorem State.putBit_rdm (s : State) (f : Fld) (b : Bool) : (s.putBit f b).rdm = s.rdm := rfl
@[simp] theorem State.putBit_nfc (s : State) (f : Fld) (b : Bool) : (s.putBit f b).nfc = s.nfc := rfl
@[simp] theorem State.putBit_nfp (s : State) (f : Fld) (b : Bool) : (s.putBit f b).nfp = s.nfp := rfl
@[simp] theorem State.putBit_gpi (s : State) (f : Fld) (b : Bool) : (s.putBit f b).gpi = s.gpi := rfl
@[simp] theorem State.putBit_hif (s : State) (f : Fld) (b : Bool) : (s.putBit f b).hif = s.hif := rfl

/-! A counter field -/

@[simp] theorem State.sat_pending (s : State) (f : Fld) (k : Nat) : (s.sat f k).pending = s.pending := rfl
@[simp] theorem State.sat_mem (s : State) (f : Fld) (k : Nat) : (s.sat f k).mem = s.mem := rfl
@[simp] theorem State.sat_ctr (s : State) (f : Fld) (k : Nat) : (s.sat f k).ctr = s.ctr := rfl
@[simp] theorem State.sat_cyc (s : State) (f : Fld) (k : Nat) : (s.sat f k).cyc = s.cyc := rfl
@[simp] theorem State.sat_raised (s : State) (f : Fld) (k : Nat) : (s.sat f k).raised = s.raised := rfl
@[simp] theorem State.sat_occ (s : State) (f : Fld) (k : Nat) : (s.sat f k).occ = s.occ := rfl
@[simp] theorem State.sat_evtWait (s : State) (f : Fld) (k : Nat) : (s.sat f k).evtWait = s.evtWait := rfl
@[simp] theorem State.sat_latches (s : State) (f : Fld) (k : Nat) : (s.sat f k).latches = s.latches := rfl
@[simp] theorem State.sat_irqReleasedA (s : State) (f : Fld) (k : Nat) : (s.sat f k).irqReleasedA = s.irqReleasedA := rfl
@[simp] theorem State.sat_irqReleasedB (s : State) (f : Fld) (k : Nat) : (s.sat f k).irqReleasedB = s.irqReleasedB := rfl
@[simp] theorem State.sat_ids (s : State) (f : Fld) (k : Nat) : (s.sat f k).ids = s.ids := rfl
@[simp] theorem State.sat_xings (s : State) (f : Fld) (k : Nat) : (s.sat f k).xings = s.xings := rfl
@[simp] theorem State.sat_used (s : State) (f : Fld) (k : Nat) : (s.sat f k).used = s.used := rfl
@[simp] theorem State.sat_stuck (s : State) (f : Fld) (k : Nat) : (s.sat f k).stuck = s.stuck := rfl
@[simp] theorem State.sat_stallReset (s : State) (f : Fld) (k : Nat) : (s.sat f k).stallReset = s.stallReset := rfl
@[simp] theorem State.sat_hostOut (s : State) (f : Fld) (k : Nat) : (s.sat f k).hostOut = s.hostOut := rfl
@[simp] theorem State.sat_cmt (s : State) (f : Fld) (k : Nat) : (s.sat f k).cmt = s.cmt := rfl
@[simp] theorem State.sat_pwr (s : State) (f : Fld) (k : Nat) : (s.sat f k).pwr = s.pwr := rfl
@[simp] theorem State.sat_thm (s : State) (f : Fld) (k : Nat) : (s.sat f k).thm = s.thm := rfl
@[simp] theorem State.sat_sch (s : State) (f : Fld) (k : Nat) : (s.sat f k).sch = s.sch := rfl
@[simp] theorem State.sat_clk (s : State) (f : Fld) (k : Nat) : (s.sat f k).clk = s.clk := rfl
@[simp] theorem State.sat_cal (s : State) (f : Fld) (k : Nat) : (s.sat f k).cal = s.cal := rfl
@[simp] theorem State.sat_engines (s : State) (f : Fld) (k : Nat) : (s.sat f k).engines = s.engines := rfl
@[simp] theorem State.sat_tx (s : State) (f : Fld) (k : Nat) : (s.sat f k).tx = s.tx := rfl
@[simp] theorem State.sat_rx (s : State) (f : Fld) (k : Nat) : (s.sat f k).rx = s.rx := rfl
@[simp] theorem State.sat_fec (s : State) (f : Fld) (k : Nat) : (s.sat f k).fec = s.fec := rfl
@[simp] theorem State.sat_leg (s : State) (f : Fld) (k : Nat) : (s.sat f k).leg = s.leg := rfl
@[simp] theorem State.sat_sec (s : State) (f : Fld) (k : Nat) : (s.sat f k).sec = s.sec := rfl
@[simp] theorem State.sat_line (s : State) (f : Fld) (k : Nat) : (s.sat f k).line = s.line := rfl
@[simp] theorem State.sat_rad (s : State) (f : Fld) (k : Nat) : (s.sat f k).rad = s.rad := rfl
@[simp] theorem State.sat_rdm (s : State) (f : Fld) (k : Nat) : (s.sat f k).rdm = s.rdm := rfl
@[simp] theorem State.sat_nfc (s : State) (f : Fld) (k : Nat) : (s.sat f k).nfc = s.nfc := rfl
@[simp] theorem State.sat_nfp (s : State) (f : Fld) (k : Nat) : (s.sat f k).nfp = s.nfp := rfl
@[simp] theorem State.sat_gpi (s : State) (f : Fld) (k : Nat) : (s.sat f k).gpi = s.gpi := rfl
@[simp] theorem State.sat_hif (s : State) (f : Fld) (k : Nat) : (s.sat f k).hif = s.hif := rfl

/-! A wrapping field -/

@[simp] theorem State.wrap_pending (s : State) (f : Fld) (k : Nat) : (s.wrap f k).pending = s.pending := rfl
@[simp] theorem State.wrap_mem (s : State) (f : Fld) (k : Nat) : (s.wrap f k).mem = s.mem := rfl
@[simp] theorem State.wrap_ctr (s : State) (f : Fld) (k : Nat) : (s.wrap f k).ctr = s.ctr := rfl
@[simp] theorem State.wrap_cyc (s : State) (f : Fld) (k : Nat) : (s.wrap f k).cyc = s.cyc := rfl
@[simp] theorem State.wrap_raised (s : State) (f : Fld) (k : Nat) : (s.wrap f k).raised = s.raised := rfl
@[simp] theorem State.wrap_occ (s : State) (f : Fld) (k : Nat) : (s.wrap f k).occ = s.occ := rfl
@[simp] theorem State.wrap_evtWait (s : State) (f : Fld) (k : Nat) : (s.wrap f k).evtWait = s.evtWait := rfl
@[simp] theorem State.wrap_latches (s : State) (f : Fld) (k : Nat) : (s.wrap f k).latches = s.latches := rfl
@[simp] theorem State.wrap_irqReleasedA (s : State) (f : Fld) (k : Nat) : (s.wrap f k).irqReleasedA = s.irqReleasedA := rfl
@[simp] theorem State.wrap_irqReleasedB (s : State) (f : Fld) (k : Nat) : (s.wrap f k).irqReleasedB = s.irqReleasedB := rfl
@[simp] theorem State.wrap_ids (s : State) (f : Fld) (k : Nat) : (s.wrap f k).ids = s.ids := rfl
@[simp] theorem State.wrap_xings (s : State) (f : Fld) (k : Nat) : (s.wrap f k).xings = s.xings := rfl
@[simp] theorem State.wrap_used (s : State) (f : Fld) (k : Nat) : (s.wrap f k).used = s.used := rfl
@[simp] theorem State.wrap_stuck (s : State) (f : Fld) (k : Nat) : (s.wrap f k).stuck = s.stuck := rfl
@[simp] theorem State.wrap_stallReset (s : State) (f : Fld) (k : Nat) : (s.wrap f k).stallReset = s.stallReset := rfl
@[simp] theorem State.wrap_hostOut (s : State) (f : Fld) (k : Nat) : (s.wrap f k).hostOut = s.hostOut := rfl
@[simp] theorem State.wrap_cmt (s : State) (f : Fld) (k : Nat) : (s.wrap f k).cmt = s.cmt := rfl
@[simp] theorem State.wrap_pwr (s : State) (f : Fld) (k : Nat) : (s.wrap f k).pwr = s.pwr := rfl
@[simp] theorem State.wrap_thm (s : State) (f : Fld) (k : Nat) : (s.wrap f k).thm = s.thm := rfl
@[simp] theorem State.wrap_sch (s : State) (f : Fld) (k : Nat) : (s.wrap f k).sch = s.sch := rfl
@[simp] theorem State.wrap_clk (s : State) (f : Fld) (k : Nat) : (s.wrap f k).clk = s.clk := rfl
@[simp] theorem State.wrap_cal (s : State) (f : Fld) (k : Nat) : (s.wrap f k).cal = s.cal := rfl
@[simp] theorem State.wrap_engines (s : State) (f : Fld) (k : Nat) : (s.wrap f k).engines = s.engines := rfl
@[simp] theorem State.wrap_tx (s : State) (f : Fld) (k : Nat) : (s.wrap f k).tx = s.tx := rfl
@[simp] theorem State.wrap_rx (s : State) (f : Fld) (k : Nat) : (s.wrap f k).rx = s.rx := rfl
@[simp] theorem State.wrap_fec (s : State) (f : Fld) (k : Nat) : (s.wrap f k).fec = s.fec := rfl
@[simp] theorem State.wrap_leg (s : State) (f : Fld) (k : Nat) : (s.wrap f k).leg = s.leg := rfl
@[simp] theorem State.wrap_sec (s : State) (f : Fld) (k : Nat) : (s.wrap f k).sec = s.sec := rfl
@[simp] theorem State.wrap_line (s : State) (f : Fld) (k : Nat) : (s.wrap f k).line = s.line := rfl
@[simp] theorem State.wrap_rad (s : State) (f : Fld) (k : Nat) : (s.wrap f k).rad = s.rad := rfl
@[simp] theorem State.wrap_rdm (s : State) (f : Fld) (k : Nat) : (s.wrap f k).rdm = s.rdm := rfl
@[simp] theorem State.wrap_nfc (s : State) (f : Fld) (k : Nat) : (s.wrap f k).nfc = s.nfc := rfl
@[simp] theorem State.wrap_nfp (s : State) (f : Fld) (k : Nat) : (s.wrap f k).nfp = s.nfp := rfl
@[simp] theorem State.wrap_gpi (s : State) (f : Fld) (k : Nat) : (s.wrap f k).gpi = s.gpi := rfl
@[simp] theorem State.wrap_hif (s : State) (f : Fld) (k : Nat) : (s.wrap f k).hif = s.hif := rfl

/-! One bit of a field -/

@[simp] theorem State.setBitAt_pending (s : State) (f : Fld) (n : Nat) (b : Bool) : (s.setBitAt f n b).pending = s.pending := rfl
@[simp] theorem State.setBitAt_mem (s : State) (f : Fld) (n : Nat) (b : Bool) : (s.setBitAt f n b).mem = s.mem := rfl
@[simp] theorem State.setBitAt_ctr (s : State) (f : Fld) (n : Nat) (b : Bool) : (s.setBitAt f n b).ctr = s.ctr := rfl
@[simp] theorem State.setBitAt_cyc (s : State) (f : Fld) (n : Nat) (b : Bool) : (s.setBitAt f n b).cyc = s.cyc := rfl
@[simp] theorem State.setBitAt_raised (s : State) (f : Fld) (n : Nat) (b : Bool) : (s.setBitAt f n b).raised = s.raised := rfl
@[simp] theorem State.setBitAt_occ (s : State) (f : Fld) (n : Nat) (b : Bool) : (s.setBitAt f n b).occ = s.occ := rfl
@[simp] theorem State.setBitAt_evtWait (s : State) (f : Fld) (n : Nat) (b : Bool) : (s.setBitAt f n b).evtWait = s.evtWait := rfl
@[simp] theorem State.setBitAt_latches (s : State) (f : Fld) (n : Nat) (b : Bool) : (s.setBitAt f n b).latches = s.latches := rfl
@[simp] theorem State.setBitAt_irqReleasedA (s : State) (f : Fld) (n : Nat) (b : Bool) : (s.setBitAt f n b).irqReleasedA = s.irqReleasedA := rfl
@[simp] theorem State.setBitAt_irqReleasedB (s : State) (f : Fld) (n : Nat) (b : Bool) : (s.setBitAt f n b).irqReleasedB = s.irqReleasedB := rfl
@[simp] theorem State.setBitAt_ids (s : State) (f : Fld) (n : Nat) (b : Bool) : (s.setBitAt f n b).ids = s.ids := rfl
@[simp] theorem State.setBitAt_xings (s : State) (f : Fld) (n : Nat) (b : Bool) : (s.setBitAt f n b).xings = s.xings := rfl
@[simp] theorem State.setBitAt_used (s : State) (f : Fld) (n : Nat) (b : Bool) : (s.setBitAt f n b).used = s.used := rfl
@[simp] theorem State.setBitAt_stuck (s : State) (f : Fld) (n : Nat) (b : Bool) : (s.setBitAt f n b).stuck = s.stuck := rfl
@[simp] theorem State.setBitAt_stallReset (s : State) (f : Fld) (n : Nat) (b : Bool) : (s.setBitAt f n b).stallReset = s.stallReset := rfl
@[simp] theorem State.setBitAt_hostOut (s : State) (f : Fld) (n : Nat) (b : Bool) : (s.setBitAt f n b).hostOut = s.hostOut := rfl
@[simp] theorem State.setBitAt_cmt (s : State) (f : Fld) (n : Nat) (b : Bool) : (s.setBitAt f n b).cmt = s.cmt := rfl
@[simp] theorem State.setBitAt_pwr (s : State) (f : Fld) (n : Nat) (b : Bool) : (s.setBitAt f n b).pwr = s.pwr := rfl
@[simp] theorem State.setBitAt_thm (s : State) (f : Fld) (n : Nat) (b : Bool) : (s.setBitAt f n b).thm = s.thm := rfl
@[simp] theorem State.setBitAt_sch (s : State) (f : Fld) (n : Nat) (b : Bool) : (s.setBitAt f n b).sch = s.sch := rfl
@[simp] theorem State.setBitAt_clk (s : State) (f : Fld) (n : Nat) (b : Bool) : (s.setBitAt f n b).clk = s.clk := rfl
@[simp] theorem State.setBitAt_cal (s : State) (f : Fld) (n : Nat) (b : Bool) : (s.setBitAt f n b).cal = s.cal := rfl
@[simp] theorem State.setBitAt_engines (s : State) (f : Fld) (n : Nat) (b : Bool) : (s.setBitAt f n b).engines = s.engines := rfl
@[simp] theorem State.setBitAt_tx (s : State) (f : Fld) (n : Nat) (b : Bool) : (s.setBitAt f n b).tx = s.tx := rfl
@[simp] theorem State.setBitAt_rx (s : State) (f : Fld) (n : Nat) (b : Bool) : (s.setBitAt f n b).rx = s.rx := rfl
@[simp] theorem State.setBitAt_fec (s : State) (f : Fld) (n : Nat) (b : Bool) : (s.setBitAt f n b).fec = s.fec := rfl
@[simp] theorem State.setBitAt_leg (s : State) (f : Fld) (n : Nat) (b : Bool) : (s.setBitAt f n b).leg = s.leg := rfl
@[simp] theorem State.setBitAt_sec (s : State) (f : Fld) (n : Nat) (b : Bool) : (s.setBitAt f n b).sec = s.sec := rfl
@[simp] theorem State.setBitAt_line (s : State) (f : Fld) (n : Nat) (b : Bool) : (s.setBitAt f n b).line = s.line := rfl
@[simp] theorem State.setBitAt_rad (s : State) (f : Fld) (n : Nat) (b : Bool) : (s.setBitAt f n b).rad = s.rad := rfl
@[simp] theorem State.setBitAt_rdm (s : State) (f : Fld) (n : Nat) (b : Bool) : (s.setBitAt f n b).rdm = s.rdm := rfl
@[simp] theorem State.setBitAt_nfc (s : State) (f : Fld) (n : Nat) (b : Bool) : (s.setBitAt f n b).nfc = s.nfc := rfl
@[simp] theorem State.setBitAt_nfp (s : State) (f : Fld) (n : Nat) (b : Bool) : (s.setBitAt f n b).nfp = s.nfp := rfl
@[simp] theorem State.setBitAt_gpi (s : State) (f : Fld) (n : Nat) (b : Bool) : (s.setBitAt f n b).gpi = s.gpi := rfl
@[simp] theorem State.setBitAt_hif (s : State) (f : Fld) (n : Nat) (b : Bool) : (s.setBitAt f n b).hif = s.hif := rfl

/-! A signed field -/

@[simp] theorem State.putS_pending (s : State) (f : Fld) (i : Int) : (s.putS f i).pending = s.pending := rfl
@[simp] theorem State.putS_mem (s : State) (f : Fld) (i : Int) : (s.putS f i).mem = s.mem := rfl
@[simp] theorem State.putS_ctr (s : State) (f : Fld) (i : Int) : (s.putS f i).ctr = s.ctr := rfl
@[simp] theorem State.putS_cyc (s : State) (f : Fld) (i : Int) : (s.putS f i).cyc = s.cyc := rfl
@[simp] theorem State.putS_raised (s : State) (f : Fld) (i : Int) : (s.putS f i).raised = s.raised := rfl
@[simp] theorem State.putS_occ (s : State) (f : Fld) (i : Int) : (s.putS f i).occ = s.occ := rfl
@[simp] theorem State.putS_evtWait (s : State) (f : Fld) (i : Int) : (s.putS f i).evtWait = s.evtWait := rfl
@[simp] theorem State.putS_latches (s : State) (f : Fld) (i : Int) : (s.putS f i).latches = s.latches := rfl
@[simp] theorem State.putS_irqReleasedA (s : State) (f : Fld) (i : Int) : (s.putS f i).irqReleasedA = s.irqReleasedA := rfl
@[simp] theorem State.putS_irqReleasedB (s : State) (f : Fld) (i : Int) : (s.putS f i).irqReleasedB = s.irqReleasedB := rfl
@[simp] theorem State.putS_ids (s : State) (f : Fld) (i : Int) : (s.putS f i).ids = s.ids := rfl
@[simp] theorem State.putS_xings (s : State) (f : Fld) (i : Int) : (s.putS f i).xings = s.xings := rfl
@[simp] theorem State.putS_used (s : State) (f : Fld) (i : Int) : (s.putS f i).used = s.used := rfl
@[simp] theorem State.putS_stuck (s : State) (f : Fld) (i : Int) : (s.putS f i).stuck = s.stuck := rfl
@[simp] theorem State.putS_stallReset (s : State) (f : Fld) (i : Int) : (s.putS f i).stallReset = s.stallReset := rfl
@[simp] theorem State.putS_hostOut (s : State) (f : Fld) (i : Int) : (s.putS f i).hostOut = s.hostOut := rfl
@[simp] theorem State.putS_cmt (s : State) (f : Fld) (i : Int) : (s.putS f i).cmt = s.cmt := rfl
@[simp] theorem State.putS_pwr (s : State) (f : Fld) (i : Int) : (s.putS f i).pwr = s.pwr := rfl
@[simp] theorem State.putS_thm (s : State) (f : Fld) (i : Int) : (s.putS f i).thm = s.thm := rfl
@[simp] theorem State.putS_sch (s : State) (f : Fld) (i : Int) : (s.putS f i).sch = s.sch := rfl
@[simp] theorem State.putS_clk (s : State) (f : Fld) (i : Int) : (s.putS f i).clk = s.clk := rfl
@[simp] theorem State.putS_cal (s : State) (f : Fld) (i : Int) : (s.putS f i).cal = s.cal := rfl
@[simp] theorem State.putS_engines (s : State) (f : Fld) (i : Int) : (s.putS f i).engines = s.engines := rfl
@[simp] theorem State.putS_tx (s : State) (f : Fld) (i : Int) : (s.putS f i).tx = s.tx := rfl
@[simp] theorem State.putS_rx (s : State) (f : Fld) (i : Int) : (s.putS f i).rx = s.rx := rfl
@[simp] theorem State.putS_fec (s : State) (f : Fld) (i : Int) : (s.putS f i).fec = s.fec := rfl
@[simp] theorem State.putS_leg (s : State) (f : Fld) (i : Int) : (s.putS f i).leg = s.leg := rfl
@[simp] theorem State.putS_sec (s : State) (f : Fld) (i : Int) : (s.putS f i).sec = s.sec := rfl
@[simp] theorem State.putS_line (s : State) (f : Fld) (i : Int) : (s.putS f i).line = s.line := rfl
@[simp] theorem State.putS_rad (s : State) (f : Fld) (i : Int) : (s.putS f i).rad = s.rad := rfl
@[simp] theorem State.putS_rdm (s : State) (f : Fld) (i : Int) : (s.putS f i).rdm = s.rdm := rfl
@[simp] theorem State.putS_nfc (s : State) (f : Fld) (i : Int) : (s.putS f i).nfc = s.nfc := rfl
@[simp] theorem State.putS_nfp (s : State) (f : Fld) (i : Int) : (s.putS f i).nfp = s.nfp := rfl
@[simp] theorem State.putS_gpi (s : State) (f : Fld) (i : Int) : (s.putS f i).gpi = s.gpi := rfl
@[simp] theorem State.putS_hif (s : State) (f : Fld) (i : Int) : (s.putS f i).hif = s.hif := rfl

/-! A byte -/

@[simp] theorem State.putByte_pending (s : State) (a : Nat) (b : Byte) : (s.putByte a b).pending = s.pending := rfl
@[simp] theorem State.putByte_regs (s : State) (a : Nat) (b : Byte) : (s.putByte a b).regs = s.regs := rfl
@[simp] theorem State.putByte_ctr (s : State) (a : Nat) (b : Byte) : (s.putByte a b).ctr = s.ctr := rfl
@[simp] theorem State.putByte_cyc (s : State) (a : Nat) (b : Byte) : (s.putByte a b).cyc = s.cyc := rfl
@[simp] theorem State.putByte_raised (s : State) (a : Nat) (b : Byte) : (s.putByte a b).raised = s.raised := rfl
@[simp] theorem State.putByte_occ (s : State) (a : Nat) (b : Byte) : (s.putByte a b).occ = s.occ := rfl
@[simp] theorem State.putByte_evtWait (s : State) (a : Nat) (b : Byte) : (s.putByte a b).evtWait = s.evtWait := rfl
@[simp] theorem State.putByte_latches (s : State) (a : Nat) (b : Byte) : (s.putByte a b).latches = s.latches := rfl
@[simp] theorem State.putByte_irqReleasedA (s : State) (a : Nat) (b : Byte) : (s.putByte a b).irqReleasedA = s.irqReleasedA := rfl
@[simp] theorem State.putByte_irqReleasedB (s : State) (a : Nat) (b : Byte) : (s.putByte a b).irqReleasedB = s.irqReleasedB := rfl
@[simp] theorem State.putByte_ids (s : State) (a : Nat) (b : Byte) : (s.putByte a b).ids = s.ids := rfl
@[simp] theorem State.putByte_xings (s : State) (a : Nat) (b : Byte) : (s.putByte a b).xings = s.xings := rfl
@[simp] theorem State.putByte_used (s : State) (a : Nat) (b : Byte) : (s.putByte a b).used = s.used := rfl
@[simp] theorem State.putByte_stuck (s : State) (a : Nat) (b : Byte) : (s.putByte a b).stuck = s.stuck := rfl
@[simp] theorem State.putByte_stallReset (s : State) (a : Nat) (b : Byte) : (s.putByte a b).stallReset = s.stallReset := rfl
@[simp] theorem State.putByte_hostOut (s : State) (a : Nat) (b : Byte) : (s.putByte a b).hostOut = s.hostOut := rfl
@[simp] theorem State.putByte_cmt (s : State) (a : Nat) (b : Byte) : (s.putByte a b).cmt = s.cmt := rfl
@[simp] theorem State.putByte_pwr (s : State) (a : Nat) (b : Byte) : (s.putByte a b).pwr = s.pwr := rfl
@[simp] theorem State.putByte_thm (s : State) (a : Nat) (b : Byte) : (s.putByte a b).thm = s.thm := rfl
@[simp] theorem State.putByte_sch (s : State) (a : Nat) (b : Byte) : (s.putByte a b).sch = s.sch := rfl
@[simp] theorem State.putByte_clk (s : State) (a : Nat) (b : Byte) : (s.putByte a b).clk = s.clk := rfl
@[simp] theorem State.putByte_cal (s : State) (a : Nat) (b : Byte) : (s.putByte a b).cal = s.cal := rfl
@[simp] theorem State.putByte_engines (s : State) (a : Nat) (b : Byte) : (s.putByte a b).engines = s.engines := rfl
@[simp] theorem State.putByte_tx (s : State) (a : Nat) (b : Byte) : (s.putByte a b).tx = s.tx := rfl
@[simp] theorem State.putByte_rx (s : State) (a : Nat) (b : Byte) : (s.putByte a b).rx = s.rx := rfl
@[simp] theorem State.putByte_fec (s : State) (a : Nat) (b : Byte) : (s.putByte a b).fec = s.fec := rfl
@[simp] theorem State.putByte_leg (s : State) (a : Nat) (b : Byte) : (s.putByte a b).leg = s.leg := rfl
@[simp] theorem State.putByte_sec (s : State) (a : Nat) (b : Byte) : (s.putByte a b).sec = s.sec := rfl
@[simp] theorem State.putByte_line (s : State) (a : Nat) (b : Byte) : (s.putByte a b).line = s.line := rfl
@[simp] theorem State.putByte_rad (s : State) (a : Nat) (b : Byte) : (s.putByte a b).rad = s.rad := rfl
@[simp] theorem State.putByte_rdm (s : State) (a : Nat) (b : Byte) : (s.putByte a b).rdm = s.rdm := rfl
@[simp] theorem State.putByte_nfc (s : State) (a : Nat) (b : Byte) : (s.putByte a b).nfc = s.nfc := rfl
@[simp] theorem State.putByte_nfp (s : State) (a : Nat) (b : Byte) : (s.putByte a b).nfp = s.nfp := rfl
@[simp] theorem State.putByte_gpi (s : State) (a : Nat) (b : Byte) : (s.putByte a b).gpi = s.gpi := rfl
@[simp] theorem State.putByte_hif (s : State) (a : Nat) (b : Byte) : (s.putByte a b).hif = s.hif := rfl
@[simp] theorem State.putByte_mem (s : State) (a : Nat) (b : Byte) : (s.putByte a b).mem = Memory.write s.mem a b := rfl

/-! A free value -/

@[simp] theorem State.fresh_pending (s : State) : (s.fresh.2).pending = s.pending := rfl
@[simp] theorem State.fresh_regs (s : State) : (s.fresh.2).regs = s.regs := rfl
@[simp] theorem State.fresh_mem (s : State) : (s.fresh.2).mem = s.mem := rfl
@[simp] theorem State.fresh_cyc (s : State) : (s.fresh.2).cyc = s.cyc := rfl
@[simp] theorem State.fresh_raised (s : State) : (s.fresh.2).raised = s.raised := rfl
@[simp] theorem State.fresh_occ (s : State) : (s.fresh.2).occ = s.occ := rfl
@[simp] theorem State.fresh_evtWait (s : State) : (s.fresh.2).evtWait = s.evtWait := rfl
@[simp] theorem State.fresh_latches (s : State) : (s.fresh.2).latches = s.latches := rfl
@[simp] theorem State.fresh_irqReleasedA (s : State) : (s.fresh.2).irqReleasedA = s.irqReleasedA := rfl
@[simp] theorem State.fresh_irqReleasedB (s : State) : (s.fresh.2).irqReleasedB = s.irqReleasedB := rfl
@[simp] theorem State.fresh_ids (s : State) : (s.fresh.2).ids = s.ids := rfl
@[simp] theorem State.fresh_xings (s : State) : (s.fresh.2).xings = s.xings := rfl
@[simp] theorem State.fresh_used (s : State) : (s.fresh.2).used = s.used := rfl
@[simp] theorem State.fresh_stuck (s : State) : (s.fresh.2).stuck = s.stuck := rfl
@[simp] theorem State.fresh_stallReset (s : State) : (s.fresh.2).stallReset = s.stallReset := rfl
@[simp] theorem State.fresh_hostOut (s : State) : (s.fresh.2).hostOut = s.hostOut := rfl
@[simp] theorem State.fresh_cmt (s : State) : (s.fresh.2).cmt = s.cmt := rfl
@[simp] theorem State.fresh_pwr (s : State) : (s.fresh.2).pwr = s.pwr := rfl
@[simp] theorem State.fresh_thm (s : State) : (s.fresh.2).thm = s.thm := rfl
@[simp] theorem State.fresh_sch (s : State) : (s.fresh.2).sch = s.sch := rfl
@[simp] theorem State.fresh_clk (s : State) : (s.fresh.2).clk = s.clk := rfl
@[simp] theorem State.fresh_cal (s : State) : (s.fresh.2).cal = s.cal := rfl
@[simp] theorem State.fresh_engines (s : State) : (s.fresh.2).engines = s.engines := rfl
@[simp] theorem State.fresh_tx (s : State) : (s.fresh.2).tx = s.tx := rfl
@[simp] theorem State.fresh_rx (s : State) : (s.fresh.2).rx = s.rx := rfl
@[simp] theorem State.fresh_fec (s : State) : (s.fresh.2).fec = s.fec := rfl
@[simp] theorem State.fresh_leg (s : State) : (s.fresh.2).leg = s.leg := rfl
@[simp] theorem State.fresh_sec (s : State) : (s.fresh.2).sec = s.sec := rfl
@[simp] theorem State.fresh_line (s : State) : (s.fresh.2).line = s.line := rfl
@[simp] theorem State.fresh_rad (s : State) : (s.fresh.2).rad = s.rad := rfl
@[simp] theorem State.fresh_rdm (s : State) : (s.fresh.2).rdm = s.rdm := rfl
@[simp] theorem State.fresh_nfc (s : State) : (s.fresh.2).nfc = s.nfc := rfl
@[simp] theorem State.fresh_nfp (s : State) : (s.fresh.2).nfp = s.nfp := rfl
@[simp] theorem State.fresh_gpi (s : State) : (s.fresh.2).gpi = s.gpi := rfl
@[simp] theorem State.fresh_hif (s : State) : (s.fresh.2).hif = s.hif := rfl
@[simp] theorem State.fresh_ctr (s : State) : s.fresh.2.ctr = s.ctr + 1 := rfl

/-! A free value below a bound -/

@[simp] theorem State.freshBelow_pending (s : State) (n : Nat) : ((s.freshBelow n).2).pending = s.pending := rfl
@[simp] theorem State.freshBelow_regs (s : State) (n : Nat) : ((s.freshBelow n).2).regs = s.regs := rfl
@[simp] theorem State.freshBelow_mem (s : State) (n : Nat) : ((s.freshBelow n).2).mem = s.mem := rfl
@[simp] theorem State.freshBelow_cyc (s : State) (n : Nat) : ((s.freshBelow n).2).cyc = s.cyc := rfl
@[simp] theorem State.freshBelow_raised (s : State) (n : Nat) : ((s.freshBelow n).2).raised = s.raised := rfl
@[simp] theorem State.freshBelow_occ (s : State) (n : Nat) : ((s.freshBelow n).2).occ = s.occ := rfl
@[simp] theorem State.freshBelow_evtWait (s : State) (n : Nat) : ((s.freshBelow n).2).evtWait = s.evtWait := rfl
@[simp] theorem State.freshBelow_latches (s : State) (n : Nat) : ((s.freshBelow n).2).latches = s.latches := rfl
@[simp] theorem State.freshBelow_irqReleasedA (s : State) (n : Nat) : ((s.freshBelow n).2).irqReleasedA = s.irqReleasedA := rfl
@[simp] theorem State.freshBelow_irqReleasedB (s : State) (n : Nat) : ((s.freshBelow n).2).irqReleasedB = s.irqReleasedB := rfl
@[simp] theorem State.freshBelow_ids (s : State) (n : Nat) : ((s.freshBelow n).2).ids = s.ids := rfl
@[simp] theorem State.freshBelow_xings (s : State) (n : Nat) : ((s.freshBelow n).2).xings = s.xings := rfl
@[simp] theorem State.freshBelow_used (s : State) (n : Nat) : ((s.freshBelow n).2).used = s.used := rfl
@[simp] theorem State.freshBelow_stuck (s : State) (n : Nat) : ((s.freshBelow n).2).stuck = s.stuck := rfl
@[simp] theorem State.freshBelow_stallReset (s : State) (n : Nat) : ((s.freshBelow n).2).stallReset = s.stallReset := rfl
@[simp] theorem State.freshBelow_hostOut (s : State) (n : Nat) : ((s.freshBelow n).2).hostOut = s.hostOut := rfl
@[simp] theorem State.freshBelow_cmt (s : State) (n : Nat) : ((s.freshBelow n).2).cmt = s.cmt := rfl
@[simp] theorem State.freshBelow_pwr (s : State) (n : Nat) : ((s.freshBelow n).2).pwr = s.pwr := rfl
@[simp] theorem State.freshBelow_thm (s : State) (n : Nat) : ((s.freshBelow n).2).thm = s.thm := rfl
@[simp] theorem State.freshBelow_sch (s : State) (n : Nat) : ((s.freshBelow n).2).sch = s.sch := rfl
@[simp] theorem State.freshBelow_clk (s : State) (n : Nat) : ((s.freshBelow n).2).clk = s.clk := rfl
@[simp] theorem State.freshBelow_cal (s : State) (n : Nat) : ((s.freshBelow n).2).cal = s.cal := rfl
@[simp] theorem State.freshBelow_engines (s : State) (n : Nat) : ((s.freshBelow n).2).engines = s.engines := rfl
@[simp] theorem State.freshBelow_tx (s : State) (n : Nat) : ((s.freshBelow n).2).tx = s.tx := rfl
@[simp] theorem State.freshBelow_rx (s : State) (n : Nat) : ((s.freshBelow n).2).rx = s.rx := rfl
@[simp] theorem State.freshBelow_fec (s : State) (n : Nat) : ((s.freshBelow n).2).fec = s.fec := rfl
@[simp] theorem State.freshBelow_leg (s : State) (n : Nat) : ((s.freshBelow n).2).leg = s.leg := rfl
@[simp] theorem State.freshBelow_sec (s : State) (n : Nat) : ((s.freshBelow n).2).sec = s.sec := rfl
@[simp] theorem State.freshBelow_line (s : State) (n : Nat) : ((s.freshBelow n).2).line = s.line := rfl
@[simp] theorem State.freshBelow_rad (s : State) (n : Nat) : ((s.freshBelow n).2).rad = s.rad := rfl
@[simp] theorem State.freshBelow_rdm (s : State) (n : Nat) : ((s.freshBelow n).2).rdm = s.rdm := rfl
@[simp] theorem State.freshBelow_nfc (s : State) (n : Nat) : ((s.freshBelow n).2).nfc = s.nfc := rfl
@[simp] theorem State.freshBelow_nfp (s : State) (n : Nat) : ((s.freshBelow n).2).nfp = s.nfp := rfl
@[simp] theorem State.freshBelow_gpi (s : State) (n : Nat) : ((s.freshBelow n).2).gpi = s.gpi := rfl
@[simp] theorem State.freshBelow_hif (s : State) (n : Nat) : ((s.freshBelow n).2).hif = s.hif := rfl
@[simp] theorem State.freshBelow_ctr (s : State) (n : Nat) : (s.freshBelow n).2.ctr = s.ctr + 1 := rfl

/-! `setLeg` -/

@[simp] theorem State.setLeg_pending (s : State) (f : Legacy → Legacy) : (s.setLeg f).pending = s.pending := rfl
@[simp] theorem State.setLeg_regs (s : State) (f : Legacy → Legacy) : (s.setLeg f).regs = s.regs := rfl
@[simp] theorem State.setLeg_mem (s : State) (f : Legacy → Legacy) : (s.setLeg f).mem = s.mem := rfl
@[simp] theorem State.setLeg_ctr (s : State) (f : Legacy → Legacy) : (s.setLeg f).ctr = s.ctr := rfl
@[simp] theorem State.setLeg_cyc (s : State) (f : Legacy → Legacy) : (s.setLeg f).cyc = s.cyc := rfl
@[simp] theorem State.setLeg_raised (s : State) (f : Legacy → Legacy) : (s.setLeg f).raised = s.raised := rfl
@[simp] theorem State.setLeg_occ (s : State) (f : Legacy → Legacy) : (s.setLeg f).occ = s.occ := rfl
@[simp] theorem State.setLeg_evtWait (s : State) (f : Legacy → Legacy) : (s.setLeg f).evtWait = s.evtWait := rfl
@[simp] theorem State.setLeg_latches (s : State) (f : Legacy → Legacy) : (s.setLeg f).latches = s.latches := rfl
@[simp] theorem State.setLeg_irqReleasedA (s : State) (f : Legacy → Legacy) : (s.setLeg f).irqReleasedA = s.irqReleasedA := rfl
@[simp] theorem State.setLeg_irqReleasedB (s : State) (f : Legacy → Legacy) : (s.setLeg f).irqReleasedB = s.irqReleasedB := rfl
@[simp] theorem State.setLeg_ids (s : State) (f : Legacy → Legacy) : (s.setLeg f).ids = s.ids := rfl
@[simp] theorem State.setLeg_xings (s : State) (f : Legacy → Legacy) : (s.setLeg f).xings = s.xings := rfl
@[simp] theorem State.setLeg_used (s : State) (f : Legacy → Legacy) : (s.setLeg f).used = s.used := rfl
@[simp] theorem State.setLeg_stuck (s : State) (f : Legacy → Legacy) : (s.setLeg f).stuck = s.stuck := rfl
@[simp] theorem State.setLeg_stallReset (s : State) (f : Legacy → Legacy) : (s.setLeg f).stallReset = s.stallReset := rfl
@[simp] theorem State.setLeg_hostOut (s : State) (f : Legacy → Legacy) : (s.setLeg f).hostOut = s.hostOut := rfl
@[simp] theorem State.setLeg_cmt (s : State) (f : Legacy → Legacy) : (s.setLeg f).cmt = s.cmt := rfl
@[simp] theorem State.setLeg_pwr (s : State) (f : Legacy → Legacy) : (s.setLeg f).pwr = s.pwr := rfl
@[simp] theorem State.setLeg_thm (s : State) (f : Legacy → Legacy) : (s.setLeg f).thm = s.thm := rfl
@[simp] theorem State.setLeg_sch (s : State) (f : Legacy → Legacy) : (s.setLeg f).sch = s.sch := rfl
@[simp] theorem State.setLeg_clk (s : State) (f : Legacy → Legacy) : (s.setLeg f).clk = s.clk := rfl
@[simp] theorem State.setLeg_cal (s : State) (f : Legacy → Legacy) : (s.setLeg f).cal = s.cal := rfl
@[simp] theorem State.setLeg_engines (s : State) (f : Legacy → Legacy) : (s.setLeg f).engines = s.engines := rfl
@[simp] theorem State.setLeg_tx (s : State) (f : Legacy → Legacy) : (s.setLeg f).tx = s.tx := rfl
@[simp] theorem State.setLeg_rx (s : State) (f : Legacy → Legacy) : (s.setLeg f).rx = s.rx := rfl
@[simp] theorem State.setLeg_fec (s : State) (f : Legacy → Legacy) : (s.setLeg f).fec = s.fec := rfl
@[simp] theorem State.setLeg_sec (s : State) (f : Legacy → Legacy) : (s.setLeg f).sec = s.sec := rfl
@[simp] theorem State.setLeg_line (s : State) (f : Legacy → Legacy) : (s.setLeg f).line = s.line := rfl
@[simp] theorem State.setLeg_rad (s : State) (f : Legacy → Legacy) : (s.setLeg f).rad = s.rad := rfl
@[simp] theorem State.setLeg_rdm (s : State) (f : Legacy → Legacy) : (s.setLeg f).rdm = s.rdm := rfl
@[simp] theorem State.setLeg_nfc (s : State) (f : Legacy → Legacy) : (s.setLeg f).nfc = s.nfc := rfl
@[simp] theorem State.setLeg_nfp (s : State) (f : Legacy → Legacy) : (s.setLeg f).nfp = s.nfp := rfl
@[simp] theorem State.setLeg_gpi (s : State) (f : Legacy → Legacy) : (s.setLeg f).gpi = s.gpi := rfl
@[simp] theorem State.setLeg_hif (s : State) (f : Legacy → Legacy) : (s.setLeg f).hif = s.hif := rfl
@[simp] theorem State.setLeg_leg (s : State) (f : Legacy → Legacy) : (s.setLeg f).leg = f s.leg := rfl

/-! `setLine` -/

@[simp] theorem State.setLine_pending (s : State) (f : Line → Line) : (s.setLine f).pending = s.pending := rfl
@[simp] theorem State.setLine_regs (s : State) (f : Line → Line) : (s.setLine f).regs = s.regs := rfl
@[simp] theorem State.setLine_mem (s : State) (f : Line → Line) : (s.setLine f).mem = s.mem := rfl
@[simp] theorem State.setLine_ctr (s : State) (f : Line → Line) : (s.setLine f).ctr = s.ctr := rfl
@[simp] theorem State.setLine_cyc (s : State) (f : Line → Line) : (s.setLine f).cyc = s.cyc := rfl
@[simp] theorem State.setLine_raised (s : State) (f : Line → Line) : (s.setLine f).raised = s.raised := rfl
@[simp] theorem State.setLine_occ (s : State) (f : Line → Line) : (s.setLine f).occ = s.occ := rfl
@[simp] theorem State.setLine_evtWait (s : State) (f : Line → Line) : (s.setLine f).evtWait = s.evtWait := rfl
@[simp] theorem State.setLine_latches (s : State) (f : Line → Line) : (s.setLine f).latches = s.latches := rfl
@[simp] theorem State.setLine_irqReleasedA (s : State) (f : Line → Line) : (s.setLine f).irqReleasedA = s.irqReleasedA := rfl
@[simp] theorem State.setLine_irqReleasedB (s : State) (f : Line → Line) : (s.setLine f).irqReleasedB = s.irqReleasedB := rfl
@[simp] theorem State.setLine_ids (s : State) (f : Line → Line) : (s.setLine f).ids = s.ids := rfl
@[simp] theorem State.setLine_xings (s : State) (f : Line → Line) : (s.setLine f).xings = s.xings := rfl
@[simp] theorem State.setLine_used (s : State) (f : Line → Line) : (s.setLine f).used = s.used := rfl
@[simp] theorem State.setLine_stuck (s : State) (f : Line → Line) : (s.setLine f).stuck = s.stuck := rfl
@[simp] theorem State.setLine_stallReset (s : State) (f : Line → Line) : (s.setLine f).stallReset = s.stallReset := rfl
@[simp] theorem State.setLine_hostOut (s : State) (f : Line → Line) : (s.setLine f).hostOut = s.hostOut := rfl
@[simp] theorem State.setLine_cmt (s : State) (f : Line → Line) : (s.setLine f).cmt = s.cmt := rfl
@[simp] theorem State.setLine_pwr (s : State) (f : Line → Line) : (s.setLine f).pwr = s.pwr := rfl
@[simp] theorem State.setLine_thm (s : State) (f : Line → Line) : (s.setLine f).thm = s.thm := rfl
@[simp] theorem State.setLine_sch (s : State) (f : Line → Line) : (s.setLine f).sch = s.sch := rfl
@[simp] theorem State.setLine_clk (s : State) (f : Line → Line) : (s.setLine f).clk = s.clk := rfl
@[simp] theorem State.setLine_cal (s : State) (f : Line → Line) : (s.setLine f).cal = s.cal := rfl
@[simp] theorem State.setLine_engines (s : State) (f : Line → Line) : (s.setLine f).engines = s.engines := rfl
@[simp] theorem State.setLine_tx (s : State) (f : Line → Line) : (s.setLine f).tx = s.tx := rfl
@[simp] theorem State.setLine_rx (s : State) (f : Line → Line) : (s.setLine f).rx = s.rx := rfl
@[simp] theorem State.setLine_fec (s : State) (f : Line → Line) : (s.setLine f).fec = s.fec := rfl
@[simp] theorem State.setLine_leg (s : State) (f : Line → Line) : (s.setLine f).leg = s.leg := rfl
@[simp] theorem State.setLine_sec (s : State) (f : Line → Line) : (s.setLine f).sec = s.sec := rfl
@[simp] theorem State.setLine_rad (s : State) (f : Line → Line) : (s.setLine f).rad = s.rad := rfl
@[simp] theorem State.setLine_rdm (s : State) (f : Line → Line) : (s.setLine f).rdm = s.rdm := rfl
@[simp] theorem State.setLine_nfc (s : State) (f : Line → Line) : (s.setLine f).nfc = s.nfc := rfl
@[simp] theorem State.setLine_nfp (s : State) (f : Line → Line) : (s.setLine f).nfp = s.nfp := rfl
@[simp] theorem State.setLine_gpi (s : State) (f : Line → Line) : (s.setLine f).gpi = s.gpi := rfl
@[simp] theorem State.setLine_hif (s : State) (f : Line → Line) : (s.setLine f).hif = s.hif := rfl
@[simp] theorem State.setLine_line (s : State) (f : Line → Line) : (s.setLine f).line = f s.line := rfl

/-! `setRad` -/

@[simp] theorem State.setRad_pending (s : State) (f : Radio → Radio) : (s.setRad f).pending = s.pending := rfl
@[simp] theorem State.setRad_regs (s : State) (f : Radio → Radio) : (s.setRad f).regs = s.regs := rfl
@[simp] theorem State.setRad_mem (s : State) (f : Radio → Radio) : (s.setRad f).mem = s.mem := rfl
@[simp] theorem State.setRad_ctr (s : State) (f : Radio → Radio) : (s.setRad f).ctr = s.ctr := rfl
@[simp] theorem State.setRad_cyc (s : State) (f : Radio → Radio) : (s.setRad f).cyc = s.cyc := rfl
@[simp] theorem State.setRad_raised (s : State) (f : Radio → Radio) : (s.setRad f).raised = s.raised := rfl
@[simp] theorem State.setRad_occ (s : State) (f : Radio → Radio) : (s.setRad f).occ = s.occ := rfl
@[simp] theorem State.setRad_evtWait (s : State) (f : Radio → Radio) : (s.setRad f).evtWait = s.evtWait := rfl
@[simp] theorem State.setRad_latches (s : State) (f : Radio → Radio) : (s.setRad f).latches = s.latches := rfl
@[simp] theorem State.setRad_irqReleasedA (s : State) (f : Radio → Radio) : (s.setRad f).irqReleasedA = s.irqReleasedA := rfl
@[simp] theorem State.setRad_irqReleasedB (s : State) (f : Radio → Radio) : (s.setRad f).irqReleasedB = s.irqReleasedB := rfl
@[simp] theorem State.setRad_ids (s : State) (f : Radio → Radio) : (s.setRad f).ids = s.ids := rfl
@[simp] theorem State.setRad_xings (s : State) (f : Radio → Radio) : (s.setRad f).xings = s.xings := rfl
@[simp] theorem State.setRad_used (s : State) (f : Radio → Radio) : (s.setRad f).used = s.used := rfl
@[simp] theorem State.setRad_stuck (s : State) (f : Radio → Radio) : (s.setRad f).stuck = s.stuck := rfl
@[simp] theorem State.setRad_stallReset (s : State) (f : Radio → Radio) : (s.setRad f).stallReset = s.stallReset := rfl
@[simp] theorem State.setRad_hostOut (s : State) (f : Radio → Radio) : (s.setRad f).hostOut = s.hostOut := rfl
@[simp] theorem State.setRad_cmt (s : State) (f : Radio → Radio) : (s.setRad f).cmt = s.cmt := rfl
@[simp] theorem State.setRad_pwr (s : State) (f : Radio → Radio) : (s.setRad f).pwr = s.pwr := rfl
@[simp] theorem State.setRad_thm (s : State) (f : Radio → Radio) : (s.setRad f).thm = s.thm := rfl
@[simp] theorem State.setRad_sch (s : State) (f : Radio → Radio) : (s.setRad f).sch = s.sch := rfl
@[simp] theorem State.setRad_clk (s : State) (f : Radio → Radio) : (s.setRad f).clk = s.clk := rfl
@[simp] theorem State.setRad_cal (s : State) (f : Radio → Radio) : (s.setRad f).cal = s.cal := rfl
@[simp] theorem State.setRad_engines (s : State) (f : Radio → Radio) : (s.setRad f).engines = s.engines := rfl
@[simp] theorem State.setRad_tx (s : State) (f : Radio → Radio) : (s.setRad f).tx = s.tx := rfl
@[simp] theorem State.setRad_rx (s : State) (f : Radio → Radio) : (s.setRad f).rx = s.rx := rfl
@[simp] theorem State.setRad_fec (s : State) (f : Radio → Radio) : (s.setRad f).fec = s.fec := rfl
@[simp] theorem State.setRad_leg (s : State) (f : Radio → Radio) : (s.setRad f).leg = s.leg := rfl
@[simp] theorem State.setRad_sec (s : State) (f : Radio → Radio) : (s.setRad f).sec = s.sec := rfl
@[simp] theorem State.setRad_line (s : State) (f : Radio → Radio) : (s.setRad f).line = s.line := rfl
@[simp] theorem State.setRad_rdm (s : State) (f : Radio → Radio) : (s.setRad f).rdm = s.rdm := rfl
@[simp] theorem State.setRad_nfc (s : State) (f : Radio → Radio) : (s.setRad f).nfc = s.nfc := rfl
@[simp] theorem State.setRad_nfp (s : State) (f : Radio → Radio) : (s.setRad f).nfp = s.nfp := rfl
@[simp] theorem State.setRad_gpi (s : State) (f : Radio → Radio) : (s.setRad f).gpi = s.gpi := rfl
@[simp] theorem State.setRad_hif (s : State) (f : Radio → Radio) : (s.setRad f).hif = s.hif := rfl
@[simp] theorem State.setRad_rad (s : State) (f : Radio → Radio) : (s.setRad f).rad = f s.rad := rfl

/-! `setRdm` -/

@[simp] theorem State.setRdm_pending (s : State) (f : Modem → Modem) : (s.setRdm f).pending = s.pending := rfl
@[simp] theorem State.setRdm_regs (s : State) (f : Modem → Modem) : (s.setRdm f).regs = s.regs := rfl
@[simp] theorem State.setRdm_mem (s : State) (f : Modem → Modem) : (s.setRdm f).mem = s.mem := rfl
@[simp] theorem State.setRdm_ctr (s : State) (f : Modem → Modem) : (s.setRdm f).ctr = s.ctr := rfl
@[simp] theorem State.setRdm_cyc (s : State) (f : Modem → Modem) : (s.setRdm f).cyc = s.cyc := rfl
@[simp] theorem State.setRdm_raised (s : State) (f : Modem → Modem) : (s.setRdm f).raised = s.raised := rfl
@[simp] theorem State.setRdm_occ (s : State) (f : Modem → Modem) : (s.setRdm f).occ = s.occ := rfl
@[simp] theorem State.setRdm_evtWait (s : State) (f : Modem → Modem) : (s.setRdm f).evtWait = s.evtWait := rfl
@[simp] theorem State.setRdm_latches (s : State) (f : Modem → Modem) : (s.setRdm f).latches = s.latches := rfl
@[simp] theorem State.setRdm_irqReleasedA (s : State) (f : Modem → Modem) : (s.setRdm f).irqReleasedA = s.irqReleasedA := rfl
@[simp] theorem State.setRdm_irqReleasedB (s : State) (f : Modem → Modem) : (s.setRdm f).irqReleasedB = s.irqReleasedB := rfl
@[simp] theorem State.setRdm_ids (s : State) (f : Modem → Modem) : (s.setRdm f).ids = s.ids := rfl
@[simp] theorem State.setRdm_xings (s : State) (f : Modem → Modem) : (s.setRdm f).xings = s.xings := rfl
@[simp] theorem State.setRdm_used (s : State) (f : Modem → Modem) : (s.setRdm f).used = s.used := rfl
@[simp] theorem State.setRdm_stuck (s : State) (f : Modem → Modem) : (s.setRdm f).stuck = s.stuck := rfl
@[simp] theorem State.setRdm_stallReset (s : State) (f : Modem → Modem) : (s.setRdm f).stallReset = s.stallReset := rfl
@[simp] theorem State.setRdm_hostOut (s : State) (f : Modem → Modem) : (s.setRdm f).hostOut = s.hostOut := rfl
@[simp] theorem State.setRdm_cmt (s : State) (f : Modem → Modem) : (s.setRdm f).cmt = s.cmt := rfl
@[simp] theorem State.setRdm_pwr (s : State) (f : Modem → Modem) : (s.setRdm f).pwr = s.pwr := rfl
@[simp] theorem State.setRdm_thm (s : State) (f : Modem → Modem) : (s.setRdm f).thm = s.thm := rfl
@[simp] theorem State.setRdm_sch (s : State) (f : Modem → Modem) : (s.setRdm f).sch = s.sch := rfl
@[simp] theorem State.setRdm_clk (s : State) (f : Modem → Modem) : (s.setRdm f).clk = s.clk := rfl
@[simp] theorem State.setRdm_cal (s : State) (f : Modem → Modem) : (s.setRdm f).cal = s.cal := rfl
@[simp] theorem State.setRdm_engines (s : State) (f : Modem → Modem) : (s.setRdm f).engines = s.engines := rfl
@[simp] theorem State.setRdm_tx (s : State) (f : Modem → Modem) : (s.setRdm f).tx = s.tx := rfl
@[simp] theorem State.setRdm_rx (s : State) (f : Modem → Modem) : (s.setRdm f).rx = s.rx := rfl
@[simp] theorem State.setRdm_fec (s : State) (f : Modem → Modem) : (s.setRdm f).fec = s.fec := rfl
@[simp] theorem State.setRdm_leg (s : State) (f : Modem → Modem) : (s.setRdm f).leg = s.leg := rfl
@[simp] theorem State.setRdm_sec (s : State) (f : Modem → Modem) : (s.setRdm f).sec = s.sec := rfl
@[simp] theorem State.setRdm_line (s : State) (f : Modem → Modem) : (s.setRdm f).line = s.line := rfl
@[simp] theorem State.setRdm_rad (s : State) (f : Modem → Modem) : (s.setRdm f).rad = s.rad := rfl
@[simp] theorem State.setRdm_nfc (s : State) (f : Modem → Modem) : (s.setRdm f).nfc = s.nfc := rfl
@[simp] theorem State.setRdm_nfp (s : State) (f : Modem → Modem) : (s.setRdm f).nfp = s.nfp := rfl
@[simp] theorem State.setRdm_gpi (s : State) (f : Modem → Modem) : (s.setRdm f).gpi = s.gpi := rfl
@[simp] theorem State.setRdm_hif (s : State) (f : Modem → Modem) : (s.setRdm f).hif = s.hif := rfl
@[simp] theorem State.setRdm_rdm (s : State) (f : Modem → Modem) : (s.setRdm f).rdm = f s.rdm := rfl

/-! `setNfc` -/

@[simp] theorem State.setNfc_pending (s : State) (f : NfcField → NfcField) : (s.setNfc f).pending = s.pending := rfl
@[simp] theorem State.setNfc_regs (s : State) (f : NfcField → NfcField) : (s.setNfc f).regs = s.regs := rfl
@[simp] theorem State.setNfc_mem (s : State) (f : NfcField → NfcField) : (s.setNfc f).mem = s.mem := rfl
@[simp] theorem State.setNfc_ctr (s : State) (f : NfcField → NfcField) : (s.setNfc f).ctr = s.ctr := rfl
@[simp] theorem State.setNfc_cyc (s : State) (f : NfcField → NfcField) : (s.setNfc f).cyc = s.cyc := rfl
@[simp] theorem State.setNfc_raised (s : State) (f : NfcField → NfcField) : (s.setNfc f).raised = s.raised := rfl
@[simp] theorem State.setNfc_occ (s : State) (f : NfcField → NfcField) : (s.setNfc f).occ = s.occ := rfl
@[simp] theorem State.setNfc_evtWait (s : State) (f : NfcField → NfcField) : (s.setNfc f).evtWait = s.evtWait := rfl
@[simp] theorem State.setNfc_latches (s : State) (f : NfcField → NfcField) : (s.setNfc f).latches = s.latches := rfl
@[simp] theorem State.setNfc_irqReleasedA (s : State) (f : NfcField → NfcField) : (s.setNfc f).irqReleasedA = s.irqReleasedA := rfl
@[simp] theorem State.setNfc_irqReleasedB (s : State) (f : NfcField → NfcField) : (s.setNfc f).irqReleasedB = s.irqReleasedB := rfl
@[simp] theorem State.setNfc_ids (s : State) (f : NfcField → NfcField) : (s.setNfc f).ids = s.ids := rfl
@[simp] theorem State.setNfc_xings (s : State) (f : NfcField → NfcField) : (s.setNfc f).xings = s.xings := rfl
@[simp] theorem State.setNfc_used (s : State) (f : NfcField → NfcField) : (s.setNfc f).used = s.used := rfl
@[simp] theorem State.setNfc_stuck (s : State) (f : NfcField → NfcField) : (s.setNfc f).stuck = s.stuck := rfl
@[simp] theorem State.setNfc_stallReset (s : State) (f : NfcField → NfcField) : (s.setNfc f).stallReset = s.stallReset := rfl
@[simp] theorem State.setNfc_hostOut (s : State) (f : NfcField → NfcField) : (s.setNfc f).hostOut = s.hostOut := rfl
@[simp] theorem State.setNfc_cmt (s : State) (f : NfcField → NfcField) : (s.setNfc f).cmt = s.cmt := rfl
@[simp] theorem State.setNfc_pwr (s : State) (f : NfcField → NfcField) : (s.setNfc f).pwr = s.pwr := rfl
@[simp] theorem State.setNfc_thm (s : State) (f : NfcField → NfcField) : (s.setNfc f).thm = s.thm := rfl
@[simp] theorem State.setNfc_sch (s : State) (f : NfcField → NfcField) : (s.setNfc f).sch = s.sch := rfl
@[simp] theorem State.setNfc_clk (s : State) (f : NfcField → NfcField) : (s.setNfc f).clk = s.clk := rfl
@[simp] theorem State.setNfc_cal (s : State) (f : NfcField → NfcField) : (s.setNfc f).cal = s.cal := rfl
@[simp] theorem State.setNfc_engines (s : State) (f : NfcField → NfcField) : (s.setNfc f).engines = s.engines := rfl
@[simp] theorem State.setNfc_tx (s : State) (f : NfcField → NfcField) : (s.setNfc f).tx = s.tx := rfl
@[simp] theorem State.setNfc_rx (s : State) (f : NfcField → NfcField) : (s.setNfc f).rx = s.rx := rfl
@[simp] theorem State.setNfc_fec (s : State) (f : NfcField → NfcField) : (s.setNfc f).fec = s.fec := rfl
@[simp] theorem State.setNfc_leg (s : State) (f : NfcField → NfcField) : (s.setNfc f).leg = s.leg := rfl
@[simp] theorem State.setNfc_sec (s : State) (f : NfcField → NfcField) : (s.setNfc f).sec = s.sec := rfl
@[simp] theorem State.setNfc_line (s : State) (f : NfcField → NfcField) : (s.setNfc f).line = s.line := rfl
@[simp] theorem State.setNfc_rad (s : State) (f : NfcField → NfcField) : (s.setNfc f).rad = s.rad := rfl
@[simp] theorem State.setNfc_rdm (s : State) (f : NfcField → NfcField) : (s.setNfc f).rdm = s.rdm := rfl
@[simp] theorem State.setNfc_nfp (s : State) (f : NfcField → NfcField) : (s.setNfc f).nfp = s.nfp := rfl
@[simp] theorem State.setNfc_gpi (s : State) (f : NfcField → NfcField) : (s.setNfc f).gpi = s.gpi := rfl
@[simp] theorem State.setNfc_hif (s : State) (f : NfcField → NfcField) : (s.setNfc f).hif = s.hif := rfl
@[simp] theorem State.setNfc_nfc (s : State) (f : NfcField → NfcField) : (s.setNfc f).nfc = f s.nfc := rfl

/-! `setNfp` -/

@[simp] theorem State.setNfp_pending (s : State) (f : Nfp → Nfp) : (s.setNfp f).pending = s.pending := rfl
@[simp] theorem State.setNfp_regs (s : State) (f : Nfp → Nfp) : (s.setNfp f).regs = s.regs := rfl
@[simp] theorem State.setNfp_mem (s : State) (f : Nfp → Nfp) : (s.setNfp f).mem = s.mem := rfl
@[simp] theorem State.setNfp_ctr (s : State) (f : Nfp → Nfp) : (s.setNfp f).ctr = s.ctr := rfl
@[simp] theorem State.setNfp_cyc (s : State) (f : Nfp → Nfp) : (s.setNfp f).cyc = s.cyc := rfl
@[simp] theorem State.setNfp_raised (s : State) (f : Nfp → Nfp) : (s.setNfp f).raised = s.raised := rfl
@[simp] theorem State.setNfp_occ (s : State) (f : Nfp → Nfp) : (s.setNfp f).occ = s.occ := rfl
@[simp] theorem State.setNfp_evtWait (s : State) (f : Nfp → Nfp) : (s.setNfp f).evtWait = s.evtWait := rfl
@[simp] theorem State.setNfp_latches (s : State) (f : Nfp → Nfp) : (s.setNfp f).latches = s.latches := rfl
@[simp] theorem State.setNfp_irqReleasedA (s : State) (f : Nfp → Nfp) : (s.setNfp f).irqReleasedA = s.irqReleasedA := rfl
@[simp] theorem State.setNfp_irqReleasedB (s : State) (f : Nfp → Nfp) : (s.setNfp f).irqReleasedB = s.irqReleasedB := rfl
@[simp] theorem State.setNfp_ids (s : State) (f : Nfp → Nfp) : (s.setNfp f).ids = s.ids := rfl
@[simp] theorem State.setNfp_xings (s : State) (f : Nfp → Nfp) : (s.setNfp f).xings = s.xings := rfl
@[simp] theorem State.setNfp_used (s : State) (f : Nfp → Nfp) : (s.setNfp f).used = s.used := rfl
@[simp] theorem State.setNfp_stuck (s : State) (f : Nfp → Nfp) : (s.setNfp f).stuck = s.stuck := rfl
@[simp] theorem State.setNfp_stallReset (s : State) (f : Nfp → Nfp) : (s.setNfp f).stallReset = s.stallReset := rfl
@[simp] theorem State.setNfp_hostOut (s : State) (f : Nfp → Nfp) : (s.setNfp f).hostOut = s.hostOut := rfl
@[simp] theorem State.setNfp_cmt (s : State) (f : Nfp → Nfp) : (s.setNfp f).cmt = s.cmt := rfl
@[simp] theorem State.setNfp_pwr (s : State) (f : Nfp → Nfp) : (s.setNfp f).pwr = s.pwr := rfl
@[simp] theorem State.setNfp_thm (s : State) (f : Nfp → Nfp) : (s.setNfp f).thm = s.thm := rfl
@[simp] theorem State.setNfp_sch (s : State) (f : Nfp → Nfp) : (s.setNfp f).sch = s.sch := rfl
@[simp] theorem State.setNfp_clk (s : State) (f : Nfp → Nfp) : (s.setNfp f).clk = s.clk := rfl
@[simp] theorem State.setNfp_cal (s : State) (f : Nfp → Nfp) : (s.setNfp f).cal = s.cal := rfl
@[simp] theorem State.setNfp_engines (s : State) (f : Nfp → Nfp) : (s.setNfp f).engines = s.engines := rfl
@[simp] theorem State.setNfp_tx (s : State) (f : Nfp → Nfp) : (s.setNfp f).tx = s.tx := rfl
@[simp] theorem State.setNfp_rx (s : State) (f : Nfp → Nfp) : (s.setNfp f).rx = s.rx := rfl
@[simp] theorem State.setNfp_fec (s : State) (f : Nfp → Nfp) : (s.setNfp f).fec = s.fec := rfl
@[simp] theorem State.setNfp_leg (s : State) (f : Nfp → Nfp) : (s.setNfp f).leg = s.leg := rfl
@[simp] theorem State.setNfp_sec (s : State) (f : Nfp → Nfp) : (s.setNfp f).sec = s.sec := rfl
@[simp] theorem State.setNfp_line (s : State) (f : Nfp → Nfp) : (s.setNfp f).line = s.line := rfl
@[simp] theorem State.setNfp_rad (s : State) (f : Nfp → Nfp) : (s.setNfp f).rad = s.rad := rfl
@[simp] theorem State.setNfp_rdm (s : State) (f : Nfp → Nfp) : (s.setNfp f).rdm = s.rdm := rfl
@[simp] theorem State.setNfp_nfc (s : State) (f : Nfp → Nfp) : (s.setNfp f).nfc = s.nfc := rfl
@[simp] theorem State.setNfp_gpi (s : State) (f : Nfp → Nfp) : (s.setNfp f).gpi = s.gpi := rfl
@[simp] theorem State.setNfp_hif (s : State) (f : Nfp → Nfp) : (s.setNfp f).hif = s.hif := rfl
@[simp] theorem State.setNfp_nfp (s : State) (f : Nfp → Nfp) : (s.setNfp f).nfp = f s.nfp := rfl

/-! A crossing -/

@[simp] theorem State.putXing_pending (s : State) (n : Nat) (x : Xing) : (s.putXing n x).pending = s.pending := rfl
@[simp] theorem State.putXing_regs (s : State) (n : Nat) (x : Xing) : (s.putXing n x).regs = s.regs := rfl
@[simp] theorem State.putXing_mem (s : State) (n : Nat) (x : Xing) : (s.putXing n x).mem = s.mem := rfl
@[simp] theorem State.putXing_ctr (s : State) (n : Nat) (x : Xing) : (s.putXing n x).ctr = s.ctr := rfl
@[simp] theorem State.putXing_cyc (s : State) (n : Nat) (x : Xing) : (s.putXing n x).cyc = s.cyc := rfl
@[simp] theorem State.putXing_raised (s : State) (n : Nat) (x : Xing) : (s.putXing n x).raised = s.raised := rfl
@[simp] theorem State.putXing_occ (s : State) (n : Nat) (x : Xing) : (s.putXing n x).occ = s.occ := rfl
@[simp] theorem State.putXing_evtWait (s : State) (n : Nat) (x : Xing) : (s.putXing n x).evtWait = s.evtWait := rfl
@[simp] theorem State.putXing_latches (s : State) (n : Nat) (x : Xing) : (s.putXing n x).latches = s.latches := rfl
@[simp] theorem State.putXing_irqReleasedA (s : State) (n : Nat) (x : Xing) : (s.putXing n x).irqReleasedA = s.irqReleasedA := rfl
@[simp] theorem State.putXing_irqReleasedB (s : State) (n : Nat) (x : Xing) : (s.putXing n x).irqReleasedB = s.irqReleasedB := rfl
@[simp] theorem State.putXing_ids (s : State) (n : Nat) (x : Xing) : (s.putXing n x).ids = s.ids := rfl
@[simp] theorem State.putXing_used (s : State) (n : Nat) (x : Xing) : (s.putXing n x).used = s.used := rfl
@[simp] theorem State.putXing_stuck (s : State) (n : Nat) (x : Xing) : (s.putXing n x).stuck = s.stuck := rfl
@[simp] theorem State.putXing_stallReset (s : State) (n : Nat) (x : Xing) : (s.putXing n x).stallReset = s.stallReset := rfl
@[simp] theorem State.putXing_hostOut (s : State) (n : Nat) (x : Xing) : (s.putXing n x).hostOut = s.hostOut := rfl
@[simp] theorem State.putXing_cmt (s : State) (n : Nat) (x : Xing) : (s.putXing n x).cmt = s.cmt := rfl
@[simp] theorem State.putXing_pwr (s : State) (n : Nat) (x : Xing) : (s.putXing n x).pwr = s.pwr := rfl
@[simp] theorem State.putXing_thm (s : State) (n : Nat) (x : Xing) : (s.putXing n x).thm = s.thm := rfl
@[simp] theorem State.putXing_sch (s : State) (n : Nat) (x : Xing) : (s.putXing n x).sch = s.sch := rfl
@[simp] theorem State.putXing_clk (s : State) (n : Nat) (x : Xing) : (s.putXing n x).clk = s.clk := rfl
@[simp] theorem State.putXing_cal (s : State) (n : Nat) (x : Xing) : (s.putXing n x).cal = s.cal := rfl
@[simp] theorem State.putXing_engines (s : State) (n : Nat) (x : Xing) : (s.putXing n x).engines = s.engines := rfl
@[simp] theorem State.putXing_tx (s : State) (n : Nat) (x : Xing) : (s.putXing n x).tx = s.tx := rfl
@[simp] theorem State.putXing_rx (s : State) (n : Nat) (x : Xing) : (s.putXing n x).rx = s.rx := rfl
@[simp] theorem State.putXing_fec (s : State) (n : Nat) (x : Xing) : (s.putXing n x).fec = s.fec := rfl
@[simp] theorem State.putXing_leg (s : State) (n : Nat) (x : Xing) : (s.putXing n x).leg = s.leg := rfl
@[simp] theorem State.putXing_sec (s : State) (n : Nat) (x : Xing) : (s.putXing n x).sec = s.sec := rfl
@[simp] theorem State.putXing_line (s : State) (n : Nat) (x : Xing) : (s.putXing n x).line = s.line := rfl
@[simp] theorem State.putXing_rad (s : State) (n : Nat) (x : Xing) : (s.putXing n x).rad = s.rad := rfl
@[simp] theorem State.putXing_rdm (s : State) (n : Nat) (x : Xing) : (s.putXing n x).rdm = s.rdm := rfl
@[simp] theorem State.putXing_nfc (s : State) (n : Nat) (x : Xing) : (s.putXing n x).nfc = s.nfc := rfl
@[simp] theorem State.putXing_nfp (s : State) (n : Nat) (x : Xing) : (s.putXing n x).nfp = s.nfp := rfl
@[simp] theorem State.putXing_gpi (s : State) (n : Nat) (x : Xing) : (s.putXing n x).gpi = s.gpi := rfl
@[simp] theorem State.putXing_hif (s : State) (n : Nat) (x : Xing) : (s.putXing n x).hif = s.hif := rfl
@[simp] theorem State.putXing_xings (s : State) (n : Nat) (x : Xing) : (s.putXing n x).xings = s.xings.set n x := rfl

/-! A link engine -/

@[simp] theorem State.setEng_pending (s : State) (n : Nat) (e : Engine) : (s.setEng n e).pending = s.pending := rfl
@[simp] theorem State.setEng_regs (s : State) (n : Nat) (e : Engine) : (s.setEng n e).regs = s.regs := rfl
@[simp] theorem State.setEng_mem (s : State) (n : Nat) (e : Engine) : (s.setEng n e).mem = s.mem := rfl
@[simp] theorem State.setEng_ctr (s : State) (n : Nat) (e : Engine) : (s.setEng n e).ctr = s.ctr := rfl
@[simp] theorem State.setEng_cyc (s : State) (n : Nat) (e : Engine) : (s.setEng n e).cyc = s.cyc := rfl
@[simp] theorem State.setEng_raised (s : State) (n : Nat) (e : Engine) : (s.setEng n e).raised = s.raised := rfl
@[simp] theorem State.setEng_occ (s : State) (n : Nat) (e : Engine) : (s.setEng n e).occ = s.occ := rfl
@[simp] theorem State.setEng_evtWait (s : State) (n : Nat) (e : Engine) : (s.setEng n e).evtWait = s.evtWait := rfl
@[simp] theorem State.setEng_latches (s : State) (n : Nat) (e : Engine) : (s.setEng n e).latches = s.latches := rfl
@[simp] theorem State.setEng_irqReleasedA (s : State) (n : Nat) (e : Engine) : (s.setEng n e).irqReleasedA = s.irqReleasedA := rfl
@[simp] theorem State.setEng_irqReleasedB (s : State) (n : Nat) (e : Engine) : (s.setEng n e).irqReleasedB = s.irqReleasedB := rfl
@[simp] theorem State.setEng_ids (s : State) (n : Nat) (e : Engine) : (s.setEng n e).ids = s.ids := rfl
@[simp] theorem State.setEng_xings (s : State) (n : Nat) (e : Engine) : (s.setEng n e).xings = s.xings := rfl
@[simp] theorem State.setEng_used (s : State) (n : Nat) (e : Engine) : (s.setEng n e).used = s.used := rfl
@[simp] theorem State.setEng_stuck (s : State) (n : Nat) (e : Engine) : (s.setEng n e).stuck = s.stuck := rfl
@[simp] theorem State.setEng_stallReset (s : State) (n : Nat) (e : Engine) : (s.setEng n e).stallReset = s.stallReset := rfl
@[simp] theorem State.setEng_hostOut (s : State) (n : Nat) (e : Engine) : (s.setEng n e).hostOut = s.hostOut := rfl
@[simp] theorem State.setEng_cmt (s : State) (n : Nat) (e : Engine) : (s.setEng n e).cmt = s.cmt := rfl
@[simp] theorem State.setEng_pwr (s : State) (n : Nat) (e : Engine) : (s.setEng n e).pwr = s.pwr := rfl
@[simp] theorem State.setEng_thm (s : State) (n : Nat) (e : Engine) : (s.setEng n e).thm = s.thm := rfl
@[simp] theorem State.setEng_sch (s : State) (n : Nat) (e : Engine) : (s.setEng n e).sch = s.sch := rfl
@[simp] theorem State.setEng_clk (s : State) (n : Nat) (e : Engine) : (s.setEng n e).clk = s.clk := rfl
@[simp] theorem State.setEng_cal (s : State) (n : Nat) (e : Engine) : (s.setEng n e).cal = s.cal := rfl
@[simp] theorem State.setEng_tx (s : State) (n : Nat) (e : Engine) : (s.setEng n e).tx = s.tx := rfl
@[simp] theorem State.setEng_rx (s : State) (n : Nat) (e : Engine) : (s.setEng n e).rx = s.rx := rfl
@[simp] theorem State.setEng_fec (s : State) (n : Nat) (e : Engine) : (s.setEng n e).fec = s.fec := rfl
@[simp] theorem State.setEng_leg (s : State) (n : Nat) (e : Engine) : (s.setEng n e).leg = s.leg := rfl
@[simp] theorem State.setEng_sec (s : State) (n : Nat) (e : Engine) : (s.setEng n e).sec = s.sec := rfl
@[simp] theorem State.setEng_line (s : State) (n : Nat) (e : Engine) : (s.setEng n e).line = s.line := rfl
@[simp] theorem State.setEng_rad (s : State) (n : Nat) (e : Engine) : (s.setEng n e).rad = s.rad := rfl
@[simp] theorem State.setEng_rdm (s : State) (n : Nat) (e : Engine) : (s.setEng n e).rdm = s.rdm := rfl
@[simp] theorem State.setEng_nfc (s : State) (n : Nat) (e : Engine) : (s.setEng n e).nfc = s.nfc := rfl
@[simp] theorem State.setEng_nfp (s : State) (n : Nat) (e : Engine) : (s.setEng n e).nfp = s.nfp := rfl
@[simp] theorem State.setEng_gpi (s : State) (n : Nat) (e : Engine) : (s.setEng n e).gpi = s.gpi := rfl
@[simp] theorem State.setEng_hif (s : State) (n : Nat) (e : Engine) : (s.setEng n e).hif = s.hif := rfl
@[simp] theorem State.setEng_engines (s : State) (n : Nat) (e : Engine) : (s.setEng n e).engines = s.engines.set n e := rfl

/-! A GP pin -/

@[simp] theorem State.setGp_pending (s : State) (n : Nat) (f : GpPin → GpPin) : (s.setGp n f).pending = s.pending := rfl
@[simp] theorem State.setGp_regs (s : State) (n : Nat) (f : GpPin → GpPin) : (s.setGp n f).regs = s.regs := rfl
@[simp] theorem State.setGp_mem (s : State) (n : Nat) (f : GpPin → GpPin) : (s.setGp n f).mem = s.mem := rfl
@[simp] theorem State.setGp_ctr (s : State) (n : Nat) (f : GpPin → GpPin) : (s.setGp n f).ctr = s.ctr := rfl
@[simp] theorem State.setGp_cyc (s : State) (n : Nat) (f : GpPin → GpPin) : (s.setGp n f).cyc = s.cyc := rfl
@[simp] theorem State.setGp_raised (s : State) (n : Nat) (f : GpPin → GpPin) : (s.setGp n f).raised = s.raised := rfl
@[simp] theorem State.setGp_occ (s : State) (n : Nat) (f : GpPin → GpPin) : (s.setGp n f).occ = s.occ := rfl
@[simp] theorem State.setGp_evtWait (s : State) (n : Nat) (f : GpPin → GpPin) : (s.setGp n f).evtWait = s.evtWait := rfl
@[simp] theorem State.setGp_latches (s : State) (n : Nat) (f : GpPin → GpPin) : (s.setGp n f).latches = s.latches := rfl
@[simp] theorem State.setGp_irqReleasedA (s : State) (n : Nat) (f : GpPin → GpPin) : (s.setGp n f).irqReleasedA = s.irqReleasedA := rfl
@[simp] theorem State.setGp_irqReleasedB (s : State) (n : Nat) (f : GpPin → GpPin) : (s.setGp n f).irqReleasedB = s.irqReleasedB := rfl
@[simp] theorem State.setGp_ids (s : State) (n : Nat) (f : GpPin → GpPin) : (s.setGp n f).ids = s.ids := rfl
@[simp] theorem State.setGp_xings (s : State) (n : Nat) (f : GpPin → GpPin) : (s.setGp n f).xings = s.xings := rfl
@[simp] theorem State.setGp_used (s : State) (n : Nat) (f : GpPin → GpPin) : (s.setGp n f).used = s.used := rfl
@[simp] theorem State.setGp_stuck (s : State) (n : Nat) (f : GpPin → GpPin) : (s.setGp n f).stuck = s.stuck := rfl
@[simp] theorem State.setGp_stallReset (s : State) (n : Nat) (f : GpPin → GpPin) : (s.setGp n f).stallReset = s.stallReset := rfl
@[simp] theorem State.setGp_hostOut (s : State) (n : Nat) (f : GpPin → GpPin) : (s.setGp n f).hostOut = s.hostOut := rfl
@[simp] theorem State.setGp_cmt (s : State) (n : Nat) (f : GpPin → GpPin) : (s.setGp n f).cmt = s.cmt := rfl
@[simp] theorem State.setGp_pwr (s : State) (n : Nat) (f : GpPin → GpPin) : (s.setGp n f).pwr = s.pwr := rfl
@[simp] theorem State.setGp_thm (s : State) (n : Nat) (f : GpPin → GpPin) : (s.setGp n f).thm = s.thm := rfl
@[simp] theorem State.setGp_sch (s : State) (n : Nat) (f : GpPin → GpPin) : (s.setGp n f).sch = s.sch := rfl
@[simp] theorem State.setGp_clk (s : State) (n : Nat) (f : GpPin → GpPin) : (s.setGp n f).clk = s.clk := rfl
@[simp] theorem State.setGp_cal (s : State) (n : Nat) (f : GpPin → GpPin) : (s.setGp n f).cal = s.cal := rfl
@[simp] theorem State.setGp_engines (s : State) (n : Nat) (f : GpPin → GpPin) : (s.setGp n f).engines = s.engines := rfl
@[simp] theorem State.setGp_tx (s : State) (n : Nat) (f : GpPin → GpPin) : (s.setGp n f).tx = s.tx := rfl
@[simp] theorem State.setGp_rx (s : State) (n : Nat) (f : GpPin → GpPin) : (s.setGp n f).rx = s.rx := rfl
@[simp] theorem State.setGp_fec (s : State) (n : Nat) (f : GpPin → GpPin) : (s.setGp n f).fec = s.fec := rfl
@[simp] theorem State.setGp_leg (s : State) (n : Nat) (f : GpPin → GpPin) : (s.setGp n f).leg = s.leg := rfl
@[simp] theorem State.setGp_sec (s : State) (n : Nat) (f : GpPin → GpPin) : (s.setGp n f).sec = s.sec := rfl
@[simp] theorem State.setGp_line (s : State) (n : Nat) (f : GpPin → GpPin) : (s.setGp n f).line = s.line := rfl
@[simp] theorem State.setGp_rad (s : State) (n : Nat) (f : GpPin → GpPin) : (s.setGp n f).rad = s.rad := rfl
@[simp] theorem State.setGp_rdm (s : State) (n : Nat) (f : GpPin → GpPin) : (s.setGp n f).rdm = s.rdm := rfl
@[simp] theorem State.setGp_nfc (s : State) (n : Nat) (f : GpPin → GpPin) : (s.setGp n f).nfc = s.nfc := rfl
@[simp] theorem State.setGp_nfp (s : State) (n : Nat) (f : GpPin → GpPin) : (s.setGp n f).nfp = s.nfp := rfl
@[simp] theorem State.setGp_hif (s : State) (n : Nat) (f : GpPin → GpPin) : (s.setGp n f).hif = s.hif := rfl

/-! A pop position -/

@[simp] theorem State.setPop_pending (s : State) (q : Nat) (p : Pop) : (s.setPop q p).pending = s.pending := rfl
@[simp] theorem State.setPop_regs (s : State) (q : Nat) (p : Pop) : (s.setPop q p).regs = s.regs := rfl
@[simp] theorem State.setPop_mem (s : State) (q : Nat) (p : Pop) : (s.setPop q p).mem = s.mem := rfl
@[simp] theorem State.setPop_ctr (s : State) (q : Nat) (p : Pop) : (s.setPop q p).ctr = s.ctr := rfl
@[simp] theorem State.setPop_cyc (s : State) (q : Nat) (p : Pop) : (s.setPop q p).cyc = s.cyc := rfl
@[simp] theorem State.setPop_raised (s : State) (q : Nat) (p : Pop) : (s.setPop q p).raised = s.raised := rfl
@[simp] theorem State.setPop_occ (s : State) (q : Nat) (p : Pop) : (s.setPop q p).occ = s.occ := rfl
@[simp] theorem State.setPop_evtWait (s : State) (q : Nat) (p : Pop) : (s.setPop q p).evtWait = s.evtWait := rfl
@[simp] theorem State.setPop_latches (s : State) (q : Nat) (p : Pop) : (s.setPop q p).latches = s.latches := rfl
@[simp] theorem State.setPop_irqReleasedA (s : State) (q : Nat) (p : Pop) : (s.setPop q p).irqReleasedA = s.irqReleasedA := rfl
@[simp] theorem State.setPop_irqReleasedB (s : State) (q : Nat) (p : Pop) : (s.setPop q p).irqReleasedB = s.irqReleasedB := rfl
@[simp] theorem State.setPop_ids (s : State) (q : Nat) (p : Pop) : (s.setPop q p).ids = s.ids := rfl
@[simp] theorem State.setPop_xings (s : State) (q : Nat) (p : Pop) : (s.setPop q p).xings = s.xings := rfl
@[simp] theorem State.setPop_used (s : State) (q : Nat) (p : Pop) : (s.setPop q p).used = s.used := rfl
@[simp] theorem State.setPop_stuck (s : State) (q : Nat) (p : Pop) : (s.setPop q p).stuck = s.stuck := rfl
@[simp] theorem State.setPop_stallReset (s : State) (q : Nat) (p : Pop) : (s.setPop q p).stallReset = s.stallReset := rfl
@[simp] theorem State.setPop_hostOut (s : State) (q : Nat) (p : Pop) : (s.setPop q p).hostOut = s.hostOut := rfl
@[simp] theorem State.setPop_cmt (s : State) (q : Nat) (p : Pop) : (s.setPop q p).cmt = s.cmt := rfl
@[simp] theorem State.setPop_pwr (s : State) (q : Nat) (p : Pop) : (s.setPop q p).pwr = s.pwr := rfl
@[simp] theorem State.setPop_thm (s : State) (q : Nat) (p : Pop) : (s.setPop q p).thm = s.thm := rfl
@[simp] theorem State.setPop_sch (s : State) (q : Nat) (p : Pop) : (s.setPop q p).sch = s.sch := rfl
@[simp] theorem State.setPop_clk (s : State) (q : Nat) (p : Pop) : (s.setPop q p).clk = s.clk := rfl
@[simp] theorem State.setPop_cal (s : State) (q : Nat) (p : Pop) : (s.setPop q p).cal = s.cal := rfl
@[simp] theorem State.setPop_engines (s : State) (q : Nat) (p : Pop) : (s.setPop q p).engines = s.engines := rfl
@[simp] theorem State.setPop_tx (s : State) (q : Nat) (p : Pop) : (s.setPop q p).tx = s.tx := rfl
@[simp] theorem State.setPop_rx (s : State) (q : Nat) (p : Pop) : (s.setPop q p).rx = s.rx := rfl
@[simp] theorem State.setPop_fec (s : State) (q : Nat) (p : Pop) : (s.setPop q p).fec = s.fec := rfl
@[simp] theorem State.setPop_leg (s : State) (q : Nat) (p : Pop) : (s.setPop q p).leg = s.leg := rfl
@[simp] theorem State.setPop_sec (s : State) (q : Nat) (p : Pop) : (s.setPop q p).sec = s.sec := rfl
@[simp] theorem State.setPop_line (s : State) (q : Nat) (p : Pop) : (s.setPop q p).line = s.line := rfl
@[simp] theorem State.setPop_rad (s : State) (q : Nat) (p : Pop) : (s.setPop q p).rad = s.rad := rfl
@[simp] theorem State.setPop_rdm (s : State) (q : Nat) (p : Pop) : (s.setPop q p).rdm = s.rdm := rfl
@[simp] theorem State.setPop_nfc (s : State) (q : Nat) (p : Pop) : (s.setPop q p).nfc = s.nfc := rfl
@[simp] theorem State.setPop_nfp (s : State) (q : Nat) (p : Pop) : (s.setPop q p).nfp = s.nfp := rfl
@[simp] theorem State.setPop_gpi (s : State) (q : Nat) (p : Pop) : (s.setPop q p).gpi = s.gpi := rfl

/-! A counter record -/

@[simp] theorem State.setCtrRec_pending (s : State) (k : Nat) (r : CtrRec) : (s.setCtrRec k r).pending = s.pending := rfl
@[simp] theorem State.setCtrRec_regs (s : State) (k : Nat) (r : CtrRec) : (s.setCtrRec k r).regs = s.regs := rfl
@[simp] theorem State.setCtrRec_mem (s : State) (k : Nat) (r : CtrRec) : (s.setCtrRec k r).mem = s.mem := rfl
@[simp] theorem State.setCtrRec_ctr (s : State) (k : Nat) (r : CtrRec) : (s.setCtrRec k r).ctr = s.ctr := rfl
@[simp] theorem State.setCtrRec_cyc (s : State) (k : Nat) (r : CtrRec) : (s.setCtrRec k r).cyc = s.cyc := rfl
@[simp] theorem State.setCtrRec_raised (s : State) (k : Nat) (r : CtrRec) : (s.setCtrRec k r).raised = s.raised := rfl
@[simp] theorem State.setCtrRec_occ (s : State) (k : Nat) (r : CtrRec) : (s.setCtrRec k r).occ = s.occ := rfl
@[simp] theorem State.setCtrRec_evtWait (s : State) (k : Nat) (r : CtrRec) : (s.setCtrRec k r).evtWait = s.evtWait := rfl
@[simp] theorem State.setCtrRec_latches (s : State) (k : Nat) (r : CtrRec) : (s.setCtrRec k r).latches = s.latches := rfl
@[simp] theorem State.setCtrRec_irqReleasedA (s : State) (k : Nat) (r : CtrRec) : (s.setCtrRec k r).irqReleasedA = s.irqReleasedA := rfl
@[simp] theorem State.setCtrRec_irqReleasedB (s : State) (k : Nat) (r : CtrRec) : (s.setCtrRec k r).irqReleasedB = s.irqReleasedB := rfl
@[simp] theorem State.setCtrRec_ids (s : State) (k : Nat) (r : CtrRec) : (s.setCtrRec k r).ids = s.ids := rfl
@[simp] theorem State.setCtrRec_xings (s : State) (k : Nat) (r : CtrRec) : (s.setCtrRec k r).xings = s.xings := rfl
@[simp] theorem State.setCtrRec_used (s : State) (k : Nat) (r : CtrRec) : (s.setCtrRec k r).used = s.used := rfl
@[simp] theorem State.setCtrRec_stuck (s : State) (k : Nat) (r : CtrRec) : (s.setCtrRec k r).stuck = s.stuck := rfl
@[simp] theorem State.setCtrRec_stallReset (s : State) (k : Nat) (r : CtrRec) : (s.setCtrRec k r).stallReset = s.stallReset := rfl
@[simp] theorem State.setCtrRec_hostOut (s : State) (k : Nat) (r : CtrRec) : (s.setCtrRec k r).hostOut = s.hostOut := rfl
@[simp] theorem State.setCtrRec_cmt (s : State) (k : Nat) (r : CtrRec) : (s.setCtrRec k r).cmt = s.cmt := rfl
@[simp] theorem State.setCtrRec_pwr (s : State) (k : Nat) (r : CtrRec) : (s.setCtrRec k r).pwr = s.pwr := rfl
@[simp] theorem State.setCtrRec_thm (s : State) (k : Nat) (r : CtrRec) : (s.setCtrRec k r).thm = s.thm := rfl
@[simp] theorem State.setCtrRec_sch (s : State) (k : Nat) (r : CtrRec) : (s.setCtrRec k r).sch = s.sch := rfl
@[simp] theorem State.setCtrRec_clk (s : State) (k : Nat) (r : CtrRec) : (s.setCtrRec k r).clk = s.clk := rfl
@[simp] theorem State.setCtrRec_cal (s : State) (k : Nat) (r : CtrRec) : (s.setCtrRec k r).cal = s.cal := rfl
@[simp] theorem State.setCtrRec_engines (s : State) (k : Nat) (r : CtrRec) : (s.setCtrRec k r).engines = s.engines := rfl
@[simp] theorem State.setCtrRec_tx (s : State) (k : Nat) (r : CtrRec) : (s.setCtrRec k r).tx = s.tx := rfl
@[simp] theorem State.setCtrRec_rx (s : State) (k : Nat) (r : CtrRec) : (s.setCtrRec k r).rx = s.rx := rfl
@[simp] theorem State.setCtrRec_fec (s : State) (k : Nat) (r : CtrRec) : (s.setCtrRec k r).fec = s.fec := rfl
@[simp] theorem State.setCtrRec_leg (s : State) (k : Nat) (r : CtrRec) : (s.setCtrRec k r).leg = s.leg := rfl
@[simp] theorem State.setCtrRec_line (s : State) (k : Nat) (r : CtrRec) : (s.setCtrRec k r).line = s.line := rfl
@[simp] theorem State.setCtrRec_rad (s : State) (k : Nat) (r : CtrRec) : (s.setCtrRec k r).rad = s.rad := rfl
@[simp] theorem State.setCtrRec_rdm (s : State) (k : Nat) (r : CtrRec) : (s.setCtrRec k r).rdm = s.rdm := rfl
@[simp] theorem State.setCtrRec_nfc (s : State) (k : Nat) (r : CtrRec) : (s.setCtrRec k r).nfc = s.nfc := rfl
@[simp] theorem State.setCtrRec_nfp (s : State) (k : Nat) (r : CtrRec) : (s.setCtrRec k r).nfp = s.nfp := rfl
@[simp] theorem State.setCtrRec_gpi (s : State) (k : Nat) (r : CtrRec) : (s.setCtrRec k r).gpi = s.gpi := rfl
@[simp] theorem State.setCtrRec_hif (s : State) (k : Nat) (r : CtrRec) : (s.setCtrRec k r).hif = s.hif := rfl

/-! A key -/

@[simp] theorem State.setKey_pending (s : State) (n : Nat) (k : Option (List Byte)) : (s.setKey n k).pending = s.pending := rfl
@[simp] theorem State.setKey_mem (s : State) (n : Nat) (k : Option (List Byte)) : (s.setKey n k).mem = s.mem := rfl
@[simp] theorem State.setKey_ctr (s : State) (n : Nat) (k : Option (List Byte)) : (s.setKey n k).ctr = s.ctr := rfl
@[simp] theorem State.setKey_cyc (s : State) (n : Nat) (k : Option (List Byte)) : (s.setKey n k).cyc = s.cyc := rfl
@[simp] theorem State.setKey_raised (s : State) (n : Nat) (k : Option (List Byte)) : (s.setKey n k).raised = s.raised := rfl
@[simp] theorem State.setKey_occ (s : State) (n : Nat) (k : Option (List Byte)) : (s.setKey n k).occ = s.occ := rfl
@[simp] theorem State.setKey_evtWait (s : State) (n : Nat) (k : Option (List Byte)) : (s.setKey n k).evtWait = s.evtWait := rfl
@[simp] theorem State.setKey_latches (s : State) (n : Nat) (k : Option (List Byte)) : (s.setKey n k).latches = s.latches := rfl
@[simp] theorem State.setKey_irqReleasedA (s : State) (n : Nat) (k : Option (List Byte)) : (s.setKey n k).irqReleasedA = s.irqReleasedA := rfl
@[simp] theorem State.setKey_irqReleasedB (s : State) (n : Nat) (k : Option (List Byte)) : (s.setKey n k).irqReleasedB = s.irqReleasedB := rfl
@[simp] theorem State.setKey_ids (s : State) (n : Nat) (k : Option (List Byte)) : (s.setKey n k).ids = s.ids := rfl
@[simp] theorem State.setKey_xings (s : State) (n : Nat) (k : Option (List Byte)) : (s.setKey n k).xings = s.xings := rfl
@[simp] theorem State.setKey_used (s : State) (n : Nat) (k : Option (List Byte)) : (s.setKey n k).used = s.used := rfl
@[simp] theorem State.setKey_stuck (s : State) (n : Nat) (k : Option (List Byte)) : (s.setKey n k).stuck = s.stuck := rfl
@[simp] theorem State.setKey_stallReset (s : State) (n : Nat) (k : Option (List Byte)) : (s.setKey n k).stallReset = s.stallReset := rfl
@[simp] theorem State.setKey_hostOut (s : State) (n : Nat) (k : Option (List Byte)) : (s.setKey n k).hostOut = s.hostOut := rfl
@[simp] theorem State.setKey_cmt (s : State) (n : Nat) (k : Option (List Byte)) : (s.setKey n k).cmt = s.cmt := rfl
@[simp] theorem State.setKey_pwr (s : State) (n : Nat) (k : Option (List Byte)) : (s.setKey n k).pwr = s.pwr := rfl
@[simp] theorem State.setKey_thm (s : State) (n : Nat) (k : Option (List Byte)) : (s.setKey n k).thm = s.thm := rfl
@[simp] theorem State.setKey_sch (s : State) (n : Nat) (k : Option (List Byte)) : (s.setKey n k).sch = s.sch := rfl
@[simp] theorem State.setKey_clk (s : State) (n : Nat) (k : Option (List Byte)) : (s.setKey n k).clk = s.clk := rfl
@[simp] theorem State.setKey_cal (s : State) (n : Nat) (k : Option (List Byte)) : (s.setKey n k).cal = s.cal := rfl
@[simp] theorem State.setKey_engines (s : State) (n : Nat) (k : Option (List Byte)) : (s.setKey n k).engines = s.engines := rfl
@[simp] theorem State.setKey_tx (s : State) (n : Nat) (k : Option (List Byte)) : (s.setKey n k).tx = s.tx := rfl
@[simp] theorem State.setKey_rx (s : State) (n : Nat) (k : Option (List Byte)) : (s.setKey n k).rx = s.rx := rfl
@[simp] theorem State.setKey_fec (s : State) (n : Nat) (k : Option (List Byte)) : (s.setKey n k).fec = s.fec := rfl
@[simp] theorem State.setKey_leg (s : State) (n : Nat) (k : Option (List Byte)) : (s.setKey n k).leg = s.leg := rfl
@[simp] theorem State.setKey_line (s : State) (n : Nat) (k : Option (List Byte)) : (s.setKey n k).line = s.line := rfl
@[simp] theorem State.setKey_rad (s : State) (n : Nat) (k : Option (List Byte)) : (s.setKey n k).rad = s.rad := rfl
@[simp] theorem State.setKey_rdm (s : State) (n : Nat) (k : Option (List Byte)) : (s.setKey n k).rdm = s.rdm := rfl
@[simp] theorem State.setKey_nfc (s : State) (n : Nat) (k : Option (List Byte)) : (s.setKey n k).nfc = s.nfc := rfl
@[simp] theorem State.setKey_nfp (s : State) (n : Nat) (k : Option (List Byte)) : (s.setKey n k).nfp = s.nfp := rfl
@[simp] theorem State.setKey_gpi (s : State) (n : Nat) (k : Option (List Byte)) : (s.setKey n k).gpi = s.gpi := rfl
@[simp] theorem State.setKey_hif (s : State) (n : Nat) (k : Option (List Byte)) : (s.setKey n k).hif = s.hif := rfl

/-! A frame on its way out, on its way in -/

@[simp] theorem State.setTx_pending (s : State) (f : TxFrame) : (s.setTx f).pending = s.pending := rfl
@[simp] theorem State.setTx_regs (s : State) (f : TxFrame) : (s.setTx f).regs = s.regs := rfl
@[simp] theorem State.setTx_mem (s : State) (f : TxFrame) : (s.setTx f).mem = s.mem := rfl
@[simp] theorem State.setTx_ctr (s : State) (f : TxFrame) : (s.setTx f).ctr = s.ctr := rfl
@[simp] theorem State.setTx_cyc (s : State) (f : TxFrame) : (s.setTx f).cyc = s.cyc := rfl
@[simp] theorem State.setTx_raised (s : State) (f : TxFrame) : (s.setTx f).raised = s.raised := rfl
@[simp] theorem State.setTx_occ (s : State) (f : TxFrame) : (s.setTx f).occ = s.occ := rfl
@[simp] theorem State.setTx_evtWait (s : State) (f : TxFrame) : (s.setTx f).evtWait = s.evtWait := rfl
@[simp] theorem State.setTx_latches (s : State) (f : TxFrame) : (s.setTx f).latches = s.latches := rfl
@[simp] theorem State.setTx_irqReleasedA (s : State) (f : TxFrame) : (s.setTx f).irqReleasedA = s.irqReleasedA := rfl
@[simp] theorem State.setTx_irqReleasedB (s : State) (f : TxFrame) : (s.setTx f).irqReleasedB = s.irqReleasedB := rfl
@[simp] theorem State.setTx_ids (s : State) (f : TxFrame) : (s.setTx f).ids = s.ids := rfl
@[simp] theorem State.setTx_xings (s : State) (f : TxFrame) : (s.setTx f).xings = s.xings := rfl
@[simp] theorem State.setTx_used (s : State) (f : TxFrame) : (s.setTx f).used = s.used := rfl
@[simp] theorem State.setTx_stuck (s : State) (f : TxFrame) : (s.setTx f).stuck = s.stuck := rfl
@[simp] theorem State.setTx_stallReset (s : State) (f : TxFrame) : (s.setTx f).stallReset = s.stallReset := rfl
@[simp] theorem State.setTx_hostOut (s : State) (f : TxFrame) : (s.setTx f).hostOut = s.hostOut := rfl
@[simp] theorem State.setTx_cmt (s : State) (f : TxFrame) : (s.setTx f).cmt = s.cmt := rfl
@[simp] theorem State.setTx_pwr (s : State) (f : TxFrame) : (s.setTx f).pwr = s.pwr := rfl
@[simp] theorem State.setTx_thm (s : State) (f : TxFrame) : (s.setTx f).thm = s.thm := rfl
@[simp] theorem State.setTx_sch (s : State) (f : TxFrame) : (s.setTx f).sch = s.sch := rfl
@[simp] theorem State.setTx_clk (s : State) (f : TxFrame) : (s.setTx f).clk = s.clk := rfl
@[simp] theorem State.setTx_cal (s : State) (f : TxFrame) : (s.setTx f).cal = s.cal := rfl
@[simp] theorem State.setTx_engines (s : State) (f : TxFrame) : (s.setTx f).engines = s.engines := rfl
@[simp] theorem State.setTx_rx (s : State) (f : TxFrame) : (s.setTx f).rx = s.rx := rfl
@[simp] theorem State.setTx_fec (s : State) (f : TxFrame) : (s.setTx f).fec = s.fec := rfl
@[simp] theorem State.setTx_leg (s : State) (f : TxFrame) : (s.setTx f).leg = s.leg := rfl
@[simp] theorem State.setTx_sec (s : State) (f : TxFrame) : (s.setTx f).sec = s.sec := rfl
@[simp] theorem State.setTx_line (s : State) (f : TxFrame) : (s.setTx f).line = s.line := rfl
@[simp] theorem State.setTx_rad (s : State) (f : TxFrame) : (s.setTx f).rad = s.rad := rfl
@[simp] theorem State.setTx_rdm (s : State) (f : TxFrame) : (s.setTx f).rdm = s.rdm := rfl
@[simp] theorem State.setTx_nfc (s : State) (f : TxFrame) : (s.setTx f).nfc = s.nfc := rfl
@[simp] theorem State.setTx_nfp (s : State) (f : TxFrame) : (s.setTx f).nfp = s.nfp := rfl
@[simp] theorem State.setTx_gpi (s : State) (f : TxFrame) : (s.setTx f).gpi = s.gpi := rfl
@[simp] theorem State.setTx_hif (s : State) (f : TxFrame) : (s.setTx f).hif = s.hif := rfl

@[simp] theorem State.setRx_pending (s : State) (f : RxFrame) : (s.setRx f).pending = s.pending := rfl
@[simp] theorem State.setRx_regs (s : State) (f : RxFrame) : (s.setRx f).regs = s.regs := rfl
@[simp] theorem State.setRx_mem (s : State) (f : RxFrame) : (s.setRx f).mem = s.mem := rfl
@[simp] theorem State.setRx_ctr (s : State) (f : RxFrame) : (s.setRx f).ctr = s.ctr := rfl
@[simp] theorem State.setRx_cyc (s : State) (f : RxFrame) : (s.setRx f).cyc = s.cyc := rfl
@[simp] theorem State.setRx_raised (s : State) (f : RxFrame) : (s.setRx f).raised = s.raised := rfl
@[simp] theorem State.setRx_occ (s : State) (f : RxFrame) : (s.setRx f).occ = s.occ := rfl
@[simp] theorem State.setRx_evtWait (s : State) (f : RxFrame) : (s.setRx f).evtWait = s.evtWait := rfl
@[simp] theorem State.setRx_latches (s : State) (f : RxFrame) : (s.setRx f).latches = s.latches := rfl
@[simp] theorem State.setRx_irqReleasedA (s : State) (f : RxFrame) : (s.setRx f).irqReleasedA = s.irqReleasedA := rfl
@[simp] theorem State.setRx_irqReleasedB (s : State) (f : RxFrame) : (s.setRx f).irqReleasedB = s.irqReleasedB := rfl
@[simp] theorem State.setRx_ids (s : State) (f : RxFrame) : (s.setRx f).ids = s.ids := rfl
@[simp] theorem State.setRx_xings (s : State) (f : RxFrame) : (s.setRx f).xings = s.xings := rfl
@[simp] theorem State.setRx_used (s : State) (f : RxFrame) : (s.setRx f).used = s.used := rfl
@[simp] theorem State.setRx_stuck (s : State) (f : RxFrame) : (s.setRx f).stuck = s.stuck := rfl
@[simp] theorem State.setRx_stallReset (s : State) (f : RxFrame) : (s.setRx f).stallReset = s.stallReset := rfl
@[simp] theorem State.setRx_hostOut (s : State) (f : RxFrame) : (s.setRx f).hostOut = s.hostOut := rfl
@[simp] theorem State.setRx_cmt (s : State) (f : RxFrame) : (s.setRx f).cmt = s.cmt := rfl
@[simp] theorem State.setRx_pwr (s : State) (f : RxFrame) : (s.setRx f).pwr = s.pwr := rfl
@[simp] theorem State.setRx_thm (s : State) (f : RxFrame) : (s.setRx f).thm = s.thm := rfl
@[simp] theorem State.setRx_sch (s : State) (f : RxFrame) : (s.setRx f).sch = s.sch := rfl
@[simp] theorem State.setRx_clk (s : State) (f : RxFrame) : (s.setRx f).clk = s.clk := rfl
@[simp] theorem State.setRx_cal (s : State) (f : RxFrame) : (s.setRx f).cal = s.cal := rfl
@[simp] theorem State.setRx_engines (s : State) (f : RxFrame) : (s.setRx f).engines = s.engines := rfl
@[simp] theorem State.setRx_tx (s : State) (f : RxFrame) : (s.setRx f).tx = s.tx := rfl
@[simp] theorem State.setRx_fec (s : State) (f : RxFrame) : (s.setRx f).fec = s.fec := rfl
@[simp] theorem State.setRx_leg (s : State) (f : RxFrame) : (s.setRx f).leg = s.leg := rfl
@[simp] theorem State.setRx_sec (s : State) (f : RxFrame) : (s.setRx f).sec = s.sec := rfl
@[simp] theorem State.setRx_line (s : State) (f : RxFrame) : (s.setRx f).line = s.line := rfl
@[simp] theorem State.setRx_rad (s : State) (f : RxFrame) : (s.setRx f).rad = s.rad := rfl
@[simp] theorem State.setRx_rdm (s : State) (f : RxFrame) : (s.setRx f).rdm = s.rdm := rfl
@[simp] theorem State.setRx_nfc (s : State) (f : RxFrame) : (s.setRx f).nfc = s.nfc := rfl
@[simp] theorem State.setRx_nfp (s : State) (f : RxFrame) : (s.setRx f).nfp = s.nfp := rfl
@[simp] theorem State.setRx_gpi (s : State) (f : RxFrame) : (s.setRx f).gpi = s.gpi := rfl
@[simp] theorem State.setRx_hif (s : State) (f : RxFrame) : (s.setRx f).hif = s.hif := rfl

/-! The end of a transaction -/

@[simp] theorem State.lateOver_pending (s : State) : s.lateOver.pending = s.pending := rfl
@[simp] theorem State.lateOver_regs (s : State) : s.lateOver.regs = s.regs := rfl
@[simp] theorem State.lateOver_mem (s : State) : s.lateOver.mem = s.mem := rfl
@[simp] theorem State.lateOver_ctr (s : State) : s.lateOver.ctr = s.ctr := rfl
@[simp] theorem State.lateOver_cyc (s : State) : s.lateOver.cyc = s.cyc := rfl
@[simp] theorem State.lateOver_raised (s : State) : s.lateOver.raised = s.raised := rfl
@[simp] theorem State.lateOver_occ (s : State) : s.lateOver.occ = s.occ := rfl
@[simp] theorem State.lateOver_evtWait (s : State) : s.lateOver.evtWait = s.evtWait := rfl
@[simp] theorem State.lateOver_latches (s : State) : s.lateOver.latches = s.latches := rfl
@[simp] theorem State.lateOver_irqReleasedA (s : State) : s.lateOver.irqReleasedA = s.irqReleasedA := rfl
@[simp] theorem State.lateOver_irqReleasedB (s : State) : s.lateOver.irqReleasedB = s.irqReleasedB := rfl
@[simp] theorem State.lateOver_ids (s : State) : s.lateOver.ids = s.ids := rfl
@[simp] theorem State.lateOver_xings (s : State) : s.lateOver.xings = s.xings := rfl
@[simp] theorem State.lateOver_used (s : State) : s.lateOver.used = s.used := rfl
@[simp] theorem State.lateOver_stuck (s : State) : s.lateOver.stuck = s.stuck := rfl
@[simp] theorem State.lateOver_stallReset (s : State) : s.lateOver.stallReset = s.stallReset := rfl
@[simp] theorem State.lateOver_hostOut (s : State) : s.lateOver.hostOut = s.hostOut := rfl
@[simp] theorem State.lateOver_cmt (s : State) : s.lateOver.cmt = s.cmt := rfl
@[simp] theorem State.lateOver_pwr (s : State) : s.lateOver.pwr = s.pwr := rfl
@[simp] theorem State.lateOver_thm (s : State) : s.lateOver.thm = s.thm := rfl
@[simp] theorem State.lateOver_sch (s : State) : s.lateOver.sch = s.sch := rfl
@[simp] theorem State.lateOver_clk (s : State) : s.lateOver.clk = s.clk := rfl
@[simp] theorem State.lateOver_cal (s : State) : s.lateOver.cal = s.cal := rfl
@[simp] theorem State.lateOver_engines (s : State) : s.lateOver.engines = s.engines := rfl
@[simp] theorem State.lateOver_tx (s : State) : s.lateOver.tx = s.tx := rfl
@[simp] theorem State.lateOver_rx (s : State) : s.lateOver.rx = s.rx := rfl
@[simp] theorem State.lateOver_fec (s : State) : s.lateOver.fec = s.fec := rfl
@[simp] theorem State.lateOver_leg (s : State) : s.lateOver.leg = s.leg := rfl
@[simp] theorem State.lateOver_sec (s : State) : s.lateOver.sec = s.sec := rfl
@[simp] theorem State.lateOver_line (s : State) : s.lateOver.line = s.line := rfl
@[simp] theorem State.lateOver_rad (s : State) : s.lateOver.rad = s.rad := rfl
@[simp] theorem State.lateOver_rdm (s : State) : s.lateOver.rdm = s.rdm := rfl
@[simp] theorem State.lateOver_nfc (s : State) : s.lateOver.nfc = s.nfc := rfl
@[simp] theorem State.lateOver_nfp (s : State) : s.lateOver.nfp = s.nfp := rfl
@[simp] theorem State.lateOver_gpi (s : State) : s.lateOver.gpi = s.gpi := rfl

/-! A requested pass -/

@[simp] theorem State.requestPass_pending (s : State) : (s.requestPass).pending = s.pending := rfl
@[simp] theorem State.requestPass_regs (s : State) : (s.requestPass).regs = s.regs := rfl
@[simp] theorem State.requestPass_mem (s : State) : (s.requestPass).mem = s.mem := rfl
@[simp] theorem State.requestPass_ctr (s : State) : (s.requestPass).ctr = s.ctr := rfl
@[simp] theorem State.requestPass_cyc (s : State) : (s.requestPass).cyc = s.cyc := rfl
@[simp] theorem State.requestPass_raised (s : State) : (s.requestPass).raised = s.raised := rfl
@[simp] theorem State.requestPass_occ (s : State) : (s.requestPass).occ = s.occ := rfl
@[simp] theorem State.requestPass_evtWait (s : State) : (s.requestPass).evtWait = s.evtWait := rfl
@[simp] theorem State.requestPass_latches (s : State) : (s.requestPass).latches = s.latches := rfl
@[simp] theorem State.requestPass_irqReleasedA (s : State) : (s.requestPass).irqReleasedA = s.irqReleasedA := rfl
@[simp] theorem State.requestPass_irqReleasedB (s : State) : (s.requestPass).irqReleasedB = s.irqReleasedB := rfl
@[simp] theorem State.requestPass_ids (s : State) : (s.requestPass).ids = s.ids := rfl
@[simp] theorem State.requestPass_xings (s : State) : (s.requestPass).xings = s.xings := rfl
@[simp] theorem State.requestPass_used (s : State) : (s.requestPass).used = s.used := rfl
@[simp] theorem State.requestPass_stuck (s : State) : (s.requestPass).stuck = s.stuck := rfl
@[simp] theorem State.requestPass_stallReset (s : State) : (s.requestPass).stallReset = s.stallReset := rfl
@[simp] theorem State.requestPass_hostOut (s : State) : (s.requestPass).hostOut = s.hostOut := rfl
@[simp] theorem State.requestPass_cmt (s : State) : (s.requestPass).cmt = s.cmt := rfl
@[simp] theorem State.requestPass_pwr (s : State) : (s.requestPass).pwr = s.pwr := rfl
@[simp] theorem State.requestPass_thm (s : State) : (s.requestPass).thm = s.thm := rfl
@[simp] theorem State.requestPass_clk (s : State) : (s.requestPass).clk = s.clk := rfl
@[simp] theorem State.requestPass_cal (s : State) : (s.requestPass).cal = s.cal := rfl
@[simp] theorem State.requestPass_engines (s : State) : (s.requestPass).engines = s.engines := rfl
@[simp] theorem State.requestPass_tx (s : State) : (s.requestPass).tx = s.tx := rfl
@[simp] theorem State.requestPass_rx (s : State) : (s.requestPass).rx = s.rx := rfl
@[simp] theorem State.requestPass_fec (s : State) : (s.requestPass).fec = s.fec := rfl
@[simp] theorem State.requestPass_leg (s : State) : (s.requestPass).leg = s.leg := rfl
@[simp] theorem State.requestPass_sec (s : State) : (s.requestPass).sec = s.sec := rfl
@[simp] theorem State.requestPass_line (s : State) : (s.requestPass).line = s.line := rfl
@[simp] theorem State.requestPass_rad (s : State) : (s.requestPass).rad = s.rad := rfl
@[simp] theorem State.requestPass_rdm (s : State) : (s.requestPass).rdm = s.rdm := rfl
@[simp] theorem State.requestPass_nfc (s : State) : (s.requestPass).nfc = s.nfc := rfl
@[simp] theorem State.requestPass_nfp (s : State) : (s.requestPass).nfp = s.nfp := rfl
@[simp] theorem State.requestPass_gpi (s : State) : (s.requestPass).gpi = s.gpi := rfl
@[simp] theorem State.requestPass_hif (s : State) : (s.requestPass).hif = s.hif := rfl

/-! The Ember mark -/

@[simp] theorem State.breakEmber_pending (s : State) : (s.breakEmber).pending = s.pending := rfl
@[simp] theorem State.breakEmber_regs (s : State) : (s.breakEmber).regs = s.regs := rfl
@[simp] theorem State.breakEmber_mem (s : State) : (s.breakEmber).mem = s.mem := rfl
@[simp] theorem State.breakEmber_ctr (s : State) : (s.breakEmber).ctr = s.ctr := rfl
@[simp] theorem State.breakEmber_cyc (s : State) : (s.breakEmber).cyc = s.cyc := rfl
@[simp] theorem State.breakEmber_raised (s : State) : (s.breakEmber).raised = s.raised := rfl
@[simp] theorem State.breakEmber_occ (s : State) : (s.breakEmber).occ = s.occ := rfl
@[simp] theorem State.breakEmber_evtWait (s : State) : (s.breakEmber).evtWait = s.evtWait := rfl
@[simp] theorem State.breakEmber_latches (s : State) : (s.breakEmber).latches = s.latches := rfl
@[simp] theorem State.breakEmber_irqReleasedA (s : State) : (s.breakEmber).irqReleasedA = s.irqReleasedA := rfl
@[simp] theorem State.breakEmber_irqReleasedB (s : State) : (s.breakEmber).irqReleasedB = s.irqReleasedB := rfl
@[simp] theorem State.breakEmber_ids (s : State) : (s.breakEmber).ids = s.ids := rfl
@[simp] theorem State.breakEmber_xings (s : State) : (s.breakEmber).xings = s.xings := rfl
@[simp] theorem State.breakEmber_used (s : State) : (s.breakEmber).used = s.used := rfl
@[simp] theorem State.breakEmber_stuck (s : State) : (s.breakEmber).stuck = s.stuck := rfl
@[simp] theorem State.breakEmber_stallReset (s : State) : (s.breakEmber).stallReset = s.stallReset := rfl
@[simp] theorem State.breakEmber_hostOut (s : State) : (s.breakEmber).hostOut = s.hostOut := rfl
@[simp] theorem State.breakEmber_cmt (s : State) : (s.breakEmber).cmt = s.cmt := rfl
@[simp] theorem State.breakEmber_thm (s : State) : (s.breakEmber).thm = s.thm := rfl
@[simp] theorem State.breakEmber_sch (s : State) : (s.breakEmber).sch = s.sch := rfl
@[simp] theorem State.breakEmber_clk (s : State) : (s.breakEmber).clk = s.clk := rfl
@[simp] theorem State.breakEmber_cal (s : State) : (s.breakEmber).cal = s.cal := rfl
@[simp] theorem State.breakEmber_engines (s : State) : (s.breakEmber).engines = s.engines := rfl
@[simp] theorem State.breakEmber_tx (s : State) : (s.breakEmber).tx = s.tx := rfl
@[simp] theorem State.breakEmber_rx (s : State) : (s.breakEmber).rx = s.rx := rfl
@[simp] theorem State.breakEmber_fec (s : State) : (s.breakEmber).fec = s.fec := rfl
@[simp] theorem State.breakEmber_leg (s : State) : (s.breakEmber).leg = s.leg := rfl
@[simp] theorem State.breakEmber_sec (s : State) : (s.breakEmber).sec = s.sec := rfl
@[simp] theorem State.breakEmber_line (s : State) : (s.breakEmber).line = s.line := rfl
@[simp] theorem State.breakEmber_rad (s : State) : (s.breakEmber).rad = s.rad := rfl
@[simp] theorem State.breakEmber_rdm (s : State) : (s.breakEmber).rdm = s.rdm := rfl
@[simp] theorem State.breakEmber_nfc (s : State) : (s.breakEmber).nfc = s.nfc := rfl
@[simp] theorem State.breakEmber_nfp (s : State) : (s.breakEmber).nfp = s.nfp := rfl
@[simp] theorem State.breakEmber_gpi (s : State) : (s.breakEmber).gpi = s.gpi := rfl
@[simp] theorem State.breakEmber_hif (s : State) : (s.breakEmber).hif = s.hif := rfl

/-! The end of a command -/

@[simp] theorem State.finish_pending (s : State) : (s.finish).pending = s.pending := rfl
@[simp] theorem State.finish_regs (s : State) : (s.finish).regs = s.regs := rfl
@[simp] theorem State.finish_mem (s : State) : (s.finish).mem = s.mem := rfl
@[simp] theorem State.finish_ctr (s : State) : (s.finish).ctr = s.ctr := rfl
@[simp] theorem State.finish_cyc (s : State) : (s.finish).cyc = s.cyc := rfl
@[simp] theorem State.finish_latches (s : State) : (s.finish).latches = s.latches := rfl
@[simp] theorem State.finish_irqReleasedA (s : State) : (s.finish).irqReleasedA = s.irqReleasedA := rfl
@[simp] theorem State.finish_irqReleasedB (s : State) : (s.finish).irqReleasedB = s.irqReleasedB := rfl
@[simp] theorem State.finish_ids (s : State) : (s.finish).ids = s.ids := rfl
@[simp] theorem State.finish_xings (s : State) : (s.finish).xings = s.xings := rfl
@[simp] theorem State.finish_used (s : State) : (s.finish).used = s.used := rfl
/-- With a crossing 12 that answers, the end of a command opens no watched handshake. -/
@[simp] theorem State.finish_stuck (s : State) (h : (s.xing 12).slow = false) : s.finish.stuck = s.stuck := by
  simp [State.finish, State.arrive, h]
@[simp] theorem State.finish_stallReset (s : State) : (s.finish).stallReset = s.stallReset := rfl
@[simp] theorem State.finish_hostOut (s : State) : (s.finish).hostOut = s.hostOut := rfl
@[simp] theorem State.finish_cmt (s : State) : (s.finish).cmt = s.cmt := rfl
@[simp] theorem State.finish_pwr (s : State) : (s.finish).pwr = s.pwr := rfl
@[simp] theorem State.finish_thm (s : State) : (s.finish).thm = s.thm := rfl
@[simp] theorem State.finish_sch (s : State) : (s.finish).sch = s.sch := rfl
@[simp] theorem State.finish_clk (s : State) : (s.finish).clk = s.clk := rfl
@[simp] theorem State.finish_cal (s : State) : (s.finish).cal = s.cal := rfl
@[simp] theorem State.finish_engines (s : State) : (s.finish).engines = s.engines := rfl
@[simp] theorem State.finish_tx (s : State) : (s.finish).tx = s.tx := rfl
@[simp] theorem State.finish_rx (s : State) : (s.finish).rx = s.rx := rfl
@[simp] theorem State.finish_fec (s : State) : (s.finish).fec = s.fec := rfl
@[simp] theorem State.finish_leg (s : State) : (s.finish).leg = s.leg := rfl
@[simp] theorem State.finish_sec (s : State) : (s.finish).sec = s.sec := rfl
@[simp] theorem State.finish_line (s : State) : (s.finish).line = s.line := rfl
@[simp] theorem State.finish_rad (s : State) : (s.finish).rad = s.rad := rfl
@[simp] theorem State.finish_rdm (s : State) : (s.finish).rdm = s.rdm := rfl
@[simp] theorem State.finish_nfc (s : State) : (s.finish).nfc = s.nfc := rfl
@[simp] theorem State.finish_nfp (s : State) : (s.finish).nfp = s.nfp := rfl
@[simp] theorem State.finish_gpi (s : State) : (s.finish).gpi = s.gpi := rfl
@[simp] theorem State.finish_hif (s : State) : (s.finish).hif = s.hif := rfl
@[simp] theorem State.finish_raised (s : State) : s.finish.raised = [] := rfl

/-! An occurrence -/

/-- An occurrence changes registers, the batch and the pins' release alone. -/
theorem State.raise_eq (s : State) (e : Nat) :
    s.raise e = { s with
      regs := (s.raise e).regs, raised := (s.raise e).raised
      irqReleasedA := (s.raise e).irqReleasedA, irqReleasedB := (s.raise e).irqReleasedB } := by
  unfold State.raise
  split
  · rfl
  · unfold State.retrigger
    dsimp only
    split <;> split <;> rfl

/-- The occurrence joins the batch. -/
theorem State.raise_raised (s : State) (e p b : Nat) (h : eventHome e = some (p, b)) :
    (s.raise e).raised = s.raised ++ [e] := by
  unfold State.raise State.retrigger
  rw [h]
  dsimp only
  split <;> split <;> rfl

@[simp] theorem State.raise_pending (s : State) (e : Nat) : (s.raise e).pending = s.pending := (congrArg State.pending (s.raise_eq e)).trans rfl
@[simp] theorem State.raise_mem (s : State) (e : Nat) : (s.raise e).mem = s.mem := (congrArg State.mem (s.raise_eq e)).trans rfl
@[simp] theorem State.raise_ctr (s : State) (e : Nat) : (s.raise e).ctr = s.ctr := (congrArg State.ctr (s.raise_eq e)).trans rfl
@[simp] theorem State.raise_cyc (s : State) (e : Nat) : (s.raise e).cyc = s.cyc := (congrArg State.cyc (s.raise_eq e)).trans rfl
@[simp] theorem State.raise_occ (s : State) (e : Nat) : (s.raise e).occ = s.occ := (congrArg State.occ (s.raise_eq e)).trans rfl
@[simp] theorem State.raise_evtWait (s : State) (e : Nat) : (s.raise e).evtWait = s.evtWait := (congrArg State.evtWait (s.raise_eq e)).trans rfl
@[simp] theorem State.raise_latches (s : State) (e : Nat) : (s.raise e).latches = s.latches := (congrArg State.latches (s.raise_eq e)).trans rfl
@[simp] theorem State.raise_ids (s : State) (e : Nat) : (s.raise e).ids = s.ids := (congrArg State.ids (s.raise_eq e)).trans rfl
@[simp] theorem State.raise_xings (s : State) (e : Nat) : (s.raise e).xings = s.xings := (congrArg State.xings (s.raise_eq e)).trans rfl
@[simp] theorem State.raise_used (s : State) (e : Nat) : (s.raise e).used = s.used := (congrArg State.used (s.raise_eq e)).trans rfl
@[simp] theorem State.raise_stuck (s : State) (e : Nat) : (s.raise e).stuck = s.stuck := (congrArg State.stuck (s.raise_eq e)).trans rfl
@[simp] theorem State.raise_stallReset (s : State) (e : Nat) : (s.raise e).stallReset = s.stallReset := (congrArg State.stallReset (s.raise_eq e)).trans rfl
@[simp] theorem State.raise_hostOut (s : State) (e : Nat) : (s.raise e).hostOut = s.hostOut := (congrArg State.hostOut (s.raise_eq e)).trans rfl
@[simp] theorem State.raise_cmt (s : State) (e : Nat) : (s.raise e).cmt = s.cmt := (congrArg State.cmt (s.raise_eq e)).trans rfl
@[simp] theorem State.raise_pwr (s : State) (e : Nat) : (s.raise e).pwr = s.pwr := (congrArg State.pwr (s.raise_eq e)).trans rfl
@[simp] theorem State.raise_thm (s : State) (e : Nat) : (s.raise e).thm = s.thm := (congrArg State.thm (s.raise_eq e)).trans rfl
@[simp] theorem State.raise_sch (s : State) (e : Nat) : (s.raise e).sch = s.sch := (congrArg State.sch (s.raise_eq e)).trans rfl
@[simp] theorem State.raise_clk (s : State) (e : Nat) : (s.raise e).clk = s.clk := (congrArg State.clk (s.raise_eq e)).trans rfl
@[simp] theorem State.raise_cal (s : State) (e : Nat) : (s.raise e).cal = s.cal := (congrArg State.cal (s.raise_eq e)).trans rfl
@[simp] theorem State.raise_engines (s : State) (e : Nat) : (s.raise e).engines = s.engines := (congrArg State.engines (s.raise_eq e)).trans rfl
@[simp] theorem State.raise_tx (s : State) (e : Nat) : (s.raise e).tx = s.tx := (congrArg State.tx (s.raise_eq e)).trans rfl
@[simp] theorem State.raise_rx (s : State) (e : Nat) : (s.raise e).rx = s.rx := (congrArg State.rx (s.raise_eq e)).trans rfl
@[simp] theorem State.raise_fec (s : State) (e : Nat) : (s.raise e).fec = s.fec := (congrArg State.fec (s.raise_eq e)).trans rfl
@[simp] theorem State.raise_leg (s : State) (e : Nat) : (s.raise e).leg = s.leg := (congrArg State.leg (s.raise_eq e)).trans rfl
@[simp] theorem State.raise_sec (s : State) (e : Nat) : (s.raise e).sec = s.sec := (congrArg State.sec (s.raise_eq e)).trans rfl
@[simp] theorem State.raise_line (s : State) (e : Nat) : (s.raise e).line = s.line := (congrArg State.line (s.raise_eq e)).trans rfl
@[simp] theorem State.raise_rad (s : State) (e : Nat) : (s.raise e).rad = s.rad := (congrArg State.rad (s.raise_eq e)).trans rfl
@[simp] theorem State.raise_rdm (s : State) (e : Nat) : (s.raise e).rdm = s.rdm := (congrArg State.rdm (s.raise_eq e)).trans rfl
@[simp] theorem State.raise_nfc (s : State) (e : Nat) : (s.raise e).nfc = s.nfc := (congrArg State.nfc (s.raise_eq e)).trans rfl
@[simp] theorem State.raise_nfp (s : State) (e : Nat) : (s.raise e).nfp = s.nfp := (congrArg State.nfp (s.raise_eq e)).trans rfl
@[simp] theorem State.raise_gpi (s : State) (e : Nat) : (s.raise e).gpi = s.gpi := (congrArg State.gpi (s.raise_eq e)).trans rfl
@[simp] theorem State.raise_hif (s : State) (e : Nat) : (s.raise e).hif = s.hif := (congrArg State.hif (s.raise_eq e)).trans rfl
@[simp] theorem State.raiseIf_pending (s : State) (c : Bool) (e : Nat) : (s.raiseIf c e).pending = s.pending := by
  unfold State.raiseIf; split <;> simp
@[simp] theorem State.raiseIf_mem (s : State) (c : Bool) (e : Nat) : (s.raiseIf c e).mem = s.mem := by
  unfold State.raiseIf; split <;> simp
@[simp] theorem State.raiseIf_ctr (s : State) (c : Bool) (e : Nat) : (s.raiseIf c e).ctr = s.ctr := by
  unfold State.raiseIf; split <;> simp
@[simp] theorem State.raiseIf_cyc (s : State) (c : Bool) (e : Nat) : (s.raiseIf c e).cyc = s.cyc := by
  unfold State.raiseIf; split <;> simp
@[simp] theorem State.raiseIf_occ (s : State) (c : Bool) (e : Nat) : (s.raiseIf c e).occ = s.occ := by
  unfold State.raiseIf; split <;> simp
@[simp] theorem State.raiseIf_evtWait (s : State) (c : Bool) (e : Nat) : (s.raiseIf c e).evtWait = s.evtWait := by
  unfold State.raiseIf; split <;> simp
@[simp] theorem State.raiseIf_latches (s : State) (c : Bool) (e : Nat) : (s.raiseIf c e).latches = s.latches := by
  unfold State.raiseIf; split <;> simp
@[simp] theorem State.raiseIf_ids (s : State) (c : Bool) (e : Nat) : (s.raiseIf c e).ids = s.ids := by
  unfold State.raiseIf; split <;> simp
@[simp] theorem State.raiseIf_xings (s : State) (c : Bool) (e : Nat) : (s.raiseIf c e).xings = s.xings := by
  unfold State.raiseIf; split <;> simp
@[simp] theorem State.raiseIf_used (s : State) (c : Bool) (e : Nat) : (s.raiseIf c e).used = s.used := by
  unfold State.raiseIf; split <;> simp
@[simp] theorem State.raiseIf_stuck (s : State) (c : Bool) (e : Nat) : (s.raiseIf c e).stuck = s.stuck := by
  unfold State.raiseIf; split <;> simp
@[simp] theorem State.raiseIf_stallReset (s : State) (c : Bool) (e : Nat) : (s.raiseIf c e).stallReset = s.stallReset := by
  unfold State.raiseIf; split <;> simp
@[simp] theorem State.raiseIf_hostOut (s : State) (c : Bool) (e : Nat) : (s.raiseIf c e).hostOut = s.hostOut := by
  unfold State.raiseIf; split <;> simp
@[simp] theorem State.raiseIf_cmt (s : State) (c : Bool) (e : Nat) : (s.raiseIf c e).cmt = s.cmt := by
  unfold State.raiseIf; split <;> simp
@[simp] theorem State.raiseIf_pwr (s : State) (c : Bool) (e : Nat) : (s.raiseIf c e).pwr = s.pwr := by
  unfold State.raiseIf; split <;> simp
@[simp] theorem State.raiseIf_thm (s : State) (c : Bool) (e : Nat) : (s.raiseIf c e).thm = s.thm := by
  unfold State.raiseIf; split <;> simp
@[simp] theorem State.raiseIf_sch (s : State) (c : Bool) (e : Nat) : (s.raiseIf c e).sch = s.sch := by
  unfold State.raiseIf; split <;> simp
@[simp] theorem State.raiseIf_clk (s : State) (c : Bool) (e : Nat) : (s.raiseIf c e).clk = s.clk := by
  unfold State.raiseIf; split <;> simp
@[simp] theorem State.raiseIf_cal (s : State) (c : Bool) (e : Nat) : (s.raiseIf c e).cal = s.cal := by
  unfold State.raiseIf; split <;> simp
@[simp] theorem State.raiseIf_engines (s : State) (c : Bool) (e : Nat) : (s.raiseIf c e).engines = s.engines := by
  unfold State.raiseIf; split <;> simp
@[simp] theorem State.raiseIf_tx (s : State) (c : Bool) (e : Nat) : (s.raiseIf c e).tx = s.tx := by
  unfold State.raiseIf; split <;> simp
@[simp] theorem State.raiseIf_rx (s : State) (c : Bool) (e : Nat) : (s.raiseIf c e).rx = s.rx := by
  unfold State.raiseIf; split <;> simp
@[simp] theorem State.raiseIf_fec (s : State) (c : Bool) (e : Nat) : (s.raiseIf c e).fec = s.fec := by
  unfold State.raiseIf; split <;> simp
@[simp] theorem State.raiseIf_leg (s : State) (c : Bool) (e : Nat) : (s.raiseIf c e).leg = s.leg := by
  unfold State.raiseIf; split <;> simp
@[simp] theorem State.raiseIf_sec (s : State) (c : Bool) (e : Nat) : (s.raiseIf c e).sec = s.sec := by
  unfold State.raiseIf; split <;> simp
@[simp] theorem State.raiseIf_line (s : State) (c : Bool) (e : Nat) : (s.raiseIf c e).line = s.line := by
  unfold State.raiseIf; split <;> simp
@[simp] theorem State.raiseIf_rad (s : State) (c : Bool) (e : Nat) : (s.raiseIf c e).rad = s.rad := by
  unfold State.raiseIf; split <;> simp
@[simp] theorem State.raiseIf_rdm (s : State) (c : Bool) (e : Nat) : (s.raiseIf c e).rdm = s.rdm := by
  unfold State.raiseIf; split <;> simp
@[simp] theorem State.raiseIf_nfc (s : State) (c : Bool) (e : Nat) : (s.raiseIf c e).nfc = s.nfc := by
  unfold State.raiseIf; split <;> simp
@[simp] theorem State.raiseIf_nfp (s : State) (c : Bool) (e : Nat) : (s.raiseIf c e).nfp = s.nfp := by
  unfold State.raiseIf; split <;> simp
@[simp] theorem State.raiseIf_gpi (s : State) (c : Bool) (e : Nat) : (s.raiseIf c e).gpi = s.gpi := by
  unfold State.raiseIf; split <;> simp
@[simp] theorem State.raiseIf_hif (s : State) (c : Bool) (e : Nat) : (s.raiseIf c e).hif = s.hif := by
  unfold State.raiseIf; split <;> simp

end Sys2Proof.Machine
end

