-- ==== Sys2Proof/Laws/RegFile.lean ====
section
/-! SUPPORT. The register file and the packet store: what a store leaves, what it reads back, that the canonical form
holds; and the same for the fields of a word. -/

namespace Sys2Proof.Machine

/-! ### Sparse lists -/

/-- A store at one key leaves what another key finds. -/
theorem find_sparseSet_ne {α : Type} [DecidableEq α] (d : α) (a b : Nat) (v : α) (h : b ≠ a) (l : List (Nat × α)) :
    (sparseSet d a v l).find? (fun e => e.1 == b) = l.find? (fun e => e.1 == b) := by
  have h' : (a == b) = false := by simpa using h.symm
  induction l with
  | nil => unfold sparseSet; split <;> simp [h']
  | cons e l ih =>
    obtain ⟨c, w⟩ := e
    unfold sparseSet
    by_cases h1 : a < c
    · rw [if_pos h1]; split <;> simp [h']
    · rw [if_neg h1]
      by_cases h2 : a = c
      · subst h2; rw [if_pos rfl]; split <;> simp [h']
      · rw [if_neg h2, List.find?_cons, List.find?_cons, ih]

/-- In a list of the canonical form every key after the first is greater, and no entry equals its default. -/
theorem sparseWf_cons {α : Type} [DecidableEq α] (d : Nat → α) (e : Nat × α) (l : List (Nat × α)) :
    sparseWf d (e :: l) = true ↔ (e.2 ≠ d e.1 ∧ (∀ f ∈ l, e.1 < f.1) ∧ sparseWf d l = true) := by
  induction l generalizing e with
  | nil => simp [sparseWf]
  | cons f r ih =>
    simp only [sparseWf, Bool.and_eq_true, bne_iff_ne, ne_eq, decide_eq_true_eq, ih f, List.mem_cons, forall_eq_or_imp]
    constructor
    · rintro ⟨⟨h1, h2⟩, h3, h4, h5⟩
      exact ⟨h1, ⟨h2, fun g hg => Nat.lt_trans h2 (h4 g hg)⟩, h3, h4, h5⟩
    · rintro ⟨h1, ⟨h2, h3⟩, h4, h5, h6⟩
      exact ⟨⟨h1, h2⟩, h4, h5, h6⟩

/-- The keys of a store's result. -/
theorem mem_sparseSet {α : Type} [DecidableEq α] (d : α) (a : Nat) (v : α) (l : List (Nat × α)) (e : Nat × α)
    (h : e ∈ sparseSet d a v l) : e = (a, v) ∨ e ∈ l := by
  induction l with
  | nil => unfold sparseSet at h; split at h <;> simp_all
  | cons f l ih =>
    obtain ⟨c, w⟩ := f
    unfold sparseSet at h
    split at h
    · split at h <;> simp_all
    · split at h
      · split at h
        · exact .inr (List.mem_cons_of_mem _ h)
        · simp only [List.mem_cons] at h ⊢; tauto
      · simp only [List.mem_cons] at h ⊢; tauto

/-- A store keeps the canonical form. -/
theorem sparseWf_set {α : Type} [DecidableEq α] (d : Nat → α) (a : Nat) (v : α) (l : List (Nat × α))
    (h : sparseWf d l = true) : sparseWf d (sparseSet (d a) a v l) = true := by
  induction l with
  | nil => unfold sparseSet; split <;> simp_all [sparseWf]
  | cons e l ih =>
    obtain ⟨c, w⟩ := e
    have h' := (sparseWf_cons d (c, w) l).1 h
    unfold sparseSet
    by_cases h1 : a < c
    · rw [if_pos h1]
      split
      · exact h
      · refine (sparseWf_cons _ _ _).2 ⟨by assumption, fun f hf => ?_, h⟩
        rcases List.mem_cons.1 hf with rfl | hf
        · exact h1
        · exact Nat.lt_trans h1 (h'.2.1 f hf)
    · rw [if_neg h1]
      by_cases h2 : a = c
      · subst h2; rw [if_pos rfl]
        split
        · exact h'.2.2
        · exact (sparseWf_cons _ _ _).2 ⟨by assumption, h'.2.1, h'.2.2⟩
      · rw [if_neg h2]
        refine (sparseWf_cons _ _ _).2 ⟨h'.1, fun f hf => ?_, ih h'.2.2⟩
        rcases mem_sparseSet _ _ _ _ _ hf with rfl | hf
        · show c < a; omega
        · exact h'.2.1 f hf

/-- No entry of a canonical list whose keys all exceed a key is found under it. -/
theorem find_none_of_lt {α : Type} (a : Nat) (l : List (Nat × α)) (h : ∀ f ∈ l, a < f.1) :
    l.find? (fun e => e.1 == a) = none := by
  rw [List.find?_eq_none]; intro f hf; simpa using Nat.ne_of_gt (h f hf)

/-- What is stored at a key is found there, or the list holds nothing under the key and the value is the default. -/
theorem find_sparseSet_eq {α : Type} [DecidableEq α] (d : Nat → α) (a : Nat) (v : α) (l : List (Nat × α))
    (h : sparseWf d l = true) :
    (sparseSet (d a) a v l).find? (fun e => e.1 == a) = some (a, v)
      ∨ ((sparseSet (d a) a v l).find? (fun e => e.1 == a) = none ∧ v = d a) := by
  induction l with
  | nil => unfold sparseSet; by_cases hv : v = d a <;> simp [hv]
  | cons e l ih =>
    obtain ⟨c, w⟩ := e
    have h' := (sparseWf_cons d (c, w) l).1 h
    unfold sparseSet
    by_cases h1 : a < c
    · rw [if_pos h1]
      by_cases hv : v = d a
      · rw [if_pos hv]
        refine .inr ⟨find_none_of_lt a _ fun f hf => ?_, hv⟩
        rcases List.mem_cons.1 hf with rfl | hf
        · exact h1
        · exact Nat.lt_trans h1 (h'.2.1 f hf)
      · rw [if_neg hv]; simp
    · rw [if_neg h1]
      by_cases h2 : a = c
      · subst h2; rw [if_pos rfl]
        by_cases hv : v = d a
        · rw [if_pos hv]; exact .inr ⟨find_none_of_lt a l h'.2.1, hv⟩
        · rw [if_neg hv]; simp
      · rw [if_neg h2, List.find?_cons]
        have : ((c, w).1 == a) = false := by simpa using fun h => h2 h.symm
        rw [this]; exact ih h'.2.2

/-! ### Registers -/

/-- A register keeps its word when another is stored to. -/
theorem State.rd_wr_ne (s : State) (a b : Nat) (w : Word) (h : b ≠ a) : (s.wr a w).rd b = s.rd b := by
  simp only [State.rd, State.wr, RegFile.get, RegFile.set, find_sparseSet_ne _ _ _ _ h]

/-- A register reads what was stored. -/
theorem State.rd_wr (s : State) (a : Nat) (w : Word) (h : RegFile.wf s.regs = true) : (s.wr a w).rd a = w := by
  simp only [State.rd, State.wr, RegFile.get, RegFile.set]
  rcases find_sparseSet_eq resetWord a w s.regs h with e | ⟨e, rfl⟩ <;> simp [e]

/-- A store keeps the register file's canonical form. -/
theorem State.wf_wr (s : State) (a : Nat) (w : Word) (h : RegFile.wf s.regs = true) : RegFile.wf (s.wr a w).regs = true :=
  sparseWf_set resetWord a w s.regs h

/-- A field's store keeps the canonical form. -/
theorem State.wf_put (s : State) (f : Fld) (v : Nat) (h : RegFile.wf s.regs = true) : RegFile.wf (s.put f v).regs = true :=
  s.wf_wr _ _ h

/-- A field's store leaves every other register. -/
theorem State.rd_put_ne (s : State) (f : Fld) (v b : Nat) (h : b ≠ f.addr) : (s.put f v).rd b = s.rd b := s.rd_wr_ne _ _ _ h

/-- A field's store leaves every field of another register. -/
theorem State.get_put_ne (s : State) (f g : Fld) (v : Nat) (h : g.addr ≠ f.addr) : (s.put f v).get g = s.get g := by
  simp only [State.get, s.rd_put_ne f v g.addr h]

/-- The registers of a state after reset are in canonical form. -/
theorem State.reset_regs_wf : RegFile.wf State.reset.regs = true := rfl

/-! ### Packet store and peer table -/

/-- A byte keeps its value when another is stored. -/
theorem State.byteAt_putByte_ne (s : State) (a b : Nat) (x : Byte) (h : b ≠ a) : (s.putByte a x).byteAt b = s.byteAt b := by
  simp only [State.byteAt, State.putByte, Memory.read, Memory.write]
  rw [find_sparseSet_ne _ _ _ _ h]

/-- A byte reads what was stored. -/
theorem State.byteAt_putByte (s : State) (a : Nat) (x : Byte) (h : Memory.wf s.mem = true) : (s.putByte a x).byteAt a = x := by
  simp only [State.byteAt, State.putByte, Memory.read, Memory.write]
  rcases find_sparseSet_eq (fun _ => (0 : Byte)) a x s.mem h with e | ⟨e, rfl⟩ <;> rw [e]

/-- A stored byte keeps the memory's canonical form. -/
theorem State.wf_putByte (s : State) (a : Nat) (x : Byte) (h : Memory.wf s.mem = true) : Memory.wf (s.putByte a x).mem = true :=
  sparseWf_set (fun _ => (0 : Byte)) a x s.mem h

/-- Stored bytes keep it. -/
theorem State.wf_putBytes (s : State) (a : Nat) (l : List Byte) (h : Memory.wf s.mem = true) :
    Memory.wf (s.putBytes a l).mem = true := by
  induction l generalizing s a with
  | nil => exact h
  | cons b l ih => exact ih _ _ (s.wf_putByte a b h)

/-- A stored word keeps it. -/
theorem State.wf_putMemWord (s : State) (a : Nat) (w : Word) (h : Memory.wf s.mem = true) :
    Memory.wf (s.putMemWord a w).mem = true := s.wf_putBytes _ _ h

/-- The memory of a state after reset is in canonical form. -/
theorem State.reset_mem_wf : Memory.wf State.reset.mem = true := rfl

/-- Bytes stored from an address up leave every byte outside them. -/
theorem State.byteAt_putBytes_out (s : State) (a b : Nat) (l : List Byte) (h : b < a ∨ a + l.length ≤ b) :
    (s.putBytes a l).byteAt b = s.byteAt b := by
  induction l generalizing s a with
  | nil => rfl
  | cons x l ih =>
    simp only [List.length_cons] at h
    exact (ih (s.putByte a x) (a + 1) (by omega)).trans (s.byteAt_putByte_ne a b x (by omega))

/-! ### Fields of a word -/

/-- Bits outside a field keep their value. -/
theorem Fld.getLsbD_into_out (f : Fld) (w : Word) (v i : Nat) (h : i < f.lo ∨ f.lo + f.width ≤ i) :
    (f.into w v).getLsbD i = w.getLsbD i := by
  simp only [Fld.into, BitVec.getLsbD_or, BitVec.getLsbD_and, BitVec.getLsbD_not, BitVec.getLsbD_ofNat,
    Nat.testBit_shiftLeft, Nat.testBit_two_pow_sub_one]
  by_cases hi : i < 32
  · have : (decide (f.lo ≤ i) && decide (i - f.lo < f.width)) = false := by
      simp only [Bool.and_eq_false_iff, decide_eq_false_iff_not]; omega
    simp [hi, this]
  · simp [hi, w.getLsbD_of_ge i (by omega)]

end Sys2Proof.Machine
end

