-- ==== Sys2Proof/Laws/Access.lean ====
section
/-! SUPPORT. What the ways in to the part do: moments, host accesses, router tasks. One lemma says what each does where it
reaches the part, one that it does nothing where it does not. -/

namespace Sys2Proof.Machine

/-! ### Moments and accesses -/

theorem State.live_of_up (s : State) (f : State → State) (h : s.up = true) : s.live f = f s := if_pos h

theorem State.live_of_not_up (s : State) (f : State → State) (h : s.up = false) : s.live f = s := by
  simp [State.live, h]

theorem State.always_of_up (s : State) (f : State → State) (h : s.up = true) : s.always f = f s := if_pos h

theorem State.always_of_not_up (s : State) (f : State → State) (h : s.up = false) : s.always f = s.emberOnly (f s) := by
  simp [State.always, h]

theorem State.native_of_reach (s : State) (f : State → State) (h : s.nativeHost = true) :
    s.native f = (f s.accessed).lateOver := if_pos h

theorem State.native_of_not (s : State) (f : State → State) (h : s.nativeHost = false) : s.native f = s := by
  simp [State.native, h]

theorem State.legacyAccess_of_reach (s : State) (f : State → State) (h : s.legacyHost = true) :
    s.legacyAccess f = (f s.accessed).lateOver := if_pos h

theorem State.legacyAccess_of_not (s : State) (f : State → State) (h : s.legacyHost = false) : s.legacyAccess f = s := by
  simp [State.legacyAccess, h]

theorem State.nativeHost_iff (s : State) :
    s.nativeHost = true ↔ s.up = true ∧ s.pwr.ioUp = true ∧ s.legacyView = false := by
  simp [State.nativeHost, and_assoc]

theorem State.nativeHost_up (s : State) (h : s.nativeHost = true) : s.up = true := (s.nativeHost_iff.1 h).1

/-- Out of Ember an access only marks that the conditions of R145 have failed. -/
theorem State.accessed_of_awake (s : State) (h : s.pwr.phase ≠ .ember) :
    s.accessed = { s with pwr := { s.pwr with emberBroken := true } } := by
  simp [State.accessed, State.hostWake, h, State.breakEmber]

/-- A part in reset finds a native access, a legacy access and a moment without effect. -/
theorem State.nativeHost_of_not_up (s : State) (h : s.up = false) : s.nativeHost = false := by simp [State.nativeHost, h]

theorem State.legacyHost_of_not_up (s : State) (h : s.up = false) : s.legacyHost = false := by simp [State.legacyHost, h]

theorem State.taskOrWrite_of_not_up (s : State) (b : Bool) (n a : Nat) (w : Word) (h : s.up = false) :
    s.taskOrWrite b n a w = s := by
  cases b <;> simp [State.taskOrWrite, State.live, State.native, State.nativeHost, h]

/-! ### Router tasks -/

/-- A task that nothing latched leaves the latches as they are. -/
theorem State.routerTask_of_empty (s : State) (n : Nat) (h : s.latches = []) : s.routerTask n = s.takeTask n := by
  have : ({ s with latches := s.latches.filter (· != n) } : State) = s := by
    obtain ⟨⟩ := s; simp only at h; subst h; rfl
  rw [State.routerTask, this]

/-- A task honoured whenever it is requested (R266). -/
theorem State.takeTask_always (s : State) (n : Nat) (hr : taskRole n ≠ some (!s.hub)) (hn : s.taskRefused n = false)
    (hh : taskHonour n = .always) : s.takeTask n = s.taskEffect n := by
  simp [State.takeTask, hr, hn, hh]

/-- A task honoured only inside a running task. -/
theorem State.takeTask_running (s : State) (n : Nat) (r : Resource) (x : Bool) (hr : taskRole n ≠ some (!s.hub))
    (hn : s.taskRefused n = false) (hh : taskHonour n = .running r x) : s.takeTask n = s.taskEffect n := by
  simp [State.takeTask, hr, hn, hh]

/-- A task that is a kind firing. -/
theorem State.takeTask_kind (s : State) (n k : Nat) (hr : taskRole n ≠ some (!s.hub)) (hn : s.taskRefused n = false)
    (hh : taskHonour n = .kind k) : s.takeTask n = s.kindFiring k := by
  simp [State.takeTask, hr, hn, hh]

/-- A task that is refused, counted with its number (R266). -/
theorem State.takeTask_refused (s : State) (n : Nat) (hr : taskRole n ≠ some (!s.hub)) (hn : s.taskRefused n = true) :
    s.takeTask n = (s.sat .EVR_CNT_REF).put .EVR_STAT_REFTASK n := by
  simp [State.takeTask, hr, hn]

/-- A task of the other role does nothing (R22, R267). -/
theorem State.takeTask_role (s : State) (n : Nat) (hr : taskRole n = some (!s.hub)) : s.takeTask n = s := by
  simp [State.takeTask, hr]

end Sys2Proof.Machine
end

