-- ==== Sys2Proof/Laws/Registers.lean ====
section
/-! SUPPORT. What a host write does at the address of each register whose write is a command: one lemma per register. -/

namespace Sys2Proof.Machine

/-! ### The page header -/

theorem State.regWrite_ctrl (s : State) (p : Fin 32) (w : Word) (h : pageExists p = true) :
    s.regWrite (Adr.PG_CTRL p) w = s.ctrlWrite p w := by
  fin_cases p <;> first | rfl | simp [pageExists] at h

theorem State.regWrite_pend (s : State) (p : Fin 32) (w : Word) (h : pageExists p = true) :
    s.regWrite (Adr.PG_EVT_PEND p) w = s.pendClear p w := by
  fin_cases p <;> first | rfl | simp [pageExists] at h

theorem State.regWrite_force (s : State) (p : Fin 32) (w : Word) (h : pageExists p = true) :
    s.regWrite (Adr.PG_EVT_FORCE p) w = s.eventForce p w := by
  fin_cases p <;> first | rfl | simp [pageExists] at h

theorem State.regWrite_lock (s : State) (p : Fin 32) (w : Word) (h : pageExists p = true) :
    s.regWrite (Adr.PG_LOCK p) w = s.writeLock p w := by
  fin_cases p <;> first | rfl | simp [pageExists] at h

theorem State.regWrite_commit (s : State) (p : Fin 32) (w : Word) (h : pageExists p = true) :
    s.regWrite (Adr.PG_COMMIT p) w = s.commitWrite p w := by
  fin_cases p <;> first | rfl | simp [pageExists] at h

/-! ### Registers of the pages -/

theorem State.regWrite_SYS_CMT_GO (s : State) (w : Word) : s.regWrite Adr.SYS_CMT_GO w = s.groupWriteGo w := rfl
theorem State.regWrite_SYS_SWEVT (s : State) (w : Word) :
    s.regWrite Adr.SYS_SWEVT w = s.raiseIf (w.getLsbD 0) Ev.SYS_SWEVT := rfl
theorem State.regWrite_SYS_SWRST (s : State) (w : Word) : s.regWrite Adr.SYS_SWRST w = s.swrstWrite w := rfl
theorem State.regWrite_PWR_DAMP_CTRL (s : State) (w : Word) : s.regWrite Adr.PWR_DAMP_CTRL w = s.dampControl w := rfl
theorem State.regWrite_PWR_BANK_ADJ (s : State) (w : Word) : s.regWrite Adr.PWR_BANK_ADJ w =
    s.bankAdjusted (Fld.PWR_BANK_ADJ_OP.asked w) (Fld.PWR_BANK_ADJ_VALUE.of w) := rfl
theorem State.regWrite_PWR_MEAS_CTRL (s : State) (w : Word) : s.regWrite Adr.PWR_MEAS_CTRL w =
    s.whenB (Fld.PWR_MEAS_CTRL_GO.asked w) fun s => s.taskEffect 4 := rfl
theorem State.regWrite_THM_CMD (s : State) (w : Word) : s.regWrite Adr.THM_CMD w = s.thmCommand w := rfl
theorem State.regWrite_THM_HEAT (s : State) (w : Word) : s.regWrite Adr.THM_HEAT w = s.heatWrite w := rfl
theorem State.regWrite_FLUE_X (s : State) (n : Fin 3) (w : Word) : s.regWrite (Adr.FLUE_X n) w = s.flueWrite n w := by
  fin_cases n <;> rfl
theorem State.regWrite_CLK_CMD (s : State) (w : Word) : s.regWrite Adr.CLK_CMD w = s.clkCommand w := rfl
theorem State.regWrite_SCH_SLOTCMD (s : State) (w : Word) : s.regWrite Adr.SCH_SLOTCMD w =
    s.slotCommand (Fld.SCH_SLOTCMD_OP.of w) (Fld.SCH_SLOTCMD_SLOT.of w) := rfl
theorem State.regWrite_SCH_TRIG (s : State) (w : Word) : s.regWrite Adr.SCH_TRIG w =
    s.forEach ((List.range 16).filter fun m => w.getLsbD m) State.trigger := rfl
theorem State.regWrite_EVR_CH (s : State) (n : Fin 32) (w : Word) : s.regWrite (Adr.EVR_CH n) w = s.channelWrite n w := by
  fin_cases n <;> rfl
theorem State.regWrite_EVR_GRP (s : State) (n : Fin 8) (w : Word) : s.regWrite (Adr.EVR_GRP n) w = s.groupWrite n w := by
  fin_cases n <;> rfl
theorem State.regWrite_EVR_GRPCMD (s : State) (w : Word) : s.regWrite Adr.EVR_GRPCMD w =
    s.groupCommand (Fld.EVR_GRPCMD_ENABLE.of w) (Fld.EVR_GRPCMD_DISABLE.of w) := rfl
theorem State.regWrite_EVR_SWFIRE (s : State) (w : Word) : s.regWrite Adr.EVR_SWFIRE w = s.softwareFire w.toNat := rfl
theorem State.regWrite_IRQ_SUM (s : State) (n : Fin 6) (w : Word) : s.regWrite (Adr.IRQ_SUM n) w = s.irqSumClear n w := by
  fin_cases n <;> rfl
theorem State.regWrite_CAL_ADJ (s : State) (w : Word) : s.regWrite Adr.CAL_ADJ w =
    if Fld.CAL_ADJ_OP.of w = 1 then s.requestStep true else if Fld.CAL_ADJ_OP.of w = 2 then s.requestStep false else s := rfl
theorem State.regWrite_HIF_VIEW (s : State) (w : Word) : s.regWrite Adr.HIF_VIEW w = s.setView (w.getLsbD 0) := rfl
theorem State.regWrite_HIF_QCTL (s : State) (w : Word) : s.regWrite Adr.HIF_QCTL w = s.qctlWrite w := rfl
theorem State.regWrite_QMX_CNT_CLR (s : State) (w : Word) : s.regWrite Adr.QMX_CNT_CLR w = s.cntClear w := rfl
theorem State.regWrite_SEC_KEYCMD (s : State) (w : Word) : s.regWrite Adr.SEC_KEYCMD w =
    s.keyCommand (Fld.SEC_KEYCMD_OP.of w) (Fld.SEC_KEYCMD_SLOT.of w) := rfl
theorem State.regWrite_SEC_KEYLOCK (s : State) (w : Word) : s.regWrite Adr.SEC_KEYLOCK w = s.keylockWrite w := rfl
theorem State.regWrite_SEC_CTRVAL (s : State) (w : Word) : s.regWrite (Adr.SEC_CTRSEL + 4) w = s.ctrWrite w := rfl
theorem State.regWrite_SEC_CTREP (s : State) (w : Word) : s.regWrite (Adr.SEC_CTRSEL + 8) w = s.ctrepWrite w := rfl
theorem State.regWrite_NFC_TUNE (s : State) (w : Word) :
    s.regWrite Adr.NFC_TUNE_S0 w = s.bankWrite .NFC_TUNE_S0_C (w.toNat % 64) := rfl
theorem State.regWrite_NFC_BASE_AMP (s : State) (w : Word) : s.regWrite Adr.NFC_BASE_AMP w = s.baseWrite (w.toNat % 0x1000) := rfl
theorem State.regWrite_NFC_CMD (s : State) (w : Word) : s.regWrite Adr.NFC_CMD w = s.nfcCommand w := rfl
theorem State.regWrite_NFP_CMD (s : State) (w : Word) : s.regWrite Adr.NFP_CMD w = s.nfpCommand w := rfl
theorem State.regWrite_NFP_TAGWIN (s : State) (w : Word) : s.regWrite (Adr.NFP_TAGWIN 0) w =
    s.keepTag (s.get .NFP_TAGSEL_ENTRY) (w.getLsbD 29) := rfl
theorem State.regWrite_WIR_CMD (s : State) (w : Word) : s.regWrite Adr.WIR_CMD w = s.wirCommand w := rfl
theorem State.regWrite_WIR_ANN_INFO (s : State) (w : Word) : s.regWrite Adr.WIR_ANN_INFO w =
    s.whenB (w.getLsbD 31) State.popAnnounce := rfl
theorem State.regWrite_RAD_CMD (s : State) (w : Word) : s.regWrite Adr.RAD_CMD w = s.radCommand w := rfl
theorem State.regWrite_RDM_CMD (s : State) (w : Word) : s.regWrite Adr.RDM_CMD w = s.rdmCommand w := rfl
theorem State.regWrite_RDM_ANN_INFO (s : State) (w : Word) : s.regWrite Adr.RDM_ANN_INFO w =
    s.whenB (w.getLsbD 31) State.popRadioAnnounce := rfl
theorem State.regWrite_GPI_CMD (s : State) (w : Word) : s.regWrite Adr.GPI_CMD w = s.gpiCommand w := rfl

/-! ### Other windows -/

/-- A word of the peer table (R317). -/
theorem State.regWrite_peer (s : State) (a : Nat) (w : Word) (h4 : a % 4 = 0) (hl : 0xE000 ≤ a) (hu : a < 0xF000) :
    s.regWrite a w = s.peerWrite a w := by
  unfold State.regWrite
  rw [if_neg (by omega), if_neg (by omega), if_pos ⟨hl, hu⟩]

/-- A word of the packet store (R37). -/
theorem State.regWrite_store (s : State) (a : Nat) (w : Word) (h4 : a % 4 = 0) (hl : 0x8000 ≤ a) (hu : a < 0xE000) :
    s.regWrite a w = s.storeWrite a w := by
  unfold State.regWrite
  rw [if_neg (by omega), if_pos ⟨hl, hu⟩]

/-- The twin of a staged register (R71). -/
theorem State.regWrite_twin (s : State) (a : Nat) (w : Word) (h4 : a % 4 = 0) (hu : a < 0x8000) (hp : pageExists (a / 0x400) = true)
    (hl : 0x240 ≤ a % 0x400) (hq : a % 0x400 < 0x3C0) : s.regWrite a w = s.twinWrite a w := by
  unfold State.regWrite
  rw [if_neg (by omega), if_neg (by omega), if_neg (by omega), if_neg (by simp [inQueue]; omega), if_neg (by simp [hp]; omega),
    if_neg (by omega), if_neg (by omega)]

/-- An address that is no word address is an access error (R8, R85). -/
theorem State.regWrite_unaligned (s : State) (a : Nat) (w : Word) (h : a % 4 ≠ 0) : s.regWrite a w = s.accErr a true 0 := by
  unfold State.regWrite; rw [if_pos h]

end Sys2Proof.Machine
end

