-- ==== Sys2Proof/Tests/Slice0.lean ====
section
/-! SUPPORT. Tests: ill-formed operands that `Instr.wellFormed` refuses, single commands whose outcome the spec gives, and
for each statement with hypotheses concrete states and operands that meet them, clause by clause. -/

open Sys2Proof Sys2Proof.Machine

namespace Sys2Proof.Tests

/-! ### Helpers -/

/-- A running part, fresh from reset, with VDD_IO up. -/
def up0 : State := { State.reset with pwr := { State.reset.pwr with phase := .up, por := false, ioUp := true } }

/-- Fields written in order. -/
def puts (s : State) (l : List (Fld × Nat)) : State := l.foldl (fun s x => s.put x.1 x.2) s

/-- A slot in a state with a first descriptor word. -/
def task (st : SlotState) (w : Word) : Slot := { Slot.empty with st := st, words := w :: List.replicate 6 0 }

/-- An item of one zero word. -/
def item1 : Item := { id := 1, cost := 1, cells := [], words := [0], llrs := [], frame := 0 }

/-- No register. -/
def row0 : RegRow := { off := 0, n := 0, stride := 0, rw := 0, w1c := 0, rs := 0, wo := 0, rl := 0, reset := 0 }

/-- An empty line frame of M3. -/
def txf1 : TxFrame := { id := 1, eng := 0, kind := .pageAck, phy := 2, gen := 3, mode := 0, bytes := [], code := 3, fed := 0, cws := [] }

/-- A line frame of M3 that SEC holds. -/
def rxf1 : RxFrame :=
  { id := 1, xing := 3, gen := 3, mode := 0, stage := .sec, phr := 0xC0, llrs := [], offered := 0, ended := false, info := [], done := 0,
    iters := 0, bytes := [], key := none, plain := none, cells := [], rssi := 0x80, ctr := none, high := false, mark := 0 }

/-- A REQA that waits. -/
def xch1 : Exchange := { frame := .reqa, owner := .step, stage := .waiting, early := false, wait := 0 }

/-- A Type A discovery step. -/
def step1 : PollStep :=
  { kind := .discovery 0, isOver := false, detected := false, found := 0, level := 0, uid := [], atqa := 0, slots := 0, slot := 0,
    rounds := 0, bad := false, masks := [], entries := [], again := false, entry := 0, bytes := [] }

/-- A state with fields written, the field's own state replaced, and a running FIELD task of a first descriptor word. -/
def inField (w : Word) (l : List (Fld × Nat)) (f : NfcField → NfcField) : State :=
  { puts up0 l with nfc := f up0.nfc, sch := { up0.sch with slots := up0.sch.slots.set 5 (task .running w) } }

/-- The same with no FIELD task. -/
def noField (l : List (Fld × Nat)) (f : NfcField → NfcField) : State := { puts up0 l with nfc := f up0.nfc }

/-- A state with NFP's own state replaced, fields written, and a running FIELD task of a first descriptor word. -/
def inTask (w : Word) (l : List (Fld × Nat)) (f : Nfp → Nfp) : State :=
  { puts up0 l with nfp := f up0.nfp, sch := { up0.sch with slots := up0.sch.slots.set 5 (task .running w) } }

/-- The same with a running legacy task, a RECEIVE, that 0x10 or 0x31 has asked to end or not. -/
def inLegacy (stop : Bool) (f : Nfp → Nfp) : State :=
  { up0 with
    nfp := f up0.nfp, leg := { up0.leg with bound := true, stop := stop }
    sch := { up0.sch with slots := up0.sch.slots.set 63 { task .running 0x20000000 with words := 0x20000000 :: List.replicate 6 0x21000000 } } }

/-- An exchange of an engine's command. -/
def cmd1 (w : Word) (st : NfcStage) : Exchange := { xch1 with frame := .command w [], owner := .engine 0 0 0, stage := st }

/-- A mode 0 capture. -/
def cap1 : Capture := { lane := 0, mode := 0, level := 0, window := true, frame := none, mark := 0 }

/-- A sweep at its first probe. -/
def sweep1 : Sweep := { qstart := 0, best := 0, made := 0, step := 0, bank := 0, dir := 0, improved := false, before := 0 }

/-- A header with large fields. -/
def header1 : Header :=
  { ftype := 3, bcast := false, noack := false, retry := false, sec := true, mic8 := false, dst := 255, src := 7, seq := 15, epoch := 0,
    len := 192, hops := 0 }

/-- Three good PHR copies of NCW 0, as soft bits. -/
def goodPhr : List Int := (List.replicate 3 (bytesBits [0, byteOf (crc8 [0])])).flatten.map fun b => if b then -31 else 31

/-- A header with a correct HDRCHK, whitened, as soft bits. -/
def goodHeader : List Int :=
  (whiten (bytesBits (List.replicate 7 0 ++ [byteOf (crc8 (List.replicate 6 0))]))).map fun b => if b then -31 else 31

/-- A device that announced. -/
def annc1 : Announce := { id := 1, uid := 0, gens := 0, step := 0, legacy := false, rep := false, acked := false, popped := false }

/-- What a command leaves, seen through `f`. -/
def left (c : Instr) (s : State) (f : State → Nat) : Option Nat := match exec c s with
  | .next t => some (f t)
  | _ => none

/-! ### Ill-formed operands -/

theorem wellFormed_refuses_addresses :
    (Instr.registerWrite 1 0).wellFormed = false ∧ (Instr.stagedTwinWrite 0x3840 0).wellFormed = false ∧
    (Instr.storeWindowWrite 0x7FFC 0).wellFormed = false ∧ (Instr.storeWindowRead 0xE000 []).wellFormed = false ∧
    (Instr.legacyMappedWrite 0x16 0).wellFormed = false := by decide

theorem wellFormed_refuses_pages :
    (Instr.commitGo 18).wellFormed = false ∧ (Instr.commitRevert 23).wellFormed = false ∧
    (Instr.pageApply 18).wellFormed = false ∧ (Instr.commitTimeout 18).wellFormed = false ∧
    (Instr.pageLock 18).wellFormed = false ∧ (Instr.pageEnable 18 true).wellFormed = false ∧
    (Instr.pageSafe 18 true).wellFormed = false ∧ (Instr.pageSoftReset 18).wellFormed = false ∧
    (Instr.eventPendClear 18 0).wellFormed = false ∧ (Instr.eventForce 18 0).wellFormed = false := by decide

theorem wellFormed_refuses_store_errors :
    (Instr.itemHandover 0 false [(384, true)] []).wellFormed = false ∧
    (Instr.storeWindowRead 0x8000 [(1, true), (1, false)]).wellFormed = false ∧
    (Instr.dropQueuePop [(384, true)]).wellFormed = false ∧ (Instr.qmxScrub [(384, true)]).wellFormed = false ∧
    (Instr.linkFrameReceived [(384, true)]).wellFormed = false ∧
    (Instr.hostRead [0] 4 0 [(384, true)]).wellFormed = false ∧
    (Instr.hostQueuePop 0 1 [(384, true)]).wellFormed = false := by decide

theorem wellFormed_refuses_empty_transactions :
    (Instr.hostWrite []).wellFormed = false ∧ (Instr.hostRead [] 4 0 []).wellFormed = false ∧
    (Instr.hostQueuePush 0 []).wellFormed = false := by decide

theorem wellFormed_refuses_soft_bits :
    (Instr.itemHandover 0 false [] [32]).wellFormed = false ∧
    (Instr.lineFrameReceived 2 false false [32] [] []).wellFormed = false ∧
    (Instr.lineFrameReceived 2 false false [] [-32] []).wellFormed = false ∧
    (Instr.lineMarkReceived 0 0 false [32] []).wellFormed = false ∧
    (Instr.lineMarkReceived 0 0 false [] [[32]]).wellFormed = false ∧
    (Instr.radioHeaderReceived [32] []).wellFormed = false ∧ (Instr.radioFrameReceived [32] []).wellFormed = false := by decide

theorem wellFormed_refuses_measurements :
    (Instr.laneSync [{ lane := 8, dbm := 0, ofs := 0, errs := 0 }]).wellFormed = false ∧ (Instr.extFieldCheckEnd 4096).wellFormed = false ∧
    (Instr.nfcResponseReceived [] 8 none false false false 0 0).wellFormed = false ∧
    (Instr.nfcResponseReceived [] 0 none false false false 0 4096).wellFormed = false := by decide

/-! ### Single commands, with the outcome that a rule of the spec gives -/

/-- R99, R69: SYS_SWEVT is event 7 of page 0. -/
theorem test_software_event : left .softwareEvent up0 (fun t => (t.rd (Adr.PG_EVT_RAW 0)).toNat) = some 0x80 := by decide

/-- R85, R100: a misaligned write is an access error and nothing else. -/
theorem test_misaligned_write :
    left (.registerWrite 0x41 5) up0 (fun t => t.get .SYS_ACC_INFO_VALID) = some 1 := by decide

/-- R151: 2.39 V lies below VWARN at LVL 10; the Damper engages and the dip counts. -/
theorem test_vwarn :
    left (.vwarnCrossing 2399) (puts up0 [(.PWR_WARN_LVL_LVL, 10)])
      (fun t => 10 * t.get .PWR_MODE_DAMPER + t.get .PWR_DIP_COUNT_COUNT) = some 11 := by decide

/-- R151: 2.40 V does not. -/
theorem test_no_vwarn :
    left (.vwarnCrossing 2400) (puts up0 [(.PWR_WARN_LVL_LVL, 10)])
      (fun t => 10 * t.get .PWR_MODE_DAMPER + t.get .PWR_DIP_COUNT_COUNT) = some 0 := by decide

/-- R279: after 2399-12-31 23:59:59 comes 2000-01-01 with CAL_STAT.WRAP. -/
theorem test_calendar_wraps :
    left .calSecondBoundary
      { up0 with cal := { Calendar.reset with year := 399, month := 12, day := 31, hour := 23, minute := 59, second := 59 } }
      (fun t => 1000 * t.get .CAL_STAT_WRAP + 100 * t.cal.year + 10 * t.cal.month + t.cal.day) = some 1011 := by decide +kernel

/-- R278: 2100 is no leap year. -/
theorem test_no_leap_day :
    left .calSecondBoundary
      { up0 with cal := { Calendar.reset with year := 100, month := 2, day := 28, hour := 23, minute := 59, second := 59 } }
      (fun t => 100 * t.cal.month + t.cal.day) = some 301 := by decide +kernel

/-- R278: 2000 is one. -/
theorem test_leap_day :
    left .calSecondBoundary
      { up0 with cal := { Calendar.reset with year := 0, month := 2, day := 28, hour := 23, minute := 59, second := 59 } }
      (fun t => 100 * t.cal.month + t.cal.day) = some 229 := by decide +kernel

/-- R530: the fourth quarter of a detent steps the knob. -/
theorem test_knob_step :
    left (.knobStateTaken false false)
      { puts up0 [(.PG_CTRL_EN 17, 1), (.GPI_KNOB_EN, 1), (.GPI_KNOBCNT_SUB, 3)] with
        gpi := { up0.gpi with knob := some (false, true) } }
      (fun t => 10 * t.get .GPI_KNOBCNT_COUNT + t.get .GPI_KNOBCNT_SUB) = some 10 := by decide

/-- R529: a change of both bits counts as an error and clears SUB. -/
theorem test_knob_error :
    left (.knobStateTaken true true)
      { puts up0 [(.PG_CTRL_EN 17, 1), (.GPI_KNOB_EN, 1), (.GPI_KNOBCNT_SUB, 3)] with
        gpi := { up0.gpi with knob := some (false, false) } }
      (fun t => 100 * t.get .GPI_KNOBCNT_ERR + 10 * t.get .GPI_KNOBCNT_COUNT + t.get .GPI_KNOBCNT_SUB) = some 100 := by decide

/-- R498: LOCK locks a slot. -/
theorem test_key_lock : left (.keyLock 3 false) up0 (fun t => (t.rd Adr.SEC_KEYLOCK).toNat) = some 8 := by decide

/-- R158: below 1.40 V the causes are lost. -/
theorem test_ember_loss : left (.emberDomainLoss 1399) (puts up0 [(.RST_CAUSE_CAUSE, 2)]) (fun t => t.get .RST_CAUSE_CAUSE) =
    some 0 := by decide

/-- An idle step of a running part that owes nothing passes one cycle of the calendar island. -/
theorem test_idle : (match step up0 with | .next t => t.cyc | _ => 0) = 1 := by decide +kernel

/-- R363: the bit pairs 00, 01, 11 and 10 of M3. -/
theorem test_m3_levels : m3Levels [false, false, false, true, true, true, true, false] = [-3, -1, 1, 3] := by decide

/-- R365: M1 sends 1 as −A then +A, and 0 as +A then −A. -/
theorem test_m1_levels : m1Levels [true, false] = [-3, 3, 3, -3] := by decide

/-- R421: SF 4 has the code 0x6; a bit 1 is sent as its inverse, most significant chip first. -/
theorem test_spread_chips : chips 4 false ++ chips 4 true = [false, true, true, false, true, false, false, true] := by decide

/-! ### States and operands that meet the statements' hypotheses -/

theorem witness_IdleStep :
  (let s : State := { up0 with pending := [], pwr := { up0.pwr with phase := .inReset } }
   s.pending = [] ∧ s.up = false) ∧
  (let n := 5
   let l := []
   let s : State := { up0 with pending := [], latches := n :: l }
   s.pending = [] ∧ s.up = true ∧ s.latches = n :: l) ∧
  (let s : State := { up0 with pending := [], latches := [], occ := [8] }
   s.pending = [] ∧ s.up = true ∧ s.latches = [] ∧ s.occ ≠ []) ∧
  (let s : State := { up0 with pending := [], latches := [], occ := [], sch := { up0.sch with passReq := true } }
   s.pending = [] ∧ s.up = true ∧ s.latches = [] ∧ s.occ = [] ∧ s.sch.passReq = true) ∧
  (let s : State := { up0 with pending := [], latches := [], occ := [], sch := { up0.sch with passReq := false } }
   s.pending = [] ∧ s.up = true ∧ s.latches = [] ∧ s.occ = [] ∧ s.sch.passReq = false) := by
  and_intros <;> decide

theorem witness_WordWrites :
  (let f : Fld := Fld.PWR_MODE_DAMPER
   let i : Nat := 31
   f.lo ≤ f.hi ∧ (i < f.lo ∨ f.hi < i)) ∧
  (let f : Fld := Fld.PWR_MODE_DAMPER
   f.lo ≤ f.hi ∧ f.hi < 32) ∧
  (let f : Fld := Fld.PWR_MODE_DAMPER
   let s : State := up0
   f.lo ≤ f.hi ∧ f.hi < 32 ∧ RegFile.wf s.regs = true) ∧
  (let a : Nat := 0x40
   let b : Nat := 0x44
   let s : State := up0
   b ≠ a ∧ RegFile.wf s.regs = true) ∧
  (let s : State := up0
   RegFile.wf s.regs = true) ∧
  (let a : Nat := 0x40
   let b : Nat := 0x44
   let s : State := up0
   b ≠ a ∧ Memory.wf s.mem = true) ∧
  (let s : State := up0
   Memory.wf s.mem = true) := by
  and_intros <;> decide

theorem witness_RaiseDoes :
  (let e : Nat := 0
   let p : Nat := 0
   let bit : Nat := 0
   let s : State := up0
   eventHome e = some (p, bit) ∧ RegFile.wf s.regs = true) ∧
  (let e : Nat := 0
   let p : Nat := 0
   let bit : Nat := 0
   let i := 31
   let s : State := up0
   eventHome e = some (p, bit) ∧ RegFile.wf s.regs = true ∧ i ≠ bit) ∧
  (let e : Nat := 0
   let p : Nat := 0
   let bit : Nat := 0
   let a := 0
   let s : State := up0
   eventHome e = some (p, bit) ∧ RegFile.wf s.regs = true ∧ a ≠ Adr.PG_EVT_RAW p) := by
  and_intros <;> decide

theorem witness_FinishDoes :
  (let s : State := up0
   s.routerOn = false ∧ (s.xing 12).slow = false) ∧
  (let s : State := { (puts up0 [((.PG_CTRL_EN 5), 1)]) with raised := [8, Ev.CAL_TICK_SEC], occ := [3], evtWait := [] }
   s.routerOn = true ∧ s.occ.countP islandEvent ≤ 8) ∧
  (let s : State := { (puts up0 [((.PG_CTRL_EN 5), 1)]) with xings := up0.xings.set 12 { Xing.reset with slow := true }, raised := [Ev.CAL_TICK_SEC], evtWait := [] }
   s.routerOn = true ∧ (s.xing 12).slow = true ∧ s.evtWait = [] ∧ s.raised.any islandEvent = true) := by
  and_intros <;> decide

theorem witness_HostAccessDoes :
  (let s : State := up0
   s.pwr.phase ≠ .ember) ∧
  (let s : State := { up0 with pwr := { up0.pwr with phase := .ember } }
   s.pwr.phase = .ember) := by
  and_intros <;> decide

theorem witness_OutOfReach :
  (let s : State := puts up0 [(.HIF_VIEW_VIEW, 1)]
   s.nativeHost = false) ∧
  (let s : State := up0
   s.legacyHost = false) ∧
  (let s : State := { up0 with pwr := { up0.pwr with phase := .inReset } }
   s.up = false) ∧
  (let s : State := up0
   s.nativeHost = true) ∧
  (let s : State := puts up0 [(.HIF_VIEW_VIEW, 1)]
   s.legacyHost = true) := by
  and_intros <;> decide

theorem witness_PageCommands :
  (let a : BitVec 16 := 0
   let s : State := up0
   s.nativeHost = true ∧ (queueWord a.toNat && decide (0x6000 ≤ a.toNat)) = false) ∧
  (let p : Fin 32 := 0
   let s : State := up0
   s.nativeHost = true ∧ pageExists p = true) ∧
  (let a : BitVec 16 := 0x3A40
   let s : State := up0
   let r : RegRow := (findRow (pageAll (a.toNat / 0x400)) (a.toNat % 0x400 - 0x200)).getD row0
   s.nativeHost = true ∧ a.toNat % 4 = 0 ∧ a.toNat < 0x8000 ∧ 0x240 ≤ a.toNat % 0x400 ∧ a.toNat % 0x400 < 0x3C0 ∧
   pageExists (a.toNat / 0x400) = true ∧ findRow (pageAll (a.toNat / 0x400)) (a.toNat % 0x400 - 0x200) = some r ∧
   r.rs ≠ 0 ∧ a.toNat ≠ Adr.CAL_TIME + 0x200 ∧ a.toNat ≠ Adr.CAL_DATE + 0x200 ∧
    (let t := s.accessed
     t.locked (a.toNat / 0x400) = false ∧ t.bit (.PG_CFGSTAT_PENDING (a.toNat / 0x400)) = false)) ∧
  (let p : Fin 32 := 4
   let s : State := puts up0 [((.PG_CFGSTAT_DIRTY 4), 1)]
   s.nativeHost = true ∧ pageExists p = true ∧ p.val ≠ 7 ∧
    (let t := s.accessed
     let u := t.put (.PG_CFGSTAT_TIMEOUT p) 0
     t.bit (.PG_CFGSTAT_PENDING p) = false ∧ u.bit (.PG_CFGSTAT_INGROUP p) = false ∧ firstBad (u.pageRange p) = none ∧
     (u.put (.PG_CFGSTAT_PENDING p) 1).bit (.PG_CFGSTAT_DIRTY p) = true)) ∧
  (let p : Fin 32 := 0
   let s : State := up0
   s.nativeHost = true ∧ pageExists p = true ∧ p.val ≠ 7 ∧ s.accessed.bit (.PG_CFGSTAT_INGROUP p) = false) ∧
  (let p : Fin 32 := 0
   let s : State := puts up0 [((.PG_CFGSTAT_PENDING p), 1)]
   s.up = true ∧ s.bit (.PG_CFGSTAT_PENDING p) = true ∧ s.drainHold p = false ∧ s.atSafePoint p = true ∧
   s.initsReady p false = true) ∧
  (let p : Fin 32 := 7
   let s : State := { up0 with cal := { up0.cal with sub := 32767 } }
   s.up = true ∧ s.atSafePoint p = false) ∧
  (let p : Fin 32 := 4
   let s : State := { (puts up0 [((.PG_CFGSTAT_PENDING p), 1), ((.PG_STAT_DRAINHOLD p), 1)]) with cmt := { up0.cmt with reached := [] } }
   s.up = true ∧ s.atSafePoint p = true ∧ s.bit (.PG_CFGSTAT_PENDING p) = true ∧ s.drainHold p = true ∧
   s.cmt.reached.contains p.val = false) ∧
  (let p : Fin 32 := 0
   let s : State := puts up0 [((.PG_CFGSTAT_PENDING p), 1), (.SYS_CMT_TIMEOUT_TO, 1)]
   s.up = true ∧ s.bit (.PG_CFGSTAT_PENDING p) = true ∧ s.drainHold p = false ∧ s.get .SYS_CMT_TIMEOUT_TO ≠ 0 ∧
    (let t := (s.put (.PG_CFGSTAT_PENDING p) 0).put (.PG_CFGSTAT_TIMEOUT p) 1
     t.bit (.PG_CFGSTAT_INGROUP p) = false)) ∧
  (let s : State := puts up0 [((Fld.mk Adr.SYS_CMT_MASK 4 4), 1)]
   s.nativeHost = true ∧
    (let t := s.accessed
     t.groupBusy = false ∧ t.groupMask ≠ [])) ∧
  (let s : State := puts up0 [(.SYS_CMT_INFO_BUSY, 1)]
   s.nativeHost = true ∧ s.accessed.groupBusy = true) ∧
  (let s : State := { (puts up0 [(.SYS_CMT_INFO_BUSY, 1), ((.PG_STAT_DRAINHOLD 4), 1)]) with cmt := { up0.cmt with drain := true, open_ := [4] } }
   s.up = true ∧ s.draining = true ∧ (s.cmt.open_.all fun p => s.drained p) = true) ∧
  (let s : State := { (puts up0 [(.SYS_CMT_TIMEOUT_TO, 1), (.SYS_CMT_INFO_BUSY, 1), ((.PG_CTRL_EN 4), 1), ((.PG_STAT_DRAINHOLD 4), 1)]) with cmt := { up0.cmt with drain := true, open_ := [4] }, sch := { up0.sch with slots := up0.sch.slots.set 5 (task .running 0x60000000) } }
   s.up = true ∧ s.draining = true ∧ s.get .SYS_CMT_TIMEOUT_TO ≠ 0 ∧
   (s.cmt.open_.filter fun p => !s.drained p) ≠ []) ∧
  (let p : Fin 32 := 4
   let pend := puts up0 [(.PG_CFGSTAT_PENDING 4, 1)]
   let member := puts up0 [(.PG_CFGSTAT_INGROUP 4, 1), (.PG_CFGSTAT_DIRTY 4, 1)]
   let bad := puts up0 [((Fld.SCH_QLOW_LOW).twin, 65)]
   (∀ s ∈ [pend, member, bad, up0], s.nativeHost = true) ∧ pageExists p = true ∧ pageExists 18 = false ∧
   (firstBad (bad.accessed.pageRange 4)).isSome = true ∧
   pend.accessed.bit (.PG_CFGSTAT_PENDING p) = true ∧ member.accessed.bit (.PG_CFGSTAT_PENDING p) = false ∧
   (member.accessed.put (.PG_CFGSTAT_TIMEOUT p) 0).bit (.PG_CFGSTAT_INGROUP p) = true ∧
   member.accessed.bit (.PG_CFGSTAT_INGROUP p) = true ∧
   (up0.put (.PG_CFGSTAT_PENDING p) 1).bit (.PG_CFGSTAT_DIRTY p) = false ∧
   State.calFault up0 = none ∧ (State.calFault (puts up0 [((Fld.CAL_DATE_MONTH).twin, 13), (.CAL_STAT_DWR, 1)])).isSome = true) ∧
  (queueWord 0x63C0 && decide (0x6000 ≤ (0x63C0#16).toNat)) = true ∧
  ((puts up0 [(.PG_CFGSTAT_PENDING 14, 1)]).accessed.bit (.PG_CFGSTAT_PENDING 14) = true ∧ up0.accessed.locked 7 = false ∧
   up0.accessed.bit (.PG_CFGSTAT_PENDING 7) = false ∧ (findRow (pageAll 7) (Adr.CAL_TIME % 0x400)).isSome = true ∧
   (findRow (pageAll 7) (Adr.CAL_DATE % 0x400)).isSome = true) ∧
  (let held : State := { puts up0 [(.PG_CFGSTAT_PENDING 4, 1), (.PG_STAT_DRAINHOLD 4, 1)] with cmt := { up0.cmt with reached := [4] } }
   let init := puts up0 [(.PG_CFGSTAT_PENDING 24, 1), ((initFld 16).twin, 5), (initFld 16, 6)]
   up0.bit (.PG_CFGSTAT_PENDING 4) = false ∧ held.drainHold 4 = true ∧ held.cmt.reached.contains 4 = true ∧
   init.drainHold 24 = false ∧ init.initsReady 24 false = false ∧
   (puts up0 [(.PG_CFGSTAT_PENDING 4, 1), (.PG_CFGSTAT_INGROUP 4, 1)]).bit (.PG_CFGSTAT_INGROUP 4) = true ∧
   (puts up0 [(.SYS_CMT_TIMEOUT_TO, 0)]).get .SYS_CMT_TIMEOUT_TO = 0) ∧
  (up0.accessed.groupBusy = false ∧ up0.accessed.groupMask = [] ∧ up0.draining = false) := by
  and_intros <;> decide

theorem witness_PageControlCommands :
  (let p : Fin 32 := 0
   let s : State := up0
   s.nativeHost = true ∧ pageExists p = true ∧ s.accessed.locked p = false) ∧
  (let p : Fin 32 := 0
   let s : State := up0
   s.nativeHost = true ∧ pageExists p = true) ∧
  (let p : Nat := 31
   let s : State := { (puts up0 [((.PG_STAT_DRAINHOLD p), 1)]) with cmt := { up0.cmt with reached := [4] } }
   s.drainHold p = true ∧ s.cmt.reached.contains p = false) ∧
  (let p : Nat := 0
   let s : State := up0
   s.drainHold p = false) ∧
  (let s : State := puts up0 [((.PG_CTRL_EN 9), 1), ((.PG_CTRL_EN 12), 1)]
   (qmxUsers.any fun q => s.enabled q) = true) ∧
  (let s : State := puts up0 [((.PG_CTRL_EN 9), 1)]
   (qmxUsers.any fun q => s.enabled q) = false ∧ s.enabled 9 = true) ∧
  (let s : State := puts up0 [((.PG_CTRL_EN 9), 0)]
   s.enabled 9 = false) ∧
  (let n : Fin 8 := 7
   let s : State := puts up0 [((.LE_BIND_PHY 7), Phy.LINE), ((.LE_BIND_GEN 7), 3), ((.PG_CTRL_EN 24), 1), ((.LE_BIND_PHY 0), Phy.LINE), ((.LE_BIND_GEN 0), 3)]
   s.bit (.PG_CTRL_EN (24 + n)) = false ∧ s.duplicate n = true) ∧
  (let p : Fin 32 := 4
   let s : State := up0
   (p.val = 4 ∨ p.val = 5 ∨ p.val = 14 ∨ p.val = 17) ∧ s.bit (.PG_CTRL_EN p) = false) ∧
  (let p : Fin 32 := 4
   let s : State := puts up0 [((.PG_CTRL_EN p), 1)]
   (p.val = 4 ∨ p.val = 5 ∨ p.val = 14 ∨ p.val = 17) ∧ s.bit (.PG_CTRL_EN p) = true) ∧
  (let p : Fin 32 := 4
   let s : State := up0
   RegFile.wf s.accessed.regs = true ∧ s.nativeHost = true ∧ (p.val = 4 ∨ p.val = 5 ∨ p.val = 17) ∧
   s.accessed.safe p = false) ∧
  (let p : Fin 32 := 4
   let s : State := puts up0 [((.PG_CTRL_SAFE p), 1)]
   RegFile.wf s.accessed.regs = true ∧ s.nativeHost = true ∧ (p.val = 4 ∨ p.val = 5 ∨ p.val = 17) ∧
   s.accessed.safe p = true) ∧
  ((puts up0 [(.PG_LOCK_LOCKED 4, 1)]).accessed.locked 4 = true ∧ pageExists 4 = true ∧ fixedPage 7 = true ∧ fixedPage 12 = false ∧
   up0.enabled 9 = true ∧ (puts up0 [(.PG_CTRL_EN 9, 0)]).enabled 9 = false ∧ (qmxUsers.any fun q => up0.enabled q) = false ∧
   up0.bit (.PG_CTRL_EN 12) = false ∧ (puts up0 [(.CLK_XO_CFG_MODE, 2)]).get .CLK_XO_CFG_MODE = 2 ∧ up0.get .CLK_XO_CFG_MODE ≠ 2 ∧
   up0.duplicate 0 = false ∧ up0.safe 12 = false ∧ (puts up0 [(.PG_CTRL_SAFE 12, 1)]).safe 12 = true ∧
   (qmxUsers.any fun q => (puts up0 [(.PG_CTRL_EN 12, 1)]).enabled q) = true ∧ up0.leg.bound = false ∧
   (inLegacy false id).leg.bound = true ∧ (inLegacy false id).legacyView = false) := by
  and_intros <;> decide

theorem witness_EventAndResetCommands :
  (let p : Fin 32 := 0
   let s : State := up0
   s.nativeHost = true ∧ pageExists p = true) ∧
  (let n : Fin 6 := 0
   let k : Fin 32 := 0
   let p : Nat := 0
   let b : Nat := 0
   let s : State := up0
   s.nativeHost = true ∧ eventHome (32 * n + k) = some (p, b)) ∧
  (let p : Fin 32 := 0
   let e : Nat := 0
   let b : Nat := 0
   let s : State := up0
   s.nativeHost = true ∧ e < 192 ∧ eventHome e = some (p.val, b) ∧ s.accessed.locked p = false) ∧
  (let s : State := up0
   s.nativeHost = true) ∧
  (let s : State := { up0 with pwr := { up0.pwr with ioUp := true } }
   s.up = true ∧ s.pwr.ioUp = true) ∧
  (let mv : Nat := 0
   let s : State := up0
   s.up = true ∧ mv < 1700) ∧
  (let mv : Nat := 0
   mv < 1400) ∧
  (let fails : Nat := 2
   let vmain : Nat := 1760
   let s : State := { up0 with pwr := { up0.pwr with phase := .inReset } }
   s.pwr.phase = .inReset ∧ 1760 ≤ vmain ∧ fails < 3) ∧
  (let s : State := { up0 with pwr := { up0.pwr with phase := .waitIo } }
   s.pwr.phase = .waitIo) ∧
  ((puts up0 [(.PG_LOCK_LOCKED 4, 1)]).accessed.locked 4 = true ∧ up0.accessed.locked 4 = false ∧ pageExists 4 = true ∧
   State.reset.pwr.ioUp = false ∧ State.reset.up = false ∧ State.reset.pwr.phase = .inReset ∧ up0.pwr.phase ≠ .waitIo ∧
   up0.pwr.phase ≠ .inReset ∧ ({ up0 with pwr := { up0.pwr with phase := .inReset } } : State).up = false ∧
   ({ up0 with pwr := { up0.pwr with phase := .inReset } } : State).pwr.ioUp = true ∧
   (if (State.reset.pwr.por || State.reset.get .RST_CAUSE_CAUSE == Rst.VRST) = true then 1760 else 1700) = 1760) := by
  and_intros <;> decide

theorem witness_HostCommands :
  (let hi : Byte := 0
   let lo : Byte := 0
   let b0 : Byte := 0
   let b1 : Byte := 0
   let b2 : Byte := 0
   let b3 : Byte := 0
   let s : State := up0
   s.nativeHost = true ∧
    (let t := s.accessed
     let u := t.regWrite (hi ++ lo).toNat (b0 ++ b1 ++ b2 ++ b3)
     t.bit .HIF_CRC_EN_EN = false ∧ inQueue (hi ++ lo).toNat = false ∧ t.up = true ∧ u.up = true)) ∧
  (let hi : Byte := 0
   let lo : Byte := 0
   let ready : Nat := 0
   let ecc : List (Nat × Bool) := []
   let s : State := up0
   s.nativeHost = true ∧
    (let t := s.accessed
     let r := t.regRead (hi ++ lo).toNat ecc
     let v := r.2.releasePopped t
     s.i2c = false ∧ t.i2c = false ∧ t.bit .HIF_CRC_EN_EN = false ∧ t.bit .HIF_WAIT_MODE = false ∧
     inQueue (hi ++ lo).toNat = false ∧ ready ≤ t.get .HIF_WAIT_BYTES ∧ v.up = true)) ∧
  (let hi : Byte := 0
   let lo : Byte := 0
   let ready : Nat := 100
   let s : State := up0
   s.nativeHost = true ∧
    (let t := s.accessed
     let v := (t.releasePopped t).underrun
     s.i2c = false ∧ t.i2c = false ∧ t.bit .HIF_CRC_EN_EN = false ∧ t.bit .HIF_WAIT_MODE = false ∧
     inQueue (hi ++ lo).toNat = false ∧ t.get .HIF_WAIT_BYTES < ready ∧ v.up = true)) ∧
  (let s : State := { up0 with pwr := { up0.pwr with phase := .inReset } }
   s.pwr.ioUp = true ∧ s.up = false) ∧
  (let s : State := up0
   s.nativeHost = true ∧ s.i2c = false) ∧
  (let word : List Byte := []
   let s : State := puts up0 [(.HIF_STAT_STRAP, 1)]
   s.nativeHost = true ∧ s.i2c = true ∧ s.accessed.i2c = true ∧ word.length < 4) ∧
  (let n : Fin 8 := 0
   let words : List Word := [0]
   let s : State := up0
   s.nativeHost = true ∧ words ≠ [] ∧ words.length ≤ 64 ∧
    (let t := s.accessed
     let k := cellsOfWords words.length
     4 ≤ t.pushFree ∧ t.enabled 9 = true ∧ k ≤ t.get (.LE_TXCRED_INIT n))) ∧
  (let s : State := up0
   s.nativeHost = true) ∧
  (let q : Fin 9 := 0
   let i : Item := item1
   let s : State := { up0 with hif := { up0.hif with pops := List.replicate 9 { pos := 1, held := true } }, xings := up0.xings.set 17 { Xing.reset with owned := [item1] } }
   s.nativeHost = true ∧ s.accessed.popItem q = some i ∧ (s.accessed.pop q).held = true) ∧
  (let q : Fin 9 := 0
   let i : Item := item1
   let s : State := { up0 with hif := { up0.hif with pops := List.replicate 9 { pos := 1, held := false } }, xings := up0.xings.set 17 { Xing.reset with owned := [item1] } }
   s.nativeHost = true ∧ s.accessed.popItem q = some i ∧ 0 < (s.accessed.pop q).pos) ∧
  (let q : Fin 9 := 0
   let i : Item := item1
   let s : State := { up0 with xings := up0.xings.set 17 { Xing.reset with owned := [item1] } }
   s.nativeHost = true ∧ s.accessed.popItem q = some i) ∧
  (let s : State := up0
   s.up = true) ∧
  (let s : State := { up0 with pwr := { up0.pwr with ioUp := true, wakeHigh := false, phase := .ember } }
   s.pwr.ioUp = true ∧ s.pwr.wakeHigh = false ∧ s.pwr.phase = .ember) ∧
  (let s : State := { up0 with pwr := { up0.pwr with phase := .waking } }
   s.pwr.phase = .waking) ∧
  ((puts up0 [(.HIF_STAT_STRAP, 1)]).i2c = true ∧ up0.up = true ∧ up0.pwr.ioUp = true ∧ State.reset.pwr.ioUp = false ∧ up0.i2c = false ∧
   badCommand 0xC0 = true ∧ badCommand 0x80 = false ∧ (0x80#8) &&& 0xC0 = 0x80 ∧ badCommand 0x40 = false ∧ badCommand 0 = false ∧
   (0x40#8) &&& 0xC0 = 0x40 ∧ (0#8) &&& 0xC0 = 0 ∧ inQueue 0x63C0 = true ∧
   (puts up0 [(.HIF_WAIT_MODE, 1)]).bit .HIF_WAIT_MODE = true ∧ 1 ≤ max 1 (up0.get .HIF_WAIT_MAXB) ∧ max 1 (up0.get .HIF_WAIT_MAXB) < 300 ∧
   ([0] : List Word) ≠ [] ∧ 64 < (List.replicate 65 (0 : Word)).length ∧ (puts up0 [(.PG_CTRL_EN 9, 0)]).accessed.enabled 9 = false ∧
   up0.popItem 0 = none ∧ up0.accessed.popItem 0 = none ∧ (up0.checkFront 0 [] (up0.xing (popXing 0)).unacked).1 = false ∧
   (up0.checkFront 0 [] [item1]).1 = true ∧
   ({ up0 with xings := up0.xings.set 17 { Xing.reset with owned := [item1] } } : State).popItem 0 = some item1 ∧
   (({ up0 with xings := up0.xings.set 17 { Xing.reset with owned := [item1] } } : State).pop 0).held = false ∧
   up0.pwr.wakeHigh = false ∧ up0.pwr.phase ≠ .ember ∧ up0.pwr.phase ≠ .waking) := by
  and_intros <;> decide

theorem witness_LegacyCommands :
  (let s : State := up0
   s.nativeHost = true ∧ s.accessed.legacyView = false) ∧
  (let s : State := { up0 with pwr := { up0.pwr with ioUp := true } }
   s.up = true ∧ s.pwr.ioUp = true) ∧
  (let s : State := puts up0 [(.HIF_VIEW_VIEW, 1)]
   s.legacyHost = true) ∧
  (let s : State := { (puts up0 [(.HIF_VIEW_VIEW, 1)]) with leg := { up0.leg with bound := true } }
   s.legacyHost = true ∧ s.accessed.leg.bound = true ∧ s.accessed.legacyBusy = false ∧
   (s.accessed.slot 63).st ≠ .running) ∧
  (let s : State := { (puts up0 [(.HIF_VIEW_VIEW, 1)]) with leg := { up0.leg with bound := true }, sch := { up0.sch with slots := (up0.sch.slots.set 63 (task .waiting 0x10000000)) } }
   s.legacyHost = true ∧ s.accessed.legacyBusy = true ∧
    (let t := s.accessed
     (t.slot 63).st ≠ .running)) ∧
  (let s : State := { (puts up0 [(.HIF_VIEW_VIEW, 1)]) with leg := { up0.leg with bound := true }, sch := { up0.sch with slots := (up0.sch.slots.set 63 (task .running 0x10000000)) } }
   s.legacyHost = true ∧ s.accessed.legacyBusy = true ∧
    (let t := s.accessed
     (t.slot 63).st = .running ∧ t.legacyFieldOn = false)) ∧
  (let s : State := { (puts up0 [(.HIF_VIEW_VIEW, 1)]) with leg := { up0.leg with bound := true }, sch := { up0.sch with slots := (up0.sch.slots.set 63 (task .running 0x20000000)) } }
   s.legacyHost = true ∧ s.accessed.legacyBusy = true ∧
    (let t := s.accessed
     (t.slot 63).st = .running ∧ t.legacyFieldOn = true)) ∧
  (let s : State := puts up0 [(.HIF_VIEW_VIEW, 1)]
   s.legacyHost = true ∧ s.accessed.legacyBusy = false) ∧
  (let s : State := up0
   s.up = true) ∧
  (let s : State := puts up0 [(.HIF_VIEW_VIEW, 1)]
   s.legacyHost = true ∧ s.accessed.leg.txf.length < 64) ∧
  (let s : State := { (puts up0 [(.HIF_VIEW_VIEW, 1)]) with leg := { up0.leg with txf := List.replicate 64 0 } }
   s.legacyHost = true ∧ 64 ≤ s.accessed.leg.txf.length) ∧
  (let b : Byte := 0
   let c : Byte := 0
   let r : List Byte := []
   let s : State := { (puts up0 [(.HIF_VIEW_VIEW, 1)]) with leg := { up0.leg with rxf := b :: c :: r } }
   s.legacyHost = true ∧ s.accessed.leg.rxf = b :: c :: r) ∧
  (let v := puts up0 [(.HIF_VIEW_VIEW, 1)]
   let p := fun w todo => ({ v with
     leg := { up0.leg with bound := true, todo := todo }, sch := { up0.sch with slots := up0.sch.slots.set 63 (task .running w) } } : State)
   let old : State := { p 0 none with sch := { up0.sch with slots := up0.sch.slots.set 63 { task .running 0x20000000 with abort := true } } }
   (∀ s ∈ [v, p 0x10000000 none, p 0x20000000 none, p 0x20000000 (some 0x21), old], s.legacyHost = true) ∧
   v.accessed.leg.bound = false ∧ (p 0x10000000 none).accessed.legacyBusy = true ∧ (p 0x10000000 none).accessed.legacyFieldOn = false ∧
   (p 0x20000000 none).accessed.legacyBusy = true ∧ (p 0x20000000 none).accessed.legacyFieldOn = true ∧
   (p 0x20000000 (some 0x21)).accessed.leg.todo.isSome = true ∧ (p 0x20000000 none).accessed.leg.stop = false ∧
   old.accessed.leg.bound = true ∧ old.accessed.legacyBusy = false ∧ (old.accessed.slot 63).st = .running ∧
   v.accessed.leg.rxf = [] ∧ ({ v with leg := { up0.leg with rxf := [7] } } : State).accessed.leg.rxf = [7]) := by
  and_intros <;> decide

theorem witness_PowerCommands :
  (let s : State := { (puts up0 [(.PWR_EMBER_REQ, 1)]) with pwr := { up0.pwr with emberBroken := false, emberCount := 1000 } }
   s.up = true ∧ s.emberReady = true ∧ s.pwr.emberBroken = false ∧ s.get .PWR_EMBER_HOLDOFF < s.pwr.emberCount) ∧
  (let mv : Nat := 0
   let s : State := up0
   s.up = true ∧ mv < 2600 ∧ s.bit .PWR_MODE_TXLOW = false) ∧
  (let mv : Nat := 2700
   let s : State := up0
   s.up = true ∧ 2700 ≤ mv) ∧
  (let mv : Nat := 0
   let s : State := { up0 with pwr := { up0.pwr with supplyEng := false } }
   s.up = true ∧ mv < 1900 + 50 * s.get .PWR_WARN_LVL_LVL ∧ s.pwr.supplyEng = false ∧ s.bit .PWR_MODE_DAMPER = false) ∧
  (let mv : Nat := 1899
   let s : State := { (puts up0 [(.PWR_MODE_DAMPER, 1), (.PWR_MODE_FORCED, 1)]) with pwr := { up0.pwr with supplyEng := false } }
   s.up = true ∧ mv < 1900 + 50 * s.get .PWR_WARN_LVL_LVL ∧ s.pwr.supplyEng = false ∧ s.bit .PWR_MODE_DAMPER = true) ∧
  (let mv : Nat := 1899
   let s : State := { (puts up0 [(.PWR_MODE_DAMPER, 1)]) with pwr := { up0.pwr with supplyEng := true } }
   s.up = true ∧ mv < 1900 + 50 * s.get .PWR_WARN_LVL_LVL ∧ s.pwr.supplyEng = true) ∧
  (let s : State := up0
   s.get .PWR_WARN_LVL_LVL = up0.get .PWR_WARN_LVL_LVL) ∧
  (let s : State := puts up0 [(.PWR_WARN_LVL_LVL, 15)]
   s.get .PWR_WARN_LVL_LVL ≠ (puts up0 [(.PWR_WARN_LVL_LVL, 14)]).get .PWR_WARN_LVL_LVL) ∧
  (let s : State := up0
   s.up = true) ∧
  (let mv : Nat := 4000
   let s : State := { up0 with pwr := { up0.pwr with supplyEng := true } }
   s.up = true ∧ s.pwr.supplyEng = true ∧ s.bit .PWR_MODE_DWELL = false ∧
   1900 + 50 * s.get .PWR_WARN_LVL_LVL + 60 ≤ mv) ∧
  (let s : State := { (puts up0 [(.PWR_MODE_DWELL, 1), (.PWR_MODE_FORCED, 1)]) with pwr := { up0.pwr with supplyEng := true } }
   s.up = true ∧ s.pwr.supplyEng = true ∧ s.bit .PWR_MODE_DWELL = true ∧
    (let t := s.advanceTo (s.pwr.dwellUs + 250 * (s.get .PWR_DAMP_DWELL_DWELL + 1))
     let u := (t.put .PWR_LASTDIP_MINV (min t.pwr.minV 0xFFF)).put .PWR_LASTDIP_DUR (min ((t.usec - t.pwr.dipUs) / 250) 0xFFFF)
     let v : State := { u.put .PWR_MODE_DWELL 0 with pwr := { u.pwr with supplyEng := false } }
     v.bit .PWR_MODE_FORCED = true)) ∧
  (let s : State := { (puts up0 [(.PWR_MODE_DWELL, 1)]) with pwr := { up0.pwr with supplyEng := true } }
   s.up = true ∧ s.pwr.supplyEng = true ∧ s.bit .PWR_MODE_DWELL = true ∧
    (let t := s.advanceTo (s.pwr.dwellUs + 250 * (s.get .PWR_DAMP_DWELL_DWELL + 1))
     let u := (t.put .PWR_LASTDIP_MINV (min t.pwr.minV 0xFFF)).put .PWR_LASTDIP_DUR (min ((t.usec - t.pwr.dipUs) / 250) 0xFFFF)
     let v : State := { u.put .PWR_MODE_DWELL 0 with pwr := { u.pwr with supplyEng := false } }
     v.bit .PWR_MODE_FORCED = false)) ∧
  (let s : State := up0
   s.nativeHost = true) ∧
  (let s : State := puts up0 [((.PG_CTRL_EN 1), 1)]
   s.up = true ∧ s.enabled 1 = true ∧ s.safe 1 = false) ∧
  (let s : State := { (puts up0 [(.PWR_MODE_FORCED, 1)]) with pwr := { up0.pwr with supplyEng := false } }
   s.nativeHost = true ∧ s.accessed.bit .PWR_MODE_FORCED = true ∧ s.accessed.pwr.supplyEng = false) ∧
  (let s : State := { (puts up0 [((.PG_CTRL_EN 1), 1), (.PWR_MODE_FORCED, 1)]) with pwr := { up0.pwr with supplyEng := true } }
   s.up = true ∧ s.enabled 1 = true ∧ s.safe 1 = false ∧ s.bit .PWR_MODE_FORCED = true ∧ s.pwr.supplyEng = true) ∧
  (let s : State := { (puts up0 [((.PG_CTRL_EN 1), 1), (.PWR_MODE_FORCED, 1)]) with pwr := { up0.pwr with supplyEng := false } }
   s.up = true ∧ s.enabled 1 = true ∧ s.safe 1 = false ∧ s.bit .PWR_MODE_FORCED = true ∧ s.pwr.supplyEng = false) ∧
  (let s : State := puts up0 [(.PWR_BANK_KIND_KIND, 2)]
   s.nativeHost = true ∧ s.accessed.get .PWR_BANK_KIND_KIND = 2) ∧
  (let s : State := puts up0 [(.PWR_BANK_KIND_KIND, 1)]
   s.nativeHost = true ∧ s.accessed.get .PWR_BANK_KIND_KIND ≠ 2) ∧
  (let vmain : Nat := 0
   let vstore : Nat := 3600
   let s : State := puts up0 [(.PWR_BANK_KIND_KIND, 0)]
   let t := (({ s with pwr := { s.pwr with mainMv := vmain } } : State).put .PWR_VMEAS_VMAIN vmain).put .PWR_VMEAS_VSTORE (min vstore 3600)
   t.get .PWR_BANK_KIND_KIND ≠ 1) ∧
  (let vmain : Nat := 4000
   let vstore : Nat := 3601
   let s : State := puts up0 [(.PWR_BANK_KIND_KIND, 1)]
   let t := (({ s with pwr := { s.pwr with mainMv := vmain } } : State).put .PWR_VMEAS_VMAIN vmain).put .PWR_VMEAS_VSTORE (min vstore 3600)
   t.get .PWR_BANK_KIND_KIND = 1 ∧ (t.setBank (t.capLevel (min vstore 3600))).get .PWR_BANK_KIND_KIND = 1) ∧
  (let s : State := { up0 with pwr := { up0.pwr with measuring := true } }
   s.up = true ∧ s.pwr.measuring = true) ∧
  (let eng := fun l => ({ puts up0 l with pwr := { up0.pwr with supplyEng := true } } : State)
   up0.emberReady = false ∧ (puts up0 [(.PWR_MODE_TXLOW, 1)]).bit .PWR_MODE_TXLOW = true ∧ up0.pwr.supplyEng = false ∧
   up0.pwr.measuring = false ∧ 1900 + 50 * up0.get .PWR_WARN_LVL_LVL ≤ 4000 ∧
   (eng [(.PWR_MODE_DWELL, 1)]).pwr.supplyEng = true ∧ (eng [(.PWR_MODE_DWELL, 1)]).bit .PWR_MODE_DWELL = true ∧
   (eng []).bit .PWR_MODE_DWELL = false ∧ 0 < 1900 + 50 * (eng []).get .PWR_WARN_LVL_LVL + 60 ∧
   (eng [(.PWR_MODE_FORCED, 1)]).nativeHost = true ∧ (eng [(.PWR_MODE_FORCED, 1)]).accessed.bit .PWR_MODE_FORCED = true ∧
   (eng [(.PWR_MODE_FORCED, 1)]).accessed.pwr.supplyEng = true ∧ up0.accessed.bit .PWR_MODE_FORCED = false ∧
   (puts up0 [(.PG_CTRL_EN 1, 1)]).enabled 1 = true ∧ up0.safe 1 = false ∧ up0.bit .PWR_MODE_FORCED = false) := by
  and_intros <;> decide

theorem witness_ThermalCommands :
  (let s : State := up0
   s.up = true) ∧
  (let s : State := { up0 with thm := { up0.thm with sampling := true } }
   s.up = true ∧ s.thm.sampling = true) ∧
  (let s : State := up0
   s.nativeHost = true) ∧
  (let s : State := puts up0 [((.PG_CTRL_EN 2), 1)]
   s.up = true ∧ s.enabled 2 = true ∧ s.safe 2 = false) ∧
  (let s : State := { up0 with thm := { up0.thm with extra := true } }
   s.up = true ∧ s.thm.extra = true) ∧
  (let s : State := up0
   s.up = true ∧ s.bit .THM_FLAGS_OT = false ∧ s.bit .THM_CFG_OTRESET = false) ∧
  (let s : State := { up0 with pwr := { up0.pwr with phase := .hot } }
   s.pwr.phase = .hot) ∧
  (let s : State := up0
   s.nativeHost = true ∧
    (let t := s.accessed
     let u := (t.put .FLUE_SNAP_TEMP (t.get .THM_TEMP_TEMP)).put .FLUE_SNAP_BIAS (t.get .FLUE_BIAS_BIAS)
     u.bit .THM_AIN_CTRL_SNAPAIN = false)) ∧
  (let s : State := puts up0 [((.PG_CTRL_EN 2), 1), (.THM_AIN_CTRL_SNAPAIN, 1)]
   s.up = true ∧ s.enabled 2 = true ∧ s.safe 2 = false ∧
    (let t : State := { s with latches := s.latches.filter (· != 9) }
     let u := (t.put .FLUE_SNAP_TEMP (t.get .THM_TEMP_TEMP)).put .FLUE_SNAP_BIAS (t.get .FLUE_BIAS_BIAS)
     u.bit .THM_AIN_CTRL_SNAPAIN = true)) ∧
  (let s : State := { (puts up0 [(.THM_AIN_CTRL_CH0EN, 1), (.THM_AIN_CTRL_CH1EN, 1)]) with thm := { up0.thm with ainBusy := [] } }
   s.nativeHost = true ∧ s.accessed.bit .THM_AIN_CTRL_CH0EN = true ∧ s.accessed.bit .THM_AIN_CTRL_CH1EN = true ∧
   s.accessed.thm.ainBusy = []) ∧
  (let c : Fin 2 := 1
   let s : State := { up0 with thm := { up0.thm with ainBusy := [1] } }
   s.up = true ∧ s.thm.ainBusy.contains c.val = true) ∧
  (let v : Nat := 1800
   let vdd : Nat := 1800
   vdd ≤ v) ∧
  (let v : Nat := 1799
   let vdd : Nat := 1800
   v < vdd) ∧
  (let s : State := up0
   s.nativeHost = true ∧ s.accessed.bit .THM_FLAGS_HEAT = false ∧ s.accessed.bit .THM_HEAT_EN = false) ∧
  (let s : State := puts up0 [(.THM_FLAGS_HEAT, 1)]
   s.up = true ∧ s.bit .THM_FLAGS_HEAT = true) ∧
  (let c : Fin 2 := 1
   let s : State := up0
   s.up = true ∧ s.thm.sampling = false ∧ s.thm.extra = false ∧ s.thm.ainBusy.contains c.val = false ∧
   s.bit .THM_FLAGS_HEAT = false ∧ s.pwr.phase ≠ .hot) ∧
  (let s : State := puts up0 [(.THM_FLAGS_OT, 1)]
   s.up = true ∧ s.bit .THM_FLAGS_OT = true) ∧
  (let s : State := puts up0 [(.THM_CFG_OTRESET, 1)]
   s.up = true ∧ s.bit .THM_FLAGS_OT = false ∧ s.bit .THM_CFG_OTRESET = true) ∧
  (let s : State := puts up0 [(.THM_AIN_CTRL_SNAPAIN, 1)]
   s.nativeHost = true ∧
    (let t := s.accessed
     let u := (t.put .FLUE_SNAP_TEMP (t.get .THM_TEMP_TEMP)).put .FLUE_SNAP_BIAS (t.get .FLUE_BIAS_BIAS)
     u.bit .THM_AIN_CTRL_SNAPAIN = true)) ∧
  (let s : State := puts up0 [((.PG_CTRL_EN 2), 1)]
   s.up = true ∧ s.enabled 2 = true ∧ s.safe 2 = false ∧
    (let t : State := { s with latches := s.latches.filter (· != 9) }
     let u := (t.put .FLUE_SNAP_TEMP (t.get .THM_TEMP_TEMP)).put .FLUE_SNAP_BIAS (t.get .FLUE_BIAS_BIAS)
     u.bit .THM_AIN_CTRL_SNAPAIN = false)) ∧
  (let s : State := puts up0 [(.THM_FLAGS_HEAT, 1), (.THM_HEAT_EN, 1)]
   s.nativeHost = true ∧ s.accessed.bit .THM_FLAGS_HEAT = true) ∧
  (let s : State := puts up0 [(.THM_HEAT_EN, 1)]
   s.nativeHost = true ∧ s.accessed.bit .THM_FLAGS_HEAT = false ∧ s.accessed.bit .THM_HEAT_EN = true) := by
  and_intros <;> decide

theorem witness_SchedulerCommands :
  (let s : State := up0
   s.up = true) ∧
  (let s : State := puts up0 [((.PG_CTRL_EN 4), 1)]
   s.up = true ∧ s.enabled 4 = true ∧
    (let t := ({ s with sch := { s.sch with passReq := false } } : State).forEach slotNumbers fun s i => if (s.slot i).candidate && s.deadlineOver (s.slot i) then s.taskEnds i .missed else s
     t.takesWork 4 = true)) ∧
  (let s : State := puts up0 [((.PG_CTRL_EN 4), 1), ((.PG_CTRL_SAFE 4), 1)]
   s.up = true ∧ s.enabled 4 = true ∧
    (let t := ({ s with sch := { s.sch with passReq := false } } : State).forEach slotNumbers fun s i => if (s.slot i).candidate && s.deadlineOver (s.slot i) then s.taskEnds i .missed else s
     t.takesWork 4 = false)) ∧
  (let i : Fin 64 := 5
   let s : State := { up0 with sch := { up0.sch with slots := up0.sch.slots.set 5 { task .running 0xB0000000 with preempt := true } } }
   s.up = true ∧ (s.slot i).preempt = true ∧ (s.slot i).st = .running ∧ (s.slot i).kind = Kind.USER ∧
   (s.slot i).abort = false) ∧
  (let i : Fin 64 := 63
   let s : State := { up0 with sch := { up0.sch with slots := (up0.sch.slots.set 63 (task .running 0xb0000000)) } }
   s.up = true ∧ (s.slot i).st = .running ∧ kindResource (s.slot i).kind = none) ∧
  (let i : Fin 64 := 63
   let s : State := { up0 with sch := { up0.sch with slots := (up0.sch.slots.set 63 (task .running 0xb0000000)) } }
   s.up = true ∧ (s.slot i).st = .running ∧ (s.slot i).kind = Kind.USER) ∧
  (let i : Fin 64 := 5
   let e : Nat := 9
   let s : State := { up0 with sch := { up0.sch with slots := up0.sch.slots.set 5 { task .waiting 0xB0000000 with estart := some 9 } } }
   s.up = true ∧ (s.slot i).st = .waiting ∧ (s.slot i).estart = some e ∧ (e + 2 ^ 32 - s.schTime) % 2 ^ 32 < 2 ^ 31) ∧
  (let s : State := up0
   s.nativeHost = true) ∧
  (let i : Fin 64 := 63
   let s : State := puts up0 [((Fld.mk (Adr.SCH_WIN 0) 31 0), 0xBF000000), ((Fld.mk (Adr.SCH_WIN 2) 31 0), 0xFFFFFFFF)]
   s.nativeHost = true ∧
    (let u := s.accessed
     let t : Slot := { Slot.empty with st := .waiting, words := (List.range 7).map fun k => u.rd (Adr.SCH_WIN k) }
     u.legacyHolds i = false ∧
     ((u.slot i).st = .free ∨ (u.slot i).st = .done ∨ (u.slot i).st = .missed ∨ (u.slot i).st = .aborted) ∧
     descriptorFault t = none ∧ t.trigen = false ∧ t.tbase = false)) ∧
  (let i : Fin 64 := 0
   let s : State := up0
   s.nativeHost = true ∧ s.accessed.legacyHolds i = false ∧ (s.accessed.slot i).st ≠ .running) ∧
  (let i : Fin 64 := 63
   let s : State := { up0 with sch := { up0.sch with slots := (up0.sch.slots.set 63 (task .waiting 0x0)) } }
   s.nativeHost = true ∧ s.accessed.legacyHolds i = false ∧ (s.accessed.slot i).st = .waiting) ∧
  (let i : Fin 64 := 0
   let s : State := { up0 with sch := { up0.sch with slots := (up0.sch.slots.set 0 (task .ready 0x0)) } }
   s.nativeHost = true ∧ s.accessed.legacyHolds i = false ∧ (s.accessed.slot i).st = .ready) ∧
  (let i : Fin 64 := 1
   let s : State := { up0 with sch := { up0.sch with slots := (up0.sch.slots.set 1 (task .deferE 0x0)) } }
   s.nativeHost = true ∧ s.accessed.legacyHolds i = false ∧ (s.accessed.slot i).st.deferred = true) ∧
  (let i : Fin 64 := 63
   let s : State := { up0 with sch := { up0.sch with slots := (up0.sch.slots.set 63 (task .running 0xb0000000)) } }
   s.nativeHost = true ∧ s.accessed.legacyHolds i = false ∧ (s.accessed.slot i).st = .running) ∧
  (let i : Fin 64 := 63
   let s : State := { up0 with sch := { up0.sch with slots := (up0.sch.slots.set 63 (task .running 0xb0000000)) } }
   s.nativeHost = true ∧ (s.accessed.slot i).st = .running ∧ (s.accessed.slot i).kind = Kind.USER) ∧
  (let s : State := up0
   s.nativeHost = true ∧ (s.accessed.raise Ev.SCH_SLOT_ERR).bit .SCH_ERRINFO_VALID = false) ∧
  (let s : State := up0
   s.up = true ∧ s.enabled 4 = false) ∧
  (let i : Fin 64 := 5
   let s : State := up0
   s.up = true ∧ (s.slot i).preempt = false ∧ (s.slot i).st ≠ .running ∧ (s.slot i).st ≠ .waiting) ∧
  (let i : Fin 64 := 5
   let s : State := { up0 with sch := { up0.sch with slots := up0.sch.slots.set 5 { task .ready 0xB0000000 with preempt := true } } }
   s.up = true ∧ (s.slot i).preempt = true ∧ (s.slot i).st ≠ .running) ∧
  (let i : Fin 64 := 5
   let s : State := { up0 with sch := { up0.sch with slots := up0.sch.slots.set 5 { task .running 0x20000000 with preempt := true } } }
   s.up = true ∧ (s.slot i).preempt = true ∧ (s.slot i).st = .running ∧ kindResource (s.slot i).kind = some .field ∧ s.nfcServing = true) ∧
  (let i : Fin 64 := 5
   let s : State := { up0 with sch := { up0.sch with slots := up0.sch.slots.set 5 { task .running 0x90000000 with preempt := true } } }
   s.up = true ∧ (s.slot i).preempt = true ∧ (s.slot i).st = .running ∧ kindResource (s.slot i).kind = some .field ∧ s.nfcServing = false) ∧
  (let i : Fin 64 := 5
   let s : State := { up0 with sch := { up0.sch with slots := up0.sch.slots.set 5 { task .running 0x30000000 with preempt := true } } }
   s.up = true ∧ (s.slot i).preempt = true ∧ (s.slot i).st = .running ∧ kindResource (s.slot i).kind = some .radio ∧ (s.slot i).abort = false ∧ (s.slot i).kind = Kind.RAD_RX_WIN) ∧
  (let i : Fin 64 := 5
   let s : State := { up0 with sch := { up0.sch with slots := up0.sch.slots.set 5 { task .running 0x50000000 with preempt := true } } }
   s.up = true ∧ (s.slot i).preempt = true ∧ (s.slot i).st = .running ∧ kindResource (s.slot i).kind = some .radio ∧ (s.slot i).abort = false ∧ (s.slot i).kind ≠ Kind.RAD_RX_WIN) ∧
  (let i : Fin 64 := 5
   let s : State := { up0 with sch := { up0.sch with slots := up0.sch.slots.set 5 { task .running 0x60000000 with preempt := true } } }
   s.up = true ∧ (s.slot i).preempt = true ∧ (s.slot i).st = .running ∧ kindResource (s.slot i).kind = some .line ∧ (s.slot i).kind = Kind.LINE_CYCLE) ∧
  (let i : Fin 64 := 5
   let s : State := { up0 with sch := { up0.sch with slots := up0.sch.slots.set 5 { task .running 0x70000000 with preempt := true } } }
   s.up = true ∧ (s.slot i).preempt = true ∧ (s.slot i).st = .running ∧ kindResource (s.slot i).kind = some .line ∧ (s.slot i).kind = Kind.LINE_TRAIN) ∧
  (let i : Fin 64 := 5
   let s : State := { up0 with sch := { up0.sch with slots := up0.sch.slots.set 5 { task .running 0x80000000 with preempt := true } } }
   s.up = true ∧ (s.slot i).preempt = true ∧ (s.slot i).st = .running ∧ kindResource (s.slot i).kind = some .decoder) ∧
  (let i : Fin 64 := 5
   let s : State := { up0 with sch := { up0.sch with slots := up0.sch.slots.set 5 { task .running 0x30000000 with preempt := true, abort := true } } }
   s.up = true ∧ (s.slot i).preempt = true ∧ (s.slot i).st = .running ∧ kindResource (s.slot i).kind = some .radio ∧
   (s.slot i).abort = true) ∧
  (let i : Fin 64 := 5
   let s : State := { up0 with sch := { up0.sch with slots := up0.sch.slots.set 5 { task .running 0xB0000000 with preempt := true, abort := true } } }
   s.up = true ∧ (s.slot i).preempt = true ∧ (s.slot i).st = .running ∧ (s.slot i).kind = Kind.USER ∧
   (s.slot i).abort = true) ∧
  (let i : Fin 64 := 5
   let e : Nat := 2 ^ 32 - 1
   let s : State := { up0 with sch := { up0.sch with slots := up0.sch.slots.set 5 { task .waiting 0xB0000000 with estart := some (2 ^ 32 - 1) } } }
   s.up = true ∧ (s.slot i).st = .waiting ∧ (s.slot i).estart = some e ∧ 2 ^ 31 ≤ (e + 2 ^ 32 - s.schTime) % 2 ^ 32) ∧
  (let i : Fin 64 := 5
   let s : State := { up0 with sch := { up0.sch with slots := up0.sch.slots.set 5 (task .waiting 0xB0040000) } }
   s.up = true ∧ (s.slot i).st = .waiting ∧ (s.slot i).estart = none ∧ s.slotDue i = true) ∧
  (let i : Fin 64 := 5
   let s : State := { up0 with sch := { up0.sch with slots := up0.sch.slots.set 5 (task .waiting 0xB0080000) } }
   s.up = true ∧ (s.slot i).st = .waiting ∧ (s.slot i).estart = none ∧ s.slotDue i = false) ∧
  (let i : Fin 64 := 63
   let s : State := puts up0 [((Fld.mk (Adr.SCH_WIN 0) 31 0), 0xBF080000), ((Fld.mk (Adr.SCH_WIN 2) 31 0), 0xFFFFFFFF)]
   s.nativeHost = true ∧
    (let u := s.accessed
     let t : Slot := { Slot.empty with st := .waiting, words := (List.range 7).map fun k => u.rd (Adr.SCH_WIN k) }
     u.legacyHolds i = false ∧
     ((u.slot i).st = .free ∨ (u.slot i).st = .done ∨ (u.slot i).st = .missed ∨ (u.slot i).st = .aborted) ∧
     descriptorFault t = none ∧ t.trigen = true)) ∧
  (let i : Fin 64 := 63
   let s : State := puts up0 [((Fld.mk (Adr.SCH_WIN 0) 31 0), 0xBF040000), ((Fld.mk (Adr.SCH_WIN 2) 31 0), 0xFFFFFFFF)]
   s.nativeHost = true ∧
    (let u := s.accessed
     let t : Slot := { Slot.empty with st := .waiting, words := (List.range 7).map fun k => u.rd (Adr.SCH_WIN k) }
     u.legacyHolds i = false ∧
     ((u.slot i).st = .free ∨ (u.slot i).st = .done ∨ (u.slot i).st = .missed ∨ (u.slot i).st = .aborted) ∧
     descriptorFault t = none ∧ t.trigen = false ∧ t.tbase = true)) ∧
  (let i : Fin 64 := 63
   let s : State := puts up0 [((Fld.mk (Adr.SCH_WIN 0) 31 0), 0xCF000000), ((Fld.mk (Adr.SCH_WIN 2) 31 0), 0xFFFFFFFF)]
   s.nativeHost = true ∧
    (let u := s.accessed
     let t : Slot := { Slot.empty with st := .waiting, words := (List.range 7).map fun k => u.rd (Adr.SCH_WIN k) }
     u.legacyHolds i = false ∧
     ((u.slot i).st = .free ∨ (u.slot i).st = .done ∨ (u.slot i).st = .missed ∨ (u.slot i).st = .aborted) ∧
     descriptorFault t = some 2)) ∧
  (let i : Fin 64 := 63
   let s : State := { up0 with leg := { up0.leg with bound := true } }
   s.nativeHost = true ∧ s.accessed.legacyHolds i = true) ∧
  (let i : Fin 64 := 63
   let s : State := { up0 with sch := { up0.sch with slots := up0.sch.slots.set 63 (task .running 0x30000000) } }
   s.nativeHost = true ∧ s.accessed.legacyHolds i = false ∧ (s.accessed.slot i).st = .running ∧
   ¬ ((s.accessed.slot i).st = .free ∨ (s.accessed.slot i).st = .done ∨ (s.accessed.slot i).st = .missed ∨
     (s.accessed.slot i).st = .aborted) ∧ (s.accessed.slot i).kind ≠ Kind.USER) := by
  and_intros <;> decide +kernel

theorem witness_ClockCommands :
  (let s : State := puts up0 [((.PG_CTRL_EN 3), 1)]
   s.up = true ∧ s.enabled 3 = true ∧ s.safe 3 = false) ∧
  (let n : Nat := 26484
   let s : State := puts up0 [(.CLK_STAT_XO, 2)]
   s.up = true ∧ s.get .CLK_STAT_XO ≠ 0 ∧
    (let t := s.countWindow n
     t.xoGood = true ∧ t.clk.xoBad < 2)) ∧
  (let n : Nat := 0
   let s : State := { (puts up0 [(.CLK_STAT_XO, 2)]) with clk := { up0.clk with xoBad := 1 } }
   s.up = true ∧ s.get .CLK_STAT_XO ≠ 0 ∧
    (let t := s.countWindow n
     let f := t.xoFail.moment 3
     t.xoGood = true ∧ 2 ≤ t.clk.xoBad ∧ f.failResets = false)) ∧
  (let n : Nat := 0
   let s : State := { (puts up0 [(.CLK_STAT_XO, 2), (.CLK_FAILPOL_NFC, 1)]) with clk := { up0.clk with xoBad := 1 } }
   s.up = true ∧ s.get .CLK_STAT_XO ≠ 0 ∧
    (let t := s.countWindow n
     let f := t.xoFail.moment 3
     t.xoGood = true ∧ 2 ≤ t.clk.xoBad ∧ f.failResets = true)) ∧
  (let n : Nat := 868
   let s : State := { (puts up0 [(.CLK_STAT_XO, 1)]) with clk := { up0.clk with xoRun := 31, xoSince := 31 } }
   s.up = true ∧ s.get .CLK_STAT_XO ≠ 0 ∧
    (let t := s.countWindow n
     t.xoGood = false ∧ t.xoJudgedGood = true)) ∧
  (let n : Nat := 0
   let s : State := puts up0 [(.CLK_STAT_XO, 1)]
   s.up = true ∧ s.get .CLK_STAT_XO ≠ 0 ∧
    (let t := s.countWindow n
     t.xoGood = false ∧ t.xoJudgedGood = false)) ∧
  (let s : State := puts up0 [(.CLK_STAT_XO, 1)]
   s.up = true ∧ s.get .CLK_STAT_XO = 1 ∧ s.xoFail.failResets = false) ∧
  (let s : State := up0
   s.nativeHost = true ∧ s.accessed.hub = false ∧ s.accessed.get .CLK_STAT_WSRC < 2) ∧
  (let s : State := puts up0 [((.PG_CTRL_EN 3), 1)]
   s.up = true ∧ s.hub = false ∧ s.enabled 3 = true ∧ s.safe 3 = false ∧ s.get .CLK_STAT_WSRC < 2) ∧
  (let s : State := puts up0 [(.CLK_STAT_CDR, 1), (.CLK_STAT_WSRC, 0)]
   s.nativeHost = true ∧ s.accessed.hub = false ∧ s.accessed.bit .CLK_STAT_CDR = true ∧
   s.accessed.get .CLK_STAT_WSRC ≠ 1) ∧
  (let s : State := puts up0 [(.CLK_STAT_WSRC, 2)]
   s.nativeHost = true ∧ s.accessed.hub = false ∧ 2 ≤ s.accessed.get .CLK_STAT_WSRC) ∧
  (let s : State := puts up0 [(.CLK_STAT_WSRC, 1)]
   s.nativeHost = true ∧ s.accessed.hub = false ∧ s.accessed.get .CLK_STAT_WSRC = 1) ∧
  (let s : State := puts up0 [((.PG_CTRL_EN 3), 1), (.CLK_STAT_CDR, 1), (.CLK_STAT_WSRC, 0)]
   s.up = true ∧ s.hub = false ∧ s.enabled 3 = true ∧ s.safe 3 = false ∧ s.bit .CLK_STAT_CDR = true ∧
   s.get .CLK_STAT_WSRC ≠ 1) ∧
  (let s : State := { (puts up0 [(.CLK_STAT_CDR, 1), (.CLK_STAT_WSRC, 0)]) with clk := { up0.clk with holdRun := true } }
   s.up = true ∧ s.clk.holdRun = true ∧ s.hub = false ∧ s.bit .CLK_STAT_CDR = true ∧ s.get .CLK_STAT_WSRC ≠ 1) ∧
  (let src : Nat := 1
   let s : State := { up0 with clk := { up0.clk with wireReq := some 1, wireStop := false } }
   s.up = true ∧ s.clk.wireReq = some src ∧ s.clk.wireStop = false ∧ s.legacySending = false) ∧
  (let src : Nat := 3
   let s : State := { up0 with clk := { up0.clk with wireReq := some 3, wireStop := false }, line := { up0.line with sending := some 1 }, tx := [{ txf1 with gen := 1 }] }
   s.up = true ∧ s.clk.wireReq = some src ∧ s.clk.wireStop = false ∧ s.legacySending = true) ∧
  (let s : State := { up0 with clk := { up0.clk with wireStop := true, wireTo := 2 } }
   s.up = true ∧ s.clk.wireStop = true ∧ 2 ≤ (if s.clk.wireTo = 2 ∧ s.xoGood = false then 3 else s.clk.wireTo)) ∧
  (let s : State := { up0 with clk := { up0.clk with wireStop := true, wireTo := 1 } }
   s.up = true ∧ s.clk.wireStop = true ∧ (if s.clk.wireTo = 2 ∧ s.xoGood = false then 3 else s.clk.wireTo) = 1) ∧
  (let s : State := { up0 with clk := { up0.clk with wireStop := true, wireTo := 0 } }
   s.up = true ∧ s.clk.wireStop = true ∧ (if s.clk.wireTo = 2 ∧ s.xoGood = false then 3 else s.clk.wireTo) = 0) ∧
  (let s : State := { up0 with clk := { up0.clk with voidSlot := true, wireStop := false } }
   s.up = true ∧ s.clk.voidSlot = true ∧ s.clk.wireStop = false) ∧
  (let s : State := up0
   s.up = true ∧ s.get .CLK_STAT_XO = 0 ∧ s.clk.holdRun = false ∧ s.clk.wireReq = none ∧ s.clk.wireStop = false ∧
   s.clk.voidSlot = false) ∧
  (let s : State := { up0 with clk := { up0.clk with wireReq := some 1, wireStop := true, voidSlot := true } }
   s.up = true ∧ s.clk.wireStop = true) ∧
  (let s : State := puts up0 [(.CLK_STAT_XO, 1), (.CLK_FAILPOL_NFC, 1)]
   s.up = true ∧ s.get .CLK_STAT_XO = 1 ∧ s.xoFail.failResets = true) ∧
  (let s : State := { (puts up0 [(.SYS_ROLE_ROLE, 1)]) with clk := { up0.clk with holdRun := true } }
   s.up = true ∧ s.clk.holdRun = true ∧ s.hub = true) ∧
  (let s : State := { up0 with clk := { up0.clk with holdRun := true } }
   s.up = true ∧ s.clk.holdRun = true ∧ s.bit .CLK_STAT_CDR = false) ∧
  (let s : State := { (puts up0 [(.CLK_STAT_CDR, 1), (.CLK_STAT_WSRC, 1)]) with clk := { up0.clk with holdRun := true } }
   s.up = true ∧ s.clk.holdRun = true ∧ s.get .CLK_STAT_WSRC = 1) ∧
  (let s : State := puts up0 [(.SYS_ROLE_ROLE, 1)]
   s.nativeHost = true ∧ s.accessed.hub = true) ∧
  (let s : State := up0
   s.nativeHost = true ∧ s.accessed.bit .CLK_STAT_CDR = false) ∧
  (let s : State := puts up0 [((.PG_CTRL_EN 3), 1), (.CLK_STAT_WSRC, 2)]
   s.up = true ∧ s.hub = false ∧ s.enabled 3 = true ∧ s.safe 3 = false ∧ 2 ≤ s.get .CLK_STAT_WSRC ∧
   s.bit .CLK_STAT_CDR = false) ∧
  (let s : State := puts up0 [((.PG_CTRL_EN 3), 1), (.CLK_STAT_WSRC, 1), (.CLK_STAT_CDR, 1)]
   s.up = true ∧ s.hub = false ∧ s.enabled 3 = true ∧ s.safe 3 = false ∧ s.get .CLK_STAT_WSRC = 1) := by
  and_intros <;> decide +kernel

theorem witness_OscillatorCommands :
  (let s : State := { (puts up0 [((.gate Island.FEC), Gate.RUN), (.CLK_FEC_DIV_DIV, 0)]) with xings := up0.xings.set 6 { Xing.reset with owned := [item1] }, fec := { up0.fec with idleStep := true } }
   s.up = true ∧ s.bit .PWR_MODE_DAMPER = false ∧ s.get (.gate Island.FEC) = Gate.RUN ∧
    (let d := s.get .CLK_FEC_DIV_DIV
     let idle := !s.fecWork && (s.fec.idleStep || d == 0)
     idle = false ∧ d = 0)) ∧
  (let s : State := { (puts up0 [((.gate Island.FEC), Gate.RUN), (.CLK_FEC_DIV_DIV, 1)]) with fec := { up0.fec with idleStep := false } }
   s.up = true ∧ s.bit .PWR_MODE_DAMPER = false ∧ s.get (.gate Island.FEC) = Gate.RUN ∧
    (let d := s.get .CLK_FEC_DIV_DIV
     let idle := !s.fecWork && (s.fec.idleStep || d == 0)
     idle = false ∧ d = 1)) ∧
  (let s : State := { (puts up0 [((.gate Island.FEC), Gate.RUN), (.CLK_FEC_DIV_DIV, 2)]) with xings := up0.xings.set 6 { Xing.reset with owned := [item1] }, fec := { up0.fec with idleStep := true } }
   s.up = true ∧ s.bit .PWR_MODE_DAMPER = false ∧ s.get (.gate Island.FEC) = Gate.RUN ∧
    (let d := s.get .CLK_FEC_DIV_DIV
     let idle := !s.fecWork && (s.fec.idleStep || d == 0)
     idle = false ∧ 2 ≤ d)) ∧
  (let s : State := { (puts up0 [((.gate Island.FEC), Gate.RUN), (.CLK_FEC_DIV_DIV, 0)]) with fec := { up0.fec with idleStep := false } }
   s.up = true ∧ s.bit .PWR_MODE_DAMPER = false ∧ s.get (.gate Island.FEC) = Gate.RUN ∧
    (let d := s.get .CLK_FEC_DIV_DIV
     let idle := !s.fecWork && (s.fec.idleStep || d == 0)
     idle = true ∧ d < 3)) ∧
  (let s : State := { (puts up0 [((.gate Island.FEC), Gate.RUN), (.CLK_FEC_DIV_DIV, 2)]) with fec := { up0.fec with idleStep := true } }
   s.up = true ∧ s.bit .PWR_MODE_DAMPER = false ∧ s.get (.gate Island.FEC) = Gate.RUN ∧
    (let d := s.get .CLK_FEC_DIV_DIV
     let idle := !s.fecWork && (s.fec.idleStep || d == 0)
     idle = true ∧ d < 3)) ∧
  (let s : State := { (puts up0 [((.gate Island.FEC), Gate.RUN), (.CLK_FEC_DIV_DIV, 3)]) with fec := { up0.fec with idleStep := true } }
   s.up = true ∧ s.bit .PWR_MODE_DAMPER = false ∧ s.get (.gate Island.FEC) = Gate.RUN ∧
    (let d := s.get .CLK_FEC_DIV_DIV
     let idle := !s.fecWork && (s.fec.idleStep || d == 0)
     idle = true ∧ d = 3)) ∧
  (let s : State := { (puts up0 [((.gate Island.FEC), Gate.RUN), (.CLK_FEC_DIV_DIV, 4)]) with fec := { up0.fec with idleStep := true } }
   s.up = true ∧ s.bit .PWR_MODE_DAMPER = false ∧ s.get (.gate Island.FEC) = Gate.RUN ∧
    (let d := s.get .CLK_FEC_DIV_DIV
     let idle := !s.fecWork && (s.fec.idleStep || d == 0)
     idle = true ∧ d = 4)) ∧
  (let s : State := puts up0 [(.CLK_HFRC_CFG_DISC, 1), (.CLK_STAT_XO, 2)]
   s.up = true ∧ s.get .CLK_HFRC_CFG_DISC ≠ 0 ∧ s.hfrcRef ≠ 0) ∧
  (let s : State := up0
   s.nativeHost = true) ∧
  (let s : State := puts up0 [((.PG_CTRL_EN 3), 1)]
   s.up = true ∧ s.enabled 3 = true ∧ s.safe 3 = false) ∧
  (let s : State := { up0 with clk := { up0.clk with hfrcTrim := true } }
   s.up = true ∧ s.clk.hfrcTrim = true) ∧
  (let s : State := puts up0 [(.CLK_XO_CFG_MODE, 0)]
   s.nativeHost = true ∧ s.accessed.get .CLK_XO_CFG_MODE ≠ 2) ∧
  (let s : State := puts up0 [((.PG_CTRL_EN 3), 1), (.CLK_XO_CFG_MODE, 0)]
   s.up = true ∧ s.enabled 3 = true ∧ s.safe 3 = false ∧ s.get .CLK_XO_CFG_MODE ≠ 2) ∧
  (let s : State := { (puts up0 [(.CLK_STAT_XO, 2)]) with clk := { up0.clk with lfrcCal := some 1 } }
   s.up = true ∧ s.clk.lfrcCal = some 1 ∧ s.xoGood = true) ∧
  (let s : State := { up0 with clk := { up0.clk with lfrcCal := some 1 } }
   s.up = true ∧ s.clk.lfrcCal = some 1 ∧ s.xoGood = false) ∧
  (let n : Nat := 236
   let s : State := { (puts up0 [(.CLK_STAT_LXO, 1)]) with clk := { up0.clk with lxoRun := 7 } }
   s.up = true ∧ s.get .CLK_STAT_LXO ≠ 0 ∧ s.get .CLK_STAT_LXO ≠ 2 ∧ 236 ≤ n ∧ n ≤ 276 ∧ 7 ≤ s.clk.lxoRun) ∧
  (let s : State := puts up0 [(.CLK_STAT_LXO, 2)]
   s.up = true ∧ (s.get .CLK_STAT_LXO = 1 ∨ s.get .CLK_STAT_LXO = 2)) ∧
  (let s : State := { (puts up0 [(.CLK_LXO_CFG_AUTORESTORE, 1), (.CLK_LXO_CFG_PRESENT, 1)]) with clk := { up0.clk with lxoBack := true } }
   s.up = true ∧ s.clk.lxoBack = true ∧ s.bit .CLK_LXO_CFG_AUTORESTORE = true ∧ s.bit .CLK_LXO_CFG_PRESENT = true) ∧
  (let s : State := { up0 with pwr := { up0.pwr with phase := .inReset } }
   s.up = false) ∧
  (let t : State := up0
   RegFile.wf t.regs = true) ∧
  (let s : State := puts up0 [(.PWR_MODE_DAMPER, 1)]
   s.up = true ∧ s.bit .PWR_MODE_DAMPER = true ∧ s.clk.hfrcTrim = false ∧ s.clk.lfrcCal = none) ∧
  (let s : State := puts up0 [(.CLK_HFRC_CFG_DISC, 0)]
   s.up = true ∧ s.get (.gate Island.FEC) ≠ Gate.RUN ∧ s.get .CLK_HFRC_CFG_DISC = 0) ∧
  (let s : State := puts up0 [(.CLK_HFRC_CFG_DISC, 2)]
   s.up = true ∧ s.get .CLK_HFRC_CFG_DISC ≠ 0 ∧ s.hfrcRef = 0) ∧
  (let s : State := puts up0 [(.CLK_XO_CFG_MODE, 2)]
   s.nativeHost = true ∧ s.accessed.get .CLK_XO_CFG_MODE = 2) ∧
  (let s : State := puts up0 [((.PG_CTRL_EN 3), 1), (.CLK_XO_CFG_MODE, 2), (.CLK_STAT_CDR, 1)]
   s.up = true ∧ s.enabled 3 = true ∧ s.safe 3 = false ∧ s.get .CLK_XO_CFG_MODE = 2) ∧
  (let s : State := { (puts up0 [(.CLK_STAT_CDR, 1)]) with clk := { up0.clk with lfrcCal := some 2 } }
   s.up = true ∧ s.clk.lfrcCal = some 2 ∧ s.bit .CLK_STAT_CDR = true) ∧
  (let s : State := { up0 with clk := { up0.clk with lfrcCal := some 2 } }
   s.up = true ∧ s.clk.lfrcCal = some 2 ∧ s.bit .CLK_STAT_CDR = false) ∧
  (let s : State := { up0 with clk := { up0.clk with lfrcCal := some 0 } }
   s.up = true ∧ s.clk.lfrcCal = some 0) ∧
  (let s : State := puts up0 [(.CLK_STAT_LXO, 0)]
   s.up = true ∧ s.get .CLK_STAT_LXO = 0) ∧
  (let n : Nat := 276
   let s : State := puts up0 [(.CLK_STAT_LXO, 2)]
   s.up = true ∧ s.get .CLK_STAT_LXO ≠ 0 ∧ 236 ≤ n ∧ n ≤ 276 ∧ s.get .CLK_STAT_LXO = 2) ∧
  (let n : Nat := 236
   let s : State := { (puts up0 [(.CLK_STAT_LXO, 1)]) with clk := { up0.clk with lxoRun := 6 } }
   s.up = true ∧ s.get .CLK_STAT_LXO ≠ 0 ∧ 236 ≤ n ∧ n ≤ 276 ∧ s.clk.lxoRun < 7) ∧
  (let n : Nat := 235
   let s : State := { (puts up0 [(.CLK_STAT_LXO, 2)]) with clk := { up0.clk with lxoBad := 1 } }
   s.up = true ∧ s.get .CLK_STAT_LXO ≠ 0 ∧ n < 236 ∧ s.get .CLK_STAT_LXO ≠ 3 ∧ 1 ≤ s.clk.lxoBad) ∧
  (let n : Nat := 277
   let s : State := { (puts up0 [(.CLK_STAT_LXO, 2)]) with clk := { up0.clk with lxoBad := 0 } }
   s.up = true ∧ s.get .CLK_STAT_LXO ≠ 0 ∧ 276 < n ∧ s.clk.lxoBad = 0) ∧
  (let s : State := puts up0 [(.CLK_STAT_LXO, 3)]
   s.up = true ∧ s.get .CLK_STAT_LXO = 3 ∧ s.clk.lxoBack = false) := by
  and_intros <;> decide

theorem witness_RouterCommands :
  (let e : Nat := 0
   let r : List Nat := []
   let s : State := { (puts up0 [((.PG_CTRL_EN 5), 1)]) with occ := e :: r }
   s.up = true ∧ s.occ = e :: r ∧ s.routerOn = true) ∧
  (let g : Fin 8 := 0
   let s : State := up0
   s.nativeHost = true ∧ s.accessed.locked 5 = false ∧ s.accessed.bit (.EVR_GRP_LOCK g) = false) ∧
  (let n : Fin 32 := 0
   let s : State := up0
   s.nativeHost = true ∧ s.accessed.locked 5 = false ∧ s.accessed.bit (.EVR_CH_LOCK n) = false) ∧
  (let n : Fin 8 := 0
   let s : State := up0
   s.nativeHost = true ∧ s.accessed.locked 5 = false ∧ s.accessed.bit (.EVR_GRP_LOCK n) = false) ∧
  (let n : Fin 32 := 0
   let s : State := puts up0 [((.PG_CTRL_EN 5), 1), ((.EVR_CH_EN n), 1)]
   s.nativeHost = true ∧ s.accessed.routerOn = true ∧ s.accessed.bit (.EVR_CH_EN n) = true) ∧
  (let s : State := up0
   s.up = true) ∧
  (let s : State := puts up0 [((.PG_CTRL_EN 6), 1)]
   s.up = true ∧ s.enabled 6 = true ∧ s.safe 6 = false) ∧
  (let s : State := puts up0 [(.SYS_ROLE_ROLE, 1)]
   s.up = true ∧ Safety.taskOf (.wireFallback true) = some 13 ∧ taskRole 13 = some (!s.hub)) ∧
  (let s : State := puts up0 [((.PG_CTRL_EN 9), 0)]
   s.up = true ∧ Safety.taskOf .qmxFlushDropq = some 34 ∧ taskRole 34 ≠ some (!s.hub) ∧ taskTarget 34 = some 9 ∧ s.enabled 9 = false) ∧
  (let s : State := puts up0 [((.PG_CTRL_EN 9), 1), ((.PG_CTRL_SAFE 9), 1)]
   s.up = true ∧ taskTarget 34 = some 9 ∧ s.safe 9 = true) ∧
  (let s : State := up0
   s.up = true ∧ Safety.taskOf .fieldOn = some 39 ∧ taskRole 39 ≠ some (!s.hub) ∧
   taskHonour 39 = .running .field false ∧ s.holds .field false = false) ∧
  (let s : State := up0
   s.up = true ∧ Safety.taskOf .pollStart = some 45 ∧ taskRole 45 ≠ some (!s.hub) ∧
   taskHonour 45 = .kind Kind.NFC_POLL ∧ s.kindWaiting Kind.NFC_POLL = false) ∧
  (let w : BitVec 8 := 0
   let s : State := puts up0 [((.PG_LOCK_LOCKED 5), 1)]
   s.nativeHost = true ∧ s.accessed.locked 5 = true ∧ w.toNat = 0) ∧
  (let w : BitVec 8 := 0x80
   let s : State := puts up0 [((.PG_LOCK_LOCKED 5), 1)]
   s.nativeHost = true ∧ s.accessed.locked 5 = true ∧ w.toNat ≠ 0) ∧
  (let n : Fin 32 := 31
   let w : BitVec 32 := 0x40000000
   let s : State := puts up0 [((.EVR_CH_LOCK 31), 1)]
   s.nativeHost = true ∧ (s.accessed.locked 5 = true ∨ s.accessed.bit (.EVR_CH_LOCK n) = true) ∧
   (s.accessed.rd (Adr.EVR_CH n) ^^^ ((w &&& 0xC0FF7FFF) ||| (s.accessed.rd (Adr.EVR_CH n) &&& 0x80000000))) &&& 0xC0FF7FFF ≠ 0) ∧
  (let n : Fin 32 := 31
   let w : BitVec 32 := (puts up0 [((.EVR_CH_LOCK 31), 1)]).rd (Adr.EVR_CH 31)
   let s : State := puts up0 [((.EVR_CH_LOCK 31), 1)]
   s.nativeHost = true ∧ (s.accessed.locked 5 = true ∨ s.accessed.bit (.EVR_CH_LOCK n) = true) ∧
   (s.accessed.rd (Adr.EVR_CH n) ^^^ ((w &&& 0xC0FF7FFF) ||| (s.accessed.rd (Adr.EVR_CH n) &&& 0x80000000))) &&& 0xC0FF7FFF = 0) ∧
  (let n : Fin 8 := 7
   let w : BitVec 32 := 0x80000000
   let s : State := puts up0 [((.PG_LOCK_LOCKED 5), 1)]
   s.nativeHost = true ∧ (s.accessed.locked 5 = true ∨ s.accessed.bit (.EVR_GRP_LOCK n) = true) ∧
   (s.accessed.rd (Adr.EVR_GRP n) ^^^ ((w &&& 0x8000FFFF) ||| (s.accessed.rd (Adr.EVR_GRP n) &&& 0x80000000))) &&& 0x8000FFFF ≠ 0) ∧
  (let n : Fin 8 := 7
   let w : BitVec 32 := (puts up0 [((.EVR_GRP_LOCK 7), 1)]).rd (Adr.EVR_GRP 7)
   let s : State := puts up0 [((.EVR_GRP_LOCK 7), 1)]
   s.nativeHost = true ∧ (s.accessed.locked 5 = true ∨ s.accessed.bit (.EVR_GRP_LOCK n) = true) ∧
   (s.accessed.rd (Adr.EVR_GRP n) ^^^ ((w &&& 0x8000FFFF) ||| (s.accessed.rd (Adr.EVR_GRP n) &&& 0x80000000))) &&& 0x8000FFFF = 0) ∧
  (let w : BitVec 32 := 0x80000000
   let s : State := up0
   s.nativeHost = true ∧ w.toNat ≠ 0 ∧ s.accessed.routerOn = false) ∧
  (let w : BitVec 32 := 0x80000001
   let s : State := puts up0 [((.PG_CTRL_EN 5), 1)]
   s.nativeHost = true ∧ w.toNat ≠ 0 ∧ s.accessed.routerOn = true) ∧
  (let s : State := { up0 with occ := [] }
   s.up = true ∧ s.occ = []) ∧
  (let e : Nat := 3
   let r : List Nat := []
   let s : State := { up0 with occ := [3] }
   s.up = true ∧ s.occ = e :: r ∧ s.routerOn = false) := by
  and_intros <;> decide

theorem witness_CalendarCommands :
  (let s : State := { up0 with cal := { up0.cal with align := none } }
   s.up = true ∧ s.cal.align = none) ∧
  (let s : State := { up0 with cal := { up0.cal with sub := 32766, stretch := 0, align := some [] } }
   s.up = true ∧ 32768 - s.cal.sub + 32768 * s.cal.stretch ≤ 2) ∧
  (let s : State := { up0 with cal := { up0.cal with sub := 32765, stretch := 0, align := some [] } }
   s.up = true ∧ s.cal.align.isSome = true ∧ 2 < 32768 - s.cal.sub + 32768 * s.cal.stretch) ∧
  (let s : State := { up0 with cal := { up0.cal with sub := 32767, stretch := 0 } }
   s.up = true ∧ s.cal.sub = 32767 ∧ s.cal.stretch = 0) ∧
  (let s : State := { up0 with pwr := { up0.pwr with phase := .inReset } }
   s.up = false) ∧
  (let s : State := { up0 with cal := { up0.cal with step := none } }
   s.nativeHost = true ∧ s.accessed.cal.step = none) ∧
  (let s : State := { up0 with cal := { up0.cal with step := none, day := 2 } }
   s.nativeHost = true ∧ s.accessed.cal.step = none ∧
   (s.accessed.cal.nextSecond.firstDay && s.accessed.cal.nextSecond.hour == 0) = false) ∧
  (let s : State := up0
   s.nativeHost = true) ∧
  (let s : State := puts up0 [((.PG_CTRL_EN 7), 1)]
   s.up = true ∧ s.enabled 7 = true ∧ s.safe 7 = false) ∧
  (let s : State := puts up0 [((.PG_CTRL_EN 7), 1), (.CAL_SYNCSTAT_VALID, 1)]
   s.up = true ∧ s.enabled 7 = true ∧ s.safe 7 = false ∧
    (let x := (s.cal.sub : Int) + s.getS .CAL_SYNCSTAT_OFS
     s.hub = false ∧ s.bit .CAL_SYNCSTAT_VALID = true ∧ 0 ≤ x ∧ x < 32768)) ∧
  (let s : State := { (puts up0 [((.PG_CTRL_EN 7), 1), (.CAL_SYNCSTAT_VALID, 1), (.CAL_SYNCSTAT_OFS, 0xFFFF)]) with cal := { up0.cal with sub := 0 } }
   s.up = true ∧ s.enabled 7 = true ∧ s.safe 7 = false ∧
    (let x := (s.cal.sub : Int) + s.getS .CAL_SYNCSTAT_OFS
     s.hub = false ∧ s.bit .CAL_SYNCSTAT_VALID = true ∧ x < 0)) ∧
  (let s : State := { (puts up0 [((.PG_CTRL_EN 7), 1), (.CAL_SYNCSTAT_VALID, 1), (.CAL_SYNCSTAT_OFS, 1)]) with cal := { up0.cal with sub := 32767, stretch := 0 } }
   s.up = true ∧ s.enabled 7 = true ∧ s.safe 7 = false ∧
    (let x := (s.cal.sub : Int) + s.getS .CAL_SYNCSTAT_OFS
     s.hub = false ∧ s.bit .CAL_SYNCSTAT_VALID = true ∧ 32768 ≤ x ∧ s.cal.stretch = 0)) ∧
  (let s : State := puts up0 [((.PG_CTRL_EN 7), 1), (.SYS_ROLE_ROLE, 1)]
   s.up = true ∧ s.enabled 7 = true ∧ s.safe 7 = false ∧ s.hub = true) ∧
  (let s : State := puts up0 [((.PG_CTRL_EN 7), 1)]
   s.up = true ∧ s.enabled 7 = true ∧ s.safe 7 = false ∧ s.bit .CAL_SYNCSTAT_VALID = false) ∧
  (let l : List Nat := []
   let s : State := { up0 with cal := { up0.cal with align := some l } }
   s.up = true ∧ s.cal.align = some l ∧ s.cal.sub ≠ 32767) ∧
  (let l : List Nat := []
   let s : State := { up0 with cal := { up0.cal with sub := 32767, stretch := 1, align := some l } }
   s.up = true ∧ s.cal.align = some l ∧ 0 < s.cal.stretch) ∧
  (let s : State := { up0 with cal := { up0.cal with step := some true } }
   s.nativeHost = true ∧ s.accessed.cal.step.isSome = true) ∧
  (let s : State := { up0 with cal := { up0.cal with year := 0, month := 1, day := 1, hour := 0, minute := 0, second := 0 } }
   s.nativeHost = true ∧ s.accessed.cal.nextSecond.firstDay = true ∧ s.accessed.cal.nextSecond.hour = 0) ∧
  (let s : State := { (puts up0 [((.PG_CTRL_EN 7), 1), (.CAL_SYNCSTAT_VALID, 1), (.CAL_SYNCSTAT_OFS, 1)]) with cal := { up0.cal with sub := 32767, stretch := 1 } }
   s.up = true ∧ s.enabled 7 = true ∧ s.safe 7 = false ∧ s.hub = false ∧ s.bit .CAL_SYNCSTAT_VALID = true ∧
   32768 ≤ (s.cal.sub : Int) + s.getS .CAL_SYNCSTAT_OFS ∧ 0 < s.cal.stretch) ∧
  (let s : State := { up0 with cal := { up0.cal with align := none } }
   s.up = true ∧ s.cal.align = none) ∧
  (let s : State := { up0 with cal := { up0.cal with align := some [], sub := 32767, stretch := 0 } }
   s.up = true ∧ s.cal.align.isSome = true ∧ s.cal.sub = 32767 ∧ s.cal.stretch = 0) := by
  and_intros <;> decide

theorem witness_FabricCommands :
  (let s : State := up0
   s.up = true) ∧
  (let n : Fin 32 := 10
   let s : State := up0
   s.up = true ∧ 10 ≤ n.val ∧ n.val < 16) ∧
  (let n : Fin 32 := 15
   let s : State := up0
   s.up = true ∧ 10 ≤ n.val ∧ n.val < 16) ∧
  (let n : Fin 32 := 9
   let s : State := up0
   s.up = true ∧ (n.val < 10 ∨ 16 ≤ n.val) ∧ n.val ≠ 1 ∧ n.val ≠ 3 ∧ n.val ≠ 5) ∧
  (let n : Fin 32 := 16
   let s : State := up0
   s.up = true ∧ (n.val < 10 ∨ 16 ≤ n.val) ∧ n.val ≠ 1 ∧ n.val ≠ 3 ∧ n.val ≠ 5) ∧
  (let n : Fin 32 := 1
   let s : State := up0
   s.up = true ∧ n.val = 1) ∧
  (let n : Fin 32 := 5
   let s : State := up0
   s.up = true ∧ (n.val = 3 ∨ n.val = 5)) ∧
  (let n : Fin 32 := 8
   let far : Bool := true
   let s : State := { up0 with xings := up0.xings.set 8 { Xing.reset with repR := true } }
   s.up = true ∧
    (let x := s.xing n
     let x := if far == farConsumes n then x else { x with debt := 0 }
     far = true ∧ x.repR = true)) ∧
  (let n : Fin 32 := 31
   let far : Bool := false
   let s : State := { up0 with xings := up0.xings.set 31 { Xing.reset with repL := true } }
   s.up = true ∧
    (let x := s.xing n
     let x := if far == farConsumes n then x else { x with debt := 0 }
     far = false ∧ x.repL = true)) ∧
  (let n : Fin 32 := 9
   let s : State := puts up0 [((.PG_CFGSTAT_PENDING 9), 1), ((.QMX_CRED_INIT 9), 1)]
   s.up = true ∧ (n.val < 10 ∨ 16 ≤ n.val) ∧ s.creditIdle n = true ∧ s.bit (.PG_CFGSTAT_PENDING (initPage n)) = true ∧
   s.drainHold (initPage n) = false ∧ s.getTwin (initFld n) ≠ s.get (initFld n)) ∧
  (let n : Fin 32 := 16
   let s : State := puts up0 [((.PG_CFGSTAT_PENDING 24), 1), ((initFld 16), 1)]
   s.up = true ∧ (n.val < 10 ∨ 16 ≤ n.val) ∧ s.creditIdle n = true ∧ s.bit (.PG_CFGSTAT_PENDING (initPage n)) = true ∧
   s.drainHold (initPage n) = false ∧ s.getTwin (initFld n) ≠ s.get (initFld n)) ∧
  (let a : BitVec 16 := 0x8000
   let s : State := puts up0 [((.PG_CTRL_EN 9), 0)]
   s.nativeHost = true ∧ a.toNat % 4 = 0 ∧ 0x8000 ≤ a.toNat ∧ a.toNat < 0xE000 ∧ s.accessed.enabled 9 = false) ∧
  (let a : BitVec 16 := 0xDFFC
   let s : State := up0
   s.nativeHost = true ∧ a.toNat % 4 = 0 ∧ 0x8000 ≤ a.toNat ∧ a.toNat < 0xE000) ∧
  (let s : State := puts up0 [(.HIF_CRC_EN_EN, 1)]
   s.nativeHost = true ∧ s.accessed.bit .HIF_CRC_EN_EN = true) ∧
  (let s : State := up0
   s.nativeHost = true ∧ s.accessed.bit .HIF_CRC_EN_EN = false) ∧
  (let s : State := puts up0 [((.PG_CTRL_EN 9), 1)]
   s.up = true ∧ s.enabled 9 = true ∧ s.safe 9 = false) ∧
  (let s : State := up0
   s.nativeHost = true) ∧
  (let s : State := puts up0 [(.SYS_STALL_TO_TO, 1)]
   s.up = true ∧ s.get .SYS_STALL_TO_TO ≠ 0 ∧ s.pwr.phase ≠ .ember ∧ s.stuck = []) ∧
  (let page : Fin 64 := 24
   let xing : Fin 64 := 16
   let h : Nat × Nat × Nat := (24, 16, 0)
   let s : State := { up0 with stuck := [(24, 16, 0)] }
   s.up = true ∧ (s.stuck.find? fun h => h.1 == page.val && h.2.1 == xing.val) = some h) ∧
  (let s : State := { up0 with stallReset := true }
   s.up = true ∧ s.stallReset = true) ∧
  (let s : State := puts up0 [((.PG_CTRL_EN 0), 1)]
   s.up = true ∧ s.enabled 0 = true ∧ s.safe 0 = false) ∧
  (let n : Fin 32 := 8
   let far : Bool := true
   let s : State := up0
   s.up = true ∧ (if far then (s.xing n).repR else (s.xing n).repL) = false) ∧
  (let n : Fin 32 := 15
   let s : State := up0
   s.up = true ∧ (n.val = 13 ∨ n.val = 14 ∨ n.val = 15)) ∧
  (let n : Fin 32 := 15
   let s : State := up0
   s.up = true ∧ 10 ≤ n.val ∧ n.val < 16) ∧
  (let n : Fin 32 := 9
   let s : State := { (puts up0 [((.PG_CFGSTAT_PENDING 9), 1), ((.QMX_CRED_INIT 9), 1)]) with xings := up0.xings.set 9 { Xing.reset with unacked := [item1] } }
   s.up = true ∧ s.creditIdle n = false) ∧
  (let n : Fin 32 := 9
   let s : State := puts up0 [((.QMX_CRED_INIT 9), 1)]
   s.up = true ∧ s.bit (.PG_CFGSTAT_PENDING (initPage n)) = false) ∧
  (let n : Fin 32 := 9
   let s : State := puts up0 [((.PG_STAT_DRAINHOLD 9), 1)]
   s.up = true ∧ s.drainHold (initPage n) = true) ∧
  (let n : Fin 32 := 31
   let s : State := up0
   s.up = true ∧ s.getTwin (initFld n) = s.get (initFld n)) ∧
  (let a : BitVec 16 := 0x8000
   let s : State := puts up0 [((.PG_CTRL_EN 9), 1)]
   s.nativeHost = true ∧ a.toNat % 4 = 0 ∧ 0x8000 ≤ a.toNat ∧ a.toNat < 0xE000 ∧ s.accessed.enabled 9 = true) ∧
  (let a : BitVec 16 := 0xDFFC
   let ecc : List (Nat × Bool) := [(storeCell 0xDFFC, false)]
   let s : State := up0
   s.nativeHost = true ∧ a.toNat % 4 = 0 ∧ 0x8000 ≤ a.toNat ∧ a.toNat < 0xE000 ∧
   (ecc.filter fun e => e.1 == storeCell a.toNat).any (·.2) = false) ∧
  (let a : BitVec 16 := 0x8000
   let ecc : List (Nat × Bool) := [(storeCell 0x8000, true)]
   let s : State := up0
   s.nativeHost = true ∧ a.toNat % 4 = 0 ∧ 0x8000 ≤ a.toNat ∧ a.toNat < 0xE000 ∧
   (ecc.filter fun e => e.1 == storeCell a.toNat).any (·.2) = true) ∧
  (let a : BitVec 16 := 0x8002
   let s : State := up0
   s.nativeHost = true ∧ a.toNat % 4 ≠ 0) ∧
  (let page : Fin 64 := 9
   let xing : Fin 64 := 62
   let s : State := up0
   s.up = true ∧ (s.stuck.find? fun h => h.1 == page.val && h.2.1 == xing.val) = none ∧ xing.val ≠ 0x3F) ∧
  (let page : Fin 64 := 63
   let xing : Fin 64 := 63
   let s : State := up0
   s.up = true ∧ (s.stuck.find? fun h => h.1 == page.val && h.2.1 == xing.val) = none ∧ xing.val = 0x3F) ∧
  (let s : State := puts up0 [(.SYS_STALL_TO_TO, 0)]
   s.get .SYS_STALL_TO_TO = 0) ∧
  (let s : State := { (puts up0 [(.SYS_STALL_TO_TO, 1)]) with pwr := { up0.pwr with phase := .ember } }
   s.pwr.phase = .ember) ∧
  (let s : State := puts up0 [(.SYS_STALL_TO_TO, 1), ((.gate Island.NFC), Gate.WAIT)]
   s.xingIslandWaits 0 = true) ∧
  (let s : State := puts up0 [(.SYS_STALL_TO_TO, 1)]
   s.get .SYS_STALL_TO_TO ≠ 0 ∧ s.pwr.phase ≠ .ember ∧ s.xingIslandWaits 0 = false) ∧
  (let s : State := up0
   s.up = true ∧ s.stallReset = false) := by
  and_intros <;> decide

theorem witness_LinkCommands :
  (let n : Fin 8 := 7
   let s : State := { (puts up0 [((.PG_CTRL_EN 31), 1), ((.PG_CTRL_EN 14), 1), ((.LE_BIND_PHY 7), Phy.LINE), ((.LE_BIND_GEN 7), 3)]) with xings := up0.xings.set 30 { Xing.reset with owned := [{ item1 with words := [0x00800000] }] } }
   let i : Nat := 0
   let t : Item := { item1 with words := [0x00800000] }
   s.up = true ∧ s.takesWork (24 + n) = true ∧ s.phyOf n ≠ Phy.NONE ∧ (phyPages (s.phyOf n)).all s.enabled = true ∧
   s.bit (.LE_STAT_HELD n) = false ∧ s.freePlace n = some i ∧ s.eligible n = some t ∧ s.phyOf n ≠ Phy.NFC ∧
   s.openRefusal n t = none) ∧
  (let n : Fin 8 := 7
   let s : State := { (puts up0 [((.PG_CTRL_EN 31), 1), ((.PG_CTRL_EN 12), 1), ((.PG_CTRL_EN 13), 1), ((.LE_BIND_PHY 7), Phy.NFC)]) with xings := up0.xings.set 30 { Xing.reset with owned := [item1] } }
   let i : Nat := 0
   let t : Item := item1
   s.up = true ∧ s.takesWork (24 + n) = true ∧ s.phyOf n ≠ Phy.NONE ∧ (phyPages (s.phyOf n)).all s.enabled = true ∧
   s.bit (.LE_STAT_HELD n) = false ∧ s.freePlace n = some i ∧ s.eligible n = some t ∧ s.phyOf n = Phy.NFC ∧
   nfcRefusal t = none) ∧
  (let n : Fin 8 := 0
   let s : State := puts up0 [((.LE_BIND_PHY n), Phy.NFC)]
   s.up = true ∧ s.phyOf n = Phy.NFC) ∧
  (let n : Fin 8 := 7
   let s : State := { (puts up0 [((.PG_CTRL_EN 31), 1), ((.PG_CTRL_EN 14), 1), ((.LE_BIND_PHY 7), Phy.LINE), ((.LE_BIND_GEN 7), 3), (.WIR_STAT_WIN, 3), (.WIR_STAT_LAYOUT, 1), (.WIR_STAT_ECOK, 1)]) with engines := up0.engines.set 7 { Engine.reset with fwd := [(1, [])] }, sch := { up0.sch with slots := (up0.sch.slots.set 5 (task .running 0x67000000)) } }
   s.up = true ∧ s.phyOf n = Phy.LINE ∧ s.genOf n = s.get .WIR_STAT_WIN ∧ s.mayTransmit n = true ∧ s.hasFrame n = true) ∧
  (let n : Fin 8 := 0
   let s : State := puts up0 [((.LE_BIND_PHY n), Phy.LINE)]
   s.up = true ∧ s.phyOf n = Phy.LINE ∧ (s.genOf n ≠ s.get .WIR_STAT_WIN ∨ s.mayTransmit n = false ∨ s.hasFrame n = false)) ∧
  (let n : Fin 8 := 0
   let s : State := puts up0 [((.LE_BIND_PHY n), Phy.RADIO)]
   s.up = true ∧ s.phyOf n = Phy.RADIO) ∧
  (let s : State := up0
   s.up = true) ∧
  (let n : Fin 8 := 7
   let i : Fin 4 := 3
   let s : State := { (puts up0 [((.PG_CTRL_EN (24 + n)), 1)]) with engines := up0.engines.set 7 { Engine.reset with places := [Place.free, Place.free, Place.free, { Place.free with st := .waitAck, tries := 9, most := 8 }] } }
   s.up = true ∧ (s.place n i).st = .waitAck ∧ s.enabled (24 + n) = true ∧ s.safe (24 + n) = false ∧
   (s.place n i).most < (s.place n i).tries) ∧
  (let n : Fin 8 := 7
   let i : Fin 4 := 3
   let s : State := { (puts up0 [((.PG_CTRL_EN (24 + n)), 1)]) with engines := up0.engines.set 7 { Engine.reset with places := [Place.free, Place.free, Place.free, { Place.free with st := .waitAck, tries := 8, most := 8 }] } }
   s.up = true ∧ (s.place n i).st = .waitAck ∧ s.enabled (24 + n) = true ∧ s.safe (24 + n) = false ∧
   (s.place n i).tries ≤ (s.place n i).most) ∧
  (let n : Fin 8 := 7
   let i : Fin 4 := 3
   let s : State := { (puts up0 [((.PG_CTRL_EN (24 + n)), 1)]) with engines := up0.engines.set 7 { Engine.reset with places := [Place.free, Place.free, Place.free, { Place.free with st := .jitter }] } }
   s.up = true ∧ (s.place n i).st = .jitter ∧ s.enabled (24 + n) = true ∧ s.safe (24 + n) = false) ∧
  (let f : RxFrame := { rxf1 with stage := .link, bytes := [0x20] }
   let n : Nat := 7
   let s : State := { (puts up0 [((.PG_CTRL_EN 31), 1), ((.PG_CTRL_EN 14), 1), ((.LE_BIND_PHY 7), Phy.LINE), ((.LE_BIND_GEN 7), 3)]) with rx := [f] }
   s.up = true ∧ s.linkFront true = some f ∧ s.boundEngine (xingPhy f.xing) f.gen = some n) ∧
  (let f : RxFrame := { rxf1 with stage := .link, bytes := [0x00] }
   let n : Nat := 7
   let s : State := { (puts up0 [((.PG_CTRL_EN 31), 1), ((.PG_CTRL_EN 14), 1), ((.LE_BIND_PHY 7), Phy.LINE), ((.LE_BIND_GEN 7), 3)]) with rx := [f] }
   s.up = true ∧ s.linkFront false = some f ∧ s.boundEngine (xingPhy f.xing) f.gen = some n) ∧
  (let n : Fin 8 := 7
   let i : Nat := 3
   let s : State := { (puts up0 [((.PG_CTRL_EN 9), 1)]) with engines := up0.engines.set 7 { Engine.reset with places := [Place.free, Place.free, Place.free, { Place.free with st := .report }] } }
   s.up = true ∧ ((List.range 4).find? fun i => (s.place n i).st == .report) = some i ∧
   (s.queueRx n [(s.place n i).report] []).1 = true) ∧
  (let n : Fin 8 := 7
   let i : Nat := 3
   let s : State := { (puts up0 [((.PG_CTRL_EN 9), 1), ((initFld 31), 0)]) with engines := up0.engines.set 7 { Engine.reset with places := [Place.free, Place.free, Place.free, { Place.free with st := .report }] } }
   s.up = true ∧ ((List.range 4).find? fun i => (s.place n i).st == .report) = some i ∧
   (s.queueRx n [(s.place n i).report] []).1 = false) ∧
  (let s : State := up0
   s.nativeHost = true) ∧
  (let n : Fin 8 := 0
   let s : State := puts up0 [((.PG_CTRL_EN (24 + n)), 1)]
   s.up = true ∧ s.enabled (24 + n) = true ∧ s.safe (24 + n) = false) ∧
  (let n : Fin 8 := 7
   let i : Nat := 0
   let t : Item := { item1 with words := [0x000000FD] }
   let s : State := { (puts up0 [((.PG_CTRL_EN 31), 1), ((.PG_CTRL_EN 12), 1), ((.PG_CTRL_EN 13), 1), ((.LE_BIND_PHY 7), Phy.NFC)]) with xings := up0.xings.set 30 { Xing.reset with owned := [t] } }
   s.up = true ∧ s.takesWork (24 + n) = true ∧ s.phyOf n ≠ Phy.NONE ∧ (phyPages (s.phyOf n)).all s.enabled = true ∧
   s.bit (.LE_STAT_HELD n) = false ∧ s.freePlace n = some i ∧ s.eligible n = some t ∧ s.phyOf n = Phy.NFC ∧ nfcRefusal t = some LeCause.BADITEM) ∧
  (let n : Fin 8 := 7
   let i : Nat := 0
   let t : Item := { item1 with words := [0x008000C1] }
   let s : State := { (puts up0 [((.PG_CTRL_EN 31), 1), ((.PG_CTRL_EN 14), 1), ((.LE_BIND_PHY 7), Phy.LINE), ((.LE_BIND_GEN 7), 3)]) with xings := up0.xings.set 30 { Xing.reset with owned := [t] } }
   s.up = true ∧ s.takesWork (24 + n) = true ∧ s.phyOf n ≠ Phy.NONE ∧ (phyPages (s.phyOf n)).all s.enabled = true ∧
   s.bit (.LE_STAT_HELD n) = false ∧ s.freePlace n = some i ∧ s.eligible n = some t ∧ s.phyOf n ≠ Phy.NFC ∧ s.openRefusal n t = some (LeCause.BADITEM, false)) ∧
  (let n : Fin 8 := 7
   let i : Nat := 0
   let t : Item := { item1 with words := [0x00A00000] }
   let s : State := { (puts up0 [((.PG_CTRL_EN 31), 1), ((.PG_CTRL_EN 14), 1), ((.LE_BIND_PHY 7), Phy.LINE), ((.LE_BIND_GEN 7), 3)]) with xings := up0.xings.set 30 { Xing.reset with owned := [t] }, sec := { up0.sec with keys := up0.sec.keys.map fun _ => some [], records := [(ctrKey Ctr.TXB 0, { valid := true, epoch := up0.get (.LE_EPOCH_EPOCH 7), ctr := 0xFFFFFFFF, warned := true })] } }
   s.up = true ∧ s.takesWork (24 + n) = true ∧ s.phyOf n ≠ Phy.NONE ∧ (phyPages (s.phyOf n)).all s.enabled = true ∧
   s.bit (.LE_STAT_HELD n) = false ∧ s.freePlace n = some i ∧ s.eligible n = some t ∧ s.phyOf n ≠ Phy.NFC ∧ s.openRefusal n t = some (LeCause.KEY, true)) ∧
  (let n : Fin 8 := 7
   let s : State := up0
   s.up = true ∧ s.takesWork (24 + n) = false ∧ s.phyOf n = Phy.NONE ∧ s.eligible n = none ∧ (s.place n 3).st ≠ .waitAck ∧
   (s.place n 3).st ≠ .jitter ∧ ((List.range 4).find? fun i => (s.place n i).st == .report) = none) ∧
  (let n : Fin 8 := 7
   let s : State := puts up0 [((.PG_CTRL_EN 31), 1), ((.LE_BIND_PHY 7), Phy.LINE), ((.PG_CTRL_EN 14), 0)]
   s.up = true ∧ (phyPages (s.phyOf n)).all s.enabled = false) ∧
  (let n : Fin 8 := 7
   let s : State := puts up0 [((.LE_STAT_HELD 7), 1)]
   s.up = true ∧ s.bit (.LE_STAT_HELD n) = true) ∧
  (let n : Fin 8 := 7
   let s : State := { up0 with engines := up0.engines.set 7 { Engine.reset with places := List.replicate 4 { Place.free with st := .due } } }
   s.up = true ∧ s.freePlace n = none) ∧
  (let n : Fin 8 := 7
   let i : Fin 4 := 3
   let s : State := { (puts up0 [((.PG_CTRL_EN 31), 0)]) with engines := up0.engines.set 7 { Engine.reset with places := List.replicate 4 { Place.free with st := .waitAck } } }
   s.up = true ∧ (s.place n i).st = .waitAck ∧ s.enabled (24 + n) = false) ∧
  (let n : Fin 8 := 7
   let i : Fin 4 := 3
   let s : State := { (puts up0 [((.PG_CTRL_EN 31), 1), ((.PG_CTRL_SAFE 31), 1)]) with engines := up0.engines.set 7 { Engine.reset with places := List.replicate 4 { Place.free with st := .jitter } } }
   s.up = true ∧ (s.place n i).st = .jitter ∧ s.safe (24 + n) = true) ∧
  (let s : State := up0
   s.up = true ∧ s.linkFront true = none ∧ (s.storeErrors []).linkFront false = none) ∧
  (let f : RxFrame := { rxf1 with stage := .link, bytes := [0x20] }
   let s : State := { up0 with rx := [f] }
   s.up = true ∧ s.linkFront true = some f ∧ s.boundEngine (xingPhy f.xing) f.gen = none) ∧
  (let f : RxFrame := { rxf1 with stage := .link, bytes := [0x00] }
   let s : State := { up0 with rx := [f] }
   s.up = true ∧ (s.storeErrors []).linkFront false = some f ∧ (s.storeErrors []).boundEngine (xingPhy f.xing) f.gen = none) ∧
  (let f : RxFrame := { rxf1 with stage := .link, bytes := [0x00] }
   let n : Nat := 7
   let s : State := { (puts up0 [((.PG_CTRL_EN 31), 1), ((.PG_CTRL_EN 14), 1), ((.LE_BIND_PHY 7), Phy.LINE), ((.LE_BIND_GEN 7), 3)]) with rx := [f] }
   s.up = true ∧ (s.storeErrors [(0, false)]).linkFront false = some f ∧
   (s.storeErrors [(0, false)]).boundEngine (xingPhy f.xing) f.gen = some n) := by
  and_intros <;> decide +kernel

theorem witness_FecCommands :
  (let f : RxFrame := { rxf1 with stage := .coming, phr := 0xC0, llrs := List.replicate 768 1, ended := true }
   let s : State := { (puts up0 [((.PG_CTRL_EN 11), 1), ((.PG_CTRL_EN 9), 1)]) with rx := [f] }
   let w : List Int := f.llrs.take (codeN 3)
   s.up = true ∧
   (s.rx.findSome? fun f => if f.stage = .coming then f.nextWord.map fun w => (f, w) else none) = some (f, w) ∧
   (s.xing 6).unacked = [] ∧
    (let i := (s.consumeItems f w.length).newId
     let c : Item := { id := i.1, cost := 1, cells := [], words := [], llrs := w, frame := f.id }
     let u := (i.2.handItem 6 c 0 true).2.setRx { f with offered := f.offered + 1 }
     s.takesWork 11 = true ∧ s.accepts 6 1 = true ∧ (u.xing 6).owned.any (fun t => t.id == c.id) = true)) ∧
  (let f : RxFrame := { rxf1 with stage := .coming, phr := 0xC0, llrs := List.replicate 768 1, ended := true }
   let s : State := { (puts up0 [((.PG_CTRL_EN 11), 1), ((.PG_CTRL_EN 9), 1)]) with rx := [f], xings := up0.xings.set 6 { Xing.reset with slow := true } }
   let w : List Int := f.llrs.take (codeN 3)
   s.up = true ∧
   (s.rx.findSome? fun f => if f.stage = .coming then f.nextWord.map fun w => (f, w) else none) = some (f, w) ∧
   (s.xing 6).unacked = [] ∧
    (let i := (s.consumeItems f w.length).newId
     let c : Item := { id := i.1, cost := 1, cells := [], words := [], llrs := w, frame := f.id }
     let u := (i.2.handItem 6 c 0 true).2.setRx { f with offered := f.offered + 1 }
     s.takesWork 11 = true ∧ s.accepts 6 1 = true ∧ (u.xing 6).owned.any (fun t => t.id == c.id) = false)) ∧
  (let f : RxFrame := { rxf1 with stage := .coming, phr := 0xC0, llrs := List.replicate 768 1, ended := true }
   let s : State := { (puts up0 [((.PG_CTRL_EN 11), 1), ((.PG_CTRL_EN 9), 1), ((.PG_STAT_DRAINHOLD 9), 1), ((initFld 6), 1)]) with rx := [f] }
   let w : List Int := f.llrs.take (codeN 3)
   s.up = true ∧
   (s.rx.findSome? fun f => if f.stage = .coming then f.nextWord.map fun w => (f, w) else none) = some (f, w) ∧
   (s.xing 6).unacked = [] ∧
    (let i := (s.consumeItems f w.length).newId
     let c : Item := { id := i.1, cost := 1, cells := [], words := [], llrs := w, frame := f.id }
     let u := (i.2.handItem 6 c 0 true).2.setRx { f with offered := f.offered + 1 }
     s.enabled 11 = true ∧ s.stopped 6 = true)) ∧
  (let f : RxFrame := { rxf1 with stage := .coming, phr := 0xC0, llrs := List.replicate 768 1, ended := true }
   let s : State := { (puts up0 [((.PG_CTRL_EN 11), 1), ((.PG_CTRL_EN 9), 1)]) with rx := [f], xings := up0.xings.set 6 { Xing.reset with waitL := true } }
   let w : List Int := f.llrs.take (codeN 3)
   s.up = true ∧
   (s.rx.findSome? fun f => if f.stage = .coming then f.nextWord.map fun w => (f, w) else none) = some (f, w) ∧
   (s.xing 6).unacked = [] ∧
    (let i := (s.consumeItems f w.length).newId
     let c : Item := { id := i.1, cost := 1, cells := [], words := [], llrs := w, frame := f.id }
     let u := (i.2.handItem 6 c 0 true).2.setRx { f with offered := f.offered + 1 }
     s.stopped 6 = false ∧ s.accepts 6 1 = false)) ∧
  (let s : State := { up0 with xings := up0.xings.set 6 { Xing.reset with unacked := [item1] } }
   s.up = true ∧ (s.xing 6).unacked ≠ []) ∧
  (let s : State := up0
   s.runningKind Kind.FEC_BURST = none) ∧
  (let s : State := { up0 with sch := { up0.sch with slots := (up0.sch.slots.set 5 (task .running 0x80000000)) } }
   (s.runningKind Kind.FEC_BURST).isSome = true) ∧
  (let s : State := up0
   s.up = true) ∧
  (let c : Item := { item1 with frame := 1 }
   let r : List Item := []
   let f : TxFrame := { txf1 with bytes := List.replicate 150 0 }
   let s : State := { (puts up0 [((.PG_CTRL_EN 11), 1), ((.PG_CTRL_EN 9), 1)]) with xings := up0.xings.set 8 { Xing.reset with owned := [c] }, tx := [f] }
   s.up = true ∧
    (let t := s.fecStart
     let i := t.newId
     let bits := codewordSent f.code (whiten (bytesBits f.bytes)) (t.encoded f)
     let u : Item := { id := i.1, cost := 1, cells := [], words := [], llrs := bitLlrs bits, frame := f.id }
     let h := i.2.handItem 9 u 0 true
     t.fec.work = some true ∧ (t.xing 8).owned = c :: r ∧ t.txFrame c.frame = some f ∧ h.1 = true)) ∧
  (let c : Item := { item1 with frame := 1 }
   let r : List Item := []
   let f : TxFrame := { txf1 with bytes := List.replicate 150 0 }
   let s : State := { (puts up0 [((.PG_CTRL_EN 11), 1), ((.PG_CTRL_EN 9), 1)]) with xings := (up0.xings.set 8 { Xing.reset with owned := [c] }).set 9 { Xing.reset with waitR := true }, tx := [f] }
   s.up = true ∧
    (let t := s.fecStart
     let i := t.newId
     let bits := codewordSent f.code (whiten (bytesBits f.bytes)) (t.encoded f)
     let u : Item := { id := i.1, cost := 1, cells := [], words := [], llrs := bitLlrs bits, frame := f.id }
     let h := i.2.handItem 9 u 0 true
     t.fec.work = some true ∧ (t.xing 8).owned = c :: r ∧ t.txFrame c.frame = some f ∧ h.1 = false)) ∧
  (let s : State := up0
   s.up = true ∧ s.fecStart.fec.work ≠ some true) ∧
  (let s : State := puts up0 [((.PG_CTRL_EN 11), 1)]
   s.up = true ∧ s.enabled 11 = true ∧ s.safe 11 = false) ∧
  (let s : State := up0
   s.up = true ∧ (s.xing 6).unacked = [] ∧ (s.rx.findSome? fun f => if f.stage = .coming then f.nextWord.map fun w => (f, w) else none) = none) ∧
  (let f : RxFrame := { rxf1 with stage := .coming, phr := 0xC0, llrs := List.replicate 768 1, ended := true }
   let s : State := { (puts up0 [((.PG_CTRL_EN 11), 1), ((.PG_CTRL_SAFE 11), 1)]) with rx := [f] }
   s.up = true ∧ (s.xing 6).unacked = [] ∧ s.stopped 6 = false ∧ s.takesWork 11 = false ∧
   (s.rx.findSome? fun f => if f.stage = .coming then f.nextWord.map fun w => (f, w) else none) = some (f, f.llrs.take (codeN 3))) ∧
  (let f : RxFrame := { rxf1 with stage := .coming, phr := 0xC0, llrs := List.replicate 768 1, ended := true }
   let s : State := { (puts up0 [((.PG_CTRL_EN 11), 0)]) with rx := [f] }
   s.up = true ∧ (s.xing 6).unacked = [] ∧ s.enabled 11 = false ∧
   (s.rx.findSome? fun f => if f.stage = .coming then f.nextWord.map fun w => (f, w) else none) = some (f, f.llrs.take (codeN 3))) ∧
  (let c : Item := { item1 with frame := 1 }
   let s : State := { (puts up0 [((.PG_CTRL_EN 11), 1), ((.PG_CTRL_EN 9), 1)]) with xings := up0.xings.set 8 { Xing.reset with owned := [c] }, tx := [] }
   s.up = true ∧ s.fecStart.fec.work = some true ∧ (s.fecStart.xing 8).owned = [c] ∧ s.fecStart.txFrame c.frame = none) := by
  and_intros <;> decide +kernel

theorem witness_SecurityCommands :
  (let f : RxFrame := { rxf1 with bytes := [0x02, 0, 7, 0, 0, 0, 0, 0, 1, 2, 3, 4], key := some none }
   let s : State := { up0 with rx := [{ f with key := none }] }
   s.up = true ∧
    (let t := s.secStart
     (t.rx.find? fun f => f.stage == .sec) = some f ∧ f.key = some none)) ∧
  (let key : List Byte := List.replicate 16 0
   let f : RxFrame := { rxf1 with bytes := [0x02, 0, 7, 0, 0, 0, 0, 0, 1, 2, 3, 4], key := some (some key) }
   let s : State := { up0 with rx := [f] }
   s.up = true ∧
    (let t := s.secStart
     (t.rx.find? fun f => f.stage == .sec) = some f ∧ f.key = some (some key))) ∧
  (let f : RxFrame := { rxf1 with bytes := [0x02, 0, 7, 0, 0, 0, 0, 0, 1, 2, 3, 4] }
   let s : State := { up0 with rx := [f] }
   (s.rx.find? fun f => f.stage == .sec) = some f ∧ f.key = none ∧ s.drainHold 10 = false) ∧
  (let s : State := { up0 with sec := { up0.sec with cmd := none } }
   s.nativeHost = true ∧ s.accessed.sec.cmd = none) ∧
  (let s : State := { up0 with sec := { up0.sec with cmd := some (0, 31) } }
   s.nativeHost = true ∧ s.accessed.sec.cmd.isSome = true) ∧
  (let s : State := { (puts up0 [((.PG_STAT_DRAINHOLD 10), 1)]) with cmt := { up0.cmt with reached := [10] } }
   s.up = true ∧ s.pageHeld 10 = true) ∧
  (let slot : Fin 32 := 0
   let s : State := up0
   s.nativeHost = true ∧ s.accessed.keyLocked slot = false) ∧
  (let s : State := puts up0 [((.PG_CTRL_EN 10), 1)]
   s.up = true ∧ s.enabled 10 = true ∧ s.safe 10 = false) ∧
  (let op : Nat := 0
   let slot : Nat := 31
   let s : State := { up0 with sec := { up0.sec with cmd := some (op, slot) } }
   s.up = true ∧ s.sec.cmd = some (op, slot) ∧ s.pageHeld 10 = false ∧
    (let t : State := { s.put .SEC_SINK_BUSY 0 with sec := { s.sec with cmd := none } }
     let u := (match t.keyEffect op slot with | .inl u => u | .inr _ => t)
     t.keyEffect op slot = .inl u)) ∧
  (let op : Nat := 0
   let slot : Nat := 31
   let s : State := { (puts up0 [((Fld.mk Adr.SEC_KEYLOCK 31 31), 1)]) with sec := { up0.sec with cmd := some (op, slot) } }
   s.up = true ∧ s.sec.cmd = some (op, slot) ∧ s.pageHeld 10 = false ∧
    (let t : State := { s.put .SEC_SINK_BUSY 0 with sec := { s.sec with cmd := none } }
     let c := SecCause.LOCKED
     t.keyEffect op slot = .inr c)) ∧
  (let e : Nat := 0
   let s : State := { (puts up0 [(.SEC_SINK_ARMED, 1)]) with sec := { up0.sec with sinkEnd := some e } }
   s.up = true ∧ s.sec.sinkEnd = some e ∧ s.bit .SEC_SINK_ARMED = true) ∧
  (let s : State := up0
   s.nativeHost = true) ∧
  (let s : State := up0
   s.up = true ∧ s.rx.all (fun f => f.stage != .sec) = true ∧ s.sec.cmd = none ∧ s.sec.sinkEnd = none) ∧
  (let f : RxFrame := rxf1
   let s : State := { (puts up0 [((.PG_STAT_DRAINHOLD 10), 1)]) with rx := [f] }
   s.up = true ∧ (s.rx.find? fun f => f.stage == .sec) = some f ∧ f.key = none ∧ s.drainHold 10 = true) ∧
  (let s : State := { up0 with sec := { up0.sec with sinkEnd := some 9 } }
   s.up = true ∧ s.bit .SEC_SINK_ARMED = false) ∧
  (let slot : Fin 32 := 31
   let s : State := puts up0 [((Fld.mk Adr.SEC_KEYLOCK 31 31), 1)]
   s.nativeHost = true ∧ s.accessed.keyLocked slot = true) := by
  and_intros <;> decide

theorem witness_LinePowerCommands :
  (let s : State := puts up0 [(.SYS_ROLE_ROLE, 1), ((.PG_CTRL_EN 14), 1), (.WIR_STAT_PWR, LinePwr.OFF)]
   s.nativeHost = true ∧ s.accessed.hub = true ∧ s.accessed.enabled 14 = true ∧ s.accessed.linePwr = LinePwr.OFF) ∧
  (let s : State := puts up0 [(.SYS_ROLE_ROLE, 1), ((.PG_CTRL_EN 14), 1), (.WIR_STAT_PWR, LinePwr.OFF)]
   s.up = true ∧ s.hub = true ∧ s.enabled 14 = true ∧ s.safe 14 = false ∧ s.linePwr = LinePwr.OFF) ∧
  (let ma : Nat := 0
   let s : State := puts up0 [(.WIR_STAT_PWR, LinePwr.INRUSH)]
   s.up = true ∧ s.linePwr = LinePwr.INRUSH ∧ (s.lineSample ma).linePwr = LinePwr.INRUSH ∧
   min ma 1000 ≤ (s.lineSample ma).ilim) ∧
  (let ma : Nat := 999
   let s : State := puts up0 [(.WIR_STAT_PWR, LinePwr.INRUSH)]
   s.up = true ∧ s.linePwr = LinePwr.INRUSH ∧ (s.lineSample ma).linePwr = LinePwr.INRUSH ∧
   (s.lineSample ma).ilim < min ma 1000) ∧
  (let s : State := puts up0 [(.WIR_STAT_PWR, LinePwr.SETTLE)]
   s.up = true ∧ s.linePwr = LinePwr.SETTLE ∧
    (let u := s.moment 14
     u.linePwr = LinePwr.SETTLE)) ∧
  (let ma : Nat := 1000
   let s : State := puts up0 [(.SYS_ROLE_ROLE, 1), (.WIR_STAT_PWR, LinePwr.ON)]
   s.up = true ∧ s.hub = true ∧ s.linePwr ≠ LinePwr.OFF ∧ 1000 ≤ ma) ∧
  (let ma : Nat := 0
   let s : State := puts up0 [(.SYS_ROLE_ROLE, 1), (.WIR_STAT_PWR, LinePwr.INRUSH)]
   s.up = true ∧ s.hub = true ∧ s.linePwr ≠ LinePwr.OFF ∧ ma < 1000 ∧ s.linePwr = LinePwr.INRUSH) ∧
  (let s : State := puts up0 [(.SYS_ROLE_ROLE, 1)]
   s.nativeHost = true ∧ s.accessed.hub = true) ∧
  (let s : State := puts up0 [(.SYS_ROLE_ROLE, 1), ((.PG_CTRL_EN 14), 1)]
   s.up = true ∧ s.hub = true ∧ s.enabled 14 = true ∧ s.safe 14 = false) ∧
  (let s : State := { (puts up0 [(.SYS_ROLE_ROLE, 1), (.WIR_STAT_PWR, LinePwr.ON), ((.PG_CTRL_EN 14), 1)]) with line := { up0.line with softOff := false } }
   s.up = true ∧ s.hub = true ∧ s.linePwr = LinePwr.ON ∧ s.enabled 14 = true ∧ s.islandWaits Island.WIRE = false ∧
    (let u := s.moment 14
     s.line.softOff = false ∧ u.gridRuns = true ∧ u.line.softOff = false)) ∧
  (let s : State := { (puts up0 [(.SYS_ROLE_ROLE, 1), (.WIR_STAT_PWR, LinePwr.ON), ((.PG_CTRL_EN 14), 1)]) with line := { up0.line with softOff := true } }
   s.up = true ∧ s.hub = true ∧ s.linePwr = LinePwr.ON ∧ s.enabled 14 = true ∧ s.islandWaits Island.WIRE = false ∧
   s.line.softOff = true) ∧
  (let s : State := puts up0 [((.PG_CTRL_EN 14), 1), (.WIR_STAT_LAYOUT, 1)]
   s.up = true ∧ s.enabled 14 = true ∧ s.safe 14 = false ∧
   (if s.hub then s.linePwr == LinePwr.ON else s.bit .WIR_STAT_LAYOUT) = true) ∧
  (let g : Fin 3 := 0
   let s : State := { (puts up0 [((.PG_CTRL_EN 14), 1), (.WIR_STAT_LAYOUT, 1), (.WIR_GEN_EN, 7), ((winLen 1), 100), ((winLen 2), 100), ((winLen 3), 100)]) with line := { up0.line with cycles := 1 }, sch := { up0.sch with slots := (up0.sch.slots.set 5 (task .running 0x60000000)) } }
   s.up = true ∧ s.enabled 14 = true ∧ s.safe 14 = false ∧ s.windowLen (g.val + 1) ≠ 0 ∧
   (if s.hub then s.linePwr == LinePwr.ON else s.bit .WIR_STAT_LAYOUT) = true ∧ s.lineServing = true ∧
    (let p := s.put .WIR_STAT_WIN (g.val + 1)
     let w := p.setLine fun l => { l with room := p.windowLen (g.val + 1) * windowXo }
     let t := w.raiseIf (w.bit .WIR_CFG_WINEVT) Ev.WIR_GEN_WIN
     let u := t.sendAnnounce (g.val + 1)
     t.lineTraining = false ∧ u.hub = false)) ∧
  (let g : Fin 3 := 2
   let s : State := { (puts up0 [((.PG_CTRL_EN 14), 1), (.SYS_ROLE_ROLE, 1), (.WIR_STAT_PWR, LinePwr.ON), (.WIR_GEN_EN, 7), ((winLen 1), 100), ((winLen 2), 100), ((winLen 3), 100)]) with line := { up0.line with cycles := 1 }, sch := { up0.sch with slots := (up0.sch.slots.set 5 (task .running 0x60000000)) } }
   s.up = true ∧ s.enabled 14 = true ∧ s.safe 14 = false ∧ s.windowLen (g.val + 1) ≠ 0 ∧
   (if s.hub then s.linePwr == LinePwr.ON else s.bit .WIR_STAT_LAYOUT) = true ∧ s.lineServing = true ∧
    (let p := s.put .WIR_STAT_WIN (g.val + 1)
     let w := p.setLine fun l => { l with room := p.windowLen (g.val + 1) * windowXo }
     let t := w.raiseIf (w.bit .WIR_CFG_WINEVT) Ev.WIR_GEN_WIN
     let u := t.sendAnnounce (g.val + 1)
     t.lineTraining = false ∧ u.hub = true ∧ g.val = 2)) ∧
  (let g : Fin 3 := 1
   let s : State := { (puts up0 [((.PG_CTRL_EN 14), 1), (.SYS_ROLE_ROLE, 1), (.WIR_STAT_PWR, LinePwr.ON), (.WIR_GEN_EN, 7), ((winLen 1), 100), ((winLen 2), 100), ((winLen 3), 100)]) with line := { up0.line with cycles := 1 }, sch := { up0.sch with slots := (up0.sch.slots.set 5 (task .running 0x60000000)) } }
   s.up = true ∧ s.enabled 14 = true ∧ s.safe 14 = false ∧ s.windowLen (g.val + 1) ≠ 0 ∧
   (if s.hub then s.linePwr == LinePwr.ON else s.bit .WIR_STAT_LAYOUT) = true ∧ s.lineServing = true ∧
    (let p := s.put .WIR_STAT_WIN (g.val + 1)
     let w := p.setLine fun l => { l with room := p.windowLen (g.val + 1) * windowXo }
     let t := w.raiseIf (w.bit .WIR_CFG_WINEVT) Ev.WIR_GEN_WIN
     let u := t.sendAnnounce (g.val + 1)
     t.lineTraining = false ∧ u.hub = true ∧ g.val < 2 ∧ u.lineHeld = false)) ∧
  (let g : Fin 4 := 3
   let i : Nat := 5
   let s : State := { (puts up0 [(.WIR_GEN_EN, 7), ((winLen 3), 100)]) with line := { up0.line with cycles := 1 }, sch := { up0.sch with slots := (up0.sch.slots.set 5 (task .running 0x60000000)) } }
   s.up = true ∧ (g.val == s.lastWindow) = true ∧
    (let t := (((if g.val = 3 then s.m3Ends else s).acksHeldOver g).put .WIR_STAT_WIN 4).setLine fun l => { l with winHeard := false, room := 0, backoff := none }
     t.runningKind Kind.LINE_CYCLE = some i ∧ t.lineServing = true)) ∧
  (let g : Fin 4 := 3
   let i : Nat := 5
   let s : State := { (puts up0 [(.WIR_GEN_EN, 7), ((winLen 3), 100)]) with line := { up0.line with cycles := 0 }, sch := { up0.sch with slots := (up0.sch.slots.set 5 (task .running 0x60000000)) } }
   s.up = true ∧ (g.val == s.lastWindow) = true ∧
    (let t := (((if g.val = 3 then s.m3Ends else s).acksHeldOver g).put .WIR_STAT_WIN 4).setLine fun l => { l with winHeard := false, room := 0, backoff := none }
     t.runningKind Kind.LINE_CYCLE = some i ∧ t.lineServing = false)) ∧
  (let s : State := { (puts up0 [(.SYS_ROLE_ROLE, 1), ((.PG_CTRL_EN 14), 1)]) with sch := { up0.sch with slots := (up0.sch.slots.set 5 (task .running 0x60000000)) } }
   s.up = true ∧ s.hub = true ∧ s.enabled 14 = true ∧ s.safe 14 = false ∧ s.holds .line false = true) ∧
  (let s : State := up0
   s.nativeHost = true) ∧
  (let s : State := puts up0 [((.PG_CTRL_EN 14), 1)]
   s.up = true ∧ s.enabled 14 = true ∧ s.safe 14 = false) ∧
  (let s : State := { (puts up0 [(.SYS_ROLE_ROLE, 1)]) with sch := { up0.sch with slots := (up0.sch.slots.set 6 (task .waiting 0x60000000)) } }
   s.up = true ∧ s.hub = true ∧ s.kindWaiting Kind.LINE_CYCLE = true) ∧
  (let s : State := { up0 with sch := { up0.sch with slots := (up0.sch.slots.set 6 (task .waiting 0x70000000)) } }
   s.up = true ∧ s.kindWaiting Kind.LINE_TRAIN = true) ∧
  (let s : State := { (puts up0 [((.PG_CTRL_EN 14), 1)]) with sch := { up0.sch with slots := (up0.sch.slots.set 5 (task .running 0x60000000)) } }
   s.up = true ∧ s.enabled 14 = true ∧ s.safe 14 = false ∧ s.holds .line false = true) ∧
  (let s : State := up0
   s.nativeHost = true ∧ s.accessed.hub = false) ∧
  (let s : State := puts up0 [(.SYS_ROLE_ROLE, 1), ((.PG_CTRL_EN 14), 0)]
   s.nativeHost = true ∧ s.accessed.enabled 14 = false) ∧
  (let s : State := puts up0 [(.SYS_ROLE_ROLE, 1), ((.PG_CTRL_EN 14), 1), (.WIR_STAT_PWR, LinePwr.INRUSH)]
   s.nativeHost = true ∧ s.accessed.linePwr ≠ LinePwr.OFF ∧ s.up = true ∧ s.hub = true ∧ s.enabled 14 = true ∧
   s.safe 14 = false ∧ s.linePwr ≠ LinePwr.OFF ∧ s.linePwr ≠ LinePwr.SETTLE) ∧
  (let ma : Nat := 1000
   let s : State := puts up0 [(.SYS_ROLE_ROLE, 1), ((.PG_CTRL_EN 14), 1), (.WIR_STAT_PWR, LinePwr.INRUSH)]
   s.up = true ∧ s.linePwr = LinePwr.INRUSH ∧ (s.lineSample ma).linePwr ≠ LinePwr.INRUSH) ∧
  (let s : State := puts up0 [(.SYS_ROLE_ROLE, 1), (.WIR_STAT_PWR, LinePwr.OFF)]
   s.up = true ∧ s.linePwr = LinePwr.OFF ∧ s.linePwr ≠ LinePwr.INRUSH) ∧
  (let ma : Nat := 999
   let s : State := { (puts up0 [(.SYS_ROLE_ROLE, 1), (.WIR_STAT_PWR, LinePwr.ON)]) with line := { up0.line with twice := 1 } }
   s.up = true ∧ s.hub = true ∧ (s.linePwr = LinePwr.SETTLE ∨ s.linePwr = LinePwr.ON) ∧ ma < 1000 ∧
   2 * (s.put .WIR_ISNS_I ma).ilim ≤ ma ∧ 2 ≤ s.line.twice + 1) ∧
  (let ma : Nat := 999
   let s : State := { (puts up0 [(.SYS_ROLE_ROLE, 1), (.WIR_STAT_PWR, LinePwr.ON), (.PWR_LINE_ILIM_ILIM, 60)]) with line := { up0.line with excess := 300 } }
   s.up = true ∧ s.hub = true ∧ ma < 1000 ∧ ¬ 2 * (s.put .WIR_ISNS_I ma).ilim ≤ ma ∧ (s.put .WIR_ISNS_I ma).ilim < ma ∧
   (s.put .WIR_ISNS_I ma).get .WIR_PWR_CFG_OCT ≤ s.line.excess + 1) ∧
  (let ma : Nat := 0
   let s : State := puts up0 [(.SYS_ROLE_ROLE, 1), (.WIR_STAT_PWR, LinePwr.SETTLE)]
   s.up = true ∧ s.hub = true ∧ s.linePwr = LinePwr.SETTLE ∧ ma < 1000 ∧ ¬ 2 * (s.put .WIR_ISNS_I ma).ilim ≤ ma ∧
   ¬ (s.put .WIR_ISNS_I ma).ilim < ma ∧ 0 < (s.put .WIR_ISNS_I ma).get .WIR_PWR_CFG_OCT) ∧
  (let ma : Nat := 0
   let s : State := puts up0 [(.SYS_ROLE_ROLE, 1), (.WIR_STAT_PWR, LinePwr.ON)]
   s.up = true ∧ s.hub = true ∧ s.linePwr = LinePwr.ON ∧ ma < 1000 ∧ ¬ 2 * (s.put .WIR_ISNS_I ma).ilim ≤ ma ∧
   ¬ (s.put .WIR_ISNS_I ma).ilim < ma ∧ 0 < (s.put .WIR_ISNS_I ma).get .WIR_PWR_CFG_OCT) ∧
  (let s : State := puts up0 [(.SYS_ROLE_ROLE, 1), ((.PG_CTRL_EN 14), 1), (.WIR_STAT_PWR, LinePwr.ON), ((.gate Island.WIRE), Gate.WAIT)]
   s.up = true ∧ s.islandWaits Island.WIRE = true) ∧
  (let s : State := puts up0 [((.PG_CTRL_EN 14), 1)]
   s.up = true ∧ s.hub = false ∧ (if s.hub then s.linePwr == LinePwr.ON else s.bit .WIR_STAT_LAYOUT) = false) ∧
  (let s : State := puts up0 [((.PG_CTRL_EN 14), 1), ((.PG_CTRL_SAFE 14), 1)]
   s.up = true ∧ s.safe 14 = true) ∧
  (let g : Fin 3 := 2
   let s : State := up0
   s.up = true ∧ (s.enabled 14 && s.windowLen (g.val + 1) != 0 && (if s.hub then s.linePwr == LinePwr.ON else s.bit .WIR_STAT_LAYOUT) &&
   (s.lineServing || (s.lineTraining && g.val == 2))) = false) ∧
  (let g : Fin 3 := 2
   let s : State := { (puts up0 [((.PG_CTRL_EN 14), 1), (.WIR_STAT_LAYOUT, 1), (.WIR_GEN_EN, 7), ((winLen 1), 100), ((winLen 2), 100), ((winLen 3), 200)]) with line := { up0.line with cycles := 1 }, sch := { up0.sch with slots := (up0.sch.slots.set 5 (task .running 0x70000000)) } }
   s.up = true ∧ (s.enabled 14 && s.windowLen (g.val + 1) != 0 && (if s.hub then s.linePwr == LinePwr.ON else s.bit .WIR_STAT_LAYOUT) &&
   (s.lineServing || (s.lineTraining && g.val == 2))) = true ∧
   (let w := (s.put .WIR_STAT_WIN (g.val + 1)).setLine fun l => { l with room := (s.put .WIR_STAT_WIN (g.val + 1)).windowLen (g.val + 1) * windowXo }
     let t := w.raiseIf (w.bit .WIR_CFG_WINEVT) Ev.WIR_GEN_WIN
     let v := t.setLine fun l => { l with trains := true }
     let u := t.sendAnnounce (g.val + 1)
     t.lineTraining = true ∧ v.hub = false)) ∧
  (let g : Fin 3 := 2
   let s : State := { (puts up0 [((.PG_CTRL_EN 14), 1), (.SYS_ROLE_ROLE, 1), (.WIR_STAT_PWR, LinePwr.ON), (.WIR_GEN_EN, 7), ((winLen 1), 100), ((winLen 2), 100), ((winLen 3), 200)]) with line := { up0.line with cycles := 1 }, sch := { up0.sch with slots := (up0.sch.slots.set 5 (task .running 0x70000000)) } }
   s.up = true ∧ (s.enabled 14 && s.windowLen (g.val + 1) != 0 && (if s.hub then s.linePwr == LinePwr.ON else s.bit .WIR_STAT_LAYOUT) &&
   (s.lineServing || (s.lineTraining && g.val == 2))) = true ∧
   (let w := (s.put .WIR_STAT_WIN (g.val + 1)).setLine fun l => { l with room := (s.put .WIR_STAT_WIN (g.val + 1)).windowLen (g.val + 1) * windowXo }
     let t := w.raiseIf (w.bit .WIR_CFG_WINEVT) Ev.WIR_GEN_WIN
     let v := t.setLine fun l => { l with trains := true }
     let u := t.sendAnnounce (g.val + 1)
     t.lineTraining = true ∧ v.hub = true ∧ v.lineHeld = false ∧ unitsFit 3 trainingUnits (v.windowLen 3 * windowXo / unitXo 3) = true)) ∧
  (let g : Fin 3 := 2
   let s : State := { (puts up0 [((.PG_CTRL_EN 14), 1), (.SYS_ROLE_ROLE, 1), (.WIR_STAT_PWR, LinePwr.ON), ((.PG_CTRL_SAFE 14), 1), (.WIR_GEN_EN, 7), ((winLen 1), 100), ((winLen 2), 100), ((winLen 3), 200)]) with line := { up0.line with cycles := 1 }, sch := { up0.sch with slots := (up0.sch.slots.set 5 (task .running 0x70000000)) } }
   s.up = true ∧ (s.enabled 14 && s.windowLen (g.val + 1) != 0 && (if s.hub then s.linePwr == LinePwr.ON else s.bit .WIR_STAT_LAYOUT) &&
   (s.lineServing || (s.lineTraining && g.val == 2))) = true ∧
   (let w := (s.put .WIR_STAT_WIN (g.val + 1)).setLine fun l => { l with room := (s.put .WIR_STAT_WIN (g.val + 1)).windowLen (g.val + 1) * windowXo }
     let t := w.raiseIf (w.bit .WIR_CFG_WINEVT) Ev.WIR_GEN_WIN
     let v := t.setLine fun l => { l with trains := true }
     let u := t.sendAnnounce (g.val + 1)
     t.lineTraining = true ∧ v.hub = true ∧ v.lineHeld = true)) ∧
  (let g : Fin 3 := 2
   let s : State := { (puts up0 [((.PG_CTRL_EN 14), 1), (.SYS_ROLE_ROLE, 1), (.WIR_STAT_PWR, LinePwr.ON), (.WIR_GEN_EN, 7), ((winLen 1), 100), ((winLen 2), 100), ((winLen 3), 200), ((winLen 3), 100)]) with line := { up0.line with cycles := 1 }, sch := { up0.sch with slots := (up0.sch.slots.set 5 (task .running 0x70000000)) } }
   s.up = true ∧ (s.enabled 14 && s.windowLen (g.val + 1) != 0 && (if s.hub then s.linePwr == LinePwr.ON else s.bit .WIR_STAT_LAYOUT) &&
   (s.lineServing || (s.lineTraining && g.val == 2))) = true ∧
   (let w := (s.put .WIR_STAT_WIN (g.val + 1)).setLine fun l => { l with room := (s.put .WIR_STAT_WIN (g.val + 1)).windowLen (g.val + 1) * windowXo }
     let t := w.raiseIf (w.bit .WIR_CFG_WINEVT) Ev.WIR_GEN_WIN
     let v := t.setLine fun l => { l with trains := true }
     let u := t.sendAnnounce (g.val + 1)
     t.lineTraining = true ∧ v.hub = true ∧ unitsFit 3 trainingUnits (v.windowLen 3 * windowXo / unitXo 3) = false)) ∧
  (let g : Fin 3 := 1
   let s : State := { (puts up0 [((.PG_CTRL_EN 14), 1), (.SYS_ROLE_ROLE, 1), (.WIR_STAT_PWR, LinePwr.ON), ((.PG_CTRL_SAFE 14), 1), (.WIR_GEN_EN, 7), ((winLen 1), 100), ((winLen 2), 100), ((winLen 3), 200)]) with line := { up0.line with cycles := 1 }, sch := { up0.sch with slots := (up0.sch.slots.set 5 (task .running 0x60000000)) } }
   s.up = true ∧ (s.enabled 14 && s.windowLen (g.val + 1) != 0 && (if s.hub then s.linePwr == LinePwr.ON else s.bit .WIR_STAT_LAYOUT) &&
   (s.lineServing || (s.lineTraining && g.val == 2))) = true ∧
   (let w := (s.put .WIR_STAT_WIN (g.val + 1)).setLine fun l => { l with room := (s.put .WIR_STAT_WIN (g.val + 1)).windowLen (g.val + 1) * windowXo }
     let t := w.raiseIf (w.bit .WIR_CFG_WINEVT) Ev.WIR_GEN_WIN
     let v := t.setLine fun l => { l with trains := true }
     let u := t.sendAnnounce (g.val + 1)
     t.lineTraining = false ∧ u.hub = true ∧ g.val < 2 ∧ u.lineHeld = true)) ∧
  (let g : Fin 4 := (if (puts up0 [(.WIR_GEN_EN, 7), ((winLen 1), 100), ((winLen 2), 100), ((winLen 3), 200)]).lastWindow = 3 then 3 else if (puts up0 [(.WIR_GEN_EN, 7), ((winLen 1), 100), ((winLen 2), 100), ((winLen 3), 200)]).lastWindow = 2 then 2 else 1)
   let s : State := puts up0 [(.WIR_GEN_EN, 7), ((winLen 1), 100), ((winLen 2), 100), ((winLen 3), 200)]
   s.up = true ∧ (g.val == s.lastWindow) = true ∧
   ((((if g.val = 3 then s.m3Ends else s).acksHeldOver g).put .WIR_STAT_WIN 4).setLine fun l =>
     { l with winHeard := false, room := 0, backoff := none }).runningKind Kind.LINE_CYCLE = none) ∧
  (let g : Fin 4 := 0
   let s : State := puts up0 [(.WIR_GEN_EN, 4), ((winLen 3), 200)]
   s.up = true ∧ (g.val == s.lastWindow) = false ∧ g.val = 0) ∧
  (let g : Fin 4 := 2
   let s : State := puts up0 [(.WIR_GEN_EN, 4), ((winLen 3), 200)]
   s.up = true ∧ (g.val == s.lastWindow) = false ∧ g.val ≠ 0) := by
  and_intros <;> decide

theorem witness_LineReceiveCommands :
  (let s : State := puts up0 [(.SYS_ROLE_ROLE, 1), ((.PG_CTRL_EN 14), 1), (.WIR_STAT_WIN, 3)]
   s.up = true ∧ s.get .WIR_STAT_WIN = 3 ∧ s.enabled 14 = true ∧ s.hub = true) ∧
  (let left : Nat := 40000
   let s : State := { (puts up0 [((.PG_CTRL_EN 14), 1), (.WIR_STAT_WIN, 3), (.WIR_STAT_LAYOUT, 1)]) with line := { up0.line with trains := true }, sch := { up0.sch with slots := (up0.sch.slots.set 5 (task .running 0x70000000)) } }
   s.up = true ∧ s.get .WIR_STAT_WIN = 3 ∧ s.enabled 14 = true ∧ s.hub = false ∧ s.bit .WIR_STAT_LAYOUT = true ∧
   s.lineHeld = false ∧ s.lineTraining = true ∧ s.line.trains = true ∧ s.bit .WIR_STAT_TRAINING = false ∧
   unitsFit 3 trainingUnits left = true) ∧
  (let left : Nat := 40000
   let f : TxFrame := txf1
   let s : State := { (puts up0 [((.PG_CTRL_EN 14), 1), (.WIR_STAT_WIN, 3), (.WIR_STAT_LAYOUT, 1), (.WIR_STAT_ECOK, 1)]) with tx := [f], xings := up0.xings.set 2 { Xing.reset with owned := [{ item1 with frame := 1 }] }, line := { up0.line with cycles := 1 }, sch := { up0.sch with slots := (up0.sch.slots.set 5 (task .running 0x60000000)) } }
   s.up = true ∧ s.hub = false ∧ s.get .WIR_STAT_WIN = 3 ∧ s.bit .WIR_STAT_LAYOUT = true ∧ s.lineHeld = false ∧
   s.enabled 14 = true ∧ s.lineTraining = false ∧ s.lineServing = true ∧ s.bit .WIR_STAT_ECOK = true ∧
   s.line.sending = none ∧ s.lineFront 3 = some f ∧ unitsFit 3 f.lineUnits left = true) ∧
  (let g : Fin 2 := 1
   let left : Nat := 40000
   let f : TxFrame := { txf1 with gen := 2 }
   let s : State := { (puts up0 [((.PG_CTRL_EN 14), 1), (.WIR_STAT_WIN, 2)]) with line := { up0.line with winHeard := true, cycles := 1 }, tx := [f], xings := up0.xings.set 2 { Xing.reset with owned := [{ item1 with frame := 1 }] }, sch := { up0.sch with slots := (up0.sch.slots.set 5 (task .running 0x60000000)) } }
   s.up = true ∧ s.get .WIR_STAT_WIN = g.val + 1 ∧ s.line.winHeard = true ∧ s.lineHeld = false ∧ s.enabled 14 = true ∧
   s.lineServing = true ∧ s.line.sending = none ∧ s.lineFront (g.val + 1) = some f ∧
   unitsFit (g.val + 1) f.lineUnits left = true) ∧
  (let s : State := puts up0 [(.SYS_ROLE_ROLE, 1), (.WIR_STAT_WIN, 3)]
   s.up = true ∧ s.hub = true ∧ s.get .WIR_STAT_WIN = 3) ∧
  (let id : Nat := 1
   let s : State := { (puts up0 [(.WIR_STAT_WIN, 3)]) with line := { up0.line with sending := some 1 }, tx := [txf1] }
   s.up = true ∧ s.hub = false ∧ s.get .WIR_STAT_WIN = 3 ∧ s.clk.wireStop = false ∧ s.line.sending = some id) ∧
  (let gen : Fin 3 := 0
   let inverse : Bool := false
   let cut : Bool := true
   let s : State := { (puts up0 [((.PG_CTRL_EN 14), 1)]) with line := { up0.line with cycles := 1 }, sch := { up0.sch with slots := (up0.sch.slots.set 5 (task .running 0x60000000)) } }
   s.up = true ∧ s.lineHears = true ∧
    (let u := if s.hub && gen.val + 1 == 3 then s.setLine fun l => { l with upBusy := false } else s
     (u.syncDetected inverse).1 = true ∧ cut = true)) ∧
  (let gen : Fin 3 := 2
   let inverse : Bool := false
   let cut : Bool := false
   let s : State := { (puts up0 [((.PG_CTRL_EN 14), 1)]) with line := { up0.line with cycles := 1 }, sch := { up0.sch with slots := (up0.sch.slots.set 5 (task .running 0x60000000)) } }
   s.up = true ∧ s.lineHears = true ∧
    (let u := if s.hub && gen.val + 1 == 3 then s.setLine fun l => { l with upBusy := false } else s
     (u.syncDetected inverse).1 = true ∧ cut = false ∧ gen.val = 2)) ∧
  (let gen : Fin 3 := 1
   let inverse : Bool := false
   let cut : Bool := false
   let s : State := { (puts up0 [((.PG_CTRL_EN 14), 1)]) with line := { up0.line with cycles := 1 }, sch := { up0.sch with slots := (up0.sch.slots.set 5 (task .running 0x60000000)) } }
   s.up = true ∧ s.lineHears = true ∧
    (let u := if s.hub && gen.val + 1 == 3 then s.setLine fun l => { l with upBusy := false } else s
     (u.syncDetected inverse).1 = true ∧ cut = false ∧ gen.val < 2)) ∧
  (let s : State := up0
   s.up = true ∧ s.get .WIR_STAT_WIN ≠ 3 ∧ s.hub = false ∧ s.bit .WIR_STAT_LAYOUT = false) ∧
  (let s : State := puts up0 [(.WIR_STAT_WIN, 3), ((.PG_CTRL_EN 14), 0)]
   s.up = true ∧ s.enabled 14 = false) ∧
  (let s : State := puts up0 [(.WIR_STAT_HELD, 1)]
   s.up = true ∧ s.hub = false ∧ s.lineHeld = true) ∧
  (let s : State := { (puts up0 [((.PG_CTRL_EN 14), 1), (.WIR_STAT_LAYOUT, 1), (.WIR_STAT_WIN, 3)]) with line := { up0.line with cycles := 1, trains := false }, sch := { up0.sch with slots := (up0.sch.slots.set 5 (task .running 0x70000000)) } }
   s.up = true ∧ s.hub = false ∧ s.lineTraining = true ∧ s.line.trains = false) ∧
  (let s : State := { (puts up0 [((.PG_CTRL_EN 14), 1), (.WIR_STAT_LAYOUT, 1), (.WIR_STAT_WIN, 3), (.WIR_STAT_TRAINING, 1)]) with line := { up0.line with cycles := 1, trains := true }, sch := { up0.sch with slots := (up0.sch.slots.set 5 (task .running 0x70000000)) } }
   s.up = true ∧ s.hub = false ∧ s.lineTraining = true ∧ s.bit .WIR_STAT_TRAINING = true) ∧
  (let left : Nat := 2127
   let s : State := { (puts up0 [((.PG_CTRL_EN 14), 1), (.WIR_STAT_LAYOUT, 1), (.WIR_STAT_WIN, 3)]) with line := { up0.line with cycles := 1, trains := true }, sch := { up0.sch with slots := (up0.sch.slots.set 5 (task .running 0x70000000)) } }
   s.up = true ∧ s.hub = false ∧ s.lineTraining = true ∧ unitsFit 3 trainingUnits left = false) ∧
  (let s : State := up0
   s.up = true ∧ s.hub = false ∧ s.lineTraining = false ∧ s.lineServing = false ∧ s.bit .WIR_STAT_ECOK = false ∧ s.lineFront 3 = none) ∧
  (let s : State := { (puts up0 [((.PG_CTRL_EN 14), 1), (.WIR_STAT_LAYOUT, 1), (.WIR_STAT_WIN, 3), (.WIR_STAT_ECOK, 1)]) with line := { up0.line with cycles := 1, sending := some 1 }, sch := { up0.sch with slots := (up0.sch.slots.set 5 (task .running 0x60000000)) } }
   s.up = true ∧ s.hub = false ∧ s.lineTraining = false ∧ s.line.sending.isSome = true) ∧
  (let left : Nat := 79
   let s : State := { (puts up0 [((.PG_CTRL_EN 14), 1), (.WIR_STAT_LAYOUT, 1), (.WIR_STAT_WIN, 3), (.WIR_STAT_ECOK, 1)]) with tx := [txf1], xings := up0.xings.set 2 { Xing.reset with owned := [{ item1 with frame := 1 }] }, line := { up0.line with cycles := 1 }, sch := { up0.sch with slots := (up0.sch.slots.set 5 (task .running 0x60000000)) } }
   s.up = true ∧ s.hub = false ∧ s.lineTraining = false ∧ s.lineFront 3 = some txf1 ∧ unitsFit 3 txf1.lineUnits left = false) ∧
  (let g : Fin 2 := 1
   let s : State := up0
   s.up = true ∧ s.get .WIR_STAT_WIN ≠ g.val + 1 ∧ s.line.winHeard = false ∧ s.lineServing = false ∧ s.lineFront (g.val + 1) = none) ∧
  (let g : Fin 2 := 1
   let s : State := { (puts up0 [((.PG_CTRL_EN 14), 1), (.WIR_STAT_WIN, 2)]) with line := { up0.line with winHeard := true, cycles := 1, sending := some 7 } }
   s.up = true ∧ s.get .WIR_STAT_WIN = g.val + 1 ∧ s.line.sending.isSome = true) ∧
  (let g : Fin 2 := 1
   let left : Nat := 47
   let f : TxFrame := { txf1 with gen := 2 }
   let s : State := { up0 with tx := [f], xings := up0.xings.set 2 { Xing.reset with owned := [{ item1 with frame := 1 }] } }
   s.up = true ∧ s.lineFront (g.val + 1) = some f ∧ unitsFit (g.val + 1) f.lineUnits left = false) ∧
  (let s : State := puts up0 [(.SYS_ROLE_ROLE, 1), (.WIR_STAT_WIN, 2)]
   s.up = true ∧ s.hub = true ∧ s.get .WIR_STAT_WIN ≠ 3) ∧
  (let s : State := { (puts up0 [(.WIR_STAT_WIN, 3)]) with clk := { up0.clk with wireStop := true } }
   s.up = true ∧ s.clk.wireStop = true) ∧
  (let s : State := puts up0 [(.WIR_STAT_WIN, 3), (.WIR_STAT_TRAINING, 1)]
   s.up = true ∧ s.hub = false ∧ s.get .WIR_STAT_WIN = 3 ∧ s.clk.wireStop = false ∧ s.line.sending = none ∧
   s.bit .WIR_STAT_TRAINING = true) ∧
  (let s : State := puts up0 [(.WIR_STAT_WIN, 3)]
   s.up = true ∧ s.hub = false ∧ s.get .WIR_STAT_WIN = 3 ∧ s.clk.wireStop = false ∧ s.line.sending = none ∧
   s.bit .WIR_STAT_TRAINING = false) ∧
  (let s : State := up0
   s.up = true ∧ s.lineHears = false) ∧
  (let s : State := { (puts up0 [((.PG_CTRL_EN 14), 1), (.SYS_ROLE_ROLE, 1), (.WIR_STAT_PWR, LinePwr.ON)]) with line := { up0.line with cycles := 1 }, sch := { up0.sch with slots := (up0.sch.slots.set 5 (task .running 0x60000000)) } }
   s.up = true ∧ s.lineHears = true ∧ s.hub = true) := by
  and_intros <;> decide

theorem witness_LineTrackingCommands :
  (let res : Int := -400
   let s : State := puts up0 [(.WIR_STAT_TRAINING, 1)]
   s.up = true ∧ s.bit .WIR_STAT_TRAINING = true ∧ s.line.cutting = false ∧ s.lineHeld = false ∧
    (let t := (s.adapt trainingLevels).putS .WIR_EC_RES_RES res
     res ≤ -4 * (t.get .WIR_EC_CTRL_CONVTHR : Int) ∧
      (let u := ((((t.put .WIR_STAT_ECOK 1).put .WIR_STAT_TRAINFAIL 0).raise Ev.WIR_EC_CONV).put .WIR_STAT_TRAINING 0).setLine fun l => { l with trains := false, begun := false, passes := 0, cw := 0 }
       u.runningKind Kind.LINE_TRAIN = none))) ∧
  (let res : Int := -400
   let s : State := { (puts up0 [(.WIR_STAT_TRAINING, 1)]) with sch := { up0.sch with slots := (up0.sch.slots.set 5 (task .running 0x70000000)) } }
   s.up = true ∧ s.bit .WIR_STAT_TRAINING = true ∧ s.line.cutting = false ∧ s.lineHeld = false ∧
    (let t := (s.adapt trainingLevels).putS .WIR_EC_RES_RES res
     res ≤ -4 * (t.get .WIR_EC_CTRL_CONVTHR : Int) ∧
      (let u := ((((t.put .WIR_STAT_ECOK 1).put .WIR_STAT_TRAINFAIL 0).raise Ev.WIR_EC_CONV).put .WIR_STAT_TRAINING 0).setLine fun l => { l with trains := false, begun := false, passes := 0, cw := 0 }
       let i := 5
       u.runningKind Kind.LINE_TRAIN = some i))) ∧
  (let res : Int := 0
   let s : State := { (puts up0 [(.WIR_STAT_TRAINING, 1)]) with line := { up0.line with passes := 0 } }
   s.up = true ∧ s.bit .WIR_STAT_TRAINING = true ∧ s.line.cutting = false ∧ s.lineHeld = false ∧
    (let t := (s.adapt trainingLevels).putS .WIR_EC_RES_RES res
     (-4 * (t.get .WIR_EC_CTRL_CONVTHR : Int) < res) ∧ t.line.passes = 0)) ∧
  (let res : Int := 0
   let s : State := { (puts up0 [(.WIR_STAT_TRAINING, 1)]) with line := { up0.line with passes := 1 }, sch := { up0.sch with slots := (up0.sch.slots.set 5 (task .running 0x70000000)) } }
   s.up = true ∧ s.bit .WIR_STAT_TRAINING = true ∧ s.line.cutting = false ∧ s.lineHeld = false ∧
    (let t := (s.adapt trainingLevels).putS .WIR_EC_RES_RES res
     (-4 * (t.get .WIR_EC_CTRL_CONVTHR : Int) < res) ∧ 1 ≤ t.line.passes ∧
      (let u := ((((t.put .WIR_STAT_ECOK 0).put .WIR_STAT_TRAINFAIL 1).raise Ev.WIR_EC_DIVERGE).put .WIR_STAT_TRAINING 0).setLine fun l => { l with trains := false, begun := false, passes := 0, cw := 0 }
       let i := 5
       u.runningKind Kind.LINE_TRAIN = some i))) ∧
  (let res : Int := 0
   let s : State := puts up0 [(.WIR_STAT_ECOK, 1), (.WIR_EC_CTRL_AUTO, 0)]
   s.up = true ∧ s.bit .WIR_STAT_ECOK = true ∧ (-4 * (s.get .WIR_EC_CTRL_DIVTHR : Int) < res) ∧
    (let burst := s.get .WIR_STAT_WIN == 3 && match s.line.sending.bind s.txFrame with
       | some f => f.gen == 3
       | none => false
     let r := if burst then s.lineAbandon else s
     let t := (((r.putS .WIR_EC_RES_RES res).put .WIR_STAT_ECOK 0).sat .WIR_CNT2_ECDIV).raise Ev.WIR_EC_DIVERGE
     t.bit .WIR_EC_CTRL_AUTO = false)) ∧
  (let res : Int := 0
   let s : State := puts up0 [(.WIR_STAT_ECOK, 1)]
   s.up = true ∧ s.bit .WIR_STAT_ECOK = true ∧ (-4 * (s.get .WIR_EC_CTRL_DIVTHR : Int) < res) ∧
    (let burst := s.get .WIR_STAT_WIN == 3 && match s.line.sending.bind s.txFrame with
       | some f => f.gen == 3
       | none => false
     let r := if burst then s.lineAbandon else s
     let t := (((r.putS .WIR_EC_RES_RES res).put .WIR_STAT_ECOK 0).sat .WIR_CNT2_ECDIV).raise Ev.WIR_EC_DIVERGE
     t.bit .WIR_EC_CTRL_AUTO = true)) ∧
  (let err : Int := 0
   let ppm : Int := 0
   let inverse : Bool := false
   let phr : List Int := List.replicate 48 (-1)
   let s : State := puts up0 [((.PG_CTRL_EN 14), 1)]
   s.up = true ∧ s.hearsMarks = true ∧
    (let o := s.moment 14
     let t := ((o.judgePolarity inverse).setLine fun l => { l with cycles := l.cycles + 1, annSent := false }).markTiming err ppm
     let u := t.put .WIR_STAT_WIN (if t.lineServing then 0 else 4)
     let v := u.raiseIf (u.bit .WIR_CFG_CYCEVT) Ev.WIR_CYCLE_START
     o.hearsMarks = true ∧ (v.rxBegin 3 3 0 phr 0x80 v.cyc).1 = none)) ∧
  (let err : Int := 0
   let ppm : Int := 0
   let inverse : Bool := false
   let phr : List Int := (List.replicate 3 (bytesBits [0xC0, BitVec.ofNat 8 (crc8 [0xC0])])).flatten.map fun b => if b then -1 else 1
   let s : State := puts up0 [((.PG_CTRL_EN 14), 1), ((Fld.mk Adr.FEC_CODE 7 0), 0xFF)]
   s.up = true ∧ s.hearsMarks = true ∧
    (let o := s.moment 14
     let t := ((o.judgePolarity inverse).setLine fun l => { l with cycles := l.cycles + 1, annSent := false }).markTiming err ppm
     let u := t.put .WIR_STAT_WIN (if t.lineServing then 0 else 4)
     let v := u.raiseIf (u.bit .WIR_CFG_CYCEVT) Ev.WIR_CYCLE_START
     let id := 1
     o.hearsMarks = true ∧ (v.rxBegin 3 3 0 phr 0x80 v.cyc).1 = some id)) ∧
  (let s : State := puts up0 [((.PG_CTRL_EN 14), 1), (.WIR_CDR_STAT_ACQ, 1)]
   s.up = true ∧ s.hub = false ∧ s.enabled 14 = true ∧ s.bit .WIR_CDR_STAT_ACQ = true ∧
    (let t := ((s.sat .WIR_CDR_STAT_MISSED).sat .WIR_CNT2_DARK).setLine fun l => { l with cycles := l.cycles + 1, annSent := false }
     t.get .WIR_CDR_STAT_MISSED < t.get .WIR_CDR_CFG_MISS)) ∧
  (let s : State := puts up0 [((.PG_CTRL_EN 14), 1), (.WIR_CDR_STAT_ACQ, 1), (.WIR_CDR_STAT_MISSED, 200)]
   s.up = true ∧ s.hub = false ∧ s.enabled 14 = true ∧ s.bit .WIR_CDR_STAT_ACQ = true ∧
    (let t := ((s.sat .WIR_CDR_STAT_MISSED).sat .WIR_CNT2_DARK).setLine fun l => { l with cycles := l.cycles + 1, annSent := false }
     t.get .WIR_CDR_CFG_MISS ≤ t.get .WIR_CDR_STAT_MISSED)) ∧
  (let s : State := puts up0 [(.CLK_STAT_CDR, 1)]
   s.up = true ∧ s.hub = false ∧ s.bit .CLK_STAT_CDR = true) ∧
  (let s : State := up0
   s.nativeHost = true) ∧
  (let s : State := puts up0 [((.PG_CTRL_EN 14), 1)]
   s.up = true ∧ s.enabled 14 = true ∧ s.safe 14 = false) ∧
  (let src : BitVec 8 := 0
   let s : State := puts up0 [(.SYS_ROLE_ROLE, 1)]
   s.up = true ∧ s.hub = true ∧ s.line.list.length < 8 ∧
   (s.line.list.any fun a => a.id == src.toNat && !a.acked) = false) ∧
  (let s : State := { up0 with line := { up0.line with list := [annc1] } }
   let i : Nat := 0
   s.nativeHost = true ∧ (s.accessed.line.list.findIdx? fun a => !a.popped) = some i) ∧
  (let s : State := up0
   s.up = true ∧ s.bit .WIR_STAT_TRAINING = false ∧ s.bit .WIR_STAT_ECOK = false ∧ s.bit .WIR_CDR_STAT_ACQ = false ∧
   s.bit .CLK_STAT_CDR = false ∧ s.hub = false) ∧
  (let s : State := { (puts up0 [(.WIR_STAT_TRAINING, 1), (.WIR_STAT_HELD, 1)]) with line := { up0.line with cutting := true } }
   s.up = true ∧ s.line.cutting = true ∧ s.lineHeld = true) ∧
  (let res : Int := -400
   let s : State := puts up0 [(.WIR_STAT_ECOK, 1)]
   s.up = true ∧ res ≤ -4 * (s.get .WIR_EC_CTRL_DIVTHR : Int)) ∧
  (let s : State := puts up0 [(.SYS_ROLE_ROLE, 1)]
   s.up = true ∧ s.hearsMarks = false ∧ s.hub = true) ∧
  (let s : State := puts up0 [((.PG_CTRL_EN 14), 0)]
   s.up = true ∧ s.enabled 14 = false) ∧
  (let s : State := { (puts up0 [(.SYS_ROLE_ROLE, 1)]) with line := { up0.line with list := List.replicate 8 annc1 } }
   s.up = true ∧ 8 ≤ s.line.list.length) ∧
  (let src : BitVec 8 := 7
   let s : State := { (puts up0 [(.SYS_ROLE_ROLE, 1)]) with line := { up0.line with list := [{ annc1 with id := 7, acked := false }] } }
   s.up = true ∧ (s.line.list.any fun a => a.id == src.toNat && !a.acked) = true) ∧
  (let s : State := { up0 with line := { up0.line with list := [] } }
   s.nativeHost = true ∧ (s.accessed.line.list.findIdx? fun a => !a.popped) = none) ∧
  (let res : Int := 0
   let s : State := { (puts up0 [(.WIR_STAT_TRAINING, 1)]) with line := { up0.line with passes := 1 } }
   s.up = true ∧ s.bit .WIR_STAT_TRAINING = true ∧ s.line.cutting = false ∧ s.lineHeld = false ∧
    (let t := (s.adapt trainingLevels).putS .WIR_EC_RES_RES res
     (-4 * (t.get .WIR_EC_CTRL_CONVTHR : Int) < res) ∧ 1 ≤ t.line.passes ∧
      (let u := ((((t.put .WIR_STAT_ECOK 0).put .WIR_STAT_TRAINFAIL 1).raise Ev.WIR_EC_DIVERGE).put .WIR_STAT_TRAINING 0).setLine fun l => { l with trains := false, begun := false, passes := 0, cw := 0 }
       u.runningKind Kind.LINE_TRAIN = none))) := by
  and_intros <;> decide

theorem witness_RadioCommands :
  (let s : State := { up0 with rad := { up0.rad with goal := some Rad.SLEEP } }
   s.up = true ∧ s.rad.goal = some Rad.SLEEP ∧ s.radTask = none) ∧
  (let s : State := { (puts up0 [(.RAD_STATE_STATE, Rad.SYNTH)]) with rad := { up0.rad with goal := some Rad.RX, opened := false }, sch := { up0.sch with slots := (up0.sch.slots.set 5 (task .running 0x30000000)) } }
   s.up = true ∧ s.rad.goal = some Rad.RX ∧ s.radState = Rad.SYNTH ∧ s.radKind Kind.RAD_RX_WIN = true ∧
   s.rad.opened = false) ∧
  (let id : Nat := 1
   let f : TxFrame := txf1
   let s : State := { (puts up0 [(.RAD_STATE_STATE, Rad.SYNTH)]) with rad := { up0.rad with goal := some Rad.TX, tx := some id }, tx := [f], xings := up0.xings.set 4 { Xing.reset with owned := [{ item1 with frame := 1 }] } }
   s.up = true ∧ s.rad.goal = some Rad.TX ∧ s.radState = Rad.SYNTH ∧ s.rad.tx = some id ∧ s.txFrame id = some f ∧
   f.kind ≠ .beacon ∧ (s.xing 4).owned.any (fun t => t.frame == f.id) = true) ∧
  (let g : Nat := Rad.STANDBY
   let s : State := { (puts up0 [(.RAD_STATE_STATE, Rad.SLEEP), ((.gate Island.MODEM), 3)]) with rad := { up0.rad with goal := some g } }
   s.up = true ∧ s.rad.goal = some g ∧ s.radState = Rad.SLEEP ∧ g ≠ Rad.SLEEP ∧ s.get (.gate Island.MODEM) ≠ Gate.RUN) ∧
  (let g : Nat := 2
   let s : State := { (puts up0 [(.RAD_STATE_STATE, Rad.STANDBY), ((.PG_STAT_DRAINHOLD 15), 1)]) with rad := { up0.rad with goal := some g } }
   s.up = true ∧ s.rad.goal = some g ∧ s.radState = Rad.STANDBY ∧ 2 ≤ g ∧ s.drainHold 15 = true) ∧
  (let s : State := { up0 with sch := { up0.sch with slots := (up0.sch.slots.set 6 (task .waiting 0x50000000)) } }
   s.up = true ∧ s.kindWaiting Kind.RAD_CAL = true) ∧
  (let s : State := { (puts up0 [(.RAD_STATE_STATE, Rad.STANDBY)]) with sch := { up0.sch with slots := (up0.sch.slots.set 5 (task .running 0x50000000)) } }
   s.up = true ∧ s.radKind Kind.RAD_CAL = true ∧ s.radState = Rad.STANDBY ∧
    (let t := (s.put .RAD_CAL_FREQ_N s.carrier).put .RAD_CAL_STAT_TCAL (s.get .THM_TEMP_FILT)
     let t := (t.put .RAD_CAL_STAT_VALID 1).calArm
     t.drainHold 15 = false)) ∧
  (let s : State := { (puts up0 [(.RAD_STATE_STATE, Rad.STANDBY), ((.PG_STAT_DRAINHOLD 15), 1)]) with sch := { up0.sch with slots := (up0.sch.slots.set 5 (task .running 0x50000000)) } }
   s.up = true ∧ s.radKind Kind.RAD_CAL = true ∧ s.radState = Rad.STANDBY ∧
    (let t := (s.put .RAD_CAL_FREQ_N s.carrier).put .RAD_CAL_STAT_TCAL (s.get .THM_TEMP_FILT)
     let t := (t.put .RAD_CAL_STAT_VALID 1).calArm
     t.drainHold 15 = true)) ∧
  (let s : State := { (puts up0 [(.RAD_STATE_STATE, Rad.STANDBY)]) with sch := { up0.sch with slots := (up0.sch.slots.set 5 (task .running 0x50000000)) } }
   s.up = true ∧ s.radKind Kind.RAD_CAL = true ∧ s.radState = Rad.STANDBY) ∧
  (let s : State := { up0 with rad := { up0.rad with tx := none } }
   s.up = true ∧ s.pwr.ioUp = true ∧ s.rad.tx = none) ∧
  (let s : State := { up0 with rad := { up0.rad with tx := some 1 } }
   s.up = true ∧ s.pwr.ioUp = true ∧ s.rad.tx.isSome = true) ∧
  (let s : State := { up0 with pwr := { up0.pwr with ioUp := false } }
   s.up = true ∧ s.pwr.ioUp = false) ∧
  (let s : State := { up0 with rad := { up0.rad with opened := true, closing := false, synced := true }, sch := { up0.sch with slots := (up0.sch.slots.set 5 (task .running 0x30000000)) } }
   s.up = true ∧ s.radKind Kind.RAD_RX_WIN = true ∧ s.rad.opened = true ∧ s.rad.closing = false ∧ s.rad.synced = true) ∧
  (let s : State := { up0 with rad := { up0.rad with opened := true, closing := false, synced := false }, sch := { up0.sch with slots := (up0.sch.slots.set 5 (task .running 0x30000000)) } }
   s.up = true ∧ s.radKind Kind.RAD_RX_WIN = true ∧ s.rad.opened = true ∧ s.rad.closing = false ∧ s.rad.synced = false) ∧
  (let id : Nat := 0
   let h : Int := -127
   let s : State := { (puts up0 [(.RAD_STATE_STATE, Rad.RX)]) with rad := { up0.rad with goal := none, listen := some false, chosen := some id, highest := some h } }
   s.up = true ∧ s.radState = Rad.RX ∧ s.rad.goal = none ∧ s.rad.listen = some false ∧ s.rad.chosen = some id ∧
   s.rad.highest = some h ∧ h < s.getS .RDM_CCA_THR_THR) ∧
  (let id : Nat := 0
   let h : Int := 0
   let s : State := { (puts up0 [(.RAD_STATE_STATE, Rad.RX)]) with rad := { up0.rad with goal := none, listen := some false, chosen := some id, highest := some h } }
   s.up = true ∧ s.radState = Rad.RX ∧ s.rad.goal = none ∧ s.rad.listen = some false ∧ s.rad.chosen = some id ∧
   s.rad.highest = some h ∧ s.getS .RDM_CCA_THR_THR ≤ h ∧ s.rad.tries + 1 < s.get .RAD_LBT_TRIES) ∧
  (let s : State := up0
   s.up = true) ∧
  (let k : AckSlot := { frame := 1, mode := 0, due := none }
   let s : State := { up0 with rad := { up0.rad with slot := some k } }
   s.up = true ∧ s.rad.slot = some k ∧ k.due = none) ∧
  (let s : State := { up0 with rad := { up0.rad with wait := true, waitSync := false } }
   s.up = true ∧ s.rad.wait = true ∧ s.rad.waitSync = false) ∧
  (let s : State := { (puts up0 [(.RAD_STATE_STATE, Rad.TX)]) with rad := { up0.rad with air := true } }
   s.up = true ∧ s.radState = Rad.TX ∧ s.rad.air = true) ∧
  (let s : State := puts up0 [(.RAD_STATE_STATE, 2)]
   s.up = true ∧ 2 ≤ s.radState) ∧
  (let s : State := up0
   s.up = true ∧ s.rad.goal = none) ∧
  (let s : State := { (puts up0 [(.RAD_STATE_STATE, Rad.STANDBY)]) with rad := { up0.rad with goal := some 2 }, sch := { up0.sch with slots := (up0.sch.slots.set 5 (task .running 0x50000000)) } }
   s.up = true ∧ s.rad.goal = some 2 ∧ s.radState = Rad.STANDBY ∧ s.radKind Kind.RAD_CAL = true) ∧
  (let g : Nat := 0
   let s : State := { (puts up0 [(.RAD_STATE_STATE, Rad.STANDBY)]) with rad := { up0.rad with goal := some 0 } }
   let st := radHop s.radState g
   s.up = true ∧ s.rad.goal = some g ∧ (s.radState ≠ Rad.SLEEP ∨ st = Rad.SLEEP ∨ s.get (.gate Island.MODEM) = Gate.RUN) ∧
   (s.drainHold 15 = false ∨ Rad.STANDBY < s.radState ∨ st ≤ Rad.STANDBY) ∧
   (s.radState ≠ Rad.STANDBY ∨ st ≠ Rad.SYNTH ∨ s.radKind Kind.RAD_CAL = false) ∧ st ≠ Rad.TX ∧
   st = Rad.SLEEP) ∧
  (let g : Nat := 3
   let s : State := { (puts up0 [(.RAD_STATE_STATE, Rad.SLEEP), ((.gate Island.MODEM), Gate.RUN)]) with rad := { up0.rad with goal := some 3 }, sch := { up0.sch with slots := (up0.sch.slots.set 5 (task .running 0x30000000)) } }
   let st := radHop s.radState g
   s.up = true ∧ s.rad.goal = some g ∧ (s.radState ≠ Rad.SLEEP ∨ st = Rad.SLEEP ∨ s.get (.gate Island.MODEM) = Gate.RUN) ∧
   (s.drainHold 15 = false ∨ Rad.STANDBY < s.radState ∨ st ≤ Rad.STANDBY) ∧
   (s.radState ≠ Rad.STANDBY ∨ st ≠ Rad.SYNTH ∨ s.radKind Kind.RAD_CAL = false) ∧ st ≠ Rad.TX ∧
   st = Rad.STANDBY ∧ Rad.STANDBY < g) ∧
  (let g : Nat := 3
   let s : State := { (puts up0 [(.RAD_STATE_STATE, Rad.STANDBY)]) with rad := { up0.rad with goal := some 3 }, sch := { up0.sch with slots := (up0.sch.slots.set 5 (task .running 0x30000000)) } }
   let st := radHop s.radState g
   s.up = true ∧ s.rad.goal = some g ∧ (s.radState ≠ Rad.SLEEP ∨ st = Rad.SLEEP ∨ s.get (.gate Island.MODEM) = Gate.RUN) ∧
   (s.drainHold 15 = false ∨ Rad.STANDBY < s.radState ∨ st ≤ Rad.STANDBY) ∧
   (s.radState ≠ Rad.STANDBY ∨ st ≠ Rad.SYNTH ∨ s.radKind Kind.RAD_CAL = false) ∧ st ≠ Rad.TX ∧
   Rad.STANDBY < st ∧ st ≠ g) ∧
  (let g : Nat := 2
   let s : State := { (puts up0 [(.RAD_STATE_STATE, Rad.STANDBY)]) with rad := { up0.rad with goal := some 2 }, sch := { up0.sch with slots := (up0.sch.slots.set 5 (task .running 0x40000000)) } }
   let st := radHop s.radState g
   s.up = true ∧ s.rad.goal = some g ∧ (s.radState ≠ Rad.SLEEP ∨ st = Rad.SLEEP ∨ s.get (.gate Island.MODEM) = Gate.RUN) ∧
   (s.drainHold 15 = false ∨ Rad.STANDBY < s.radState ∨ st ≤ Rad.STANDBY) ∧
   (s.radState ≠ Rad.STANDBY ∨ st ≠ Rad.SYNTH ∨ s.radKind Kind.RAD_CAL = false) ∧ st ≠ Rad.TX ∧
   st ≠ Rad.SLEEP ∧ st = g ∧ st ≠ Rad.RX) ∧
  (let g : Nat := 3
   let s : State := { (puts up0 [(.RAD_STATE_STATE, Rad.SYNTH)]) with rad := { up0.rad with goal := some 3 }, sch := { up0.sch with slots := (up0.sch.slots.set 5 (task .running 0x40000000)) } }
   let st := radHop s.radState g
   let t := s.setRadState st
   let u := if st = g then t.setRad fun r => { r with goal := none } else t
   s.up = true ∧ s.rad.goal = some g ∧ (s.radState ≠ Rad.SLEEP ∨ st = Rad.SLEEP ∨ s.get (.gate Island.MODEM) = Gate.RUN) ∧
   (s.drainHold 15 = false ∨ Rad.STANDBY < s.radState ∨ st ≤ Rad.STANDBY) ∧
   (s.radState ≠ Rad.STANDBY ∨ st ≠ Rad.SYNTH ∨ s.radKind Kind.RAD_CAL = false) ∧ st ≠ Rad.TX ∧
   st = Rad.RX ∧ st = g ∧ u.radKind Kind.RAD_RX_WIN = false) ∧
  (let g : Nat := 3
   let s : State := { (puts up0 [(.RAD_STATE_STATE, Rad.SYNTH)]) with rad := { up0.rad with goal := some 3, opened := true }, sch := { up0.sch with slots := (up0.sch.slots.set 5 (task .running 0x30000000)) } }
   let st := radHop s.radState g
   let t := s.setRadState st
   let u := if st = g then t.setRad fun r => { r with goal := none } else t
   s.up = true ∧ s.rad.goal = some g ∧ (s.radState ≠ Rad.SLEEP ∨ st = Rad.SLEEP ∨ s.get (.gate Island.MODEM) = Gate.RUN) ∧
   (s.drainHold 15 = false ∨ Rad.STANDBY < s.radState ∨ st ≤ Rad.STANDBY) ∧
   (s.radState ≠ Rad.STANDBY ∨ st ≠ Rad.SYNTH ∨ s.radKind Kind.RAD_CAL = false) ∧ st ≠ Rad.TX ∧
   st = Rad.RX ∧ st = g ∧ u.radKind Kind.RAD_RX_WIN = true ∧ u.rad.opened = true) ∧
  (let s : State := { (puts up0 [(.RAD_STATE_STATE, Rad.RX)]) with rad := { up0.rad with goal := some Rad.TX, tx := some 1 } }
   s.up = true ∧ s.rad.goal = some Rad.TX ∧ s.radState = Rad.RX ∧ s.rad.tx.bind s.txFrame = none) ∧
  (let f : TxFrame := { txf1 with kind := .beacon }
   let s : State := { (puts up0 [(.RAD_STATE_STATE, Rad.SYNTH)]) with rad := { up0.rad with goal := some Rad.TX, tx := some 1 }, tx := [f] }
   s.up = true ∧ s.rad.goal = some Rad.TX ∧ s.radState = Rad.SYNTH ∧ s.rad.tx.bind s.txFrame = some f ∧ f.kind = .beacon) ∧
  (let f : TxFrame := txf1
   let s : State := { (puts up0 [(.RAD_STATE_STATE, Rad.SYNTH)]) with rad := { up0.rad with goal := some Rad.TX, tx := some 1 }, tx := [f] }
   s.up = true ∧ s.rad.goal = some Rad.TX ∧ s.radState = Rad.SYNTH ∧ s.rad.tx.bind s.txFrame = some f ∧ f.kind ≠ .beacon ∧
   (s.xing 4).owned.any (fun t => t.frame == f.id) = false) ∧
  (let s : State := up0
   s.up = true ∧ s.radKind Kind.RAD_CAL = false ∧ s.radKind Kind.RAD_RX_WIN = false ∧ s.radState ≠ Rad.RX ∧ s.rad.slot = none ∧
   s.rad.wait = false ∧ s.radState ≠ Rad.TX ∧ s.radState < 2) ∧
  (let s : State := { (puts up0 [(.RAD_STATE_STATE, Rad.RX)]) with rad := { up0.rad with listen := some false, chosen := some 1 } }
   s.up = true ∧ s.radState = Rad.RX ∧ s.rad.goal = none ∧ s.rad.listen = some false ∧ s.rad.chosen = some 1 ∧ s.rad.highest = none) ∧
  (let s : State := { (puts up0 [(.RAD_STATE_STATE, Rad.RX), (.RAD_LBT_TRIES, 1)]) with rad := { up0.rad with listen := some false, chosen := some 1, highest := some 0 } }
   s.up = true ∧ s.radState = Rad.RX ∧ s.rad.goal = none ∧ s.rad.listen = some false ∧ s.rad.chosen = some 1 ∧ s.rad.highest = some 0 ∧
   s.getS .RDM_CCA_THR_THR ≤ 0 ∧ s.get .RAD_LBT_TRIES ≤ s.rad.tries + 1) ∧
  (let s : State := { (puts up0 [(.RAD_STATE_STATE, Rad.RX)]) with rad := { up0.rad with listen := some true, parked := some Rad.STANDBY } }
   s.up = true ∧ s.radState = Rad.RX ∧ s.rad.goal = none ∧ s.rad.listen = some true ∧ s.rad.parked = some Rad.STANDBY) ∧
  (let s : State := { (puts up0 [(.RAD_STATE_STATE, Rad.RX)]) with rad := { up0.rad with listen := some true, highest := some (-128) } }
   s.up = true ∧ s.radState = Rad.RX ∧ s.rad.goal = none ∧ s.rad.listen = some true ∧ s.rad.parked = none) ∧
  (let k : AckSlot := { frame := 1, mode := 0, due := some (0, 1) }
   let s : State := { ((puts up0 [(.RAD_STATE_STATE, Rad.RX), ((.PG_CTRL_EN 24), 1)]).setPeer 1 Peer.ACKOWED 1) with rad := { up0.rad with slot := some k }, sch := { up0.sch with slots := (up0.sch.slots.set 5 (task .running 0x30002000)) } }
   let t := s.setRad fun r => { r with slot := none }
   let may := t.mayAck && t.takesWork (24 + 0) && t.radState == Rad.RX && t.rad.goal.isNone && t.rdm.cap.isNone
     && t.peer 1 Peer.ACKOWED == 1
   let u := t.radAck 0 1 (some k.mode)
   s.up = true ∧ s.rad.slot = some k ∧ may = true ∧ u.rad.tx.isSome = true) ∧
  (let k : AckSlot := { frame := 1, mode := 0, due := some (0, 1) }
   let s : State := { ((puts up0 [(.RAD_STATE_STATE, Rad.RX), ((.PG_CTRL_EN 24), 1), (.RAD_DUTY_CFG_LIMIT, 1)]).setPeer 1 Peer.ACKOWED 1) with rad := { up0.rad with slot := some k, duty := [100000000000] }, sch := { up0.sch with slots := (up0.sch.slots.set 5 (task .running 0x30002000)) } }
   let t := s.setRad fun r => { r with slot := none }
   let may := t.mayAck && t.takesWork (24 + 0) && t.radState == Rad.RX && t.rad.goal.isNone && t.rdm.cap.isNone
     && t.peer 1 Peer.ACKOWED == 1
   let u := t.radAck 0 1 (some k.mode)
   s.up = true ∧ s.rad.slot = some k ∧ may = true ∧ u.rad.tx = none) ∧
  (let k : AckSlot := { frame := 1, mode := 0, due := some (0, 1) }
   let s : State := { ((puts up0 [(.RAD_STATE_STATE, Rad.RX), ((.PG_CTRL_EN 24), 1), (.THM_FLAGS_OT, 1)]).setPeer 1 Peer.ACKOWED 1) with rad := { up0.rad with slot := some k }, sch := { up0.sch with slots := (up0.sch.slots.set 5 (task .running 0x30002000)) } }
   let t := s.setRad fun r => { r with slot := none }
   let may := t.mayAck && t.takesWork (24 + 0) && t.radState == Rad.RX && t.rad.goal.isNone && t.rdm.cap.isNone
     && t.peer 1 Peer.ACKOWED == 1
   s.up = true ∧ s.rad.slot = some k ∧ may = false) := by
  and_intros <;> decide

theorem witness_RadioTaskCommands :
  (let s : State := { up0 with sch := { up0.sch with slots := (up0.sch.slots.set 5 (task .running 0x40000000)) } }
   s.nativeHost = true ∧ s.accessed.radTask.isSome = true) ∧
  (let s : State := { up0 with sch := { up0.sch with slots := (up0.sch.slots.set 5 (task .running 0x40000000)) } }
   s.nativeHost = true ∧ s.accessed.holds .radio false = true) ∧
  (let s : State := { (puts up0 [(.RAD_STATE_STATE, Rad.TX)]) with rad := { up0.rad with tx := some 1 } }
   s.nativeHost = true ∧ s.accessed.radState = Rad.TX ∧ s.accessed.rad.tx.isSome = true) ∧
  (let s : State := { (puts up0 [((.PG_CTRL_EN 15), 1)]) with sch := { up0.sch with slots := (up0.sch.slots.set 5 (task .running 0x40000000)) } }
   s.up = true ∧ s.enabled 15 = true ∧ s.safe 15 = false ∧ s.radTask.isSome = true) ∧
  (let s : State := { (puts up0 [((.PG_CTRL_EN 15), 1)]) with sch := { up0.sch with slots := (up0.sch.slots.set 5 (task .running 0x40000000)) } }
   s.up = true ∧ s.enabled 15 = true ∧ s.safe 15 = false ∧ s.holds .radio false = true) ∧
  (let s : State := { (puts up0 [((.PG_CTRL_EN 15), 1), (.RAD_STATE_STATE, Rad.TX)]) with rad := { up0.rad with tx := some 1 } }
   s.up = true ∧ s.enabled 15 = true ∧ s.safe 15 = false ∧ s.radState = Rad.TX ∧ s.rad.tx.isSome = true) ∧
  (let s : State := { (puts up0 [((.PG_CTRL_EN 15), 1)]) with rdm := { up0.rdm with cap := none }, rad := { up0.rad with tx := none, opened := true, closing := false }, sch := { up0.sch with slots := ((up0.sch.slots.set 5 (task .running 0x40000000)).set 5 (task .running 0x30000000)) } }
   s.up = true ∧ s.enabled 15 = true ∧ s.safe 15 = false ∧ s.holds .radio false = true ∧
   s.radKind Kind.RAD_RX_WIN = true ∧ s.rdm.cap = none ∧ s.rad.tx = none ∧ s.rad.closing = false) ∧
  (let s : State := { (puts up0 [((.PG_CTRL_EN 15), 1)]) with sch := { up0.sch with slots := ((up0.sch.slots.set 5 (task .running 0x40000000)).set 5 (task .running 0x40000000)) } }
   s.up = true ∧ s.enabled 15 = true ∧ s.safe 15 = false ∧ s.holds .radio false = true ∧ s.radKind Kind.RAD_TX = true) ∧
  (let st : Nat := 0
   let s : State := { (puts up0 [((.PG_CTRL_EN 15), 1), (.RAD_STATE_STATE, Rad.SYNTH)]) with rad := { up0.rad with parked := some st }, sch := { up0.sch with slots := (up0.sch.slots.set 5 (task .running 0x30000000)) } }
   s.up = true ∧ s.enabled 15 = true ∧ s.safe 15 = false ∧ s.holds .radio false = true ∧ s.rad.parked = some st) ∧
  (let st : Nat := Rad.STANDBY
   let s : State := puts up0 [(.RAD_STATE_STATE, Rad.STANDBY)]
   s.radState ≠ Rad.STANDBY ∨ st ≤ Rad.STANDBY) ∧
  (let st : Nat := Rad.SYNTH
   let s : State := puts up0 [(.RAD_STATE_STATE, Rad.STANDBY), (.RAD_FREQ_N, 0)]
   let t := s.radGo st
   s.radState = Rad.STANDBY ∧ Rad.STANDBY < st ∧ inBand t.carrier = false) ∧
  (let st : Nat := Rad.RX
   let s : State := puts up0 [(.RAD_STATE_STATE, Rad.STANDBY)]
   let t := s.radGo st
   s.radState = Rad.STANDBY ∧ Rad.STANDBY < st ∧ inBand t.carrier = true ∧ t.radKind Kind.RAD_CAL = false ∧
   t.calValid t.carrier = false) ∧
  (let st : Nat := Rad.TX
   let s : State := puts up0 [(.RAD_STATE_STATE, Rad.STANDBY), (.RAD_CAL_STAT_VALID, 1), (.RAD_CAL_FREQ_N, up0.carrier)]
   let t := s.radGo st
   s.radState = Rad.STANDBY ∧ Rad.STANDBY < st ∧ inBand t.carrier = true ∧ t.calValid t.carrier = true) ∧
  (let s : State := { (puts up0 [((.PG_CTRL_EN 15), 1)]) with rad := { up0.rad with wait := true }, sch := { up0.sch with slots := ((up0.sch.slots.set 5 (task .running 0x40000000)).set 5 (task .running 0x40000000)) } }
   s.up = true ∧ s.enabled 15 = true ∧ s.safe 15 = false ∧ s.holds .radio true = true ∧ s.radKind Kind.RAD_TX = true ∧
   s.rad.wait = true) ∧
  (let s : State := { (puts up0 [((.PG_CTRL_EN 15), 1)]) with rdm := { up0.rdm with cap := none }, sch := { up0.sch with slots := (up0.sch.slots.set 5 (task .running 0x30002000)) } }
   s.up = true ∧ s.enabled 15 = true ∧ s.safe 15 = false ∧ s.holds .radio true = true ∧
   s.radKind Kind.RAD_RX_WIN = true ∧ s.rdm.cap = none ∧ s.mayAck = true) ∧
  (let s : State := up0
   s.nativeHost = true ∧ s.accessed.radTask = none ∧ s.accessed.holds .radio false = false ∧ s.accessed.radState ≠ Rad.TX) ∧
  (let s : State := { (puts up0 [((.PG_CTRL_EN 15), 1)]) with sch := { up0.sch with slots := (up0.sch.slots.set 5 (task .running 0x50000000)) } }
   s.up = true ∧ s.enabled 15 = true ∧ s.safe 15 = false ∧ s.holds .radio false = true ∧ s.radState ≠ Rad.TX ∧ s.radKind Kind.RAD_TX = false ∧
   s.radKind Kind.RAD_RX_WIN = false ∧ s.rad.parked = none) ∧
  (let s : State := { (puts up0 [((.PG_CTRL_EN 15), 1)]) with sch := { up0.sch with slots := (up0.sch.slots.set 5 (task .running 0x30000000)) }, rad := { up0.rad with closing := true } }
   s.up = true ∧ s.enabled 15 = true ∧ s.safe 15 = false ∧ s.holds .radio false = true ∧ s.radKind Kind.RAD_TX = false ∧ s.radKind Kind.RAD_RX_WIN = true ∧ s.rad.closing = true) ∧
  (let s : State := { (puts up0 [((.PG_CTRL_EN 15), 1)]) with sch := { up0.sch with slots := (up0.sch.slots.set 5 (task .running 0x40002000)) } }
   s.up = true ∧ s.enabled 15 = true ∧ s.safe 15 = false ∧ s.holds .radio true = true ∧ s.radKind Kind.RAD_TX = true ∧ s.rad.wait = false) ∧
  (let s : State := { (puts up0 [((.PG_CTRL_EN 15), 1), (.THM_FLAGS_OT, 1)]) with sch := { up0.sch with slots := (up0.sch.slots.set 5 (task .running 0x30002000)) } }
   s.up = true ∧ s.enabled 15 = true ∧ s.safe 15 = false ∧ s.holds .radio true = true ∧ s.radKind Kind.RAD_TX = false ∧ s.radKind Kind.RAD_RX_WIN = true ∧ s.mayAck = false) := by
  and_intros <;> decide

theorem witness_ModemCommands :
  (let x : LaneSync := { lane := 0, dbm := -80, ofs := 0, errs := 1 }
   let s : State := puts up0 [(.RDM_STAT_SEARCH, 1), ((.RDM_LANE_EN 0), 1)]
   s.up = true ∧ s.laneMode x.lane = some 0 ∧ x.errs ≤ s.get (.RDM_LANE_SYNCERR x.lane) ∧ s.rdm.cap = none ∧
   s.drainHold 16 = false) ∧
  (let x : LaneSync := { lane := 1, dbm := -80, ofs := 0, errs := 0 }
   let s : State := { (puts up0 [(.RDM_STAT_SEARCH, 1)]) with rdm := { up0.rdm with cap := some { cap1 with level := -86 } } }
   let t := (s.setBitAt .RDM_STAT_SYNCED x.lane true).setRad fun r => { r with synced := true }
   s.up = true ∧ s.laneMode x.lane = some 1 ∧ x.errs ≤ s.get (.RDM_LANE_SYNCERR x.lane) ∧
   s.rdm.cap = some { cap1 with level := -86 } ∧ cap1.window = true ∧ t.bit .RDM_CFG_PREEMPT = true ∧ cap1.lane ≠ x.lane ∧
   -86 + (t.get .RDM_CFG_PREDB : Int) ≤ s.level x.dbm) ∧
  (let x : LaneSync := { lane := 1, dbm := -80, ofs := 0, errs := 0 }
   let s : State := { (puts up0 [(.RDM_STAT_SEARCH, 1)]) with rdm := { up0.rdm with cap := some { cap1 with level := -85 } } }
   let t := (s.setBitAt .RDM_STAT_SYNCED x.lane true).setRad fun r => { r with synced := true }
   s.up = true ∧ s.laneMode x.lane = some 1 ∧ x.errs ≤ s.get (.RDM_LANE_SYNCERR x.lane) ∧
   s.rdm.cap = some { cap1 with level := -85 } ∧ s.level x.dbm < -85 + (t.get .RDM_CFG_PREDB : Int)) ∧
  (let x : LaneSync := { lane := 1, dbm := -80, ofs := 0, errs := 2 }
   let s : State := up0
   s.up = true ∧ s.laneMode x.lane = none ∧ s.get (.RDM_LANE_SYNCERR x.lane) < x.errs) ∧
  (let s : State := { (puts up0 [(.RDM_STAT_SEARCH, 1)]) with rad := { up0.rad with wait := true } }
   s.bit .RDM_STAT_SEARCH = true ∧ s.rad.wait = true) ∧
  (let s : State := puts up0 [(.RDM_STAT_SEARCH, 1)]
   s.bit .RDM_STAT_SEARCH = true ∧ s.rad.wait = false ∧ s.bit (.RDM_LANE_EN 1) = true ∧ s.bit (.RDM_LANE_EN 0) = false) ∧
  (let x : LaneSync := { lane := 1, dbm := -80, ofs := 0, errs := 0 }
   let y : LaneSync := { lane := 0, dbm := -81, ofs := 0, errs := 0 }
   let s : State := up0
   s.up = true ∧ s.level y.dbm < s.level x.dbm) ∧
  (let x : LaneSync := { lane := 0, dbm := -128, ofs := 0, errs := 0 }
   let y : LaneSync := { lane := 1, dbm := -127, ofs := 0, errs := 0 }
   let s : State := up0
   s.level y.dbm = s.level x.dbm ∧ x.lane < y.lane) ∧
  (let c : Capture := cap1
   let hard : List Bool := []
   let s : State := { up0 with rdm := { up0.rdm with cap := some c } }
   s.up = true ∧ s.rdm.cap = some c ∧ c.window = true ∧ c.mode = 0 ∧
    (let len := (readLegacy (toBytes (whiten (hard.take 32)))).len
     len ≤ 192)) ∧
  (let c : Capture := cap1
   let hard : List Bool := whiten (bytesBits [0, 0, 0, 0xFF])
   let s : State := { up0 with rdm := { up0.rdm with cap := some c } }
   s.up = true ∧ s.rdm.cap = some c ∧ c.window = true ∧ c.mode = 0 ∧
    (let len := (readLegacy (toBytes (whiten (hard.take 32)))).len
     192 < len)) ∧
  (let c : Capture := { cap1 with mode := 1 }
   let s : State := { up0 with rdm := { up0.rdm with cap := some c } }
   let r := s.rxBegin 5 2 c.mode (List.replicate 48 (-31)) (rssiByte c.level) c.mark
   s.up = true ∧ s.rdm.cap = some c ∧ c.window = true ∧ c.mode ≠ 0 ∧ r.2.1 = true ∧ r.2.2.rdm.cap.isSome = true) ∧
  (let c : Capture := { cap1 with mode := 1 }
   let s : State := { up0 with rdm := { up0.rdm with cap := some c } }
   let r := s.rxBegin 5 2 c.mode goodPhr (rssiByte c.level) c.mark
   s.up = true ∧ s.rdm.cap = some c ∧ c.window = true ∧ c.mode ≠ 0 ∧ r.2.1 = false) ∧
  (let c : Capture := { cap1 with mode := 1, window := false }
   let s : State := { up0 with rdm := { up0.rdm with cap := some c } }
   s.up = true ∧ s.rdm.cap = some c ∧ c.mode ≠ 0 ∧ c.window = false ∧ c.frame = none) ∧
  (let c : Capture := { cap1 with mode := 1, window := false, frame := some 1 }
   let f : RxFrame := { rxf1 with xing := 5, gen := 2 }
   let s : State := { up0 with rdm := { up0.rdm with cap := some c }, rx := [f] }
   s.up = true ∧ s.rdm.cap = some c ∧ c.mode ≠ 0 ∧ c.window = false ∧ c.frame = some 1 ∧ s.rxFrame 1 = some f ∧
   (hardHeader (f.llrs ++ goodHeader)).isSome = true ∧ (s.rxItem 1 goodHeader true true).1 = true) ∧
  (let c : Capture := { cap1 with mode := 1, window := false, frame := some 1 }
   let f : RxFrame := { rxf1 with xing := 5, gen := 2 }
   let s : State := { up0 with rdm := { up0.rdm with cap := some c }, rx := [f], used := List.range 384 }
   s.up = true ∧ s.rdm.cap = some c ∧ c.mode ≠ 0 ∧ c.window = false ∧ c.frame = some 1 ∧ s.rxFrame 1 = some f ∧
   (hardHeader (f.llrs ++ goodHeader)).isSome = true ∧ (s.rxItem 1 goodHeader true true).1 = false) ∧
  (let c : Capture := { cap1 with window := false }
   let s : State := { up0 with rdm := { up0.rdm with cap := some c } }
   s.up = true ∧ s.rdm.cap = some c ∧ c.mode = 0 ∧ c.window = false ∧
   (s.rxLegacy 5 1 0 (List.replicate 48 false) (rssiByte c.level) c.mark).1.isSome = true) ∧
  (let c : Capture := { cap1 with window := false }
   let s : State := { up0 with rdm := { up0.rdm with cap := some c }, used := List.range 384 }
   s.up = true ∧ s.rdm.cap = some c ∧ c.mode = 0 ∧ c.window = false ∧
   (s.rxLegacy 5 1 0 (List.replicate 48 false) (rssiByte c.level) c.mark).1 = none) ∧
  (let s : State := puts up0 [(.RAD_STATE_STATE, Rad.RX)]
   s.up = true ∧ s.radState = Rad.RX ∧ s.rad.goal = none ∧ s.rad.listen = none ∧
   s.level (-80) < s.getS .RDM_RSSI_CFG_HI ∧ s.getS .RDM_RSSI_CFG_LO ≤ s.level (-80) ∧
   s.getS .RDM_RSSI_CFG_HI ≤ s.level (-60) ∧ s.level (-101) < s.getS .RDM_RSSI_CFG_LO) ∧
  (let s : State := { (puts up0 [(.RAD_STATE_STATE, Rad.RX)]) with rad := { up0.rad with listen := some true, highest := some (-90) } }
   s.up = true ∧ s.radState = Rad.RX ∧ s.rad.goal = none ∧ s.rad.listen = some true ∧ s.rad.highest = some (-90)) ∧
  (let s : State := up0
   s.up = true ∧ s.radState ≠ Rad.RX) ∧
  (let s : State := puts up0 [(.SYS_ROLE_ROLE, 1)]
   s.nativeHost = true ∧ s.accessed.hub = true) ∧
  (let s : State := up0
   s.nativeHost = true ∧ s.accessed.hub = false) ∧
  (let s : State := up0
   s.nativeHost = true) ∧
  (let s : State := { up0 with sch := { up0.sch with slots := (up0.sch.slots.set 5 (task .running 0x30002000)) } }
   s.nativeHost = true ∧ s.accessed.radKind Kind.RAD_RX_WIN = true ∧ s.accessed.holds .radio false = true) ∧
  (let s : State := { up0 with sch := { up0.sch with slots := (up0.sch.slots.set 5 (task .running 0x30000000)) } }
   s.nativeHost = true ∧ s.accessed.radKind Kind.RAD_RX_WIN = true) ∧
  (let s : State := { (puts up0 [((.PG_CTRL_EN 16), 1)]) with sch := { up0.sch with slots := (up0.sch.slots.set 5 (task .running 0x30002000)) } }
   s.up = true ∧ s.enabled 16 = true ∧ s.safe 16 = false ∧ s.radKind Kind.RAD_RX_WIN = true ∧
   s.holds .radio false = true) ∧
  (let s : State := { (puts up0 [((.PG_CTRL_EN 16), 1)]) with sch := { up0.sch with slots := (up0.sch.slots.set 5 (task .running 0x30000000)) } }
   s.up = true ∧ s.enabled 16 = true ∧ s.safe 16 = false ∧ s.radKind Kind.RAD_RX_WIN = true) ∧
  (let s : State := up0
   s.up = true) ∧
  (let s : State := puts up0 [((.PG_STAT_DRAINHOLD 16), 1)]
   s.up = true ∧ s.drainHold 16 = true ∧ s.rdm.cap = none) ∧
  (let s : State := up0
   s.up = true ∧ s.rdm.cap = none) ∧
  (let s : State := { (up0) with rdm := { up0.rdm with cap := some { cap1 with window := false } } }
   s.up = true ∧ s.rdm.cap = some { cap1 with window := false }) ∧
  (let s : State := { (up0) with rdm := { up0.rdm with cap := some cap1 } }
   s.up = true ∧ s.rdm.cap = some cap1 ∧ cap1.window = true) ∧
  (let c : Capture := { cap1 with mode := 1, window := false, frame := some 1 }
   let s : State := { (up0) with rdm := { up0.rdm with cap := some c } }
   s.up = true ∧ s.rdm.cap = some c ∧ c.mode ≠ 0 ∧ c.window = false ∧ c.frame = some 1 ∧ s.rxFrame 1 = none) ∧
  (let c : Capture := { cap1 with mode := 1, window := false, frame := some 1 }
   let f : RxFrame := { rxf1 with xing := 5, gen := 2, phr := 0 }
   let s : State := { up0 with rdm := { up0.rdm with cap := some c }, rx := [f], used := List.range 384 }
   let r := s.rxItem 1 [] true true
   s.up = true ∧ s.rdm.cap = some c ∧ c.mode ≠ 0 ∧ c.window = false ∧ c.frame = some 1 ∧ s.rxFrame 1 = some f ∧
   hardHeader (f.llrs ++ []) = none ∧ r.1 = false) ∧
  (let c : Capture := { cap1 with mode := 1, window := false, frame := some 1 }
   let f : RxFrame := { rxf1 with xing := 5, gen := 2, phr := 0 }
   let s : State := { up0 with rdm := { up0.rdm with cap := some c }, rx := [f] }
   let r := s.rxItem 1 [] true true
   s.up = true ∧ s.rdm.cap = some c ∧ c.mode ≠ 0 ∧ c.window = false ∧ c.frame = some 1 ∧ s.rxFrame 1 = some f ∧
   hardHeader (f.llrs ++ []) = none ∧ r.1 = true ∧ f.ncw = 1) ∧
  (let c : Capture := { cap1 with mode := 1, window := false, frame := some 1 }
   let f : RxFrame := { rxf1 with xing := 5, gen := 2, phr := 0xC8 }
   let s : State := { up0 with rdm := { up0.rdm with cap := some c }, rx := [f] }
   let r := s.rxItem 1 [] true true
   s.up = true ∧ s.rdm.cap = some c ∧ c.mode ≠ 0 ∧ c.window = false ∧ c.frame = some 1 ∧ s.rxFrame 1 = some f ∧
   hardHeader (f.llrs ++ []) = none ∧ r.1 = true ∧ f.ncw ≠ 1) ∧
  (let s : State := { (up0) with rad := { up0.rad with goal := some Rad.RX } }
   s.up = true ∧ s.rad.goal.isSome = true) ∧
  (let s : State := { (puts up0 [(.RAD_STATE_STATE, Rad.RX)]) with rad := { up0.rad with listen := some false } }
   s.up = true ∧ s.radState = Rad.RX ∧ s.rad.goal = none ∧ s.rad.listen.isSome = true) ∧
  (let s : State := puts up0 [(.RAD_STATE_STATE, Rad.RX), (.RDM_RSSI_CFG_HI, 150), (.RDM_RSSI_CFG_LO, 200)]
   s.up = true ∧ s.radState = Rad.RX ∧ s.rad.goal = none ∧ s.getS .RDM_RSSI_CFG_HI ≤ s.level (-80) ∧
   s.level (-80) < s.getS .RDM_RSSI_CFG_LO) ∧
  (let s : State := up0
   s.nativeHost = true ∧ s.accessed.radKind Kind.RAD_RX_WIN = false) ∧
  (let s : State := { (puts up0 [((.PG_CTRL_EN 16), 1)]) with sch := { up0.sch with slots := (up0.sch.slots.set 5 (task .running 0x40000000)) } }
   s.up = true ∧ s.enabled 16 = true ∧ s.safe 16 = false ∧ s.radKind Kind.RAD_RX_WIN = false ∧ s.holds .radio false = true) := by
  and_intros <;> decide +kernel

theorem witness_NfcFieldCommands :
  (let p := fun st l => inField 0x10000000 ((.PG_CTRL_EN 12, 1) :: l) fun f => { f with stage := st }
   let q := inField 0 [(.PG_CTRL_EN 12, 1)] id
   (∀ s ∈ [p .off [], p .off [(.PG_STAT_DRAINHOLD 12, 1)], p .falling [], p .on [], q],
     s.up = true ∧ s.enabled 12 = true ∧ s.safe 12 = false ∧ s.holds .field false = true) ∧
   q.nfcServing = false ∧ (p .off []).nfcServing = true ∧ (p .off []).drainHold 12 = false ∧
   (p .off [(.PG_STAT_DRAINHOLD 12, 1)]).drainHold 12 = true ∧ (p .on []).nfc.stage ≠ .off ∧ (p .on []).nfc.stage ≠ .falling) ∧
  (let p := fun w => inField w [(.gate Island.NFC, Gate.RUN)] fun f => { f with stage := .checking }
   let leg : State := { p 0 with
     leg := { up0.leg with bound := true }, sch := { up0.sch with slots := up0.sch.slots.set 63 (task .running 0x20000000) } }
   (∀ s ∈ [p 0, p 0x90000000, p 0x10000000, leg],
     s.up = true ∧ s.nfc.stage = .checking ∧ s.nfcRuns = true ∧ 0 < s.get .NFC_EXT_CFG_THR ∧ s.get .NFC_EXT_CFG_THR ≤ 255) ∧
   (p 0).fieldKind Kind.COMET = true ∧ (p 0x90000000).fieldKind Kind.TUNE_SWEEP = true ∧
   (p 0x10000000).nfcServing = true ∧ (p 0x10000000).legacyTask = false ∧ leg.nfcServing = true ∧ leg.legacyTask = true ∧
   up0.up = true ∧ up0.nfc.stage ≠ .checking ∧ (noField [] fun f => { f with stage := .checking }).nfcRuns = false) ∧
  (let p := fun w => inField w [(.gate Island.NFC, Gate.RUN)] fun f => { f with stage := .ramping }
   (∀ s ∈ [p 0, p 0x90000000, p 0x20000000], s.up = true ∧ s.nfc.stage = .ramping ∧ s.nfcRuns = true) ∧
   (p 0).fieldKind Kind.COMET = true ∧ (p 0x90000000).fieldKind Kind.TUNE_SWEEP = true ∧ (p 0x20000000).nfcServing = true ∧
   up0.nfc.stage ≠ .ramping ∧ (noField [] fun f => { f with stage := .ramping }).nfcRuns = false) ∧
  ((inField 0 [] id).up = true ∧ (inField 0 [] id).fieldKind Kind.COMET = true ∧ up0.nfc.stage ≠ .on ∧
   (noField [] fun f => { f with stage := .on }).bit .NFC_STAT_FIELD = false) ∧
  (let p := fun l f => noField ((.NFC_STAT_FIELD, 1) :: l) fun x => f { x with stage := .on }
   let far : Int := 60000
   let armed := p [(.NFC_TUNE_CFG_MCONF, 1), (.NFC_TUNE_CFG_AUTO, 0)] fun f => { f with armed := true }
   let auto := p [(.NFC_TUNE_CFG_MCONF, 1), (.NFC_TUNE_CFG_AUTO, 1)] fun f => { f with armed := true }
   (∀ s ∈ [p [] id, armed, auto], s.up = true ∧ s.nfc.stage = .on ∧ s.bit .NFC_STAT_FIELD = true ∧ s.fieldKind Kind.COMET = false ∧
     mismatchQ 0 ≤ (s.showQ 0).get .NFC_TUNE_CFG_QTHR ∧ (s.showQ far).get .NFC_TUNE_CFG_QTHR < mismatchQ far) ∧
   (let u := fun s : State => (s.showQ far).sat .NFC_MISMATCH_Q_CNT
    (u (p [(.NFC_STAT_NOREARM, 1)] id)).bit .NFC_STAT_NOREARM = true ∧
    (u (p [(.NFC_TUNE_CFG_MCONF, 2)] id)).get .NFC_MISMATCH_Q_CNT < 2 ∧ (u (p [] fun f => { f with armed := false })).nfc.armed = false ∧
    (∀ s ∈ [armed, auto], (u s).nfc.armed = true ∧ (u s).bit .NFC_STAT_NOREARM = false ∧
      (u s).get .NFC_TUNE_CFG_MCONF ≤ (u s).get .NFC_MISMATCH_Q_CNT) ∧
    (u armed).bit .NFC_TUNE_CFG_AUTO = false ∧ (u auto).bit .NFC_TUNE_CFG_AUTO = true)) ∧
  ((inField 0 [] id).nativeHost = true ∧ (inField 0x10000000 [] id).nativeHost = true ∧ up0.nativeHost = true ∧
    up0.accessed.fieldTask = none ∧ (inField 0 [] id).accessed.fieldKind Kind.COMET = true ∧
    (inField 0x10000000 [] id).accessed.fieldTask.isSome = true ∧ (inField 0x10000000 [] id).accessed.fieldKind Kind.COMET = false) ∧
  (∀ s ∈ [noField [(.PG_CTRL_EN 12, 1)] id, inField 0 [(.PG_CTRL_EN 12, 1)] id, inField 0x10000000 [(.PG_CTRL_EN 12, 1)] id],
    s.up = true ∧ s.enabled 12 = true ∧ s.safe 12 = false) ∧
  (let p := fun again => inField 0x10000000 [] fun f => { f with stage := .falling, again := again }
   (p false).up = true ∧ (p true).up = true ∧ (p true).nfc.again = true ∧ (p true).fieldTask.isSome = true ∧
   (p true).nfc.stage = .falling ∧ (p false).nfc.again = false ∧ up0.nfc.stage ≠ .falling) ∧
  (let s := noField [] fun f => { f with stage := .on, sagged := false }
   s.up = true ∧ s.nfc.stage = .on ∧ s.nfc.sagged = false ∧ 0 < 2700 + 100 * s.get .NFC_DRV_LVL_SAGV ∧
   2700 + 100 * s.get .NFC_DRV_LVL_SAGV ≤ 6000) ∧
  ((noField [] fun f => { f with stage := .ramping }).nfc.stage = .ramping ∧ up0.nfc.stage ≠ .on ∧ up0.nfc.stage ≠ .ramping) := by
  and_intros <;> decide

theorem witness_TunerAndCometCommands :
  (let s : State := { up0 with sch := { up0.sch with slots := (up0.sch.slots.set 6 (task .waiting 0x90000000)) } }
   s.up = true ∧ s.kindWaiting Kind.TUNE_SWEEP = true) ∧
  (let s : State := { up0 with sch := { up0.sch with slots := (up0.sch.slots.set 6 (task .waiting 0x0)) } }
   s.up = true ∧ s.kindWaiting Kind.COMET = true) ∧
  (let p := fun w => inField 0x90000000 [] fun f => { f with stage := .on, sweep := some w }
   let w : Sweep := { sweep1 with made := 1, best := 100 }
   let stop : State := { p w with
     sch := { up0.sch with slots := up0.sch.slots.set 5 { task .running 0x90000000 with preempt := true } } }
   (∀ s ∈ [p sweep1, p w, stop], s.up = true ∧ s.nfc.stage = .on) ∧
   (p sweep1).nfc.sweep = some sweep1 ∧ sweep1.made = 0 ∧ (p w).nfc.sweep = some w ∧ stop.nfc.sweep = some w ∧ w.made ≠ 0 ∧
   mismatchQ 0 < w.best ∧ w.best ≤ mismatchQ 30000 ∧ (stop.fieldTask.bind fun i => (stop.slot i).stopEnd).isSome = true ∧
   ((p w).fieldTask.bind fun i => ((p w).slot i).stopEnd) = none ∧ up0.up = true ∧ up0.nfc.sweep = none) ∧
  (let p := fun st => noField [(.PG_CTRL_EN 12, 1), (.NFC_COMET_IVL_IVL, 1), (.NFC_STAT_STATE, st)]
   (∀ s ∈ [p Comet.CLEAR id, p Comet.CARD id, p Comet.CLEAR fun f => { f with hands := 1 }],
     s.up = true ∧ s.enabled 12 = true ∧ s.safe 12 = false ∧ s.get .NFC_COMET_IVL_IVL ≠ 0) ∧
   (p Comet.CLEAR id).get .NFC_STAT_STATE = Comet.CLEAR ∧ (p Comet.CLEAR id).cometCounting = false ∧
   (p Comet.CARD id).get .NFC_STAT_STATE ≠ Comet.CLEAR ∧ (p Comet.CLEAR fun f => { f with hands := 1 }).cometCounting = true ∧
   up0.enabled 12 = false ∧ (noField [(.PG_CTRL_SAFE 12, 1)] id).safe 12 = true) ∧
  (let s := inField 0 [] fun f => { f with stage := .on }
   s.up = true ∧ s.fieldKind Kind.COMET = true ∧ s.nfc.stage = .on ∧ up0.up = true ∧ up0.fieldKind Kind.COMET = false) ∧
  (let p := fun amp l => inField 0 l fun f => { f with meas := some (amp, 0), stage := .off }
   let based := [(.NFC_STAT_BASEV, 1), (.NFC_BASE_AMP_AMP, 1024)]
   let read := fun (s : State) (amp : Nat) =>
     let t := (s.put .NFC_COMET_STAT_AMP amp).put .NFC_COMET_STAT_PH 0
     (t, t.cometClass (t.relDrop (t.get .NFC_BASE_AMP_AMP) amp).1 (phaseDiff 0 (t.get .NFC_BASE_PH_PH)))
   (∀ s ∈ [p 1024 [], p 1024 based, p 0 based], s.up = true ∧ s.nfc.meas.isSome = true ∧ s.fieldKind Kind.COMET = true ∧ s.nfc.stage = .off) ∧
   (read (p 1024 []) 1024).1.bit .NFC_STAT_BASEV = false ∧ (read (p 1024 based) 1024).1.bit .NFC_STAT_BASEV = true ∧
   (read (p 1024 based) 1024).2 = Comet.CLEAR ∧ (read (p 1024 based) 1024).1.get .NFC_STAT_STATE = Comet.CLEAR ∧
   (read (p 0 based) 0).1.get .NFC_BASE_AMP_AMP ≠ 0 ∧ (read (p 0 based) 0).2 ≠ Comet.CLEAR ∧ up0.nfc.meas = none) ∧
  (let p := fun lows => inField 0x10000000 [] fun f => { f with stage := .on, ref := some 1024, lows := lows }
   let q := inField 0x10000000 [] fun f => { f with stage := .on }
   (∀ s ∈ [q, p 0, p 15], s.up = true ∧ s.nfc.stage = .on ∧ s.nfcServing = true) ∧ q.nfc.ref = none ∧
   ((p 0).relDrop 1024 1024).1 < (p 0).get .NFC_CARD_THR_REL ∧
   ((p 0).get .NFC_CARD_THR_REL : Int) ≤ ((p 0).relDrop 1024 0).1 ∧ (p 0).nfc.lows < 15 ∧
   ((p 15).get .NFC_CARD_THR_REL : Int) ≤ ((p 15).relDrop 1024 0).1 ∧ 15 ≤ (p 15).nfc.lows ∧ up0.nfcServing = false) ∧
  (let s : State := up0
   s.nativeHost = true) ∧
  (let s := inField 0x10000000 [(.PG_CTRL_EN 12, 1)] id
   s.up = true ∧ s.enabled 12 = true ∧ s.safe 12 = false ∧ s.holds .field false = true) := by
  and_intros <;> decide

theorem witness_NfcProtocolCommands :
  (let s : State := { up0 with sch := { up0.sch with slots := (up0.sch.slots.set 6 (task .waiting 0x10000000)) } }
   s.up = true ∧ s.kindWaiting Kind.NFC_POLL = true) ∧
  (let p := fun g h x => inTask 0x10000000 [] fun n => { n with cur := x, guard := g, gap := h }
   let idle := some { xch1 with stage := .listening }
   (∀ s ∈ [p true false (some xch1), p false true (some xch1), p true true (some xch1), p true true idle, p true true none], s.up = true) ∧
   (∀ s ∈ [p true false (some xch1), p false true (some xch1), p true true (some xch1)], s.nfp.cur = some xch1) ∧ xch1.stage = .waiting ∧
   (p true false (some xch1)).nfp.guard = true ∧ (p true false (some xch1)).nfp.gap = false ∧
   (p false true (some xch1)).nfp.gap = true ∧ (p false true (some xch1)).nfp.guard = false ∧
   (p true true (some xch1)).nfp.gap = true ∧ (p true true (some xch1)).nfp.guard = true ∧
   (p true true idle).nfp.cur = some { xch1 with stage := .listening } ∧ (p true true none).nfp.cur = none ∧ (p true true none).nfp.gap = true) ∧
  (let q : PollStep := { step1 with isOver := true }
   let p := fun w l => inTask w [] fun n => { n with step := some q, held := none, todo := l }
   let leg := inLegacy false fun n => { n with step := some q }
   (∀ s ∈ [p 0x10000000 [], p 0x10000000 [.discovery 1], p 0x10000000 [.read], p 0x20000000 [], leg],
     s.up = true ∧ s.nfp.step = some q ∧ s.nfp.held = none) ∧ q.isOver = true ∧
   (p 0x10000000 []).legacyTask = false ∧ (p 0x10000000 []).fieldKind Kind.NFC_TXN = false ∧
   (p 0x20000000 []).fieldKind Kind.NFC_TXN = true ∧ (p 0x10000000 [.discovery 1]).nfp.todo = [.discovery 1] ∧
   (p 0x10000000 [.read]).nfp.todo = [.read] ∧ (p 0x10000000 [.read]).legacyTask = false ∧ leg.legacyTask = true ∧ leg.nfp.todo = [] ∧
   up0.nfp.step = none ∧ step1.isOver = false) ∧
  (let p := fun w => inTask w [] id
   (p 0x10000000).nativeHost = true ∧ (p 0x10000000).accessed.fieldKind Kind.NFC_POLL = true ∧
   (p 0x10000000).accessed.nfcServing = true ∧ up0.nativeHost = true ∧ up0.accessed.fieldKind Kind.NFC_POLL = false ∧
   up0.accessed.nfcServing = false) ∧
  (let p := fun w => inTask w [(.PG_CTRL_EN 13, 1)] id
   let both : State := { p 0x10000000 with latches := [46, 49] }
   (∀ s ∈ [p 0, p 0x10000000, both], s.up = true ∧ s.enabled 13 = true ∧ s.safe 13 = false ∧ s.holds .field false = true) ∧
   (p 0x10000000).fieldKind Kind.NFC_POLL = true ∧ (p 0x10000000).latches.contains 49 = false ∧ both.latches.contains 49 = true ∧
   (p 0).fieldKind Kind.NFC_POLL = false ∧ (p 0x10000000).nfcServing = true ∧ (p 0).nfcServing = false) ∧
  (let p := fun x => inTask 0x10000000 [] fun n => { n with cur := some x, step := some step1 }
   let leg := fun stop w => inLegacy stop fun n => { n with cur := some { cmd1 w .sending with owner := .legacy } }
   (∀ s ∈ [p (cmd1 0 .sending), p (cmd1 0x40000000 .sending), leg false 0, leg true 0, leg true 0x40000000,
      p { xch1 with frame := .hlta, stage := .sending }, p { xch1 with stage := .sending }, p (cmd1 0 .blank)], s.up = true) ∧
   nfcOp 0 ≠ 1 ∧ nfcOp 0x40000000 = 1 ∧ (cmd1 0 .sending).owner ≠ .legacy ∧ (cmd1 0 .sending).stage = .sending ∧
   (leg true 0).legacyTask = true ∧ (leg true 0).leg.stop = true ∧ (leg true 0).legacyFieldOn = false ∧
   (p { xch1 with frame := .hlta, stage := .sending }).nfp.step = some step1 ∧ step1.kind ≠ .presence ∧
   (inTask 0x10000000 [] fun n => { n with step := some { step1 with kind := .presence } }).nfp.step = some { step1 with kind := .presence } ∧
   xch1.frame = .reqa ∧
   (cmd1 0 .blank).stage ≠ .sending ∧ up0.nfp.cur = none) ∧
  (let s := inTask 0x10000000 [] fun n => { n with cur := some (cmd1 0 .blank) }
   s.up = true ∧ s.nfp.cur = some (cmd1 0 .blank) ∧ (cmd1 0 .blank).stage = .blank ∧ (cmd1 0 .sending).stage ≠ .blank) ∧
  (let p := fun k x => inTask 0x10000000 [] fun n => { n with cur := some x, step := some { step1 with kind := k } }
   let x := fun f => ({ xch1 with frame := f, stage := .listening } : Exchange)
   (∀ k ∈ ([.discovery 0, .discovery 2, .discovery 3, .presence] : List StepKind),
     ∀ f ∈ ([.reqa, .inventory 16 0 0, .sensf 1, .select 0 []] : List NfcFrame),
       (p k (x f)).up = true ∧ (p k (x f)).nfp.cur = some (x f) ∧ (x f).stage = .listening ∧ (x f).owner = .step ∧
       (p k (x f)).nfp.step = some { step1 with kind := k }) ∧
   (p .presence (cmd1 0 .listening)).nfp.cur = some (cmd1 0 .listening) ∧ (cmd1 0 .listening).owner ≠ .step) ∧
  (let x : Exchange := { xch1 with frame := .inventory 16 0 0, stage := .blank }
   let p := fun n => inTask 0x10000000 [] fun f => { f with cur := some x, step := some { step1 with slot := n } }
   (∀ s ∈ [p 14, p 15], s.up = true ∧ s.nfp.cur = some x ∧ s.nfp.step.isSome = true) ∧ x.stage = .blank ∧ x.frame = .inventory 16 0 0) ∧
  (let x : Exchange := { xch1 with frame := .sensf 0, stage := .listening }
   let p := fun q => inTask 0x10000000 [] fun f => { f with cur := some x, step := some q }
   (∀ q ∈ [step1, { step1 with bad := true, rounds := 1 }, { step1 with kind := .presence }],
     (p q).up = true ∧ (p q).nfp.cur = some x ∧ (p q).nfp.step = some q) ∧ x.frame = .sensf 0 ∧ x.stage = .listening ∧
   step1.kind ≠ .presence ∧ step1.bad = false) ∧
  (let s := inTask 0x10000000 [] fun n => { n with serving := true, cur := none, held := none, step := none }
   s.up = true ∧ s.nfcServing = true ∧ s.nfp.serving = true ∧ s.nfp.cur = none ∧ s.nfp.held = none ∧ s.nfp.step = none ∧
   s.legacyTask = false ∧ (s.xing (txQ s.fieldEngine)).owned = []) ∧
  (let s : State := { up0 with nfp := { up0.nfp with tags := up0.nfp.tags.set 0 { Tag.none with valid := true } } }
   s.nativeHost = true ∧ (s.accessed.tag (s.accessed.get .NFP_TAGSEL_ENTRY)).valid = true ∧
   (up0.accessed.tag (up0.accessed.get .NFP_TAGSEL_ENTRY)).valid = false) := by
  and_intros <;> decide

theorem witness_GpiCommands :
  (let n : Fin 12 := 11
   let s : State := { (puts up0 [((.PG_CTRL_EN 17), 1), ((.GPI_CFG_MODE n), GpMode.BUTTON)]) with gpi := { up0.gpi with pins := up0.gpi.pins.set 11 { GpPin.reset with count := 255 } } }
   s.up = true ∧ s.gpiWatches = true ∧ s.gpMode n = GpMode.BUTTON ∧ s.gpDebounce n ≤ (s.gp n).count) ∧
  (let n : Fin 12 := 0
   let s : State := puts up0 [((.PG_CTRL_EN 17), 1), ((.GPI_CFG_MODE n), GpMode.BUTTON)]
   s.up = true ∧ s.gpiWatches = true ∧ s.gpMode n = GpMode.BUTTON ∧ (s.gp n).count < s.gpDebounce n) ∧
  (let n : Fin 12 := 0
   let s : State := { (puts up0 [((.PG_CTRL_EN 17), 1), ((.GPI_CFG_MODE n), GpMode.PLUG)]) with gpi := { up0.gpi with pins := up0.gpi.pins.set 0 { GpPin.reset with count := 50 } } }
   s.up = true ∧ s.gpiWatches = true ∧ s.gpMode n = GpMode.PLUG ∧ s.gpDebounce n ≤ (s.gp n).count) ∧
  (let n : Fin 12 := 11
   let s : State := puts up0 [((.PG_CTRL_EN 17), 1), ((.GPI_CFG_MODE n), GpMode.OUT)]
   s.up = true ∧ (up0.gpiWatches = false ∧ s.gpMode n ≠ GpMode.BUTTON ∧ s.gpMode n ≠ GpMode.PLUG)) ∧
  (let n : Fin 12 := 11
   let k : Nat := 7
   let s : State := { (puts up0 [((.PG_CTRL_EN 17), 1), ((.GPI_CFG_LONGEN n), 1)]) with gpi := { up0.gpi with pins := up0.gpi.pins.set 11 { GpPin.reset with press := some 7 } } }
   s.up = true ∧ s.gpiWatches = true ∧ s.debounceDue n = false ∧ (s.gp n).press = some k ∧
   s.bit (.GPI_CFG_LONGEN n) = true ∧ (s.gp n).longed = false) ∧
  (let n : Fin 12 := 11
   let k : Nat := 7
   let s : State := { (puts up0 [((.PG_CTRL_EN 17), 1), ((.GPI_CFG_RPTEN n), 1)]) with gpi := { up0.gpi with pins := up0.gpi.pins.set 11 { GpPin.reset with press := some 7 } } }
   s.up = true ∧ s.gpiWatches = true ∧ s.debounceDue n = false ∧ (s.gp n).press = some k ∧
   s.bit (.GPI_CFG_RPTEN n) = true ∧ (s.gp n).lastRpt = none) ∧
  (let n : Fin 12 := 0
   let k : Nat := 7
   let l : Nat := 500007
   let s : State := { (puts up0 [((.PG_CTRL_EN 17), 1), ((.GPI_CFG_RPTEN n), 1)]) with gpi := { up0.gpi with pins := up0.gpi.pins.set 0 { GpPin.reset with press := some 7, lastRpt := some 500007 } } }
   s.up = true ∧ s.gpiWatches = true ∧ s.debounceDue n = false ∧ (s.gp n).press = some k ∧
   s.bit (.GPI_CFG_RPTEN n) = true ∧ (s.gp n).lastRpt = some l) ∧
  (let n : Fin 12 := 11
   let s : State := up0
   let u : State := { (puts up0 [((.PG_CTRL_EN 17), 1), ((.GPI_CFG_MODE n), GpMode.BUTTON)]) with gpi := { up0.gpi with pins := up0.gpi.pins.set 11 { GpPin.reset with count := 20, longed := true } } }
   s.up = true ∧ (s.gp n).press = none ∧ s.gpiWatches = false ∧ s.bit (.GPI_CFG_LONGEN n) = false ∧
   s.bit (.GPI_CFG_RPTEN n) = false ∧ u.up = true ∧ u.debounceDue n = true ∧ (u.gp n).longed = true) ∧
  (let a : Bool := true
   let b : Bool := false
   let old : Bool × Bool := (false, false)
   let s : State := { (puts up0 [((.PG_CTRL_EN 17), 1), (.GPI_KNOB_EN, 1), (.GPI_KNOB_X4, 1)]) with gpi := { up0.gpi with knob := some old } }
   let g : Int := (knobSign old (a, b)).getD 0
   s.up = true ∧ s.gpiWatches = true ∧ s.bit .GPI_KNOB_EN = true ∧ s.bit .GPI_KNOB_X4 = true ∧ s.gpi.knob = some old ∧
   knobSign old (a, b) = some g ∧ g ≠ 0 ∧ knobSign old (true, true) = none ∧ knobSign old old = some 0) ∧
  (let s : State := puts up0 [((.PG_CTRL_EN 17), 1), (.GPI_KNOB_EN, 1)]
   s.up = true ∧ s.gpiWatches = true ∧ s.bit .GPI_KNOB_EN = true ∧ s.gpi.knob = none) ∧
  (let old : Bool × Bool := (true, false)
   let s : State := { (puts up0 [((.PG_CTRL_EN 17), 1), (.GPI_KNOB_EN, 1), (.GPI_KNOB_DETENT, 1), (.GPI_KNOBCNT_SUB, 3)]) with gpi := { up0.gpi with knob := some old } }
   s.up = true ∧ s.gpiWatches = true ∧ s.bit .GPI_KNOB_EN = true ∧ s.bit .GPI_KNOB_X4 = false ∧ s.gpi.knob = some old ∧
   knobSign old (true, true) = some 1 ∧ (true, true) = (s.bit .GPI_KNOB_DETENT, s.bit .GPI_KNOB_DETENT) ∧
   s.knobSub + 1 = 4 ∧ knobSign old (false, false) = some (-1) ∧
   (false, false) ≠ (s.bit .GPI_KNOB_DETENT, s.bit .GPI_KNOB_DETENT)) ∧
  (let old : Bool × Bool := (false, true)
   let s : State := { (puts up0 [((.PG_CTRL_EN 17), 1), (.GPI_KNOB_EN, 1), (.GPI_KNOB_DETENT, 1), (.GPI_KNOBCNT_SUB, 13)]) with gpi := { up0.gpi with knob := some old } }
   let u : State := s.put .GPI_KNOBCNT_SUB 1
   s.up = true ∧ s.gpiWatches = true ∧ s.bit .GPI_KNOB_EN = true ∧ s.bit .GPI_KNOB_X4 = false ∧ s.gpi.knob = some old ∧
   knobSign old (true, true) = some (-1) ∧ (true, true) = (s.bit .GPI_KNOB_DETENT, s.bit .GPI_KNOB_DETENT) ∧
   s.knobSub - 1 = -4 ∧ u.knobSub - 1 ≠ 4 ∧ u.knobSub - 1 ≠ -4) ∧
  (let s : State := puts up0 [((.PG_CTRL_EN 17), 1)]
   s.up = true ∧ s.bit .GPI_KNOB_EN = false ∧ up0.gpiWatches = false) ∧
  (let s : State := up0
   s.nativeHost = true) ∧
  (let n : Fin 12 := 0
   let s : State := puts up0 [((.PG_CTRL_EN 17), 1), ((.PG_CTRL_EN 17), 1), ((.PG_CTRL_EN 17), 1), ((.GPI_CFG_MODE n), GpMode.OUT)]
   s.up = true ∧ s.enabled 17 = true ∧ s.safe 17 = false ∧ s.gpiWatches = true ∧ s.takesWork 17 = true ∧
   s.gpMode n = GpMode.OUT) ∧
  (let n : Fin 12 := 0
   let s : State := puts up0 [((.PG_CTRL_EN 17), 1), ((.PG_CTRL_EN 17), 1), ((.PG_CTRL_EN 17), 1)]
   s.up = true ∧ s.enabled 17 = true ∧ s.safe 17 = false ∧ s.gpiWatches = true ∧ s.takesWork 17 = true ∧
   s.gpMode n ≠ GpMode.OUT) ∧
  (let n : Fin 12 := 11
   let k : Nat := 7
   let s : State := { up0 with gpi := { up0.gpi with pins := up0.gpi.pins.set 11 { GpPin.reset with pulse := some 7 } } }
   s.up = true ∧ (s.gp n).pulse = some k) ∧
  (let n : Fin 12 := 0
   let s : State := up0
   s.up = true ∧ (s.gp n).pulse = none) ∧
  (let s : State := up0
   s.enabled 17 = false ∧ State.reset.up = false) ∧
  (let s : State := puts up0 [((.PG_CTRL_EN 17), 1)]
   s.up = true ∧ s.enabled 17 = true) := by
  and_intros <;> decide

theorem witness_EventWords :
  (let e : Nat := 0
   let p : Nat := 0
   let b : Nat := 0
   let s : State := up0
   eventHome e = some (p, b) ∧ RegFile.wf s.regs = true) ∧
  (let p : Fin 32 := 0
   pageExists p = true) ∧
  (let p : Fin 32 := 0
   let s : State := up0
   s.nativeHost = true ∧ pageExists p = true ∧ RegFile.wf s.accessed.regs = true) := by
  and_intros <;> decide

theorem witness_KindlingFailures :
  (let fails : Nat := 0
   fails < 3) ∧
  (let fails : Nat := 3
   let vmain : Nat := 1760
   let s : State := { up0 with pwr := { up0.pwr with phase := .inReset }, raised := [] }
   s.pwr.phase = .inReset ∧ s.raised = [] ∧ 1760 ≤ vmain ∧ 3 ≤ fails) ∧
  (let s : State := { up0 with pwr := { up0.pwr with phase := .held, ioUp := true } }
   s.pwr.phase = .held ∧ s.pwr.ioUp = true) ∧
  (let mv : Nat := 0
   let s : State := { up0 with pwr := { up0.pwr with phase := .held } }
   s.pwr.phase = .held ∧ mv < 1400) := by
  and_intros <;> decide

theorem witness_EmberDomainLost :
  (let mv : Nat := 0
   mv < 1400) := by decide

theorem witness_EmberDomainKept :
  (let a := Adr.RST_CAUSE
   let s : State := up0
   RegFile.wf s.regs = true ∧ keptWord false a = true ∧ a ≠ Adr.CAL_STAT) ∧
  (let cause : Nat := 0
   let a := 0
   let s : State := up0
   RegFile.wf s.regs = true ∧ keptWord (cause == Rst.STALL) a = false ∧ a ≠ Adr.CLK_STAT ∧ ¬(0x1E00 ≤ a ∧ a < 0x2000)) ∧
  (let s : State := up0
   RegFile.wf s.regs = true) := by
  and_intros <;> decide

theorem witness_ResetCauses :
  (let a : Nat := 0
   let b : Nat := 0
   let s : State := up0
   s.up = true ∧ RegFile.wf s.regs = true ∧ a ∈ rstOrder ∧ b ∈ rstOrder) := by decide

theorem witness_ResetInert :
  (let c : Instr := .softwareEvent
   let s : State := { up0 with pwr := { up0.pwr with phase := .inReset } }
   s.up = false ∧ Safety.reachesReset c = false) := by decide

theorem witness_ViewsShutOut :
  (let c : Instr := .softwareEvent
   let s : State := puts up0 [(.HIF_VIEW_VIEW, 1)]
   Safety.nativeOnly c = true ∧ s.nativeHost = false) ∧
  (let c : Instr := .legacyFifoRead
   let s : State := up0
   Safety.legacyOnly c = true ∧ s.legacyHost = false) := by
  and_intros <;> decide

theorem witness_AccessErrors :
  (let a : BitVec 16 := 0x201
   let s : State := up0
   s.nativeHost = true ∧
   (a.toNat % 4 ≠ 0 ∨ 0xF000 ≤ a.toNat ∨ (0x4800 ≤ a.toNat ∧ a.toNat < 0x6000) ∨ (a.toNat < 0x8000 ∧ 0x200 ≤ a.toNat % 0x400 ∧ a.toNat % 0x400 < 0x240))) ∧
  (let a : BitVec 16 := 0x3840
   let s : State := up0
   let r : RegRow := (findRow (pageAll (a.toNat / 0x400)) (a.toNat % 0x400)).getD row0
   s.nativeHost = true ∧ a.toNat < 0x8000 ∧ a.toNat % 4 = 0 ∧ a.toNat % 0x400 < 0x200 ∧
   pageExists (a.toNat / 0x400) = true ∧ findRow (pageAll (a.toNat / 0x400)) (a.toNat % 0x400) = some r ∧ r.rs ≠ 0) ∧
  (let a : Nat := 0
   let cause : Nat := 0
   let s : State := up0
   RegFile.wf s.regs = true ∧ a < 0x10000 ∧ cause < 4 ∧ s.bit .SYS_ACC_INFO_VALID = false) ∧
  (let s : State := puts up0 [(.SYS_ACC_INFO_VALID, 1)]
   RegFile.wf s.regs = true ∧ s.bit .SYS_ACC_INFO_VALID = true) ∧
  (let a : Nat := 0
   let p : Nat := 0
   let s : State := up0
   RegFile.wf s.regs = true ∧ pageOf a = some p) := by
  and_intros <;> decide

theorem witness_LockedTwin :
  (let p : Fin 32 := 14
   let off : Nat := 0x40
   let s : State := puts up0 [((.PG_LOCK_LOCKED 14), 1)]
   let r : RegRow := (findRow (pageAll p) off).getD row0
   s.nativeHost = true ∧ RegFile.wf s.accessed.regs = true ∧ pageExists p = true ∧ 0x40 ≤ off ∧ off < 0x1C0 ∧
   off % 4 = 0 ∧ findRow (pageAll p) off = some r ∧ r.rs ≠ 0 ∧ s.accessed.bit (.PG_CFGSTAT_PENDING p) = false ∧
   s.accessed.locked p = true) := by decide

theorem witness_MemoryStores :
  (let s : State := up0
   s.nativeHost = true ∧ Memory.wf s.mem = true) ∧
  (let a : BitVec 16 := 0x8000
   let s : State := puts up0 [((.PG_CTRL_EN 9), 0)]
   s.nativeHost = true ∧ Memory.wf s.mem = true ∧ a.toNat % 4 = 0 ∧ 0x8000 ≤ a.toNat ∧ a.toNat < 0xE000 ∧
   s.accessed.enabled 9 = false) ∧
  (let a : BitVec 16 := 0xDFFC
   let s : State := puts up0 [((.PG_CTRL_EN 9), 1)]
   s.nativeHost = true ∧ Memory.wf s.mem = true ∧ a.toNat % 4 = 0 ∧ 0x8000 ≤ a.toNat ∧ a.toNat < 0xE000 ∧
   s.accessed.enabled 9 = true) := by
  and_intros <;> decide

theorem witness_PushTooBig :
  (let n : Fin 8 := 7
   let words : List (BitVec 32) := [0]
   let s : State := puts up0 [((.PG_CTRL_EN 9), 1), ((.LE_TXCRED_INIT 7), 0)]
   s.nativeHost = true ∧ RegFile.wf s.accessed.regs = true ∧ words ≠ [] ∧ words.length ≤ 64 ∧ 4 ≤ s.accessed.pushFree ∧
   s.accessed.enabled 9 = true ∧ s.accessed.get (.LE_TXCRED_INIT n) < cellsOfWords words.length) := by decide

theorem witness_ComparatorRule :
  (let l : Int := 0
   let filt : Int := 0
   let d : Nat := 2
   let count : Nat := 0
   let below : Bool := false
   let beyond := if below then filt ≤ l else l ≤ filt
   beyond ∧ count + 1 < d) ∧
  (let l : Int := 0
   let filt : Int := 0
   let d : Nat := 1
   let count : Nat := 0
   let below : Bool := false
   let beyond := if below then filt ≤ l else l ≤ filt
   beyond ∧ d ≤ count + 1) ∧
  (let l : Int := 0
   let h : Int := 0
   let filt : Int := 0
   let d : Nat := 2
   let count : Nat := 0
   let below : Bool := false
   let returned := if below then l + h ≤ filt else filt ≤ l - h
   returned ∧ count + 1 < d) ∧
  (let l : Int := 0
   let h : Int := 0
   let filt : Int := 0
   let d : Nat := 1
   let count : Nat := 0
   let below : Bool := false
   let returned := if below then l + h ≤ filt else filt ≤ l - h
   returned ∧ d ≤ count + 1) ∧
  (let l : Int := 1
   let filt : Int := 0
   let below : Bool := false
   let beyond := if below then filt ≤ l else l ≤ filt
   ¬ beyond) ∧
  (let l : Int := 0
   let h : Int := 1
   let filt : Int := 0
   let below : Bool := false
   let returned := if below then l + h ≤ filt else filt ≤ l - h
   ¬ returned) := by
  and_intros <;> decide

theorem witness_RouterFires :
  (let e : Nat := 0
   let i := 0
   let s : State := puts up0 [((.PG_CTRL_EN 5), 1), ((.EVR_CH_EN i), 1), ((.EVR_CH_SRC i), e)]
   e < 192 ∧ s.routerOn = true ∧ RegFile.wf s.regs = true ∧ i < 32 ∧ s.bit (.EVR_CH_EN i) = true ∧
   s.get (.EVR_CH_SRC i) = e) ∧
  (let e : Nat := 8
   let n := 5
   let s : State := puts up0 [((.PG_CTRL_EN 5), 1), ((.EVR_CH_EN 31), 1), ((.EVR_CH_SRC 31), 8), ((.EVR_CH_TASK 31), 5)]
   e < 192 ∧ s.routerOn = true ∧ RegFile.wf s.regs = true ∧ n ∈ (s.routeOccurrence e).latches) := by
  and_intros <;> decide

theorem witness_LockedSlots :
  (let n : Nat := 31
   let s : State := puts up0 [((Fld.mk Adr.SEC_KEYLOCK 31 31), 1)]
   n < 32 ∧ RegFile.wf s.regs = true ∧ s.keyLocked n = true) := by decide

theorem witness_CalendarValid :
  (let c : Calendar := { Calendar.reset with year := 399, month := 12, day := 31, hour := 23, minute := 59, second := 59 }
   Safety.calendarOk c = true) := by decide

theorem witness_WeekdayFollows :
  (let c : Calendar := { Calendar.reset with year := 399, month := 12, day := 31, hour := 23, minute := 59, second := 59 }
   Safety.calendarOk c = true) := by decide

theorem witness_KnobDetents :
  (let old : Bool × Bool := (false, false)
   let new : Bool × Bool := (true, false)
   let s : State := { (puts up0 [((.PG_CTRL_EN 17), 1), (.GPI_KNOB_EN, 1)]) with gpi := { up0.gpi with knob := some old } }
   let g : Int := (knobSign old new).getD 0
   s.up = true ∧ s.gpiWatches = true ∧ RegFile.wf s.regs = true ∧ s.bit .GPI_KNOB_EN = true ∧
   s.bit .GPI_KNOB_X4 = false ∧ s.gpi.knob = some old ∧ knobSign old new = some g ∧ g ≠ 0 ∧
    (let detent := s.bit .GPI_KNOB_DETENT
     new ≠ (detent, detent))) ∧
  (let old : Bool × Bool := (false, true)
   let new : Bool × Bool := (false, false)
   let s : State := { (puts up0 [((.PG_CTRL_EN 17), 1), (.GPI_KNOB_EN, 1), (.GPI_KNOBCNT_SUB, 3)]) with gpi := { up0.gpi with knob := some old } }
   let g : Int := (knobSign old new).getD 0
   s.up = true ∧ s.gpiWatches = true ∧ RegFile.wf s.regs = true ∧ s.bit .GPI_KNOB_EN = true ∧
   s.bit .GPI_KNOB_X4 = false ∧ s.gpi.knob = some old ∧ knobSign old new = some g ∧ g ≠ 0 ∧
    (let sign := if s.bit .GPI_KNOB_DIR then -g else g
     let detent := s.bit .GPI_KNOB_DETENT
     new = (detent, detent) ∧ s.knobSub + sign = 4)) ∧
  (let old : Bool × Bool := (true, false)
   let new : Bool × Bool := (false, false)
   let s : State := { (puts up0 [((.PG_CTRL_EN 17), 1), (.GPI_KNOB_EN, 1), (.GPI_KNOBCNT_SUB, 13)]) with gpi := { up0.gpi with knob := some old } }
   let g : Int := (knobSign old new).getD 0
   s.up = true ∧ s.gpiWatches = true ∧ RegFile.wf s.regs = true ∧ s.bit .GPI_KNOB_EN = true ∧
   s.bit .GPI_KNOB_X4 = false ∧ s.gpi.knob = some old ∧ knobSign old new = some g ∧ g ≠ 0 ∧
    (let sign := if s.bit .GPI_KNOB_DIR then -g else g
     let detent := s.bit .GPI_KNOB_DETENT
     new = (detent, detent) ∧ s.knobSub + sign = -4)) ∧
  (let old : Bool × Bool := (false, true)
   let new : Bool × Bool := (false, false)
   let s : State := { (puts up0 [((.PG_CTRL_EN 17), 1), (.GPI_KNOB_EN, 1), (.GPI_KNOBCNT_SUB, 2)]) with gpi := { up0.gpi with knob := some old } }
   let g : Int := (knobSign old new).getD 0
   s.up = true ∧ s.gpiWatches = true ∧ RegFile.wf s.regs = true ∧ s.bit .GPI_KNOB_EN = true ∧
   s.bit .GPI_KNOB_X4 = false ∧ s.gpi.knob = some old ∧ knobSign old new = some g ∧ g ≠ 0 ∧
    (let sign := if s.bit .GPI_KNOB_DIR then -g else g
     let detent := s.bit .GPI_KNOB_DETENT
     new = (detent, detent) ∧ s.knobSub + sign ≠ 4 ∧ s.knobSub + sign ≠ -4)) := by
  and_intros <;> decide

theorem witness_LineLevels :
  (let f : TxFrame := { txf1 with gen := 1 }
   f.gen = 1) ∧
  (let f : TxFrame := { txf1 with gen := 2 }
   f.gen = 2) ∧
  (let f : TxFrame := txf1
   f.gen = 3) ∧
  (let id : Nat := 1
   let f : TxFrame := txf1
   let s : State := { up0 with line := { up0.line with sending := some 1 }, tx := [f] }
   s.line.sending = some id ∧ s.txFrame id = some f ∧ s.bit .WIR_STAT_INV = false) ∧
  (let id : Nat := 1
   let f : TxFrame := txf1
   let s : State := { (puts up0 [(.WIR_STAT_INV, 1)]) with line := { up0.line with sending := some 1 }, tx := [f] }
   s.line.sending = some id ∧ s.txFrame id = some f ∧ s.bit .WIR_STAT_INV = true) := by
  and_intros <;> decide

theorem witness_HeaderRoundTrip :
  (let h : Header := header1
   Safety.headerOk false h = true) ∧
  (let h : Header := header1
   Safety.headerOk true h = true) := by
  and_intros <;> decide

theorem witness_CodewordsSatisfyChecks :
  (let c : Nat := 3
   let u : List Bool := List.replicate (codeK 3) true
   c < 4 ∧ u.length = codeK c) := by decide +kernel

theorem witness_CcmRoundTrip :
  (let key : List Byte := List.replicate 16 0
   let m : Nat := 16
   key.length = 16 ∧ m ≤ 16) := by decide

theorem witness_KeyWrapRoundTrip :
  (let kek : List Byte := List.replicate 16 0
   let key : List Byte := List.replicate 16 0
   kek.length = 16 ∧ key.length = 16) := by decide

theorem witness_EventWords_lines :
    (∀ p, up0.pend p = { up0 with cyc := 1 }.pend p) ∧ up0.rd Adr.IRQ_ROUTE = { up0 with cyc := 1 }.rd Adr.IRQ_ROUTE ∧
    up0.rd Adr.IRQ_RTR = { up0 with cyc := 1 }.rd Adr.IRQ_RTR ∧ up0.legacyView = { up0 with cyc := 1 }.legacyView ∧
    up0.leg = { up0 with cyc := 1 }.leg := ⟨fun _ => rfl, rfl, rfl, rfl, rfl⟩

theorem witness_KindlingFailures_held :
    let s : State := { up0 with pwr := { up0.pwr with phase := .held } }
    s.pwr.phase = .held ∧ s.raised = [] ∧ Instr.softwareEvent ≠ .pinReset ∧ (∀ mv, Instr.softwareEvent ≠ .emberDomainLoss mv) ∧
    exec .softwareEvent s = .next s := ⟨rfl, rfl, by decide, fun _ h => Instr.noConfusion h, rfl⟩

theorem witness_ResetHolds :
    State.reset.up = false ∧ (∀ c rest, State.reset.pending = c :: rest → Safety.startsPart c = false) ∧
    step State.reset = .next State.reset.resetCycle := by
  refine ⟨rfl, ?_, rfl⟩
  intro c rest h
  exact absurd h (by simp [State.reset])

theorem witness_CalendarValid_boundary :
    Safety.calendarOk up0.cal = true ∧ up0.up = true ∧ up0.cal.align = none ∧
    ∃ t, exec .calSecondBoundary up0 = .next t := ⟨by decide, rfl, rfl, _, rfl⟩

end Sys2Proof.Tests
end

section
/-! PROOFS. The event words of a page (R69): what an occurrence writes, what PG_EVT_PEND reads, what a 1 written to it
clears, and that the interrupt lines see the pages through PG_EVT_PEND alone. -/

namespace Sys2Proof.Machine

/-! ### Words and fields read through other updates -/

/-- The end of a command leaves every register word. -/
@[simp] theorem State.rd_finish (s : State) (a : Nat) : s.finish.rd a = s.rd a := rfl

/-- The end of a host access leaves every register word. -/
@[simp] theorem State.rd_lateOver (s : State) (a : Nat) : s.lateOver.rd a = s.rd a := rfl

/-- The end of a command leaves every page's PEND word. -/
@[simp] theorem State.pend_finish (s : State) (p : Nat) : s.finish.pend p = s.pend p := rfl

/-- The end of a host access leaves every page's PEND word. -/
@[simp] theorem State.pend_lateOver (s : State) (p : Nat) : s.lateOver.pend p = s.pend p := rfl

/-- A pin's release by RETRIG leaves the register file (R130). -/
@[simp] theorem State.retrigger_regs (s : State) (p : Nat) (rising : Bool) : (s.retrigger p rising).regs = s.regs := by
  unfold State.retrigger
  dsimp only
  split <;> split <;> rfl

/-- A field depends on its register's word alone. -/
theorem State.get_congr {s t : State} {f : Fld} (h : s.rd f.addr = t.rd f.addr) : s.get f = t.get f := by
  simp only [State.get, h]

/-- A one-bit field depends on its register's word alone. -/
theorem State.bit_congr {s t : State} {f : Fld} (h : s.rd f.addr = t.rd f.addr) : s.bit f = t.bit f := by
  simp only [State.bit, State.get_congr h]

/-! ### An occurrence (R69) -/

/-- No page has more than 32 events, so that an event's bit lies in its page's PG_EVT words (R68). -/
theorem eventHome_bit_lt {e p b : Nat} (h : eventHome e = some (p, b)) : b < 32 := by
  have counts : ∀ q ∈ eventPages, q.2.2 ≤ 32 := by decide
  obtain ⟨q, found, home⟩ := Option.map_eq_some_iff.1 h
  have held := List.find?_some found
  have count := counts q (List.mem_of_find?_eq_some found)
  simp only [Bool.and_eq_true, decide_eq_true_eq] at held
  have bit : e - q.2.1 = b := congrArg Prod.snd home
  omega

/-- An occurrence adds its bit to PG_EVT_RAW, whatever PG_EVT_EN holds. -/
theorem State.rd_raise_raw (s : State) {e p b : Nat} (he : eventHome e = some (p, b)) (hw : RegFile.wf s.regs = true) :
    (s.raise e).rd (Adr.PG_EVT_RAW p) = BitVec.ofNat 32 ((s.rd (Adr.PG_EVT_RAW p)).toNat ||| 2 ^ b) := by
  simp only [State.raise, he]
  exact State.rd_wr _ _ _ (by rwa [State.retrigger_regs])

/-- After an occurrence its bit of PG_EVT_RAW is set. -/
theorem State.getLsbD_raise_raw (s : State) {e p b : Nat} (he : eventHome e = some (p, b))
    (hw : RegFile.wf s.regs = true) : ((s.raise e).rd (Adr.PG_EVT_RAW p)).getLsbD b = true := by
  rw [s.rd_raise_raw he hw, BitVec.getLsbD_ofNat, Nat.testBit_or, Nat.testBit_two_pow_self]
  simp [eventHome_bit_lt he]

/-! ### PG_EVT_PEND read and cleared (R69) -/

/-- Every page has the header's PG_EVT_PEND (R68). -/
theorem offDefined_pend (p : Nat) : offDefined p 0x14 = true := by
  have header : (findRow rowsHeader 0x14).isSome = true := by decide
  simp only [offDefined, pageAll, findRow, List.find?_append, Option.isSome_or] at header ⊢
  simp [header]

/-- A read of PG_EVT_PEND gives PG_EVT_RAW AND PG_EVT_EN and changes nothing. -/
theorem State.regRead_pend (s : State) (p : Fin 32) (ecc : List (Nat × Bool)) (hp : pageExists p = true) :
    s.regRead (Adr.PG_EVT_PEND p) ecc = (s.pend p, s) := by
  have addr : Adr.PG_EVT_PEND p = 0x400 * p.val + 0x14 := rfl
  have page : Adr.PG_EVT_PEND p / 0x400 = p.val := by omega
  have off : Adr.PG_EVT_PEND p % 0x400 = 0x14 := by omega
  have other : Adr.PG_EVT_PEND p ≠ Adr.CAL_TIME := by simp only [addr, Adr.CAL_TIME]; omega
  have noStore : storeAddr (Adr.PG_EVT_PEND p) = false := by simp [storeAddr, addr]; omega
  unfold State.regRead
  rw [if_neg (by omega), noStore, if_neg Bool.false_ne_true, if_neg (by omega), page, off, offDefined_pend,
    if_neg (by simp [hp]; omega), if_neg (by simp), if_neg other]
  rfl

/-- A write of PG_EVT_PEND clears its bits in PG_EVT_RAW. -/
theorem State.rd_pendClear_raw (s : State) (p : Nat) (w : Word) (hw : RegFile.wf s.regs = true) :
    (s.pendClear p w).rd (Adr.PG_EVT_RAW p) = s.rd (Adr.PG_EVT_RAW p) &&& ~~~w :=
  s.rd_wr _ _ hw

/-- The bits cleared in PG_EVT_RAW no longer pend: PG_EVT_EN is left as it was. -/
theorem State.pend_pendClear (s : State) (p : Nat) (w : Word) (hw : RegFile.wf s.regs = true) :
    (s.pendClear p w).pend p = s.pend p &&& ~~~w := by
  have en : (s.pendClear p w).rd (Adr.PG_EVT_EN p) = s.rd (Adr.PG_EVT_EN p) :=
    s.rd_wr_ne _ _ _ (by simp [Adr.PG_EVT_EN, Adr.PG_EVT_RAW])
  rw [State.pend, s.rd_pendClear_raw p w hw, en, State.pend, BitVec.and_assoc, BitVec.and_comm (~~~w),
    ← BitVec.and_assoc]

/-- EVENT_PEND_CLEAR is a host write of PG_EVT_PEND. -/
theorem exec_eventPendClear (p : Fin 32) (w : Word) (s : State) (hn : s.nativeHost = true) (hp : pageExists p = true) :
    exec (.eventPendClear p w) s = .next (s.accessed.pendClear p w).lateOver.finish := by
  change done (s.native fun s => s.regWrite (Adr.PG_EVT_PEND p) w) = _
  rw [s.native_of_reach _ hn, State.regWrite_pend _ p w hp, done]

/-! ### The interrupt lines (R129, R138) -/

/-- IRQ_PAGESUM depends on the pages' PEND words alone. -/
theorem State.pageSum_congr {s t : State} (h : ∀ p, s.pend p = t.pend p) : s.pageSum = t.pageSum := by
  simp only [State.pageSum, h]

/-- A line's request depends on PEND, the router's own request, the routing and the legacy view's flags alone. -/
theorem State.irqRequest_congr {s t : State} (b : Bool) (hpend : ∀ p, s.pend p = t.pend p)
    (hroute : s.rd Adr.IRQ_ROUTE = t.rd Adr.IRQ_ROUTE) (hrtr : s.rd Adr.IRQ_RTR = t.rd Adr.IRQ_RTR)
    (hview : s.legacyView = t.legacyView) (hleg : s.leg = t.leg) : s.irqRequest b = t.irqRequest b := by
  have route : s.get .IRQ_ROUTE_TOB = t.get .IRQ_ROUTE_TOB := State.get_congr hroute
  have router : s.bit (if b then .IRQ_RTR_B else .IRQ_RTR_A) = t.bit (if b then .IRQ_RTR_B else .IRQ_RTR_A) := by
    cases b <;> exact State.bit_congr hrtr
  have view : s.bit .HIF_VIEW_VIEW = t.bit .HIF_VIEW_VIEW := hview
  simp only [State.irqRequest, State.pageSum_congr hpend, route, router, view, hleg]

/-! ### The statement -/

/-- Settles O34: an occurrence by what `raise` writes, a read and a write of PG_EVT_PEND by the words they touch, the
lines by what their request depends on. -/
theorem eventWords : Obligations.EventWords := by
  refine ⟨fun s e p b he hw => ⟨s.getLsbD_raise_raw he hw, s.raise_raised e p b he⟩,
    fun p s hp => s.regRead_pend p [] hp, ?clear,
    fun s t b hpend hroute hrtr hview hleg => State.irqRequest_congr b hpend hroute hrtr hview hleg⟩
  case clear =>
    intro p w s hn hp hw
    refine ⟨_, exec_eventPendClear p w s hn hp, ?raw, ?pend⟩
    case raw => simpa using s.accessed.rd_pendClear_raw p w hw
    case pend => simpa using s.accessed.pend_pendClear p w hw

end Sys2Proof.Machine
end

section
/-! PROOFS. The supply (R142 to R159): the loss of the Ember domain, and the hold after the third failed self-check in
Kindling, which no command but RESET_N and that loss ends. -/

namespace Sys2Proof.Machine

/-! ### The Ember domain lost (R158) -/

/-- The loss of the Ember domain leaves no register word but its reset value, whatever the command's end hands over. -/
theorem State.rd_emberLoss_finish (s : State) (a : Nat) : s.emberLoss.finish.rd a = resetWord a := rfl

/-- Every field reads its reset value after the loss of the Ember domain. -/
theorem State.get_emberLoss_finish (s : State) (f : Fld) : s.emberLoss.finish.get f = f.of (resetWord f.addr) := rfl

/-- EMBER_DOMAIN_LOSS below 1.40 V. -/
theorem exec_emberDomainLoss {mv : Nat} (hmv : mv < 1400) (s : State) :
    exec (.emberDomainLoss mv) s = .next s.emberLoss.finish := by
  change done (if mv < 1400 then s.emberLoss else s) = _
  rw [if_pos hmv, done]

/-- PWR_KEEP0 to 15 reset to 0 (R171). -/
theorem resetWord_PWR_KEEP : ∀ n < 16, resetWord (Adr.PWR_KEEP n) = 0 := by decide

/-- Settles O36: the state after the loss is the state at reset but for the levels of VDD_IO and WAKE and the strap, so
that each register named reads its reset value. -/
theorem emberDomainLost : Obligations.EmberDomainLost := by
  intro mv s hmv
  refine ⟨_, exec_emberDomainLoss hmv s, rfl, rfl, ?cause, ?count, rfl, ?valid, ?keep⟩
  case cause | count | valid => rw [State.get_emberLoss_finish]; decide
  case keep => exact fun n hn => (s.rd_emberLoss_finish _).trans (resetWord_PWR_KEEP n hn)

/-! ### Commands that do not reach a part in reset (R11, R148) -/

/-- Every command of the native view is a native host access. -/
theorem exec_of_nativeOnly {c : Instr} (h : Safety.nativeOnly c = true) :
    ∃ f, ∀ s, exec c s = done (s.native f) := by
  cases c <;> cases h <;> exact ⟨_, fun _ => rfl⟩

/-- Every command of the legacy view is a legacy host access. -/
theorem exec_of_legacyOnly {c : Instr} (h : Safety.legacyOnly c = true) :
    ∃ f, ∀ s, exec c s = done (s.legacyAccess f) := by
  cases c <;> cases h <;> exact ⟨_, fun _ => rfl⟩

/-- In reset a command other than those that reach the part finds nothing to act on: a host access of either view, a
router task, or a moment of the running part. -/
theorem exec_of_not_reachesReset {c : Instr} {s : State} (hup : s.up = false) (hc : Safety.reachesReset c = false) :
    exec c s = done s := by
  cases hn : Safety.nativeOnly c with
  | true =>
    obtain ⟨f, run⟩ := exec_of_nativeOnly hn
    rw [run, s.native_of_not f (s.nativeHost_of_not_up hup)]
  | false =>
    cases hl : Safety.legacyOnly c with
    | true =>
      obtain ⟨f, run⟩ := exec_of_legacyOnly hl
      rw [run, s.legacyAccess_of_not f (s.legacyHost_of_not_up hup)]
    | false =>
      cases c
      case nativeViewSelect =>
        change done (if s.up && s.pwr.ioUp then _ else s) = _
        simp [hup]
      case wireFallback | wireRestore | hfrcTrim | lxoCal | gpPulse | linePowerOn | linePowerOff | linePowerOffSoft
          | polarityRecheck | lineProbe | lineHold | searchStart | searchStop | fieldOff | nfcForceSafe | pollStop
          | nfpAbort | forceDamper | releaseDamper | measStore | toSleep | ccaStart | paOff | triggerFire
          | secZeroiseUnlocked | tempSample | flueSnapshot =>
        exact congrArg done (s.taskOrWrite_of_not_up _ _ _ _ hup)
      all_goals cases hn <;> cases hl <;> cases hc <;> exact congrArg done (s.live_of_not_up _ hup)

/-! ### The SYS page's PG_EVT_RAW, which SYS_READY would set (R69, R148) -/

/-- No event of the SYS page has occurred from `s` to `t`, and none was cleared: its PG_EVT_RAW is the same. -/
def SysRawKept (s t : State) : Prop := t.rd (Adr.PG_EVT_RAW 0) = s.rd (Adr.PG_EVT_RAW 0)

/-- The events of the SYS page are the events 0 to 7. -/
theorem eventHome_page_ne_zero {e p b : Nat} (he : 8 ≤ e) (h : eventHome e = some (p, b)) : p ≠ 0 := by
  have first : ∀ q ∈ eventPages, q.1 = 0 → q.2.1 + q.2.2 ≤ 8 := by decide
  obtain ⟨q, found, home⟩ := Option.map_eq_some_iff.1 h
  have held := List.find?_some found
  simp only [Bool.and_eq_true, decide_eq_true_eq] at held
  have page : q.1 = p := congrArg Prod.fst home
  intro hp
  have bound := first q (List.mem_of_find?_eq_some found) (page.trans hp)
  omega

namespace SysRawKept

variable {s t : State}

theorem refl (s : State) : SysRawKept s s := rfl

/-- PG_EVT_RAW depends on the register file alone. -/
theorem of_regs {u : State} (h : SysRawKept s t) (hu : u.regs = t.regs) : SysRawKept s u := by
  simpa only [SysRawKept, State.rd, hu] using h

theorem ite {c : Prop} [Decidable c] {u : State} (ht : SysRawKept s t) (hu : SysRawKept s u) :
    SysRawKept s (if c then t else u) := by
  split
  · exact ht
  · exact hu

theorem wr (h : SysRawKept s t) (a : Nat) (w : Word) (ha : Adr.PG_EVT_RAW 0 ≠ a) : SysRawKept s (t.wr a w) :=
  (t.rd_wr_ne a _ w ha).trans h

theorem put (h : SysRawKept s t) (f : Fld) (v : Nat) (hf : Adr.PG_EVT_RAW 0 ≠ f.addr) : SysRawKept s (t.put f v) :=
  h.wr _ _ hf

theorem sat (h : SysRawKept s t) (f : Fld) (hf : Adr.PG_EVT_RAW 0 ≠ f.addr) : SysRawKept s (t.sat f) := h.put _ _ hf

/-- An event of another page leaves it. -/
theorem raise (h : SysRawKept s t) {e : Nat} (he : 8 ≤ e) : SysRawKept s (t.raise e) := by
  unfold State.raise
  split
  · exact h
  · next p b home =>
    have page := eventHome_page_ne_zero he home
    have other : Adr.PG_EVT_RAW 0 ≠ Adr.PG_EVT_RAW p := by simp only [Adr.PG_EVT_RAW]; omega
    exact wr (h.of_regs (t.retrigger_regs _ _)) _ _ other

theorem raiseIf (h : SysRawKept s t) (c : Bool) {e : Nat} (he : 8 ≤ e) : SysRawKept s (t.raiseIf c e) :=
  .ite (h.raise he) h

theorem forEach {α : Type} {f : State → α → State} (l : List α)
    (hf : ∀ t x, SysRawKept s t → SysRawKept s (f t x)) (h : SysRawKept s t) : SysRawKept s (t.forEach l f) := by
  induction l generalizing t with
  | nil => exact h
  | cons x l ih => exact ih (hf t x h)

/-! The boundary of a second -/

theorem setBitAt (h : SysRawKept s t) (f : Fld) (n : Nat) (b : Bool) (hf : Adr.PG_EVT_RAW 0 ≠ f.addr) :
    SysRawKept s (t.setBitAt f n b) :=
  h.put _ _ hf

theorem evalAlarm (h : SysRawKept s t) (n : Nat) : SysRawKept s (t.evalAlarm n) := by
  have alarm : 8 ≤ Ev.CAL_ALARM n := by simp only [Ev.CAL_ALARM]; omega
  have fired := h.setBitAt .CAL_ALMSTAT_FIRED n true (by decide)
  exact ite (.raise (.ite (fired.setBitAt .CAL_ALMSTAT_DONE n true (by decide)) fired) alarm) h

/-- The wrap of the calendar's range (R279). -/
theorem calWrap (h : SysRawKept s t) (c : Bool) :
    SysRawKept s (if c then (t.put .CAL_STAT_WRAP 1).raise Ev.CAL_WRAP else t) :=
  .ite ((h.put _ _ (by decide)).raise (by decide)) h

/-- The beginning of a calendar day (R209, R288). -/
theorem newDay (h : SysRawKept s t) (c passed : Bool) :
    SysRawKept s (if c then (t.put .CAL_ALMSTAT_DONE 0).dayBegins passed else t) :=
  .ite (.of_regs (h.put .CAL_ALMSTAT_DONE 0 (by decide)) rfl) h

theorem secondBoundary (h : SysRawKept s t) (sub : Nat) : SysRawKept s (t.secondBoundary sub) := by
  have stepped (c : Calendar) : SysRawKept s ({ t with cal := c } : State) := h.of_regs rfl
  have ticked (c : Calendar) (sec min : Bool) :=
    (((stepped c).put .CAL_STAT_ADJPEND 0 (by decide)).raiseIf sec (e := Ev.CAL_TICK_SEC) (by decide)).raiseIf min
      (e := Ev.CAL_TICK_MIN) (by decide)
  exact forEach _ (fun _ n hn => hn.evalAlarm n) (.newDay (.calWrap (ticked _ _ _) _) _ _)

/-! Cycles of the calendar island -/

theorem newDate (h : SysRawKept s t) (old : Calendar) : SysRawKept s (t.newDate old) := ite h (h.of_regs rfl)

/-- A time and date that is set (R282). -/
theorem calSet (h : SysRawKept s t) (date : Bool) : SysRawKept s (t.calSet date) := by
  have cancelled : SysRawKept s ({ t with cal := { t.cal with step := none } } : State) := h.of_regs rfl
  have valid := (cancelled.put .CAL_STAT_ADJPEND 0 (by decide)).put .CAL_STAT_VALID 1 (by decide)
  exact ite (valid.put .CAL_ALMSTAT_DONE 0 (by decide)) valid

theorem fullAlign (h : SysRawKept s t) : SysRawKept s t.fullAlign := by
  unfold State.fullAlign
  split
  · exact h
  · next l _ =>
    have moved : SysRawKept s ({ t with cal := { Calendar.ofList l with step := none, align := none } } : State) :=
      h.of_regs rfl
    exact ite h ((((moved.calSet true).newDate t.cal).put .CAL_SYNCSTAT_VALID 0 (by decide)).put .CAL_SYNCSTAT_STEPPED 1
      (by decide))

theorem calendarCycle (h : SysRawKept s t) : SysRawKept s t.calendarCycle := by
  refine fullAlign (ite ?count (ite ?stretch (secondBoundary ?boundary 0)))
  all_goals exact h.of_regs rfl

theorem cyclesFrom (h : SysRawKept s t) (fuel n : Nat) : SysRawKept s (t.cyclesFrom fuel n) := by
  induction fuel generalizing t n with
  | zero => exact h
  | succ fuel ih =>
    cases n with
    | zero => exact h
    | succ n =>
      have skipped (k : Nat) : SysRawKept s (t.skipCycles k) := h.of_regs rfl
      exact ite (ih h.calendarCycle n) (ih (skipped _) _)

theorem arrive (h : SysRawKept s t) : SysRawKept s t.arrive := h.of_regs rfl

theorem calendarCycles (h : SysRawKept s t) (n : Nat) : SysRawKept s (t.calendarCycles n) :=
  ite h (h.arrive.cyclesFrom _ _)

theorem toBoundary (h : SysRawKept s t) : SysRawKept s t.toBoundary :=
  .calendarCycles (.ite (h.calendarCycles 1) h) _

/-! Slots that become READY -/

theorem judgeQueueLow (h : SysRawKept s t) (fell : Bool) : SysRawKept s (t.judgeQueueLow fell) := by
  have sched (x : Sched) : SysRawKept s ({ t with sch := x } : State) := h.of_regs rfl
  exact ite (ite ((sched _).raise (e := Ev.SCH_QUEUE_LOW) (by decide)) h) (sched _)

/-- Ember's conditions leave the register file (R145). -/
theorem leaveEmber (h : SysRawKept s t) : SysRawKept s t.leaveEmber := ite (h.of_regs rfl) (h.of_regs rfl)

theorem setSlot (h : SysRawKept s t) (i : Nat) (x : Slot) : SysRawKept s (t.setSlot i x) := by
  have broken : SysRawKept s (t.whenB x.barsEmber State.breakEmber) := ite (h.of_regs rfl) h
  have placed (y : Sched) (c : Bool) :=
    (broken.of_regs (u := { t.whenB x.barsEmber State.breakEmber with sch := y }) rfl).raiseIf c (e := Ev.SCH_IDLE)
      (by decide)
  exact ite (placed _ _) ((placed _ _).judgeQueueLow _)

theorem makeReady (h : SysRawKept s t) (i : Nat) : SysRawKept s (t.makeReady i) :=
  .ite (.of_regs (.setSlot (.ite h.leaveEmber h) i _) rfl) h

theorem readyDue (h : SysRawKept s t) : SysRawKept s t.readyDue :=
  forEach _ (fun _ i hi => .ite (hi.makeReady i) hi) h

/-! The LXO (R249) -/

theorem lxoFail (h : SysRawKept s t) (elapsed : Nat) : SysRawKept s (t.lxoFail elapsed) := by
  have failed (clk : Clock) :=
    (((h.put .CLK_STAT_LXO 3 (by decide)).sat .CLK_FAILCNT_LXO (by decide)).raise (e := Ev.CLK_LXO_FAIL) (by decide)).of_regs
      (u := { ((t.put .CLK_STAT_LXO 3).sat .CLK_FAILCNT_LXO).raise Ev.CLK_LXO_FAIL with clk := clk }) rfl
  exact ite (failed _) (((failed _).put .CLK_STAT_CALSRC 1 (by decide)).calendarCycles _)

theorem lxoWindow (h : SysRawKept s t) (n elapsed : Nat) : SysRawKept s (t.lxoWindow n elapsed) := by
  have counted (clk : Clock) : SysRawKept s ({ t with clk := clk } : State) := h.of_regs rfl
  have good (clk clk' : Clock) :=
    ((counted clk).put .CLK_STAT_LXO 2 (by decide)).of_regs
      (u := { ({ t with clk := clk } : State).put .CLK_STAT_LXO 2 with clk := clk' }) rfl
  exact ite h (ite (ite ((good _ _).raise (e := Ev.CLK_LXO_OK) (by decide)) (counted _))
    (ite ((counted _).lxoFail _) (counted _)))

theorem lxoTimeout (h : SysRawKept s t) (elapsed : Nat) : SysRawKept s (t.lxoTimeout elapsed) := ite h (h.lxoFail elapsed)

theorem lxoRestore (h : SysRawKept s t) : SysRawKept s t.lxoRestore :=
  .ite (.of_regs (h.put .CLK_STAT_CALSRC 0 (by decide)) rfl) h

/-- What survives of a change of the part in reset (R11). -/
theorem emberOnly (h : SysRawKept s t) : SysRawKept s (s.emberOnly t) :=
  .of_regs (((h.wr (Adr.PG_EVT_RAW 3) _ (by decide)).wr (Adr.PG_EVT_RAW 7) _ (by decide)).wr Fld.CLK_FAILCNT_XO.addr
    (s.rd Fld.CLK_FAILCNT_XO.addr) (by decide)) rfl

end SysRawKept

/-! ### The hold after the third failed self-check (R149) -/

/-- In `t` the part is held, and from `s` to `t` no occurrence has joined the batch or those that wait for the router, nor
has an event of the SYS page set its bit. -/
structure StaysHeld (s t : State) : Prop where
  phase : t.pwr.phase = .held
  raised : t.raised = s.raised
  occ : t.occ = s.occ
  evtWait : t.evtWait = s.evtWait
  raw : SysRawKept s t

/-- A held part does not run. -/
theorem State.up_of_held {s : State} (h : s.pwr.phase = .held) : s.up = false := by simp [State.up, h]

/-- A reset of a held part records its cause; PIN alone ends the hold (R149, R159). -/
theorem State.resetPart_of_held {s : State} (h : s.pwr.phase = .held) (cause : Nat) :
    s.resetPart cause =
      ({ s with pwr := { s.pwr with phase := if cause = Rst.PIN then .inReset else .held } } : State).put .RST_CAUSE_CAUSE
        (if s.pwr.por then Rst.POR else firstCause (s.get .RST_CAUSE_CAUSE) cause) := by
  unfold State.resetPart
  rw [State.up_of_held h, if_neg Bool.false_ne_true]
  by_cases hc : cause = Rst.PIN <;> simp [h, hc]

/-- READY, bit 7 of the status byte, reads 0 in reset (R110). -/
theorem State.statusByte_lt_of_not_up {s : State} (h : s.up = false) : s.statusByte < 128 := by
  have awake : (s.pwr.phase == .up) = false := by
    simp only [State.up, Bool.or_eq_false_iff] at h
    exact h.1.1
  have lineA := Bool.toNat_le (s.irqAsserted false)
  have lineB := Bool.toNat_le (s.irqAsserted true)
  have late := Bool.toNat_le s.hif.late
  have view := Bool.toNat_le s.legacyView
  rw [State.statusByte, h, awake, Bool.toNat_false]
  omega

theorem mem_insertEvent {e x : Nat} {l : List Nat} : e ∈ insertEvent x l ↔ e = x ∨ e ∈ l := by
  induction l with
  | nil => simp [insertEvent]
  | cons y l ih =>
    unfold insertEvent
    split
    · exact List.mem_cons
    · rw [List.mem_cons, ih, List.mem_cons, or_left_comm]

/-- A batch put in order holds the same events (R259). -/
theorem mem_sortEvents {e : Nat} {l : List Nat} : e ∈ sortEvents l ↔ e ∈ l := by
  induction l with
  | nil => rfl
  | cons x l ih => rw [List.mem_cons, ← ih]; exact mem_insertEvent

/-- The end of a command that has raised nothing brings the router only what waited on crossing 12. -/
theorem State.mem_occ_finish {s : State} (h : s.raised = []) {e : Nat} (he : e ∈ s.finish.occ) :
    e ∈ s.occ ++ s.evtWait := by
  change e ∈ (if s.routerOn then _ else []) at he
  split at he
  · rw [List.mem_append, mem_sortEvents, h] at he
    rw [List.mem_append]
    exact he.imp_right fun waiting => by simpa [sortEvents] using List.mem_of_mem_take waiting
  · exact absurd he List.not_mem_nil

namespace StaysHeld

variable {s t : State}

theorem refl (h : s.pwr.phase = .held) : StaysHeld s s := ⟨h, rfl, rfl, rfl, .refl s⟩

/-- What the hold means at the end of a command (R149). -/
theorem finish (h : StaysHeld s t) (hs : s.raised = []) :
    t.finish.pwr.phase = .held ∧ t.finish.statusByte < 128 ∧ (∀ e, e ∈ t.finish.occ → e ∈ s.occ ++ s.evtWait) ∧
      t.finish.rd (Adr.PG_EVT_RAW 0) = s.rd (Adr.PG_EVT_RAW 0) := by
  refine ⟨h.phase, State.statusByte_lt_of_not_up (State.up_of_held h.phase), fun e he => ?arrived, h.raw⟩
  have arrived := State.mem_occ_finish (h.raised.trans hs) he
  rwa [h.occ, h.evtWait] at arrived

/-- A third failed self-check holds the part, whatever VDD_IO's level. -/
theorem thirdFailure (s : State) (io : Bool) :
    StaysHeld s { s with pwr := { s.pwr with phase := .held, ioUp := io } } :=
  ⟨rfl, rfl, rfl, rfl, .refl s⟩

section
variable (h : s.pwr.phase = .held)
include h

theorem unchanged (ht : t = s) : StaysHeld s t := ht.symm ▸ refl h

/-- A reset of another cause than PIN does not end the hold. -/
theorem resetPart {cause : Nat} (hc : cause ≠ Rst.PIN) : StaysHeld s (s.resetPart cause) := by
  rw [State.resetPart_of_held h, if_neg hc]
  exact ⟨rfl, rfl, rfl, rfl, .put (.refl s) .RST_CAUSE_CAUSE _ (by decide)⟩

/-- A host transaction gets the status byte at most (R110, R143). -/
theorem transaction (bytes : List Byte) (n ready : Nat) (ecc : List (Nat × Bool)) (close : Bool) :
    StaysHeld s (s.transaction bytes n ready ecc close) := by
  unfold State.transaction
  split
  · exact refl h
  · simp only [State.up_of_held h]
    exact ⟨h, rfl, rfl, rfl, .refl s⟩

/-- The part takes note of the level at WAKE. -/
theorem wakeEdge (high : Bool) : StaysHeld s (s.wakeEdge high) := by
  unfold State.wakeEdge
  simp only [State.up_of_held h, Bool.and_false, Bool.false_eq_true, if_false]
  exact ⟨h, rfl, rfl, rfl, .refl s⟩

/-- The part takes note of VDD_IO. -/
theorem ioLoss : StaysHeld s s.ioLoss := ⟨h, rfl, rfl, rfl, .refl s⟩

theorem ioReturn (pins : Nat) : StaysHeld s (s.ioReturn pins) := by
  have asleep : ({ s with pwr := { s.pwr with ioUp := true } } : State).gpiWatches = false := by
    simp [State.gpiWatches, State.up, h]
  unfold State.ioReturn
  simp only [asleep, Bool.false_and, State.whenB, Bool.false_eq_true, if_false]
  exact ⟨h, rfl, rfl, rfl, .refl s⟩

/-- A moment of the Ember domain acts on its registers alone. -/
theorem always {f : State → State} (hf : SysRawKept s (f s)) : StaysHeld s (s.always f) := by
  rw [s.always_of_not_up f (State.up_of_held h)]
  exact ⟨h, rfl, rfl, rfl, hf.emberOnly⟩

theorem kindling (fails : Nat) (test io : Bool) (k : Samples) : StaysHeld s (s.kindling fails test io k) :=
  unchanged h (if_pos (.inl (by simp [h])))

theorem kindlingIo (k : Samples) : StaysHeld s (s.kindlingIo k) :=
  unchanged h (if_neg (by simp [h]))

theorem hotOver : StaysHeld s s.hotOver := unchanged h (if_neg (by simp [h]))

theorem ite {c : Prop} [Decidable c] (ht : StaysHeld s t) : StaysHeld s (if c then t else s) := by
  split
  · exact ht
  · exact refl h

/-- No command but RESET_N and the loss of the Ember domain ends the hold, nor raises an event in it. -/
theorem command {c : Instr} (hpin : c ≠ .pinReset) (hloss : ∀ mv, c ≠ .emberDomainLoss mv) :
    ∃ t, exec c s = done t ∧ StaysHeld s t := by
  cases hc : Safety.reachesReset c with
  | false => exact ⟨s, exec_of_not_reachesReset (State.up_of_held h) hc, refl h⟩
  | true =>
    have keep : SysRawKept s s := .refl s
    cases c
    case pinReset => exact absurd rfl hpin
    case emberDomainLoss mv => exact absurd rfl (hloss mv)
    case supplyVrst => exact ⟨_, rfl, ite h (resetPart h (by decide))⟩
    case kindling => exact ⟨_, rfl, kindling h _ _ _ _⟩
    case kindlingIoReady => exact ⟨_, rfl, kindlingIo h _⟩
    case hostWrite | hostRead | hostStatusOnly => exact ⟨_, rfl, transaction h _ _ _ _ _⟩
    case i2cBusTimeout => exact ⟨_, rfl, ite h (transaction h _ _ _ _ _)⟩
    case wakeEdge => exact ⟨_, rfl, wakeEdge h _⟩
    case overtempResetRelease => exact ⟨_, rfl, hotOver h⟩
    case vddIoLoss => exact ⟨_, rfl, ioLoss h⟩
    case vddIoReturn => exact ⟨_, rfl, ioReturn h _⟩
    case calSecondBoundary => exact ⟨_, rfl, always h keep.toBoundary.readyDue⟩
    case calFullAlign => exact ⟨_, rfl, always h keep.fullAlign⟩
    case lxoWindowEnd => exact ⟨_, rfl, always h (keep.lxoWindow _ _)⟩
    case lxoEdgeTimeout => exact ⟨_, rfl, always h (keep.lxoTimeout _)⟩
    case lxoRestoreEdge => exact ⟨_, rfl, always h keep.lxoRestore⟩
    all_goals cases hc

end

end StaysHeld

/-! ### The statement -/

/-- Kindling looks no further at the number of failures than whether there was a third (R149). -/
theorem State.kindling_of_fails_lt {fails : Nat} (hf : fails < 3) (s : State) (test io : Bool) (k : Samples) :
    s.kindling fails test io k = s.kindling 0 test io k := by
  simp only [State.kindling, if_neg (Nat.not_le.2 hf), if_neg (show ¬ 3 ≤ 0 by decide)]

/-- After the third failure Kindling, its supply at the start threshold of either cause, holds the part (R149). -/
theorem State.kindling_of_three_le {s : State} {fails : Nat} (io : Bool) {k : Samples} (hs : s.pwr.phase = .inReset)
    (hv : 1760 ≤ k.vmain) (hf : 3 ≤ fails) :
    s.kindling fails false io k = { s with pwr := { s.pwr with phase := .held, ioUp := io } } := by
  have start : ¬ k.vmain < (if s.pwr.por || s.get .RST_CAUSE_CAUSE == Rst.VRST then 1760 else 1700) := by
    split <;> omega
  simp only [State.kindling, hs, start, hf, ne_eq, not_true_eq_false, Bool.false_eq_true, or_self, if_true, if_false]

/-- RESET_N with VDD_IO up ends the hold: Kindling may run again (R132, R149). -/
theorem State.resetPart_pin_of_held {s : State} (h : s.pwr.phase = .held) :
    (s.resetPart Rst.PIN).finish.pwr.phase = .inReset := by
  rw [State.resetPart_of_held h]
  rfl

/-- Settles O35: Kindling by its cases, the hold by what each command that reaches a part in reset does to it. -/
theorem kindlingFailures : Obligations.KindlingFailures := by
  refine ⟨?repeats, ?holds, ?stays, ?pin, ?loss⟩
  case repeats =>
    intro fails test io strap a1 a0 temp vmain vstore s hf
    exact congrArg done (s.kindling_of_fails_lt hf test io _)
  case holds =>
    intro fails io strap a1 a0 temp vmain vstore s hs hraised hv hf
    exact ⟨_, congrArg done (s.kindling_of_three_le io hs hv hf), (StaysHeld.thirdFailure s io).finish hraised⟩
  case stays =>
    intro c s t hs hraised hpin hloss run
    obtain ⟨u, run', held⟩ := StaysHeld.command hs hpin hloss
    cases run.symm.trans run'
    exact held.finish hraised
  case pin =>
    intro s hs hio
    exact ⟨_, congrArg done (if_pos hio), State.resetPart_pin_of_held hs⟩
  case loss =>
    intro mv s _ hmv
    exact ⟨_, exec_emberDomainLoss hmv s, rfl⟩

end Sys2Proof.Machine
end

section
/-! PROOFS. A threshold comparator over one periodic sample (R177): which samples its state counts, and what one of them and
any other sample do to the state and the count. -/

namespace Sys2Proof.Machine

/-! ### One sample (R177) -/

/-- Whether a comparator counts a sample: while ARMED those that are beyond, while TRIPPED those that have returned. -/
def comparatorCounts (below : Bool) (l h : Int) (tripped : Bool) (filt : Int) : Bool :=
  if tripped then (if below then decide (l + h ≤ filt) else decide (filt ≤ l - h))
  else (if below then decide (filt ≤ l) else decide (l ≤ filt))

/-- ARMED counts the samples beyond the level. -/
theorem comparatorCounts_armed {below : Bool} {l h filt : Int} :
    comparatorCounts below l h false filt = true ↔ if below then filt ≤ l else l ≤ filt := by
  cases below <;> exact decide_eq_true_iff

/-- TRIPPED counts the samples that have returned over the hysteresis. -/
theorem comparatorCounts_tripped {below : Bool} {l h filt : Int} :
    comparatorCounts below l h true filt = true ↔ if below then l + h ≤ filt else filt ≤ l - h := by
  cases below <;> exact decide_eq_true_iff

theorem comparatorStep_eq (below : Bool) (l h : Int) (d : Nat) (tripped : Bool) (count : Nat) (filt : Int) :
    comparatorStep below l h d tripped count filt =
      if comparatorCounts below l h tripped filt then
        if d ≤ count + 1 then (!tripped, 0) else (tripped, count + 1)
      else (tripped, 0) := rfl

section
variable {below : Bool} {l h : Int} {d : Nat} {tripped : Bool} {count : Nat} {filt : Int}

/-- A counted sample before the `d`-th keeps the state and joins the count. -/
theorem comparatorStep_of_counts_of_lt (hc : comparatorCounts below l h tripped filt = true) (hd : count + 1 < d) :
    comparatorStep below l h d tripped count filt = (tripped, count + 1) := by
  rw [comparatorStep_eq, if_pos hc, if_neg (Nat.not_le.2 hd)]

/-- The `d`-th counted sample changes the state, and the count starts again. -/
theorem comparatorStep_of_counts_of_le (hc : comparatorCounts below l h tripped filt = true) (hd : d ≤ count + 1) :
    comparatorStep below l h d tripped count filt = (!tripped, 0) := by
  rw [comparatorStep_eq, if_pos hc, if_pos hd]

/-- Any other sample keeps the state and sets the count to 0. -/
theorem comparatorStep_of_not_counts (hc : ¬ comparatorCounts below l h tripped filt = true) :
    comparatorStep below l h d tripped count filt = (tripped, 0) := by
  rw [comparatorStep_eq, if_neg hc]

end

/-! ### The statement -/

/-- Settles O47: `beyond` is what an ARMED comparator counts and `returned` what a TRIPPED one counts, so the rule of
one sample serves both states. -/
theorem comparatorRule : Obligations.ComparatorRule := by
  intro l h filt d count below beyond returned
  have armed : comparatorCounts below l h false filt = true ↔ beyond := comparatorCounts_armed
  have tripped : comparatorCounts below l h true filt = true ↔ returned := comparatorCounts_tripped
  rw [← armed, ← tripped]
  exact ⟨comparatorStep_of_counts_of_lt, comparatorStep_of_counts_of_le,
    comparatorStep_of_counts_of_lt, comparatorStep_of_counts_of_le,
    comparatorStep_of_not_counts, comparatorStep_of_not_counts⟩

end Sys2Proof.Machine
end

section
/-! PROOFS. A push item above its queue's credits (R303, R328): what LEn_FAIL records, and that the item is discarded
whole without a report. -/

namespace Sys2Proof.Machine

/-! ### A field read after a field's store -/

/-- A bit of a field's value is the bit of the word at its place. -/
theorem Fld.testBit_of (f : Fld) (w : Word) (i : Nat) :
    (f.of w).testBit i = (decide (i < f.width) && w.getLsbD (f.lo + i)) := by
  rw [Fld.of, Nat.testBit_mod_two_pow, Nat.testBit_shiftRight, BitVec.testBit_toNat]

/-- A field's bits are those of the value stored to it. -/
theorem Fld.getLsbD_into_in (f : Fld) (w : Word) (v : Nat) {i : Nat} (hi : i < f.width) (h32 : f.lo + i < 32) :
    (f.into w v).getLsbD (f.lo + i) = v.testBit i := by
  simp only [Fld.into, BitVec.getLsbD_or, BitVec.getLsbD_and, BitVec.getLsbD_not, BitVec.getLsbD_ofNat,
    Nat.testBit_shiftLeft, Nat.testBit_two_pow_sub_one, Nat.testBit_mod_two_pow]
  simp [hi, h32]

/-- A field of a word reads what was stored to it, cut to its width. -/
theorem Fld.of_into (f : Fld) (w : Word) (v : Nat) (hf : f.hi < 32) : f.of (f.into w v) = v % 2 ^ f.width := by
  refine Nat.eq_of_testBit_eq fun i => ?_
  rw [f.testBit_of, Nat.testBit_mod_two_pow]
  by_cases hi : i < f.width
  · have h32 : f.lo + i < 32 := by simp only [Fld.width] at hi; omega
    rw [f.getLsbD_into_in w v hi h32]
  · simp [hi]

/-- A field keeps its value when another field of the word, above or below it, is stored to. -/
theorem Fld.of_into_apart (f g : Fld) (w : Word) (v : Nat) (h : g.hi < f.lo ∨ f.hi < g.lo) :
    g.of (f.into w v) = g.of w := by
  refine Nat.eq_of_testBit_eq fun i => ?_
  rw [g.testBit_of, g.testBit_of]
  by_cases hi : i < g.width
  · have out : g.lo + i < f.lo ∨ f.lo + f.width ≤ g.lo + i := by simp only [Fld.width] at hi ⊢; omega
    rw [f.getLsbD_into_out w v _ out]
  · simp [hi]

/-- A field reads what was stored to it, cut to its width. -/
theorem State.get_put (s : State) (f : Fld) (v : Nat) (hf : f.hi < 32) (hw : RegFile.wf s.regs = true) :
    (s.put f v).get f = v % 2 ^ f.width := by
  rw [State.get, State.put, s.rd_wr _ _ hw, f.of_into _ _ hf]

/-- A field keeps its value when a field above or below it, of its own or another register, is stored to. -/
theorem State.get_put_apart (s : State) (f g : Fld) (v : Nat) (h : g.hi < f.lo ∨ f.hi < g.lo)
    (hw : RegFile.wf s.regs = true) : (s.put f v).get g = s.get g := by
  by_cases ha : g.addr = f.addr
  · rw [State.get, State.get, State.put, ha, s.rd_wr _ _ hw, f.of_into_apart g _ v h]
  · exact s.get_put_ne f g v ha

/-! ### An occurrence beside other registers (R69) -/

/-- An occurrence of an event leaves every register but its page's PG_EVT_RAW. -/
theorem State.rd_raise_ne (s : State) {e p b a : Nat} (he : eventHome e = some (p, b)) (ha : a ≠ Adr.PG_EVT_RAW p) :
    (s.raise e).rd a = s.rd a := by
  simp only [State.raise, he]
  refine (State.rd_wr_ne _ _ _ _ ha).trans ?_
  rw [State.rd, State.retrigger_regs, State.rd]

/-! ### LEn_FAIL with its record (R328) -/

/-- LEn_FAIL is bit 2 of its engine's page. -/
theorem eventHome_LE_FAIL : ∀ n < 8, eventHome (Ev.LE_FAIL n) = some (24 + n, 2) := by decide

/-- LE_FAILINFO is not the PG_EVT_RAW of its page. -/
theorem LE_FAILINFO_ne_PG_EVT_RAW (n : Nat) : Adr.LE_FAILINFO n ≠ Adr.PG_EVT_RAW (24 + n) := by
  simp only [Adr.LE_FAILINFO, Adr.PG_EVT_RAW]
  omega

/-- LE_FAILINFO with the record of a failure, before its event. -/
def State.failRecord (s : State) (n cause dst tag count : Nat) : State :=
  ((((s.put (.LE_FAILINFO_VALID n) 1).put (.LE_FAILINFO_CAUSE n) cause).put (.LE_FAILINFO_DST n) dst).put
    (.LE_FAILINFO_TAG n) tag).put (.LE_FAILINFO_COUNT n) count

section
variable (s : State) (n cause dst tag count : Nat)

theorem State.leFail_eq_raise :
    s.leFail n cause dst tag count = (s.failRecord n cause dst tag count).raise (Ev.LE_FAIL n) := rfl

@[simp] theorem State.leFail_xings : (s.leFail n cause dst tag count).xings = s.xings := by
  rw [State.leFail_eq_raise, State.raise_xings]
  rfl

@[simp] theorem State.leFail_engines : (s.leFail n cause dst tag count).engines = s.engines := by
  rw [State.leFail_eq_raise, State.raise_engines]
  rfl

variable {n} in
/-- The event leaves the record. -/
theorem State.rd_leFail_failInfo (hn : n < 8) : (s.leFail n cause dst tag count).rd (Adr.LE_FAILINFO n) =
    (s.failRecord n cause dst tag count).rd (Adr.LE_FAILINFO n) := by
  rw [State.leFail_eq_raise, State.rd_raise_ne _ (eventHome_LE_FAIL n hn) (LE_FAILINFO_ne_PG_EVT_RAW n)]

variable (hw : RegFile.wf s.regs = true)
include hw

theorem State.wf_failRecord : RegFile.wf (s.failRecord n cause dst tag count).regs = true :=
  State.wf_put _ _ _ <| State.wf_put _ _ _ <| State.wf_put _ _ _ <| State.wf_put _ _ _ <| State.wf_put _ _ _ hw

/-- DST, TAG and COUNT lie below bit 24: writing them leaves the fields above. -/
theorem State.get_failRecord_of_above (g : Fld) (hg : 24 ≤ g.lo) :
    (s.failRecord n cause dst tag count).get g =
      ((s.put (.LE_FAILINFO_VALID n) 1).put (.LE_FAILINFO_CAUSE n) cause).get g := by
  have wfValid := s.wf_put (.LE_FAILINFO_VALID n) 1 hw
  have wfCause := State.wf_put _ (.LE_FAILINFO_CAUSE n) cause wfValid
  have wfDst := State.wf_put _ (.LE_FAILINFO_DST n) dst wfCause
  have wfTag := State.wf_put _ (.LE_FAILINFO_TAG n) tag wfDst
  calc (s.failRecord n cause dst tag count).get g
    _ = _ := State.get_put_apart _ (.LE_FAILINFO_COUNT n) g count (.inr (show 7 < g.lo by omega)) wfTag
    _ = _ := State.get_put_apart _ (.LE_FAILINFO_TAG n) g tag (.inr (show 15 < g.lo by omega)) wfDst
    _ = _ := State.get_put_apart _ (.LE_FAILINFO_DST n) g dst (.inr (show 23 < g.lo by omega)) wfCause

/-- The record reads valid. -/
theorem State.get_failRecord_valid : (s.failRecord n cause dst tag count).get (.LE_FAILINFO_VALID n) = 1 := by
  rw [s.get_failRecord_of_above n cause dst tag count hw _ (by decide : 24 ≤ 31),
    State.get_put_apart _ _ _ _ (.inr (by decide : 29 < 31)) (s.wf_put _ _ hw), s.get_put _ _ (by decide : 31 < 32) hw]
  rfl

/-- The record reads its cause, in the field's six bits. -/
theorem State.get_failRecord_cause : (s.failRecord n cause dst tag count).get (.LE_FAILINFO_CAUSE n) = cause % 64 := by
  rw [s.get_failRecord_of_above n cause dst tag count hw _ (by decide : 24 ≤ 24),
    State.get_put _ _ _ (by decide : 29 < 32) (s.wf_put _ _ hw)]
  rfl

variable {n} (hn : n < 8)
include hn

/-- The failure sets the event's bit in its page. -/
theorem State.getLsbD_leFail_raw : ((s.leFail n cause dst tag count).rd (Adr.PG_EVT_RAW (24 + n))).getLsbD 2 = true := by
  rw [State.leFail_eq_raise]
  exact State.getLsbD_raise_raw _ (eventHome_LE_FAIL n hn) (s.wf_failRecord n cause dst tag count hw)

/-- After the failure LE_FAILINFO is valid. -/
theorem State.bit_leFail_valid : (s.leFail n cause dst tag count).bit (.LE_FAILINFO_VALID n) = true := by
  rw [State.bit_congr (s.rd_leFail_failInfo cause dst tag count hn), State.bit,
    s.get_failRecord_valid n cause dst tag count hw]
  rfl

/-- After the failure LE_FAILINFO shows its cause. -/
theorem State.get_leFail_cause : (s.leFail n cause dst tag count).get (.LE_FAILINFO_CAUSE n) = cause % 64 := by
  rw [State.get_congr (s.rd_leFail_failInfo cause dst tag count hn), s.get_failRecord_cause n cause dst tag count hw]

end

/-! ### The push (R118, R303) -/

/-- A host access leaves the crossings, also where it wakes the part from Ember (R131). -/
@[simp] theorem State.hostWake_xings (s : State) : s.hostWake.xings = s.xings := by
  unfold State.hostWake State.leaveEmber
  split <;> simp

/-- A host access leaves the engines, also where it wakes the part from Ember (R131). -/
@[simp] theorem State.hostWake_engines (s : State) : s.hostWake.engines = s.engines := by
  unfold State.hostWake State.leaveEmber
  split <;> simp

@[simp] theorem State.accessed_xings (s : State) : s.accessed.xings = s.xings := s.hostWake_xings

@[simp] theorem State.accessed_engines (s : State) : s.accessed.engines = s.engines := s.hostWake_engines

/-- A push item that fits the buffer but needs more cells than its queue has credits only fails, with cause TOOBIG. -/
theorem State.closePush_tooBig (s : State) (n : Nat) {words : List Word} (hne : words ≠ []) (hlen : words.length ≤ 64)
    (hfree : 4 ≤ s.pushFree) (hqmx : s.enabled 9 = true) (hbig : s.get (.LE_TXCRED_INIT n) < cellsOfWords words.length) :
    s.closePush n words = s.leFail n LeCause.TOOBIG
      (if s.phyOf n = Phy.NFC then 0 else pushDst (words.getD 0 0)) (pushTag (words.getD 0 0)) 1 := by
  have taken : ¬ (64 < words.length ∨ s.pushFree < 4 ∨ (!s.enabled 9) = true) := by
    simp only [hqmx, Bool.not_true, Bool.false_eq_true, or_false]
    omega
  rw [State.closePush, if_neg (by simpa using hne), if_neg taken, if_pos hbig]

/-- HOST_QUEUE_PUSH with words closes one push item. -/
theorem exec_hostQueuePush {n : Fin 8} {words : List Word} {s : State} (hn : s.nativeHost = true) (hne : words ≠ []) :
    exec (.hostQueuePush n words) s = .next (s.accessed.closePush n words).lateOver.finish := by
  change done (s.native fun s => if words.isEmpty then s else s.closePush n words) = _
  rw [s.native_of_reach _ hn, if_neg (by simpa using hne), done]

/-- Settles O46: the item is discarded by LEn_FAIL alone, which sets its event and its record and leaves the crossings,
where the item would have waited, and the engines, where a report would stand. -/
theorem pushTooBig : Obligations.PushTooBig := by
  intro n words s hn hw hne hlen hfree hqmx hbig
  have run := exec_hostQueuePush (n := n) hn hne
  rw [s.accessed.closePush_tooBig n hne hlen hfree hqmx hbig] at run
  refine ⟨_, run, by simp, by simp, ?event, ?valid, ?cause⟩
  case event => exact s.accessed.getLsbD_leFail_raw _ _ _ _ hw n.isLt
  case valid => exact s.accessed.bit_leFail_valid _ _ _ _ hw n.isLt
  case cause => exact s.accessed.get_leFail_cause _ _ _ _ hw n.isLt

end Sys2Proof.Machine
end

section
/-! PROOFS. Signalling on the Morrun line (R362 to R366, R384): the lengths of level streams, of preambles with sync words
and of M2's padded frames, a burst in each generation, and the levels of the burst that is sent. -/

namespace Sys2Proof.Machine

/-! ### Bits to levels (R363 to R365) -/

/-- M1 sends the halves of the first bit before those of the rest. -/
theorem m1Levels_cons (b : Bool) (l : List Bool) : m1Levels (b :: l) = m1Halves b ++ m1Levels l := List.flatMap_cons

/-- M3 sends one symbol for each whole pair of bits. -/
@[simp] theorem length_m3Levels : ∀ l : List Bool, (m3Levels l).length = l.length / 2
  | [] | [_] => by simp [m3Levels]
  | a :: b :: r => by
    have ih := length_m3Levels r
    simp only [m3Levels, List.length_cons]
    omega

/-- M2 sends two symbols for each whole group of three bits. -/
@[simp] theorem length_m2Levels : ∀ l : List Bool, (m2Levels l).length = l.length / 3 * 2
  | [] | [_] | [_, _] => by simp [m2Levels]
  | a :: b :: c :: r => by
    have ih := length_m2Levels r
    simp only [m2Levels, List.length_cons]
    omega

/-- M1 sends two half levels for each bit. -/
@[simp] theorem length_m1Levels (l : List Bool) : (m1Levels l).length = 2 * l.length := by
  induction l with
  | nil => rfl
  | cons b l ih =>
    have halves : (m1Halves b).length = 2 := by cases b <;> rfl
    rw [m1Levels_cons, List.length_append, halves, ih, List.length_cons]
    omega

/-- No three bits give M2's pair of zero levels (R364). -/
theorem m2Pair_ne_zero : ∀ a b c : Bool, m2Pair a b c ≠ (0, 0) := by decide

/-! ### M2's padding (R364) -/

/-- The padded frame has the next multiple of 3 bits. -/
@[simp] theorem length_m2Padded (l : List Bool) : (m2Padded l).length = (l.length + 2) / 3 * 3 := by
  rw [m2Padded, List.length_append, List.length_replicate]
  omega

/-- The padded frame is the frame, then zero bits alone. -/
theorem m2Padded_eq_append (l : List Bool) :
    m2Padded l = l ++ List.replicate ((m2Padded l).length - l.length) false := by
  rw [m2Padded, List.length_append, List.length_replicate, Nat.add_sub_cancel_left]

/-! ### Preambles and sync words (R366) -/

@[simp] theorem length_numBits (n v : Nat) : (numBits n v).length = n := by
  rw [numBits, List.length_map, List.length_range]

@[simp] theorem length_alternate (n : Nat) (v : Int) : (alternate n v).length = 2 * n := by
  simp [alternate, Nat.mul_comm]

/-- M3: 32 symbols of preamble and 16 of the sync word. -/
theorem length_lineHead_m3 : (lineHead 3).length = 48 := by simp [lineHead]

/-- M2: 24 symbols of preamble and 16 of the sync word. -/
theorem length_lineHead_m2 : (lineHead 2).length = 40 := by simp [lineHead]

/-- M1: 16 bits of preamble and 16 of the sync word, two half levels each. -/
theorem length_lineHead_m1 : (lineHead 1).length = 2 * 32 := by simp [lineHead]

/-! ### A burst -/

section
variable {f : TxFrame}

/-- A burst begins with its generation's preamble and sync word (R366). -/
theorem TxFrame.lineHead_prefix (f : TxFrame) : lineHead f.gen <+: f.lineLevels := List.prefix_append _ _

theorem TxFrame.lineLevels_m3 (h : f.gen = 3) : f.lineLevels = lineHead 3 ++ m3Levels f.bits := by
  simp [TxFrame.lineLevels, h]

theorem TxFrame.lineLevels_m2 (h : f.gen = 2) : f.lineLevels = lineHead 2 ++ m2Levels (m2Padded f.bits) := by
  simp [TxFrame.lineLevels, h]

theorem TxFrame.lineLevels_m1 (h : f.gen = 1) : f.lineLevels = lineHead 1 ++ m1Levels f.bits := by
  simp [TxFrame.lineLevels, h]

theorem TxFrame.lineUnits_m3 (h : f.gen = 3) : f.lineUnits = 48 + f.bits.length / 2 := by
  simp [TxFrame.lineUnits, h]

theorem TxFrame.lineUnits_m2 (h : f.gen = 2) : f.lineUnits = 40 + (f.bits.length + 2) / 3 * 2 := by
  simp [TxFrame.lineUnits, h]

theorem TxFrame.lineUnits_m1 (h : f.gen = 1) : f.lineUnits = 32 + f.bits.length := by
  simp [TxFrame.lineUnits, h]

/-- An M3 burst takes a unit of its window for each symbol (R362). -/
theorem TxFrame.length_lineLevels_m3 (h : f.gen = 3) : f.lineLevels.length = f.lineUnits := by
  rw [lineLevels_m3 h, lineUnits_m3 h, List.length_append, length_lineHead_m3, length_m3Levels]

/-- An M2 burst takes a unit of its window for each symbol, those of the padding included (R362, R364). -/
theorem TxFrame.length_lineLevels_m2 (h : f.gen = 2) : f.lineLevels.length = f.lineUnits := by
  rw [lineLevels_m2 h, lineUnits_m2 h, List.length_append, length_lineHead_m2, length_m2Levels, length_m2Padded,
    Nat.mul_div_cancel _ (by decide : 0 < 3)]

/-- An M1 burst takes a unit of its window for each bit, so for two half levels (R362). -/
theorem TxFrame.length_lineLevels_m1 (h : f.gen = 1) : f.lineLevels.length = 2 * f.lineUnits := by
  rw [lineLevels_m1 h, lineUnits_m1 h, List.length_append, length_lineHead_m1, length_m1Levels, ← Nat.mul_add]

end

/-! ### What is sent (R384) -/

/-- While a frame is sent the line carries its levels, which INV negates. -/
theorem State.lineLevels_of_sending {s : State} {id : Nat} {f : TxFrame} (hsend : s.line.sending = some id)
    (hframe : s.txFrame id = some f) :
    s.lineLevels = if s.bit .WIR_STAT_INV then f.lineLevels.map fun v => -v else f.lineLevels := by
  have sent : s.line.sending.bind s.txFrame = some f := by rw [hsend, Option.bind_some, hframe]
  simp only [State.lineLevels, sent]

/-! ### The statement -/

/-- Settles O55: M3 and M1 by the equation of one pair and of one bit, M2's padding as the frame followed by zero bits, the
units of a burst by the lengths of its head and of its bits' levels, and INV by what is sent while a frame is. -/
theorem lineLevels : Obligations.LineLevels := by
  refine ⟨?m3, m1Levels_cons, rfl, m2Pair_ne_zero, ?padding, fun f => List.prefix_iff_eq_take.1 f.lineHead_prefix |>.symm,
    fun _ => TxFrame.length_lineLevels_m3, fun _ => TxFrame.length_lineLevels_m2, fun _ => TxFrame.length_lineLevels_m1, ?inv⟩
  case m3 => rintro (_ | _) (_ | _) l <;> rfl
  case padding =>
    intro l
    have len := length_m2Padded l
    exact ⟨by omega, by omega, by rw [m2Padded, List.take_left],
      (congrArg (List.drop l.length) (m2Padded_eq_append l)).trans List.drop_left⟩
  case inv =>
    intro id f s hsend hframe
    rw [State.lineLevels_of_sending hsend hframe]
    exact ⟨fun h => by rw [h, if_neg Bool.false_ne_true], fun h => by rw [h, if_pos rfl]⟩

end Sys2Proof.Machine
end

section
/-! PROOFS. What reaches a part (R11, R124, R143, R148): commands that find no way in leave the state as it is, and a part
in reset stays in reset until Kindling. -/

namespace Sys2Proof.Machine

/-! ### Commands without a way in -/

/-- Settles O39: each such command is a host access, a router task or a moment of the running part. -/
theorem resetInert : Obligations.ResetInert := fun _ _ hup hc => exec_of_not_reachesReset hup hc

/-- Settles O42: a command of a view is an access through it, and that access does nothing where the view does not hold. -/
theorem viewsShutOut : Obligations.ViewsShutOut := by
  constructor
  · intro c s hc hs
    obtain ⟨f, run⟩ := exec_of_nativeOnly hc
    rw [run, s.native_of_not f hs, done]
  · intro c s hc hs
    obtain ⟨f, run⟩ := exec_of_legacyOnly hc
    rw [run, s.legacyAccess_of_not f hs, done]

/-! ### A part in reset stays there (R148) -/

/-- Whether the part runs depends on its power phase alone. -/
theorem State.up_congr {s t : State} (h : t.pwr.phase = s.pwr.phase) : t.up = s.up := by simp only [State.up, h]

namespace InReset

variable {s : State} (h : s.up = false)
include h

/-- A further reset keeps one of the phases in which the part does not run. -/
theorem resetPart (cause : Nat) : (s.resetPart cause).up = false := by
  unfold State.resetPart
  rw [h, if_neg Bool.false_ne_true]
  dsimp only
  generalize hph : (if (s.pwr.phase == Phase.held && cause != Rst.PIN) = true then Phase.held
    else if (s.pwr.phase == Phase.hot) = true then Phase.hot else Phase.inReset) = phase
  have idle : phase = .held ∨ phase = .hot ∨ phase = .inReset := by
    subst hph
    split
    · exact .inl rfl
    · split
      · exact .inr (.inl rfl)
      · exact .inr (.inr rfl)
  rcases idle with rfl | rfl | rfl <;> rfl

/-- What survives of a change of the part in reset has the phase it had (R11). -/
theorem always (f : State → State) : (s.always f).up = false := by
  rw [s.always_of_not_up f h]
  exact h

/-- A host transaction gets the status byte at most (R110, R143). -/
theorem transaction (bytes : List Byte) (n ready : Nat) (ecc : List (Nat × Bool)) (close : Bool) :
    (s.transaction bytes n ready ecc close).up = false := by
  unfold State.transaction
  split
  · exact h
  · simp only [h]
    exact h

/-- The part takes note of the level at WAKE. -/
theorem wakeEdge (high : Bool) : (s.wakeEdge high).up = false := by
  unfold State.wakeEdge
  simp only [h, Bool.and_false, Bool.false_eq_true, if_false]
  exact h

/-- The part takes note of VDD_IO and does not watch its pins. -/
theorem ioReturn (pins : Nat) : (s.ioReturn pins).up = false := by
  have down : ({ s with pwr := { s.pwr with ioUp := true } } : State).up = false := h
  have asleep : ({ s with pwr := { s.pwr with ioUp := true } } : State).gpiWatches = false := by
    simp only [State.gpiWatches, down, Bool.false_and]
  unfold State.ioReturn
  simp only [asleep, Bool.false_and, State.whenB, Bool.false_eq_true, if_false]
  exact down

/-- The comparator's release leaves Kindling to run (R181). -/
theorem hotOver : s.hotOver.up = false := by
  unfold State.hotOver
  split
  · rfl
  · exact h

theorem ite {c : Prop} [Decidable c] {t : State} (ht : t.up = false) : (if c then t else s).up = false := by
  split
  · exact ht
  · exact h

/-- No command but Kindling's brings a part out of reset. -/
theorem command {c : Instr} (hc : Safety.startsPart c = false) : ∃ t, exec c s = done t ∧ t.up = false := by
  cases reach : Safety.reachesReset c with
  | false => exact ⟨s, exec_of_not_reachesReset h reach, h⟩
  | true =>
    cases c
    case pinReset | supplyVrst => exact ⟨_, rfl, ite h (resetPart h _)⟩
    case emberDomainLoss => exact ⟨_, rfl, ite h rfl⟩
    case hostWrite | hostRead | hostStatusOnly => exact ⟨_, rfl, transaction h _ _ _ _ _⟩
    case i2cBusTimeout => exact ⟨_, rfl, ite h (transaction h _ _ _ _ _)⟩
    case wakeEdge => exact ⟨_, rfl, wakeEdge h _⟩
    case overtempResetRelease => exact ⟨_, rfl, hotOver h⟩
    case vddIoLoss => exact ⟨_, rfl, h⟩
    case vddIoReturn => exact ⟨_, rfl, ioReturn h _⟩
    case calSecondBoundary | calFullAlign | lxoWindowEnd | lxoEdgeTimeout | lxoRestoreEdge =>
      exact ⟨_, rfl, always h _⟩
    case kindling | kindlingIoReady => cases hc
    all_goals cases reach

end InReset

/-! ### Steps -/

/-- A step with a command in front runs it with the queue's rest. -/
theorem step_of_command {s : State} {c : Instr} {rest : List Instr} (h : s.pending = c :: rest) :
    step s = exec c { s with pending := rest } := by
  rw [step, h]

/-- A step on an empty queue is the part's own time. -/
theorem step_of_idle {s : State} (h : s.pending = []) : step s = .next s.idle := by rw [step, h]

/-- The end of a command leaves the power phase. -/
@[simp] theorem State.up_finish (s : State) : s.finish.up = s.up := rfl

/-- Settles O40: Kindling apart, no command starts the part, and its own time in reset moves the calendar alone. -/
theorem resetHolds : Obligations.ResetHolds := by
  intro s t hup hcmd hstep
  cases hp : s.pending with
  | nil =>
    rw [step_of_idle hp, State.idle, hup, Bool.not_false, if_pos rfl] at hstep
    cases hstep
    exact hup
  | cons c rest =>
    have down : ({ s with pending := rest } : State).up = false := hup
    obtain ⟨u, run, hu⟩ := InReset.command down (hcmd c rest hp)
    rw [step_of_command hp, run, done] at hstep
    cases hstep
    exact hu

end Sys2Proof.Machine
end

section
/-! PROOFS. Frame headers (R335, R338): a header's fields read back from its bytes, and the range of its check byte. -/

namespace Sys2Proof.Machine

/-! ### CRC-8 in a byte (R340) -/

/-- One bit of a CRC keeps it within its width. -/
theorem crcBit_lt {w poly : Nat} (hpoly : poly < 2 ^ w) (crc : Nat) (b : Bool) : crcBit w poly crc b < 2 ^ w := by
  have shifted : crc * 2 % 2 ^ w < 2 ^ w := Nat.mod_lt _ (Nat.two_pow_pos w)
  unfold crcBit
  dsimp only
  split
  · exact shifted
  · exact Nat.xor_lt_two_pow shifted hpoly

/-- A CRC of any bits stays within its width. -/
theorem foldl_crcBit_lt {w poly : Nat} (hpoly : poly < 2 ^ w) (l : List Bool) {crc : Nat} (hcrc : crc < 2 ^ w) :
    l.foldl (crcBit w poly) crc < 2 ^ w := by
  induction l generalizing crc with
  | nil => exact hcrc
  | cons b l ih => exact ih (crcBit_lt hpoly crc b)

/-- HDRCHK fits its byte. -/
theorem crc8_lt (l : List Byte) : crc8 l < 256 := foldl_crcBit_lt (w := 8) (by decide) (bytesBits l) (by decide)

/-! ### Bytes of a header read back -/

/-- A byte of a number below 256 reads that number. -/
theorem byteOfNat_toNat {n : Nat} (h : n < 256) : (BitVec.ofNat 8 n).toNat = n := by
  rw [BitVec.toNat_ofNat, Nat.mod_eq_of_lt h]

/-- Byte 0 of a coded frame: FTYPE above five flags. -/
def codedByte0 (ftype : Nat) (b4 b3 b2 b1 b0 : Bool) : Byte :=
  BitVec.ofNat 8 (ftype * 32 + b4.toNat * 16 + b3.toNat * 8 + b2.toNat * 4 + b1.toNat * 2 + b0.toNat)

/-- The type and every flag stand in byte 0 of a coded frame. -/
theorem codedByte0_fields : ∀ (ftype : Fin 8) (b4 b3 b2 b1 b0 : Bool),
    let b := codedByte0 ftype b4 b3 b2 b1 b0
    b.toNat / 32 = ftype ∧ b.getLsbD 4 = b4 ∧ b.getLsbD 3 = b3 ∧ b.getLsbD 2 = b2 ∧ b.getLsbD 1 = b1 ∧ b.getLsbD 0 = b0 := by
  decide

/-- Byte 0 of a legacy frame: FTYPE, two flags and SEQ. -/
def legacyByte0 (ftype : Nat) (b5 b4 : Bool) (seq : Nat) : Byte :=
  BitVec.ofNat 8 (ftype * 64 + b5.toNat * 32 + b4.toNat * 16 + seq)

/-- The type, both flags and SEQ stand in byte 0 of a legacy frame. -/
theorem legacyByte0_fields : ∀ (ftype : Fin 4) (b5 b4 : Bool) (seq : Fin 16),
    let b := legacyByte0 ftype b5 b4 seq
    b.toNat / 64 = ftype ∧ b.getLsbD 5 = b5 ∧ b.getLsbD 4 = b4 ∧ b.toNat % 16 = seq := by
  decide

/-- A coded header reads back from its bytes, whatever follows them. -/
theorem readCoded_coded {h : Header} (ok : Safety.headerOk false h = true) (l : List Byte) : readCoded (h.coded ++ l) = h := by
  simp only [Safety.headerOk, Bool.false_eq_true, if_false, Bool.and_eq_true, Bool.or_eq_true, Bool.not_eq_true',
    decide_eq_true_eq, beq_iff_eq] at ok
  obtain ⟨⟨⟨⟨⟨⟨⟨hftype, hdst⟩, hbcast⟩, hsrc⟩, hseq⟩, hepoch⟩, hlen⟩, hhops⟩ := ok
  have first : (h.coded ++ l).getD 0 0 = codedByte0 h.ftype h.bcast h.noack h.retry h.sec h.mic8 := rfl
  obtain ⟨htype, h4, h3, h2, h1, h0⟩ := codedByte0_fields ⟨h.ftype, hftype⟩ h.bcast h.noack h.retry h.sec h.mic8
  have dst : at8 (h.coded ++ l) 1 = h.dst := by
    have sent : (if h.bcast then 0 else h.dst) = h.dst := by
      rcases hbcast with hb | hb
      · rw [hb, if_neg Bool.false_ne_true]
      · rw [hb, ite_self]
    exact (congrArg (fun n => (BitVec.ofNat 8 n).toNat) sent).trans (byteOfNat_toNat hdst)
  have src : at8 (h.coded ++ l) 2 = h.src := byteOfNat_toNat hsrc
  have seq : at8 (h.coded ++ l) 3 = h.seq := byteOfNat_toNat hseq
  have epoch : at8 (h.coded ++ l) 4 = h.epoch := byteOfNat_toNat hepoch
  have len : at8 (h.coded ++ l) 5 = h.len := byteOfNat_toNat hlen
  have hops : at8 (h.coded ++ l) 6 % 8 = h.hops := by
    have byte : at8 (h.coded ++ l) 6 = h.hops % 8 := byteOfNat_toNat (by omega)
    omega
  rw [readCoded, dst, src, seq, epoch, len, hops, at8, first]
  simp only [htype, h4, h3, h2, h1, h0]

/-- A legacy header reads back from its bytes, whatever follows them. -/
theorem readLegacy_legacy {h : Header} (ok : Safety.headerOk true h = true) (l : List Byte) :
    readLegacy (h.legacy ++ l) = h := by
  simp only [Safety.headerOk, if_true, Bool.and_eq_true, Bool.not_eq_true', decide_eq_true_eq, beq_iff_eq] at ok
  obtain ⟨⟨⟨⟨⟨⟨⟨⟨⟨hftype, hbcast⟩, hretry⟩, hmic8⟩, hdst⟩, hsrc⟩, hseq⟩, hepoch⟩, hlen⟩, hhops⟩ := ok
  have first : (h.legacy ++ l).getD 0 0 = legacyByte0 h.ftype h.noack h.sec h.seq := by
    rw [legacyByte0, ← Nat.mod_eq_of_lt hseq]
    rfl
  obtain ⟨htype, h5, h4, seq⟩ := legacyByte0_fields ⟨h.ftype, hftype⟩ h.noack h.sec ⟨h.seq, hseq⟩
  have dst : at8 (h.legacy ++ l) 1 = h.dst := byteOfNat_toNat hdst
  have src : at8 (h.legacy ++ l) 2 = h.src := byteOfNat_toNat hsrc
  have len : at8 (h.legacy ++ l) 3 = h.len := byteOfNat_toNat hlen
  rw [readLegacy, dst, src, len, at8, first]
  simp only [htype, h5, h4, seq]
  obtain ⟨⟩ := h
  cases hbcast; cases hretry; cases hmic8; cases hepoch; cases hhops
  rfl

/-- HDRCHK, byte 7 of a coded header, is the CRC-8 of bytes 0 to 5. -/
theorem at8_coded_check (h : Header) : at8 h.coded 7 = crc8 (h.coded.take 6) := byteOfNat_toNat (crc8_lt _)

/-- Settles O57: each byte of a header reads the number it was made of, and the check byte by the range of CRC-8. -/
theorem headerRoundTrip : Obligations.HeaderRoundTrip :=
  ⟨fun h l ok => ⟨readCoded_coded ok l, rfl, at8_coded_check h⟩, fun _ l ok => ⟨readLegacy_legacy ok l, rfl⟩⟩

end Sys2Proof.Machine
end

section
/-! PROOFS. AES-128 undone by its inverse, and on it the key wrap of RFC 3394 and CCM* (R493, R500): each step of the cipher
has its inverse, the rounds follow by induction. -/

namespace Sys2Proof.Machine

/-! ### Bytes XORed -/

@[simp] theorem length_xorBytes (a b : List Byte) : (xorBytes a b).length = min a.length b.length := List.length_zipWith

/-- Bytes XORed twice with the same bytes are as they were. -/
theorem xorBytes_cancel {a b : List Byte} (h : a.length ≤ b.length) : xorBytes (xorBytes a b) b = a := by
  refine List.ext_getElem (by simpa using h) fun i _ _ => ?_
  simp only [xorBytes, List.getElem_zipWith]
  rw [BitVec.xor_assoc, BitVec.xor_self, BitVec.xor_zero]

/-! ### GF(2^8) -/

/-- Multiplication distributes over the sum of the right factor. -/
theorem gfMulN_xor (n : Nat) (a x y : Byte) : gfMulN n a (x ^^^ y) = gfMulN n a x ^^^ gfMulN n a y := by
  induction n generalizing a x y with
  | zero => exact (BitVec.xor_self (x := (0 : Byte))).symm
  | succ n ih =>
    have lowest : (if (x ^^^ y).getLsbD 0 then a else 0) = (if x.getLsbD 0 then a else 0) ^^^ (if y.getLsbD 0 then a else 0) := by
      rw [BitVec.getLsbD_xor]
      cases x.getLsbD 0 <;> cases y.getLsbD 0 <;> simp
    simp only [gfMulN]
    rw [lowest, BitVec.ushiftRight_xor_distrib, ih]
    ac_rfl

theorem gfMul_xor (a x y : Byte) : gfMul a (x ^^^ y) = gfMul a x ^^^ gfMul a y := gfMulN_xor 8 a x y

/-! ### The steps of a round -/

/-- The inverse S-box undoes the S-box. -/
theorem sboxInv_sbox : ∀ b : Byte, sboxInv (sbox b) = b := by decide +kernel

/-- A list of 16 bytes, byte by byte. -/
theorem eq_range_getD_of_length_16 {l : List Byte} (h : l.length = 16) : l = (List.range 16).map fun i => l.getD i 0 := by
  refine List.ext_getElem (by simpa using h) fun i hi _ => ?_
  rw [List.getElem_map, List.getElem_range, List.getD_eq_getElem _ _ hi]

@[simp] theorem length_shiftRows (back : Bool) (l : List Byte) : (shiftRows back l).length = 16 := by
  rw [shiftRows, List.length_map, List.length_range]

@[simp] theorem length_mixWith (c l : List Byte) : (mixWith c l).length = 16 := by
  rw [mixWith, List.length_map, List.length_range]

/-- A byte of a block given by its places. -/
theorem getD_map_range_16 (f : Nat → Byte) {i : Nat} (h : i < 16) : ((List.range 16).map f).getD i 0 = f i := by
  rw [List.getD_eq_getElem _ _ (by simpa using h), List.getElem_map, List.getElem_range]

/-- ShiftRows is undone by the shift back. -/
theorem shiftRows_back {l : List Byte} (h : l.length = 16) : shiftRows true (shiftRows false l) = l := by
  have place : ∀ i < 16, i % 4 + 4 * ((i / 4 + (4 - i % 4)) % 4) < 16 ∧
      (i % 4 + 4 * ((i / 4 + (4 - i % 4)) % 4)) % 4 +
        4 * (((i % 4 + 4 * ((i / 4 + (4 - i % 4)) % 4)) / 4 + (i % 4 + 4 * ((i / 4 + (4 - i % 4)) % 4)) % 4) % 4) = i := by
    decide
  conv_rhs => rw [eq_range_getD_of_length_16 h]
  refine List.map_congr_left fun i hi => ?_
  obtain ⟨inside, back⟩ := place i (List.mem_range.1 hi)
  simp only [if_true, shiftRows, Bool.false_eq_true, if_false]
  rw [getD_map_range_16 _ inside, back]

/-- A byte of MixColumns: row `i` of the circulant matrix of `c` times a column. -/
def mixRow (c : List Byte) (i : Nat) (x : Nat → Byte) : Byte :=
  (List.range 4).foldl (fun acc k => acc ^^^ gfMul (c.getD ((k + 4 - i % 4) % 4) 0) (x k)) 0

/-- The four products of a row. -/
theorem mixRow_eq (c : List Byte) (i : Nat) (x : Nat → Byte) :
    mixRow c i x = gfMul (c.getD ((4 - i % 4) % 4) 0) (x 0) ^^^ gfMul (c.getD ((5 - i % 4) % 4) 0) (x 1)
      ^^^ gfMul (c.getD ((6 - i % 4) % 4) 0) (x 2) ^^^ gfMul (c.getD ((7 - i % 4) % 4) 0) (x 3) := by
  have start (b : Byte) : 0 ^^^ b = b := BitVec.zero_xor
  simp only [mixRow, show List.range 4 = [0, 1, 2, 3] from rfl, List.foldl, Nat.reduceAdd, start]

/-- A row reads the four bytes of its column alone. -/
theorem mixRow_congr (c : List Byte) (i : Nat) {x y : Nat → Byte} (h : ∀ k < 4, x k = y k) : mixRow c i x = mixRow c i y := by
  simp only [mixRow_eq, h, Nat.reduceLT]

theorem mixWith_eq_mixRow (c l : List Byte) :
    mixWith c l = (List.range 16).map fun i => mixRow c (i % 4) fun k => l.getD (4 * (i / 4) + k) 0 := by
  simp only [mixWith, mixRow, Nat.mod_mod]

/-- A row of a circulant matrix is its first row applied to the column turned. -/
theorem mixRow_turned (c : List Byte) (x : Nat → Byte) :
    ∀ i < 4, ∀ k < 4, mixRow c ((k + i) % 4) x = mixRow c k fun m => x ((m + i) % 4) := by
  intro i hi k hk
  interval_cases i <;> interval_cases k <;>
    simp only [mixRow_eq, Nat.reduceAdd, Nat.reduceMod, Nat.reduceSub] <;> ac_rfl

/-- The first row of the product of MixColumns' two matrices: 1, 0, 0, 0. -/
theorem mixRow_products : ∀ b : Byte,
    gfMul 14 (gfMul 2 b) ^^^ gfMul 11 (gfMul 1 b) ^^^ gfMul 13 (gfMul 1 b) ^^^ gfMul 9 (gfMul 3 b) = b ∧
    gfMul 14 (gfMul 3 b) ^^^ gfMul 11 (gfMul 2 b) ^^^ gfMul 13 (gfMul 1 b) ^^^ gfMul 9 (gfMul 1 b) = 0 ∧
    gfMul 14 (gfMul 1 b) ^^^ gfMul 11 (gfMul 3 b) ^^^ gfMul 13 (gfMul 2 b) ^^^ gfMul 9 (gfMul 1 b) = 0 ∧
    gfMul 14 (gfMul 1 b) ^^^ gfMul 11 (gfMul 1 b) ^^^ gfMul 13 (gfMul 3 b) ^^^ gfMul 9 (gfMul 2 b) = 0 := by
  decide +kernel

theorem mixRow_inverse_zero (x : Nat → Byte) : mixRow [14, 11, 13, 9] 0 (fun k => mixRow [2, 3, 1, 1] k x) = x 0 := by
  obtain ⟨p0, -, -, -⟩ := mixRow_products (x 0)
  obtain ⟨-, p1, -, -⟩ := mixRow_products (x 1)
  obtain ⟨-, -, p2, -⟩ := mixRow_products (x 2)
  obtain ⟨-, -, -, p3⟩ := mixRow_products (x 3)
  have rest (b : Byte) : b ^^^ 0 = b := BitVec.xor_zero
  calc mixRow [14, 11, 13, 9] 0 (fun k => mixRow [2, 3, 1, 1] k x)
    _ = (gfMul 14 (gfMul 2 (x 0)) ^^^ gfMul 11 (gfMul 1 (x 0)) ^^^ gfMul 13 (gfMul 1 (x 0)) ^^^ gfMul 9 (gfMul 3 (x 0)))
        ^^^ (gfMul 14 (gfMul 3 (x 1)) ^^^ gfMul 11 (gfMul 2 (x 1)) ^^^ gfMul 13 (gfMul 1 (x 1)) ^^^ gfMul 9 (gfMul 1 (x 1)))
        ^^^ (gfMul 14 (gfMul 1 (x 2)) ^^^ gfMul 11 (gfMul 3 (x 2)) ^^^ gfMul 13 (gfMul 2 (x 2)) ^^^ gfMul 9 (gfMul 1 (x 2)))
        ^^^ (gfMul 14 (gfMul 1 (x 3)) ^^^ gfMul 11 (gfMul 1 (x 3)) ^^^ gfMul 13 (gfMul 3 (x 3)) ^^^ gfMul 9 (gfMul 2 (x 3))) := by
      simp only [mixRow_eq, List.getD, Nat.reduceMod, Nat.reduceSub, List.getElem?_cons_zero,
        List.getElem?_cons_succ, Option.getD_some, gfMul_xor]
      ac_rfl
    _ = x 0 := by rw [p0, p1, p2, p3, rest, rest, rest]

/-- The two circulant matrices of MixColumns are inverse to each other. -/
theorem mixRow_inverse (x : Nat → Byte) {i : Nat} (hi : i < 4) :
    mixRow [14, 11, 13, 9] i (fun k => mixRow [2, 3, 1, 1] (k % 4) x) = x i := by
  have turned := mixRow_turned [14, 11, 13, 9] (fun k => mixRow [2, 3, 1, 1] (k % 4) x) i hi 0 (by decide)
  rw [Nat.zero_add, Nat.mod_eq_of_lt hi] at turned
  calc mixRow [14, 11, 13, 9] i (fun k => mixRow [2, 3, 1, 1] (k % 4) x)
    _ = mixRow [14, 11, 13, 9] 0 (fun k => mixRow [2, 3, 1, 1] k fun m => x ((m + i) % 4)) := by
      rw [turned]
      exact mixRow_congr _ _ fun k hk => by rw [Nat.mod_mod, mixRow_turned _ _ i hi k hk]
    _ = x ((0 + i) % 4) := mixRow_inverse_zero _
    _ = x i := by rw [Nat.zero_add, Nat.mod_eq_of_lt hi]

/-- MixColumns is undone by the inverse matrix. -/
theorem mixWith_inverse {l : List Byte} (h : l.length = 16) : mixWith [14, 11, 13, 9] (mixWith [2, 3, 1, 1] l) = l := by
  conv_rhs => rw [eq_range_getD_of_length_16 h]
  rw [mixWith_eq_mixRow, mixWith_eq_mixRow]
  refine List.map_congr_left fun i hi => ?_
  have hi := List.mem_range.1 hi
  have column (k : Nat) (hk : k < 4) : ((List.range 16).map fun i => mixRow [2, 3, 1, 1] (i % 4) fun k => l.getD (4 * (i / 4) + k) 0).getD
      (4 * (i / 4) + k) 0 = mixRow [2, 3, 1, 1] (k % 4) fun k => l.getD (4 * (i / 4) + k) 0 := by
    rw [getD_map_range_16 _ (by omega), show (4 * (i / 4) + k) % 4 = k % 4 by omega, show (4 * (i / 4) + k) / 4 = i / 4 by omega]
  have inverse := mixRow_inverse (fun k => l.getD (4 * (i / 4) + k) 0) (Nat.mod_lt i (by decide))
  rw [mixRow_congr _ _ column, inverse, Nat.div_add_mod]

end Sys2Proof.Machine
end

section
/-! PROOFS. The rounds of AES-128 undone, and on them the key wrap of RFC 3394 and CCM* (R493, R500). -/

namespace Sys2Proof.Machine

/-! ### Round keys -/

/-- The word that a fourth word of the schedule is XORed with: turned, through the S-box, with the round constant. -/
def keyCore (rcon : Byte) (last : List Byte) : List Byte :=
  match (last.drop 1 ++ last.take 1).map sbox with
  | b :: r => (b ^^^ rcon) :: r
  | [] => []

/-- The next word of the key schedule. -/
def nextWord (i : Nat) (rcon : Byte) (w : List (List Byte)) : List Byte :=
  xorBytes (w.getD 0 []) (if i % 4 = 0 then keyCore rcon (w.getD 3 []) else w.getD 3 [])

theorem expandFrom_succ (n i : Nat) (rcon : Byte) (w : List (List Byte)) :
    expandFrom (n + 1) i rcon w = nextWord i rcon w ::
      expandFrom n (i + 1) (if i % 4 = 0 then gfDouble rcon else rcon) (w.drop 1 ++ [nextWord i rcon w]) := rfl

@[simp] theorem length_keyCore (rcon : Byte) (last : List Byte) : (keyCore rcon last).length = last.length := by
  have len : ((last.drop 1 ++ last.take 1).map sbox).length = last.length := by
    rw [List.length_map, List.length_append, List.length_drop, List.length_take]
    omega
  rw [← len]
  unfold keyCore
  cases (last.drop 1 ++ last.take 1).map sbox <;> rfl

/-- The next word has the four bytes of those before it. -/
theorem length_nextWord (i : Nat) (rcon : Byte) {w : List (List Byte)} (hlen : w.length = 4) (hw : ∀ x ∈ w, x.length = 4) :
    (nextWord i rcon w).length = 4 := by
  have word (k : Nat) (hk : k < 4) : (w.getD k []).length = 4 := by
    rw [List.getD_eq_getElem _ _ (by omega)]
    exact hw _ (List.getElem_mem _)
  have last : (if i % 4 = 0 then keyCore rcon (w.getD 3 []) else w.getD 3 []).length = 4 := by
    split
    · rw [length_keyCore, word 3 (by decide)]
    · exact word 3 (by decide)
  rw [nextWord, length_xorBytes, word 0 (by decide), last, Nat.min_self]

/-- Every word of the key schedule is four bytes, given that the last four are. -/
theorem length_of_mem_expandFrom {n i : Nat} {rcon : Byte} {w : List (List Byte)} (hlen : w.length = 4)
    (hw : ∀ x ∈ w, x.length = 4) : ∀ x ∈ expandFrom n i rcon w, x.length = 4 := by
  induction n generalizing i rcon w with
  | zero => simp [expandFrom]
  | succ n ih =>
    have new := length_nextWord i rcon hlen hw
    have later : ∀ x ∈ w.drop 1 ++ [nextWord i rcon w], x.length = 4 := by
      intro x hx
      rcases List.mem_append.1 hx with hx | hx
      · exact hw x (List.mem_of_mem_drop hx)
      · rwa [List.mem_singleton.1 hx]
    intro x hx
    rw [expandFrom_succ] at hx
    rcases List.mem_cons.1 hx with rfl | hx
    · exact new
    · exact ih (by simp [hlen]) later x hx

theorem length_expandFrom (n i : Nat) (rcon : Byte) (w : List (List Byte)) : (expandFrom n i rcon w).length = n := by
  induction n generalizing i rcon w with
  | zero => rfl
  | succ n ih => exact congrArg (· + 1) (ih _ _ _)

/-- Each of the eleven round keys has 16 bytes. -/
theorem length_roundKey {key : List Byte} (hkey : key.length = 16) {r : Nat} (hr : r < 11) :
    ((roundKeys key).getD r []).length = 16 := by
  have words : ∀ x ∈ (List.range 4).map fun i => (key.drop (4 * i)).take 4, x.length = 4 := by
    intro x hx
    obtain ⟨i, hi, rfl⟩ := List.mem_map.1 hx
    have hi := List.mem_range.1 hi
    rw [List.length_take, List.length_drop]
    omega
  unfold roundKeys
  dsimp only
  generalize hw : (List.range 4).map (fun i => (key.drop (4 * i)).take 4) = w at words
  have len : w.length = 4 := by rw [← hw]; rfl
  have all : ∀ x ∈ w ++ expandFrom 40 4 0x01 w, x.length = 4 := by
    intro x hx
    rcases List.mem_append.1 hx with hx | hx
    · exact words x hx
    · exact length_of_mem_expandFrom len words x hx
  rw [List.getD_eq_getElem _ _ (by simpa using hr), List.getElem_map, List.getElem_range, List.length_flatten,
    List.map_eq_replicate_iff.2 fun x hx => all x (List.mem_of_mem_drop (List.mem_of_mem_take hx)), List.sum_replicate_nat,
    List.length_take, List.length_drop, List.length_append, length_expandFrom, len]
  omega

/-! ### Encryption and its inverse -/

/-- SubBytes and ShiftRows. -/
def subShift (b : List Byte) : List Byte := shiftRows false (b.map sbox)

/-- SubBytes and ShiftRows undone. -/
theorem subShift_back {b : List Byte} (h : b.length = 16) : (shiftRows true (subShift b)).map sboxInv = b := by
  rw [subShift, shiftRows_back (by rwa [List.length_map]), List.map_map]
  exact (List.map_congr_left fun x _ => sboxInv_sbox x).trans (List.map_id b)

/-- The state of an encryption before its round `n`, round 0 the first after the first key. -/
def encState (ks : List (List Byte)) (block : List Byte) (n : Nat) : List Byte :=
  (List.range n).foldl (fun b r => xorBytes (mixWith [2, 3, 1, 1] (subShift b)) (ks.getD (r + 1) []))
    (xorBytes block (ks.getD 0 []))

/-- The state of a decryption after `n` of its nine middle rounds. -/
def decState (ks : List (List Byte)) (block : List Byte) (n : Nat) : List Byte :=
  (List.range n).foldl (fun b r => mixWith [14, 11, 13, 9] (xorBytes ((shiftRows true b).map sboxInv) (ks.getD (9 - r) [])))
    (xorBytes block (ks.getD 10 []))

theorem encState_zero (ks : List (List Byte)) (block : List Byte) :
    encState ks block 0 = xorBytes block (ks.getD 0 []) := rfl

theorem encState_succ (ks : List (List Byte)) (block : List Byte) (n : Nat) : encState ks block (n + 1) =
    xorBytes (mixWith [2, 3, 1, 1] (subShift (encState ks block n))) (ks.getD (n + 1) []) := by
  rw [encState, List.range_succ, List.foldl_append]
  rfl

theorem decState_zero (ks : List (List Byte)) (block : List Byte) :
    decState ks block 0 = xorBytes block (ks.getD 10 []) := rfl

theorem decState_succ (ks : List (List Byte)) (block : List Byte) (n : Nat) : decState ks block (n + 1) =
    mixWith [14, 11, 13, 9] (xorBytes ((shiftRows true (decState ks block n)).map sboxInv) (ks.getD (9 - n) [])) := by
  rw [decState, List.range_succ, List.foldl_append]
  rfl

theorem aesEncrypt_eq (key block : List Byte) :
    aesEncrypt key block = xorBytes (subShift (encState (roundKeys key) block 9)) ((roundKeys key).getD 10 []) := rfl

theorem aesDecrypt_eq (key block : List Byte) :
    aesDecrypt key block =
      xorBytes ((shiftRows true (decState (roundKeys key) block 9)).map sboxInv) ((roundKeys key).getD 0 []) := rfl

section
variable {key block : List Byte} (hkey : key.length = 16)
include hkey

/-- A block under encryption stays of 16 bytes. -/
theorem length_encState (hblock : block.length = 16) {n : Nat} (hn : n ≤ 9) :
    (encState (roundKeys key) block n).length = 16 := by
  cases n with
  | zero =>
    rw [encState_zero, length_xorBytes, hblock, length_roundKey hkey (by decide), Nat.min_self]
  | succ n =>
    rw [encState_succ, length_xorBytes, length_mixWith, length_roundKey hkey (by omega), Nat.min_self]

/-- Whatever the block, its encryption has 16 bytes. -/
theorem length_aesEncrypt : (aesEncrypt key block).length = 16 := by
  rw [aesEncrypt_eq, length_xorBytes, subShift, length_shiftRows, length_roundKey hkey (by decide), Nat.min_self]

/-- Each middle round of a decryption undoes the round of the encryption that mirrors it. -/
theorem decState_aesEncrypt (hblock : block.length = 16) {n : Nat} (hn : n ≤ 9) :
    decState (roundKeys key) (aesEncrypt key block) n = subShift (encState (roundKeys key) block (9 - n)) := by
  induction n with
  | zero =>
    rw [decState_zero, aesEncrypt_eq, Nat.sub_zero]
    refine xorBytes_cancel ?_
    rw [subShift, length_shiftRows, length_roundKey hkey (by decide)]
  | succ n ih =>
    obtain ⟨m, hm⟩ : ∃ m, 9 - n = m + 1 := ⟨8 - n, by omega⟩
    have mirrored : 9 - (n + 1) = m := by omega
    rw [decState_succ, ih (by omega), subShift_back (length_encState hkey hblock (by omega)), mirrored, hm, encState_succ,
      xorBytes_cancel, mixWith_inverse]
    · rw [subShift, length_shiftRows]
    · rw [length_mixWith, length_roundKey hkey (by omega)]

/-- Decryption undoes encryption. -/
theorem aesDecrypt_aesEncrypt (hblock : block.length = 16) : aesDecrypt key (aesEncrypt key block) = block := by
  have first := length_encState hkey hblock (n := 0) (by decide)
  rw [aesDecrypt_eq, decState_aesEncrypt hkey hblock (Nat.le_refl 9), subShift_back first]
  refine xorBytes_cancel ?_
  rw [hblock, length_roundKey hkey (by decide)]

end

/-! ### The key wrap (RFC 3394) -/

/-- One round of the wrap, the step of both key halves. -/
def wrapStep (kek : List Byte) (x : List Byte × List Byte × List Byte) (j : Nat) : List Byte × List Byte × List Byte :=
  let b1 := aesEncrypt kek (x.1 ++ x.2.1)
  let a := wrapCount (b1.take 8) (2 * j + 1)
  let b2 := aesEncrypt kek (a ++ x.2.2)
  (wrapCount (b2.take 8) (2 * j + 2), b1.drop 8, b2.drop 8)

/-- One round of the unwrap, that of the wrap's round `j`. -/
def unwrapStep (kek : List Byte) (x : List Byte × List Byte × List Byte) (j : Nat) : List Byte × List Byte × List Byte :=
  let b2 := aesDecrypt kek (wrapCount x.1 (2 * j + 2) ++ x.2.2)
  let b1 := aesDecrypt kek (wrapCount (b2.take 8) (2 * j + 1) ++ x.2.1)
  (b1.take 8, b1.drop 8, b2.drop 8)

/-- Register and halves of the wrap are 8 bytes each. -/
def wrapSized (x : List Byte × List Byte × List Byte) : Prop := x.1.length = 8 ∧ x.2.1.length = 8 ∧ x.2.2.length = 8

/-- The wrap's state after `n` rounds. -/
def wrapState (kek key : List Byte) (n : Nat) : List Byte × List Byte × List Byte :=
  (List.range n).foldl (wrapStep kek) (wrapIv, key.take 8, key.drop 8)

theorem keyWrap_eq (kek key : List Byte) :
    keyWrap kek key = (wrapState kek key 6).1 ++ (wrapState kek key 6).2.1 ++ (wrapState kek key 6).2.2 := rfl

theorem wrapState_zero (kek key : List Byte) : wrapState kek key 0 = (wrapIv, key.take 8, key.drop 8) := rfl

theorem wrapState_succ (kek key : List Byte) (n : Nat) :
    wrapState kek key (n + 1) = wrapStep kek (wrapState kek key n) n := by
  rw [wrapState, List.range_succ, List.foldl_append]
  rfl

/-- The unwrap's state after its first `n` rounds, which are the wrap's last. -/
def unwrapState (kek : List Byte) (x : List Byte × List Byte × List Byte) (n : Nat) : List Byte × List Byte × List Byte :=
  (List.range n).foldl (fun x k => unwrapStep kek x (5 - k)) x

theorem unwrapState_zero (kek : List Byte) (x : List Byte × List Byte × List Byte) : unwrapState kek x 0 = x := rfl

theorem unwrapState_succ (kek : List Byte) (x : List Byte × List Byte × List Byte) (n : Nat) :
    unwrapState kek x (n + 1) = unwrapStep kek (unwrapState kek x n) (5 - n) := by
  rw [unwrapState, List.range_succ, List.foldl_append]
  rfl

theorem keyUnwrap_eq (kek blob : List Byte) :
    keyUnwrap kek blob =
      let r := unwrapState kek (blob.take 8, (blob.drop 8).take 8, blob.drop 16) 6
      if r.1 = wrapIv then some (r.2.1 ++ r.2.2) else none := rfl

@[simp] theorem length_wrapCount (a : List Byte) (t : Nat) : (wrapCount a t).length = min a.length 8 := by
  simp [wrapCount]

/-- The step number XORed in twice leaves the register. -/
theorem wrapCount_cancel {a : List Byte} (h : a.length = 8) (t : Nat) : wrapCount (wrapCount a t) t = a :=
  xorBytes_cancel (by simp [h])

section
variable {kek : List Byte} (hkek : kek.length = 16)
include hkek

theorem wrapSized_wrapStep (x : List Byte × List Byte × List Byte) (j : Nat) : wrapSized (wrapStep kek x j) := by
  simp [wrapSized, wrapStep, length_aesEncrypt hkek]

/-- A round of the unwrap undoes its round of the wrap. -/
theorem unwrapStep_wrapStep {x : List Byte × List Byte × List Byte} (hx : wrapSized x) (j : Nat) :
    unwrapStep kek (wrapStep kek x j) j = x := by
  obtain ⟨a, r1, r2⟩ := x
  obtain ⟨ha, h1, h2⟩ : a.length = 8 ∧ r1.length = 8 ∧ r2.length = 8 := hx
  have len (b : List Byte) : (aesEncrypt kek b).length = 16 := length_aesEncrypt hkek
  simp only [unwrapStep, wrapStep]
  rw [wrapCount_cancel (by simp [len]), List.take_append_drop, aesDecrypt_aesEncrypt hkek (by simp [len, h2]),
    List.take_left' (by simp [len]), wrapCount_cancel (by simp [len]), List.take_append_drop,
    aesDecrypt_aesEncrypt hkek (by simp [ha, h1]), List.take_left' ha, List.drop_left' ha, List.drop_left' (by simp [len])]

variable {key : List Byte} (hkey : key.length = 16)
include hkey

theorem wrapSized_wrapState (n : Nat) : wrapSized (wrapState kek key n) := by
  cases n with
  | zero => exact ⟨rfl, by simp [wrapState, hkey], by simp [wrapState, hkey]⟩
  | succ n =>
    rw [wrapState_succ]
    exact wrapSized_wrapStep hkek _ _

/-- The first `n` rounds of the unwrap lead from the wrap's end to its state before the last `n` rounds. -/
theorem unwrapState_wrapState {n : Nat} (hn : n ≤ 6) :
    unwrapState kek (wrapState kek key 6) n = wrapState kek key (6 - n) := by
  induction n with
  | zero => rw [unwrapState_zero, Nat.sub_zero]
  | succ n ih =>
    rw [unwrapState_succ, ih (by omega), show 6 - n = (5 - n) + 1 by omega, wrapState_succ,
      unwrapStep_wrapStep hkek (wrapSized_wrapState hkek hkey _), show 6 - (n + 1) = 5 - n by omega]

end

/-- A blob splits into the register and the two halves that it was put together from. -/
theorem blob_parts {x : List Byte × List Byte × List Byte} (hx : wrapSized x) :
    ((x.1 ++ x.2.1 ++ x.2.2).take 8, ((x.1 ++ x.2.1 ++ x.2.2).drop 8).take 8, (x.1 ++ x.2.1 ++ x.2.2).drop 16) = x := by
  obtain ⟨a, r1, r2⟩ := x
  obtain ⟨ha, h1, h2⟩ : a.length = 8 ∧ r1.length = 8 ∧ r2.length = 8 := hx
  have halves : (a ++ r1).length = 16 := by rw [List.length_append, ha, h1]
  change ((a ++ r1 ++ r2).take 8, ((a ++ r1 ++ r2).drop 8).take 8, (a ++ r1 ++ r2).drop 16) = (a, r1, r2)
  rw [List.drop_left' halves, List.append_assoc, List.take_left' ha, List.drop_left' ha, List.take_left' h1]

/-- Settles O60: a wrapped key splits into the register and the halves that the wrap ended with, from which the unwrap goes
back round by round to the initial value and the key. -/
theorem keyWrapRoundTrip : Obligations.KeyWrapRoundTrip := by
  intro kek key hkek hkey
  have sized := wrapSized_wrapState hkek hkey 6
  have back := unwrapState_wrapState hkek hkey (Nat.le_refl 6)
  constructor
  · obtain ⟨ha, h1, h2⟩ := sized
    rw [keyWrap_eq, List.length_append, List.length_append, ha, h1, h2]
  · rw [keyUnwrap_eq, keyWrap_eq, blob_parts sized, back, Nat.sub_self, wrapState_zero]
    dsimp only
    rw [if_pos rfl, List.take_append_drop]

/-! ### CCM* (R493) -/

section
variable {key nonce : List Byte} (hkey : key.length = 16)
include hkey

theorem length_ccmStream (i : Nat) : (ccmStream key nonce i).length = 16 := length_aesEncrypt hkey

/-- The message's key stream is at least as long as the message. -/
theorem le_length_ccmStreams (n : Nat) :
    n ≤ ((List.range (n / 16 + 1)).flatMap fun i => ccmStream key nonce (i + 1)).length := by
  rw [List.length_flatMap, List.map_eq_replicate_iff.2 fun i _ => length_ccmStream hkey (i + 1), List.sum_replicate_nat,
    List.length_range]
  omega

theorem length_ccmCrypt (msg : List Byte) : (ccmCrypt key nonce msg).length = msg.length := by
  rw [ccmCrypt, length_xorBytes, Nat.min_eq_left (le_length_ccmStreams hkey _)]

/-- Decryption is encryption. -/
theorem ccmCrypt_ccmCrypt (msg : List Byte) : ccmCrypt key nonce (ccmCrypt key nonce msg) = msg := by
  rw [ccmCrypt, length_ccmCrypt hkey, ccmCrypt, xorBytes_cancel (le_length_ccmStreams hkey _)]

/-- The chain of a CBC-MAC stays of 16 bytes. -/
theorem length_foldl_aesEncrypt (l : List (List Byte)) {x : List Byte} (hx : x.length = 16) :
    (l.foldl (fun x b => aesEncrypt key (xorBytes x b)) x).length = 16 := by
  induction l generalizing x with
  | nil => exact hx
  | cons b l ih =>
    rw [List.foldl_cons]
    exact ih (length_aesEncrypt hkey)

/-- A MIC has as many bytes as it is asked for, at most 16. -/
theorem length_ccmMac (aad msg : List Byte) {m : Nat} (hm : m ≤ 16) : (ccmMac key nonce aad msg m).length = m := by
  unfold ccmMac
  dsimp only
  rw [List.length_take, length_foldl_aesEncrypt hkey _ (length_aesEncrypt hkey), Nat.min_eq_left hm]

end

/-- Settles O59: the body decrypts to the message, whose MIC under the same length is the one sent. -/
theorem ccmRoundTrip : Obligations.CcmRoundTrip := by
  intro key nonce aad msg m hkey hm
  have body : (ccmCrypt key nonce msg).length = msg.length := length_ccmCrypt hkey msg
  have mic : (xorBytes (ccmMac key nonce aad msg m) (ccmStream key nonce 0)).length = m := by
    rw [length_xorBytes, length_ccmMac hkey aad msg hm, length_ccmStream hkey, Nat.min_eq_left hm]
  rw [ccmProtect, List.take_left' body, List.drop_left' body, ccmVerify, ccmCrypt_ccmCrypt hkey, mic, if_pos rfl]

end Sys2Proof.Machine
end

section
/-! PROOFS. The LDPC encoder (R343, R344), whatever the base shifts are: blocks read bit by bit, a check as a sum over the
block columns, the parity blocks in closed form. -/

namespace Sys2Proof.Machine

/-! ### Sums over GF(2) -/

/-- The sum over GF(2) of the first `n` values of `f`. -/
def xorSum (n : Nat) (f : Nat → Bool) : Bool := (List.range n).foldl (fun p j => p ^^ f j) false

@[simp] theorem xorSum_zero (f : Nat → Bool) : xorSum 0 f = false := rfl

theorem xorSum_succ (n : Nat) (f : Nat → Bool) : xorSum (n + 1) f = (xorSum n f ^^ f n) := by
  rw [xorSum, List.range_succ, List.foldl_append]
  rfl

theorem xorSum_congr {n : Nat} {f g : Nat → Bool} (h : ∀ j < n, f j = g j) : xorSum n f = xorSum n g := by
  induction n with
  | zero => rfl
  | succ n ih => rw [xorSum_succ, xorSum_succ, ih fun j hj => h j (by omega), h n (by omega)]

/-- A sum in two parts. -/
theorem xorSum_add (m n : Nat) (f : Nat → Bool) : xorSum (m + n) f = (xorSum m f ^^ xorSum n fun j => f (m + j)) := by
  induction n with
  | zero => simp
  | succ n ih => rw [← Nat.add_assoc, xorSum_succ, xorSum_succ, ih, Bool.xor_assoc]

/-- A sum of which only the terms at 0, `i` and `i + 1` may be other than 0. -/
theorem xorSum_three (a : Bool) (q : Nat → Bool) (i n : Nat) :
    xorSum n (fun m => if m = 0 then a else if m = i ∨ m = i + 1 then q m else false) =
      ((decide (0 < n) && a) ^^ (decide (0 < i) && decide (i < n) && q i) ^^ (decide (i + 1 < n) && q (i + 1))) := by
  induction n with
  | zero => simp
  | succ n ih =>
    rw [xorSum_succ, ih]
    rcases Nat.eq_zero_or_pos n with rfl | hn
    · rcases Nat.eq_zero_or_pos i with rfl | hi
      · simp
      · simp [show ¬ i < 1 by omega]
    · have other : n ≠ 0 := by omega
      by_cases hi : n = i
      · subst hi
        cases q n <;> simp [other, hn]
      · by_cases hi' : n = i + 1
        · subst hi'
          simp
        · have here : i ≤ n ↔ i < n := by omega
          have next : i < n ↔ i + 1 < n := by omega
          simp [other, hi, hi', hn, here, next]

/-! ### Blocks bit by bit -/

theorem length_xorBlock {z : Nat} {a b : List Bool} (ha : a.length = z) (hb : b.length = z) : (xorBlock a b).length = z := by
  rw [xorBlock, List.length_zipWith, ha, hb, Nat.min_self]

/-- Blocks of one length are added bit by bit. -/
theorem getD_xorBlock {a b : List Bool} (h : a.length = b.length) (t : Nat) :
    (xorBlock a b).getD t false = (a.getD t false ^^ b.getD t false) := by
  by_cases ht : t < a.length
  · have hx : t < (xorBlock a b).length := by rwa [length_xorBlock rfl h.symm]
    rw [List.getD_eq_getElem _ _ hx, List.getD_eq_getElem _ _ ht, List.getD_eq_getElem _ _ (h ▸ ht)]
    exact List.getElem_zipWith
  · have hx : (xorBlock a b).length ≤ t := by rw [length_xorBlock rfl h.symm]; omega
    rw [List.getD_eq_default _ _ hx, List.getD_eq_default _ _ (by omega), List.getD_eq_default _ _ (by omega)]
    rfl

@[simp] theorem length_rotBlock (z h : Nat) (v : List Bool) : (rotBlock z h v).length = z := by
  rw [rotBlock, List.length_map, List.length_range]

theorem getD_rotBlock {z t : Nat} (ht : t < z) (h : Nat) (v : List Bool) :
    (rotBlock z h v).getD t false = v.getD ((t + h) % z) false := by
  rw [List.getD_eq_getElem _ _ (by rwa [length_rotBlock])]
  simp [rotBlock]

/-- A bit of block `j` is the string's bit at its place. -/
theorem getD_blockOf {z s : Nat} (hs : s < z) (j : Nat) (l : List Bool) :
    (blockOf z j l).getD s false = l.getD (j * z + s) false := by
  simp [blockOf, List.getD, hs]

/-- A bit of blocks of one length put together is a bit of one of them. -/
theorem getD_flatten {z : Nat} {l : List (List Bool)} (h : ∀ b ∈ l, b.length = z) {s : Nat} (hs : s < z) (m : Nat) :
    l.flatten.getD (m * z + s) false = (l.getD m []).getD s false := by
  induction l generalizing m with
  | nil => rfl
  | cons b l ih =>
    have hb := h b List.mem_cons_self
    cases m with
    | zero =>
      rw [List.flatten_cons, Nat.zero_mul, Nat.zero_add, List.getD_append _ _ _ _ (by omega)]
      rfl
    | succ m =>
      rw [List.flatten_cons, List.getD_append_right _ _ _ _ (by rw [hb, Nat.succ_mul]; omega), hb,
        show (m + 1) * z + s - z = m * z + s by rw [Nat.succ_mul]; omega, ih fun b hb => h b (List.mem_cons_of_mem _ hb)]
      rfl

/-- A fold each of whose steps adds a block keeps the length and adds bit by bit. -/
theorem foldl_blocks {z : Nat} {g : List Bool → Nat → List Bool} {f : Nat → Nat → Bool}
    (hg : ∀ acc j, acc.length = z →
      (g acc j).length = z ∧ ∀ t < z, (g acc j).getD t false = (acc.getD t false ^^ f j t)) (n : Nat) :
    ((List.range n).foldl g (List.replicate z false)).length = z ∧
      ∀ t < z, ((List.range n).foldl g (List.replicate z false)).getD t false = xorSum n fun j => f j t := by
  induction n with
  | zero => exact ⟨List.length_replicate, fun t ht => by simp [List.getD, ht]⟩
  | succ n ih =>
    obtain ⟨len, bits⟩ := ih
    obtain ⟨len', bits'⟩ := hg _ n len
    rw [List.range_succ, List.foldl_append]
    exact ⟨len', fun t ht => by rw [xorSum_succ, ← bits t ht]; exact bits' t ht⟩

/-! ### The codes' sizes (R342) -/

theorem codeZ_pos (c : Nat) : 0 < codeZ c := by
  unfold codeZ
  split <;> decide

/-- Rows and information columns of the four codes; the middle row is neither the first nor the last. -/
theorem codeRows_bounds : ∀ c < 4, codeInfo c + codeRows c = 24 ∧ 0 < codeRows c / 2 ∧ codeRows c / 2 < codeRows c - 1 := by
  decide

/-! ### A check as a sum -/

/-- What block column `j` brings to check `t` of row `i` in the string `w`. -/
def checkTerm (c i t : Nat) (w : List Bool) (j : Nat) : Bool :=
  match blockShift c i j with
  | none => false
  | some h => w.getD (j * codeZ c + (t + h) % codeZ c) false

/-- The parity of a check is the sum of its block columns. -/
theorem parity_checkVars (c i t : Nat) (w : List Bool) :
    (checkVars c i t).foldl (fun p v => p ^^ w.getD v false) false = xorSum 24 (checkTerm c i t w) := by
  rw [checkVars, List.foldl_filterMap, xorSum]
  congr 1
  funext p j
  unfold checkTerm
  cases blockShift c i j with
  | none => exact (Bool.xor_false p).symm
  | some h => rfl

/-- The length and the bits of λ_i: the information columns of row `i`. -/
theorem lambdaRow_bits (c : Nat) (u : List Bool) (i : Nat) :
    (lambdaRow c u i).length = codeZ c ∧
      ∀ t < codeZ c, (lambdaRow c u i).getD t false = xorSum (codeInfo c) (checkTerm c i t u) := by
  refine foldl_blocks (f := fun j t => checkTerm c i t u j) (fun acc j len => ?_) (codeInfo c)
  unfold checkTerm
  cases blockShift c i j with
  | none => exact ⟨len, fun t _ => (Bool.xor_false _).symm⟩
  | some h =>
    refine ⟨length_xorBlock len (length_rotBlock _ _ _), fun t ht => ?_⟩
    dsimp only
    rw [getD_xorBlock (len.trans (length_rotBlock _ _ _).symm), getD_rotBlock ht,
      getD_blockOf (Nat.mod_lt _ (codeZ_pos c))]

/-! ### The parity blocks -/

/-- q_0 of R344, the sum of every λ. -/
def parityFirst (c : Nat) (u : List Bool) : List Bool :=
  (List.range (codeRows c)).foldl (fun acc i => xorBlock acc (lambdaRow c u i)) (List.replicate (codeZ c) false)

/-- q_i of R344. -/
def parityBlock (c : Nat) (u : List Bool) : Nat → List Bool
  | 0 => parityFirst c u
  | i + 1 =>
    if i = 0 then xorBlock (lambdaRow c u 0) (rotBlock (codeZ c) 1 (parityFirst c u))
    else
      let x := xorBlock (lambdaRow c u i) (parityBlock c u i)
      if i = codeRows c / 2 then xorBlock x (parityFirst c u) else x

theorem parityFrom_succ (c : Nat) (u : List Bool) (n i : Nat) :
    parityFrom c u (parityFirst c u) (n + 1) i (parityBlock c u i) =
      parityBlock c u (i + 1) :: parityFrom c u (parityFirst c u) n (i + 1) (parityBlock c u (i + 1)) := rfl

/-- The encoder's parity blocks from q_i on are q_{i+1}, q_{i+2}, …. -/
theorem parityFrom_eq (c : Nat) (u : List Bool) (n i : Nat) :
    parityFrom c u (parityFirst c u) n i (parityBlock c u i) = (List.range n).map fun k => parityBlock c u (i + k + 1) := by
  induction n generalizing i with
  | zero => rfl
  | succ n ih =>
    rw [parityFrom_succ, ih, List.range_succ_eq_map, List.map_cons, List.map_map]
    congr 1
    refine List.map_congr_left fun k _ => ?_
    rw [Function.comp_apply, show i + 1 + k + 1 = i + k.succ + 1 by omega]

theorem codeRows_pos {c : Nat} (hc : c < 4) : 0 < codeRows c := by
  have bounds := codeRows_bounds c hc
  omega

/-- The codeword is the information bits, then the parity blocks. -/
theorem encodeWord_eq {c : Nat} (hc : c < 4) (u : List Bool) :
    encodeWord c u = u ++ ((List.range (codeRows c)).map (parityBlock c u)).flatten := by
  obtain ⟨m, hm⟩ : ∃ m, codeRows c = m + 1 := ⟨codeRows c - 1, by have := codeRows_pos hc; omega⟩
  have later : parityFrom c u (parityFirst c u) (codeRows c - 1) 0 (parityFirst c u) =
      (List.range (codeRows c - 1)).map fun k => parityBlock c u (0 + k + 1) := parityFrom_eq c u _ 0
  change u ++ parityFirst c u ++ (parityFrom c u (parityFirst c u) (codeRows c - 1) 0 (parityFirst c u)).flatten = _
  rw [later, hm, List.range_succ_eq_map, List.map_cons, List.map_map, List.flatten_cons, List.append_assoc]
  simp only [Nat.zero_add, Nat.add_sub_cancel]
  rfl

section
variable (c : Nat) (u : List Bool)

/-- The bits of q_0. -/
theorem parityFirst_bits : (parityFirst c u).length = codeZ c ∧ ∀ t < codeZ c,
    (parityFirst c u).getD t false = xorSum (codeRows c) fun i => (lambdaRow c u i).getD t false := by
  refine foldl_blocks (f := fun i t => (lambdaRow c u i).getD t false) (fun acc i len => ?_) _
  have lam := (lambdaRow_bits c u i).1
  exact ⟨length_xorBlock len lam, fun t _ => getD_xorBlock (len.trans lam.symm) t⟩

theorem length_parityBlock (i : Nat) : (parityBlock c u i).length = codeZ c := by
  have first := (parityFirst_bits c u).1
  induction i with
  | zero => exact first
  | succ i ih =>
    have sum := length_xorBlock (lambdaRow_bits c u i).1 ih
    unfold parityBlock
    dsimp only
    split
    · exact length_xorBlock (lambdaRow_bits c u 0).1 (length_rotBlock _ _ _)
    · split
      · exact length_xorBlock sum first
      · exact sum

variable {t : Nat} (ht : t < codeZ c)
include ht

/-- The first row's equation: q_1 is λ_0 with q_0 turned. -/
theorem parityBlock_one : (parityBlock c u 1).getD t false =
    ((lambdaRow c u 0).getD t false ^^ (parityFirst c u).getD ((t + 1) % codeZ c) false) := by
  change (xorBlock _ _).getD t false = _
  rw [getD_xorBlock ((lambdaRow_bits c u 0).1.trans (length_rotBlock _ _ _).symm), getD_rotBlock ht]

omit ht in
/-- A later row's equation, q_0 added in the middle row. -/
theorem parityBlock_succ {i : Nat} (hi : 0 < i) : (parityBlock c u (i + 1)).getD t false =
    ((lambdaRow c u i).getD t false ^^ (parityBlock c u i).getD t false ^^
      (decide (i = codeRows c / 2) && (parityFirst c u).getD t false)) := by
  have lam := (lambdaRow_bits c u i).1
  have blk := length_parityBlock c u i
  have sum := length_xorBlock lam blk
  rw [parityBlock, if_neg (by omega)]
  dsimp only
  by_cases hm : i = codeRows c / 2
  · rw [if_pos hm, getD_xorBlock (sum.trans (parityFirst_bits c u).1.symm), getD_xorBlock (lam.trans blk.symm),
      decide_eq_true hm, Bool.true_and]
  · rw [if_neg hm, getD_xorBlock (lam.trans blk.symm), decide_eq_false hm, Bool.false_and, Bool.xor_false]

/-- The equations of the rows up to `n` summed up: q_n in closed form. -/
theorem parityBlock_bits (hmid : 0 < codeRows c / 2) (n : Nat) : (parityBlock c u (n + 1)).getD t false =
    (xorSum (n + 1) (fun i => (lambdaRow c u i).getD t false) ^^ (parityFirst c u).getD ((t + 1) % codeZ c) false ^^
      (decide (codeRows c / 2 < n + 1) && (parityFirst c u).getD t false)) := by
  induction n with
  | zero => rw [parityBlock_one c u ht, xorSum_succ, xorSum_zero, decide_eq_false (by omega)]; simp
  | succ n ih =>
    have mid : decide (codeRows c / 2 < n + 1 + 1) =
        (decide (codeRows c / 2 < n + 1) ^^ decide (n + 1 = codeRows c / 2)) := by
      by_cases h : n + 1 = codeRows c / 2
      · simp [h]
      · have : (codeRows c / 2 < n + 1 + 1) ↔ codeRows c / 2 < n + 1 := by omega
        simp [h, this]
    rw [parityBlock_succ c u (by omega), ih, xorSum_succ (n + 1), mid, Bool.and_xor_distrib_right]
    simp only [Bool.xor_assoc, Bool.xor_left_comm]

end

/-! ### The checks of a codeword -/

section
variable {c : Nat} {u : List Bool} (hc : c < 4) (hu : u.length = codeK c)
include hc hu

/-- An information column of a codeword is that of the information bits. -/
theorem checkTerm_encodeWord_info (i t : Nat) {j : Nat} (hj : j < codeInfo c) :
    checkTerm c i t (encodeWord c u) j = checkTerm c i t u j := by
  unfold checkTerm
  cases blockShift c i j with
  | none => rfl
  | some h =>
    have place : j * codeZ c + (t + h) % codeZ c < u.length := by
      have inside := Nat.mod_lt (t + h) (codeZ_pos c)
      calc j * codeZ c + (t + h) % codeZ c
        _ < (j + 1) * codeZ c := by rw [Nat.succ_mul]; omega
        _ ≤ codeInfo c * codeZ c := Nat.mul_le_mul_right _ hj
        _ = u.length := hu.symm
    dsimp only
    rw [encodeWord_eq hc, List.getD_append _ _ _ _ place]

/-- A bit of parity block `m` in a codeword. -/
theorem getD_encodeWord_parity {m s : Nat} (hm : m < codeRows c) (hs : s < codeZ c) :
    (encodeWord c u).getD ((codeInfo c + m) * codeZ c + s) false = (parityBlock c u m).getD s false := by
  have start : codeInfo c * codeZ c = u.length := hu.symm
  rw [encodeWord_eq hc, List.getD_append_right _ _ _ _ (by rw [Nat.add_mul]; omega),
    show (codeInfo c + m) * codeZ c + s - u.length = m * codeZ c + s by rw [Nat.add_mul]; omega, getD_flatten _ hs]
  · congr 1
    rw [List.getD_eq_getElem _ _ (by simpa using hm), List.getElem_map, List.getElem_range]
  · intro b hb
    obtain ⟨i, -, rfl⟩ := List.mem_map.1 hb
    exact length_parityBlock c u i

/-- A parity column of a codeword: q_0 turned in the first and last row, q_0 in the middle row, q_m in the rows `m - 1` and
`m` (R343). -/
theorem checkTerm_encodeWord_parity (i : Nat) {t m : Nat} (ht : t < codeZ c) (hm : m < codeRows c) :
    checkTerm c i t (encodeWord c u) (codeInfo c + m) =
      if m = 0 then
        if i = 0 ∨ i = codeRows c - 1 then (parityFirst c u).getD ((t + 1) % codeZ c) false
        else if i = codeRows c / 2 then (parityFirst c u).getD t false else false
      else if m = i ∨ m = i + 1 then (parityBlock c u m).getD t false else false := by
  have unturned : (t + 0) % codeZ c = t := Nat.mod_eq_of_lt ht
  have at_ (h : Nat) : (encodeWord c u).getD ((codeInfo c + m) * codeZ c + (t + h) % codeZ c) false =
      (parityBlock c u m).getD ((t + h) % codeZ c) false :=
    getD_encodeWord_parity hc hu hm (Nat.mod_lt _ (codeZ_pos c))
  unfold checkTerm blockShift
  dsimp only
  rw [if_neg (by omega : ¬ codeInfo c + m < codeInfo c)]
  rcases Nat.eq_zero_or_pos m with rfl | hpos
  · rw [if_pos (Nat.add_zero _), if_pos rfl]
    by_cases outer : i = 0 ∨ i = codeRows c - 1
    · rw [if_pos outer, if_pos outer]
      exact at_ 1
    · rw [if_neg outer, if_neg outer]
      by_cases mid : i = codeRows c / 2
      · rw [if_pos mid, if_pos mid]
        exact (at_ 0).trans (congrArg (fun s => (parityFirst c u).getD s false) unturned)
      · rw [if_neg mid, if_neg mid]
  · rw [if_neg (by omega : ¬ codeInfo c + m = codeInfo c), if_neg (by omega : ¬ m = 0)]
    have rows : (i = codeInfo c + m - codeInfo c - 1 ∨ i = codeInfo c + m - codeInfo c) ↔ (m = i ∨ m = i + 1) := by omega
    by_cases near : m = i ∨ m = i + 1
    · rw [if_pos (rows.2 near), if_pos near]
      exact (at_ 0).trans (congrArg (fun s => (parityBlock c u m).getD s false) unturned)
    · rw [if_neg (mt rows.1 near), if_neg near]

/-- Every check of a codeword has even parity. -/
theorem xorSum_checkTerm_encodeWord {i t : Nat} (hi : i < codeRows c) (ht : t < codeZ c) :
    xorSum 24 (checkTerm c i t (encodeWord c u)) = false := by
  obtain ⟨total, mid, midLast⟩ := codeRows_bounds c hc
  rw [← total, xorSum_add, xorSum_congr fun j hj => checkTerm_encodeWord_info hc hu i t hj,
    ← (lambdaRow_bits c u i).2 t ht, xorSum_congr fun m hm => checkTerm_encodeWord_parity hc hu i ht hm, xorSum_three,
    decide_eq_true (by omega : 0 < codeRows c), decide_eq_true hi]
  rcases Nat.eq_zero_or_pos i with rfl | hpos
  · have one := parityBlock_one c u ht
    rw [if_pos (.inl rfl), decide_eq_true (by omega : 0 + 1 < codeRows c), one]
    simp [Bool.xor_left_comm]
  · rw [decide_eq_true hpos]
    by_cases last : i = codeRows c - 1
    · -- the sum of every row's equation: q_0 is the sum of every λ
      have first := (parityFirst_bits c u).2 t ht
      obtain ⟨n, hn⟩ : ∃ n, codeRows c = n + 2 := ⟨codeRows c - 2, by omega⟩
      have hin : i = n + 1 := by omega
      have closed := parityBlock_bits c u ht mid n
      rw [decide_eq_true (by omega : codeRows c / 2 < n + 1)] at closed
      rw [hn, xorSum_succ] at first
      rw [if_pos (.inr last), decide_eq_false (by omega : ¬ i + 1 < codeRows c), hin, closed, first]
      simp [Bool.xor_left_comm, Bool.xor_comm]
    · have later := parityBlock_succ c u (t := t) hpos
      rw [if_neg (by omega), decide_eq_true (by omega : i + 1 < codeRows c), later]
      by_cases middle : i = codeRows c / 2
      · simp [middle, Bool.xor_left_comm, Bool.xor_comm]
      · simp [middle, Bool.xor_left_comm, Bool.xor_comm]

end

/-- Settles O58: the encoder puts the parity blocks behind the information bits, and each check is a row's equation of
R344, in the last row the sum of all of them. -/
theorem codewordsSatisfyChecks : Obligations.CodewordsSatisfyChecks := by
  intro c u hc hu
  refine ⟨?length, ?systematic, ?checks⟩
  case length =>
    have blocks : ∀ n ∈ ((List.range (codeRows c)).map (parityBlock c u)).map List.length, n = codeZ c := by
      intro n hn
      obtain ⟨b, hb, rfl⟩ := List.mem_map.1 hn
      obtain ⟨i, -, rfl⟩ := List.mem_map.1 hb
      exact length_parityBlock c u i
    rw [encodeWord_eq hc, List.length_append, List.length_flatten, List.eq_replicate_of_mem blocks, List.sum_replicate_nat,
      List.length_map, List.length_map, List.length_range, hu, codeK, codeN, ← Nat.add_mul, (codeRows_bounds c hc).1]
  case systematic => rw [encodeWord_eq hc, List.take_left' hu]
  case checks =>
    unfold syndromeZero
    simp only [List.all_eq_true, List.mem_range]
    intro i hi t ht
    rw [parity_checkVars, xorSum_checkTerm_encodeWord hc hu hi ht]
    rfl

end Sys2Proof.Machine
end

section
/-! PROOFS. The basic operations: what a store to a field, a register or a byte changes and keeps (R8), what an occurrence
changes (R69), and how the occurrences of one command reach the router (R256, R258, R259, R269). -/

namespace Sys2Proof.Machine

/-! ### Stores (R8) -/

/-- Settles O3: the bits of a word with a field replaced, and the sparse files read after a store. -/
theorem wordWrites : Obligations.WordWrites := by
  refine ⟨?outside, fun f w v _ hf => f.of_into w v hf, fun s f v _ hf hw => s.get_put f v hf hw,
    fun s a b w h _ => s.rd_wr_ne a b w h, State.rd_wr, fun _ _ _ => rfl,
    fun s a b x h _ => s.byteAt_putByte_ne a b x h, State.byteAt_putByte⟩
  case outside =>
    intro f w v i hf hi
    refine f.getLsbD_into_out w v i (hi.imp_right fun above => ?_)
    rw [Fld.width]
    omega

/-! ### An occurrence (R69) -/

/-- An occurrence keeps every other bit of its page's PG_EVT_RAW. -/
theorem State.getLsbD_raise_raw_ne (s : State) {e p b i : Nat} (he : eventHome e = some (p, b))
    (hw : RegFile.wf s.regs = true) (hi : i ≠ b) :
    ((s.raise e).rd (Adr.PG_EVT_RAW p)).getLsbD i = (s.rd (Adr.PG_EVT_RAW p)).getLsbD i := by
  rw [s.rd_raise_raw he hw, BitVec.getLsbD_ofNat, Nat.testBit_or, Nat.testBit_two_pow_of_ne (Ne.symm hi), Bool.or_false,
    BitVec.testBit_toNat]
  by_cases inWord : i < 32
  · simp [inWord]
  · rw [decide_eq_false inWord, Bool.false_and, BitVec.getLsbD_of_ge _ _ (by omega)]

/-- Settles O4: an occurrence writes its page's PG_EVT_RAW, joins the batch and may release a pin. -/
theorem raiseDoes : Obligations.RaiseDoes := by
  intro s e p b he hw
  refine ⟨s.getLsbD_raise_raw he hw, fun i hi => s.getLsbD_raise_raw_ne he hw hi, fun a ha => s.rd_raise_ne he ha, ?_⟩
  rw [← s.raise_raised e p b he]
  exact s.raise_eq e

/-! ### The end of a command (R256, R259) -/

/-- A batch in ascending order is the library's insertion sort. -/
theorem sortEvents_eq_insertionSort (l : List Nat) : sortEvents l = l.insertionSort (· ≤ ·) := by
  have insert (e : Nat) (l : List Nat) : insertEvent e l = l.orderedInsert (· ≤ ·) e := by
    induction l with
    | nil => rfl
    | cons x l ih => rw [insertEvent, List.orderedInsert_cons, ih]
  induction l with
  | nil => rfl
  | cons x l ih => rw [List.insertionSort_cons, ← ih, ← insert]; rfl

theorem sortEvents_perm (l : List Nat) : (sortEvents l).Perm l := by
  rw [sortEvents_eq_insertionSort]
  exact List.perm_insertionSort _ l

theorem sortEvents_pairwise (l : List Nat) : (sortEvents l).Pairwise (· ≤ ·) := by
  rw [sortEvents_eq_insertionSort]
  exact List.pairwise_insertionSort _ l

/-- The island events that wait to cross at the end of a command: those of earlier commands first, then its own. -/
def State.islandDue (s : State) : List Nat := s.evtWait ++ sortEvents (s.raised.filter islandEvent)

/-- The credits of crossing 12 that the end of a command finds, none while it is slow. -/
def State.routerRoom (s : State) : Nat := if (s.xing 12).slow then 0 else 8 - s.occ.countP islandEvent

/-- What a command brings the router at its end, not yet in order. -/
def State.routerBatch (s : State) : List Nat := s.raised.filter (!islandEvent ·) ++ s.islandDue.take s.routerRoom

/-- With the router on its batch joins the waiting occurrences in order. -/
theorem State.finish_occ_of_on {s : State} (h : s.routerOn = true) : s.finish.occ = s.occ ++ sortEvents s.routerBatch :=
  if_pos h

/-- With the router on the islands keep what has found no credit. -/
theorem State.finish_evtWait_of_on {s : State} (h : s.routerOn = true) :
    s.finish.evtWait = s.islandDue.drop s.routerRoom := if_pos h

/-- A router that takes none holds none (R269). -/
theorem State.finish_of_off {s : State} (h : s.routerOn = false) :
    s.finish.occ = [] ∧ s.finish.evtWait = [] ∧ s.finish.stuck = s.stuck := by
  refine ⟨if_neg (by simp [h]), if_neg (by simp [h]), if_neg (by simp [h])⟩

/-- Every occurrence raised reaches the router's queue or waits in its island. -/
theorem State.finish_perm {s : State} (h : s.routerOn = true) :
    (s.finish.occ ++ s.finish.evtWait).Perm (s.occ ++ s.evtWait ++ s.raised) := by
  rw [finish_occ_of_on h, finish_evtWait_of_on h, List.append_assoc, List.append_assoc]
  refine .append_left s.occ ?_
  have islands : s.islandDue.Perm (s.evtWait ++ s.raised.filter islandEvent) := .append_left _ (sortEvents_perm _)
  have parts : (s.raised.filter islandEvent ++ s.raised.filter (!islandEvent ·)).Perm s.raised :=
    List.filter_append_perm _ _
  calc sortEvents s.routerBatch ++ s.islandDue.drop s.routerRoom
    List.Perm _ (s.routerBatch ++ s.islandDue.drop s.routerRoom) := .append_right _ (sortEvents_perm _)
    List.Perm _ (s.raised.filter (!islandEvent ·) ++ s.islandDue) := by
      rw [routerBatch, List.append_assoc, List.take_append_drop]
    List.Perm _ (s.islandDue ++ s.raised.filter (!islandEvent ·)) := List.perm_append_comm
    List.Perm _ (s.evtWait ++ s.raised.filter islandEvent ++ s.raised.filter (!islandEvent ·)) := .append_right _ islands
    List.Perm _ (s.evtWait ++ s.raised) := by
      rw [List.append_assoc]
      exact .append_left _ parts

/-- Crossing 12 carries no more island events than it has credits. -/
theorem State.countP_finish_occ_le {s : State} (h : s.routerOn = true) (hocc : s.occ.countP islandEvent ≤ 8) :
    s.finish.occ.countP islandEvent ≤ 8 := by
  have fabric : (s.raised.filter (!islandEvent ·)).countP islandEvent = 0 := by
    refine List.countP_eq_zero.2 fun e he => ?_
    simpa using (List.mem_filter.1 he).2
  have taken : (s.islandDue.take s.routerRoom).countP islandEvent ≤ s.routerRoom :=
    List.countP_le_length.trans (List.length_take_le _ _)
  have room : s.routerRoom ≤ 8 - s.occ.countP islandEvent := by
    unfold routerRoom
    split
    · exact Nat.zero_le _
    · exact Nat.le_refl _
  rw [finish_occ_of_on h, List.countP_append, (sortEvents_perm _).countP_eq, routerBatch, List.countP_append, fabric]
  omega

/-- Settles O5: the batch of a command's end in ascending order, what finds no credit left in its island. -/
theorem finishDoes : Obligations.FinishDoes := by
  intro s
  refine ⟨rfl, State.finish_of_off, fun on => ⟨⟨_, State.finish_occ_of_on on, sortEvents_pairwise _, sortEvents_perm _⟩,
    State.finish_evtWait_of_on on, State.finish_perm on, State.countP_finish_occ_le on⟩, s.finish_stuck, ?slow⟩
  case slow =>
    intro on slow idle raised
    have due : (s.evtWait ++ sortEvents (s.raised.filter islandEvent)).isEmpty = false := by
      obtain ⟨e, he, island⟩ := List.any_eq_true.1 raised
      have present : e ∈ sortEvents (s.raised.filter islandEvent) := mem_sortEvents.2 (List.mem_filter.2 ⟨he, island⟩)
      rw [List.isEmpty_eq_false_iff]
      exact List.ne_nil_of_mem (List.mem_append_right _ present)
    change (if ((s.xing 12).slow && s.routerOn && !(s.evtWait ++ sortEvents (s.raised.filter islandEvent)).isEmpty &&
      s.evtWait.isEmpty) = true then _ else _) = _
    rw [if_pos (by rw [slow, on, due, idle]; rfl)]

end Sys2Proof.Machine
end

section
/-! PROOFS. Resets other than POR (R11, R60, R102, R159, R280): the registers that a reset keeps and clears, and two causes
before Kindling. -/

namespace Sys2Proof.Machine

/-! ### What every element of a list leaves alone -/

/-- What each application of `f` keeps, all of them keep. -/
theorem State.forEach_keeps {α : Type} {P : State → Prop} {l : List α} {f : State → α → State}
    (hf : ∀ t, ∀ x ∈ l, P t → P (f t x)) {s : State} (h : P s) : P (s.forEach l f) := by
  induction l generalizing s with
  | nil => exact h
  | cons x l ih =>
    exact ih (fun t y hy => hf t y (List.mem_cons_of_mem _ hy)) (hf s x List.mem_cons_self h)

/-! ### A register file of which some words are dropped -/

/-- A word that is not dropped reads as before. -/
theorem RegFile.get_filter_of_pos {p : Nat → Bool} {a : Nat} (h : p a = true) (r : RegFile) :
    RegFile.get (r.filter fun e => p e.1) a = RegFile.get r a := by
  simp only [RegFile.get, List.find?_filter]
  congr 2
  funext e
  by_cases he : e.1 = a
  · simp [he, h]
  · simp [he]

/-- A word that is dropped reads its reset value. -/
theorem RegFile.get_filter_of_neg {p : Nat → Bool} {a : Nat} (h : p a = false) (r : RegFile) :
    RegFile.get (r.filter fun e => p e.1) a = resetWord a := by
  have none : (r.filter fun e => p e.1).find? (fun e => e.1 == a) = none := by
    refine List.find?_eq_none.2 fun e he hea => ?_
    have kept := (List.mem_filter.1 he).2
    rw [beq_iff_eq.1 hea, h] at kept
    cases kept
  rw [RegFile.get, none]

/-- Dropping words keeps the canonical form. -/
theorem sparseWf_filter {α : Type} [DecidableEq α] {d : Nat → α} (p : Nat × α → Bool) {l : List (Nat × α)}
    (h : sparseWf d l = true) : sparseWf d (l.filter p) = true := by
  induction l with
  | nil => rfl
  | cons e l ih =>
    obtain ⟨value, rising, rest⟩ := (sparseWf_cons d e l).1 h
    rw [List.filter_cons]
    split
    · exact (sparseWf_cons d e _).2 ⟨value, fun f hf => rising f (List.mem_of_mem_filter hf), ih rest⟩
    · exact ih rest

/-! ### The CAL page's twins reloaded (R280) -/

/-- The CAL page's staged registers are active registers of the page. -/
theorem stagedRegs_CAL : ∀ r ∈ stagedRegs 7, 0x1C40 ≤ r.1 ∧ r.1 < 0x1E00 := by decide

/-- Reloading the twins leaves every word that is no twin of the page. -/
theorem State.rd_revertTwins_CAL (s : State) {a : Nat} (ha : a < 0x1E40 ∨ 0x2000 ≤ a) : (s.revertTwins 7).rd a = s.rd a := by
  refine State.forEach_keeps (P := fun t => t.rd a = s.rd a) (fun t r hr ht => ?_) rfl
  have place := stagedRegs_CAL r hr
  rw [State.rd_wr_ne _ _ _ _ (by omega), ht]

/-- Reloading the twins keeps the canonical form. -/
theorem State.wf_revertTwins (s : State) (p : Nat) (h : RegFile.wf s.regs = true) :
    RegFile.wf (s.revertTwins p).regs = true :=
  State.forEach_keeps (P := fun t => RegFile.wf t.regs = true) (fun t _ _ ht => t.wf_wr _ _ ht) h

/-- Reloading the twins changes register words alone. -/
theorem State.revertTwins_frame (s : State) (p : Nat) :
    (s.revertTwins p).cal = s.cal ∧ (s.revertTwins p).mem = s.mem ∧ (s.revertTwins p).pwr = s.pwr := by
  unfold State.revertTwins
  refine State.forEach_keeps (P := fun t => t.cal = s.cal ∧ t.mem = s.mem ∧ t.pwr = s.pwr) (fun _ _ _ ht => ?_)
    ⟨rfl, rfl, rfl⟩
  exact ht

/-! ### A reset other than POR (R11) -/

/-- The part after a reset before CLK_STAT and the CAL twins are set again: every word that is not kept reads its reset
value. -/
def State.resetBase (s : State) (cause : Nat) : State :=
  { State.reset with
    pending := s.pending, ctr := s.ctr, regs := s.regs.filter fun e => keptWord (cause == Rst.STALL) e.1, cal := s.cal
    clk := { Clock.reset with lxoRun := s.clk.lxoRun, lxoBad := s.clk.lxoBad, lxoBack := s.clk.lxoBack }
    pwr := { Power.reset with phase := .inReset, por := false, ioUp := s.pwr.ioUp, wakeHigh := s.pwr.wakeHigh }
    hif := { Hif.reset with strap := s.hif.strap } }

/-- The part after a reset with the fields of CLK_STAT that survive. -/
def State.resetClock (s : State) (cause : Nat) : State :=
  ((s.resetBase cause).put .CLK_STAT_CALSRC (s.get .CLK_STAT_CALSRC)).put .CLK_STAT_LXO (s.get .CLK_STAT_LXO)

theorem State.resetState_eq (s : State) (cause : Nat) :
    s.resetState cause = (((s.resetClock cause).revertTwins 7).put .CAL_STAT_TWR 0).put .CAL_STAT_DWR 0 := rfl

section
variable (s : State) (cause : Nat) (hw : RegFile.wf s.regs = true)

theorem State.resetState_frame : (s.resetState cause).cal = s.cal ∧ (s.resetState cause).mem = [] ∧
    (s.resetState cause).pwr = (s.resetBase cause).pwr := by
  obtain ⟨cal, mem, pwr⟩ := (s.resetClock cause).revertTwins_frame 7
  rw [State.resetState_eq]
  refine ⟨?_, ?_, ?_⟩
  · rw [State.put_cal, State.put_cal, cal, State.resetClock, State.put_cal, State.put_cal]
    rfl
  · rw [State.put_mem, State.put_mem, mem, State.resetClock, State.put_mem, State.put_mem]
    rfl
  · rw [State.put_pwr, State.put_pwr, pwr, State.resetClock, State.put_pwr, State.put_pwr]

/-- After a reset the part does not run. -/
theorem State.up_resetState : (s.resetState cause).up = false := by
  obtain ⟨-, -, hpwr⟩ := s.resetState_frame cause
  rw [State.up, hpwr]
  rfl

/-- Besides CAL_STAT and the CAL twins a reset leaves what it kept at first. -/
theorem State.rd_resetState {a : Nat} (hcal : a ≠ Adr.CAL_STAT) (htwin : a < 0x1E40 ∨ 0x2000 ≤ a) :
    (s.resetState cause).rd a = (s.resetClock cause).rd a := by
  rw [State.resetState_eq, State.rd_put_ne _ _ _ _ hcal, State.rd_put_ne _ _ _ _ hcal, State.rd_revertTwins_CAL _ htwin]

/-- Besides CLK_STAT a reset keeps the words it keeps, and the others take their reset value. -/
theorem State.rd_resetClock {a : Nat} (hclk : a ≠ Adr.CLK_STAT) :
    (s.resetClock cause).rd a = if keptWord (cause == Rst.STALL) a then s.rd a else resetWord a := by
  rw [State.resetClock, State.rd_put_ne _ _ _ _ hclk, State.rd_put_ne _ _ _ _ hclk]
  split
  case isTrue kept => exact RegFile.get_filter_of_pos kept _
  case isFalse dropped => exact RegFile.get_filter_of_neg (by simpa using dropped) _

/-- A word that every reset keeps is kept with any cause. -/
theorem keptWord_of_any {a : Nat} (h : keptWord false a = true) (stall : Bool) : keptWord stall a = true := by
  rw [keptWord, Bool.or_eq_true] at h ⊢
  rcases h with h | h
  · exact .inl h
  · rw [Bool.false_and] at h
    cases h

/-- A word that a reset keeps is neither CLK_STAT nor a twin of the CAL page. -/
theorem keptWord_apart {stall : Bool} {a : Nat} (h : keptWord stall a = true) :
    a ≠ Adr.CLK_STAT ∧ (a < 0x1E40 ∨ 0x2000 ≤ a) := by
  simp only [keptWord, Bool.or_eq_true, Bool.and_eq_true, decide_eq_true_eq, beq_iff_eq] at h
  simp only [Adr.RST_CAUSE, Adr.PWR_KEEP, Adr.QMX_STALLINFO, Adr.CLK_STAT] at h ⊢
  omega

/-- The Ember domain's words survive a reset. -/
theorem State.rd_resetState_of_kept {a : Nat} (h : keptWord (cause == Rst.STALL) a = true) (hcal : a ≠ Adr.CAL_STAT) :
    (s.resetState cause).rd a = s.rd a := by
  obtain ⟨hclk, htwin⟩ := keptWord_apart h
  rw [s.rd_resetState cause hcal htwin, s.rd_resetClock cause hclk, if_pos h]

include hw

theorem State.wf_resetClock : RegFile.wf (s.resetClock cause).regs = true :=
  State.wf_put _ _ _ (State.wf_put _ _ _ (sparseWf_filter _ hw))

theorem State.wf_resetState : RegFile.wf (s.resetState cause).regs = true :=
  State.wf_put _ _ _ (State.wf_put _ _ _ (State.wf_revertTwins _ 7 (s.wf_resetClock cause hw)))

/-- CLK_STAT keeps CALSRC and LXO. -/
theorem State.get_resetState_clkStat : (s.resetState cause).get .CLK_STAT_CALSRC = s.get .CLK_STAT_CALSRC ∧
    (s.resetState cause).get .CLK_STAT_LXO = s.get .CLK_STAT_LXO := by
  have base : RegFile.wf (s.resetBase cause).regs = true := sparseWf_filter _ hw
  have word : (s.resetState cause).rd Adr.CLK_STAT = (s.resetClock cause).rd Adr.CLK_STAT :=
    s.rd_resetState cause (by decide) (.inl (by decide))
  have calsrc : s.get .CLK_STAT_CALSRC < 2 := Nat.mod_lt _ (by decide)
  have lxo : s.get .CLK_STAT_LXO < 4 := Nat.mod_lt _ (by decide)
  constructor
  · rw [State.get_congr (f := .CLK_STAT_CALSRC) word, State.resetClock,
      State.get_put_apart _ _ _ _ (.inr (by decide)) (State.wf_put _ _ _ base), State.get_put _ _ _ (by decide) base]
    exact Nat.mod_eq_of_lt calsrc
  · rw [State.get_congr (f := .CLK_STAT_LXO) word, State.resetClock,
      State.get_put _ _ _ (by decide) (State.wf_put _ _ _ base)]
    exact Nat.mod_eq_of_lt lxo

end

/-- Settles O37: the register words of the state after a reset by whether they are kept, the rest of it by its frame. -/
theorem emberDomainKept : Obligations.EmberDomainKept := by
  intro s cause hw
  obtain ⟨calsrc, lxo⟩ := s.get_resetState_clkStat cause hw
  obtain ⟨cal, mem, pwr⟩ := s.resetState_frame cause
  refine ⟨fun a kept hcal => s.rd_resetState_of_kept cause (keptWord_of_any kept _) hcal, ?cleared, calsrc, lxo, cal, mem, ?phase⟩
  case cleared =>
    intro a dropped hclk htwin
    have hcal : a ≠ Adr.CAL_STAT := by
      rintro rfl
      cases dropped
    rw [s.rd_resetState cause hcal (by omega), s.rd_resetClock cause hclk, if_neg (by simp [dropped])]
    rfl
  case phase => rw [pwr]; rfl

/-! ### Two causes before Kindling (R102, R159) -/

/-- A reset of a running part with its cause counted and recorded (R102). -/
theorem State.resetPart_of_up {s : State} (h : s.up = true) (cause : Nat) :
    s.resetPart cause = ((s.resetState cause).sat .RST_CAUSE_COUNT).put .RST_CAUSE_CAUSE cause := if_pos h

/-- A further cause before Kindling: the cause that counts is the earlier of the two (R159). -/
theorem State.resetPart_of_inReset {s : State} (hphase : s.pwr.phase = .inReset) (hpor : s.pwr.por = false) (cause : Nat) :
    s.resetPart cause = s.put .RST_CAUSE_CAUSE (firstCause (s.get .RST_CAUSE_CAUSE) cause) := by
  have down : s.up = false := by rw [State.up, hphase]; rfl
  have same : ({ s with pwr := { s.pwr with phase := .inReset } } : State) = s := by rw [← hphase]
  unfold State.resetPart
  rw [down, if_neg Bool.false_ne_true, hphase, hpor]
  exact congrArg (fun t : State => t.put .RST_CAUSE_CAUSE (firstCause (s.get .RST_CAUSE_CAUSE) cause)) same

/-- The causes fit their field. -/
theorem lt_of_mem_rstOrder : ∀ c ∈ rstOrder, c < 8 := by decide

/-- Of two causes the one recorded is one of the causes. -/
theorem firstCause_mem {a : Nat} (ha : a ∈ rstOrder) (b : Nat) : firstCause a b ∈ rstOrder := by
  unfold firstCause
  cases h : rstOrder.find? fun c => c == a || c == b with
  | none => exact ha
  | some c => exact List.mem_of_find?_eq_some h

section
variable {s : State} {a : Nat} (hup : s.up = true) (hw : RegFile.wf s.regs = true)
include hup hw

/-- After a reset RST_CAUSE shows its cause, and COUNT has risen by one. -/
theorem State.get_resetPart_cause (ha : a ∈ rstOrder) : (s.resetPart a).get .RST_CAUSE_CAUSE = a ∧
    (s.resetPart a).get .RST_CAUSE_COUNT = min 255 (s.get .RST_CAUSE_COUNT + 1) := by
  have wf := s.wf_resetState a hw
  have kept : (s.resetState a).get .RST_CAUSE_COUNT = s.get .RST_CAUSE_COUNT :=
    State.get_congr (s.rd_resetState_of_kept a (keptWord_of_any (by decide) _) (by decide))
  have counted : RegFile.wf ((s.resetState a).sat .RST_CAUSE_COUNT).regs = true := State.wf_put _ _ _ wf
  rw [State.resetPart_of_up hup]
  constructor
  · rw [State.get_put _ .RST_CAUSE_CAUSE _ (by decide) counted]
    exact Nat.mod_eq_of_lt (lt_of_mem_rstOrder a ha)
  · rw [State.get_put_apart _ .RST_CAUSE_CAUSE .RST_CAUSE_COUNT _ (.inr (by decide)) counted, State.sat,
      State.get_put _ _ _ (by decide) wf, kept]
    change min (s.get .RST_CAUSE_COUNT + 1) 255 % 256 = _
    omega

end

/-- Settles O38: the first cause resets the part, which notes its cause and counts it; the second finds a part in reset
and settles the cause alone. -/
theorem resetCauses : Obligations.ResetCauses := by
  intro s a b hup hw ha hb
  obtain ⟨cause, count⟩ := State.get_resetPart_cause hup hw ha
  have wf : RegFile.wf (s.resetPart a).regs = true := by
    rw [State.resetPart_of_up hup]
    exact State.wf_put _ _ _ (State.wf_put _ _ _ (s.wf_resetState a hw))
  have pwr : (s.resetPart a).pwr = (s.resetBase a).pwr := by
    rw [State.resetPart_of_up hup, State.put_pwr, State.sat_pwr]
    exact (s.resetState_frame a).2.2
  have down : (s.resetPart a).up = false := by rw [State.up, pwr]; rfl
  have second : (s.resetPart a).resetPart b = (s.resetPart a).put .RST_CAUSE_CAUSE (firstCause a b) := by
    rw [State.resetPart_of_inReset (by rw [pwr]; rfl) (by rw [pwr]; rfl), cause]
  refine ⟨?cause, ?count, InReset.resetPart down b⟩
  case cause =>
    rw [second, State.get_put _ _ _ (by decide) wf]
    exact Nat.mod_eq_of_lt (lt_of_mem_rstOrder _ (firstCause_mem ha b))
  case count =>
    rw [second, State.get_put_apart _ _ _ _ (.inr (by decide)) wf]
    exact count

end Sys2Proof.Machine
end

section
/-! PROOFS. Staged twins of a locked page (R71, R82 to R84), and words stored in the packet store and the peer table (R37,
R317). -/

namespace Sys2Proof.Machine

/-! ### The canonical form over occurrences and error records -/

/-- A pin's release leaves the canonical form. -/
theorem State.wf_raise (s : State) (e : Nat) (h : RegFile.wf s.regs = true) : RegFile.wf (s.raise e).regs = true := by
  unfold State.raise
  split
  · exact h
  · exact State.wf_wr _ _ _ (by rwa [State.retrigger_regs])

/-- An error record keeps the canonical form. -/
theorem State.wf_pgErr (s : State) (p : Nat) (f : Fld) (off : Nat) (h : RegFile.wf s.regs = true) :
    RegFile.wf (s.pgErr p f off).regs = true := by
  unfold State.pgErr
  dsimp only
  split
  · exact State.wf_put _ _ _ (State.wf_put _ _ _ h)
  · exact State.wf_put _ _ _ h

theorem State.wf_lockViol (s : State) (p a : Nat) (h : RegFile.wf s.regs = true) :
    RegFile.wf (s.lockViol p a).regs = true :=
  State.wf_pgErr _ _ _ _ (s.wf_raise _ h)

/-- An error record raises no event of its own. -/
theorem State.pgErr_raised (s : State) (p : Nat) (f : Fld) (off : Nat) : (s.pgErr p f off).raised = s.raised := by
  unfold State.pgErr
  dsimp only
  split <;> rfl

/-- A lock violation raises SYS_LOCK_VIOL once (R84). -/
theorem State.lockViol_raised (s : State) (p a : Nat) : (s.lockViol p a).raised = s.raised ++ [Ev.SYS_LOCK_VIOL] := by
  rw [State.lockViol, State.pgErr_raised]
  exact s.raise_raised _ 0 _ (by decide : eventHome Ev.SYS_LOCK_VIOL = some (0, 5))

/-! ### A write to a locked twin (R71, R84) -/

/-- The word that a twin holds after a write: where the row stages and no lock holds, the written bits. -/
def twinWord (rs held old w : Word) : Word := (old &&& ~~~(rs &&& ~~~held)) ||| (w &&& rs &&& ~~~held)

/-- Bits that a lock holds keep their value. -/
theorem getLsbD_twinWord_of_held {rs held : Word} (old w : Word) {i : Nat} (h : held.getLsbD i = true) :
    (twinWord rs held old w).getLsbD i = old.getLsbD i := by
  have inWord : i < 32 := BitVec.lt_of_getLsbD h
  simp only [twinWord, BitVec.getLsbD_or, BitVec.getLsbD_and, BitVec.getLsbD_not, h, inWord, decide_true, Bool.not_true,
    Bool.and_false, Bool.not_false, Bool.and_true, Bool.or_false]

/-- Staged bits that no lock holds take the written value. -/
theorem getLsbD_twinWord_of_free {rs held : Word} (old w : Word) {i : Nat} (hrs : rs.getLsbD i = true)
    (h : held.getLsbD i = false) : (twinWord rs held old w).getLsbD i = w.getLsbD i := by
  have inWord : i < 32 := BitVec.lt_of_getLsbD hrs
  simp only [twinWord, BitVec.getLsbD_or, BitVec.getLsbD_and, BitVec.getLsbD_not, hrs, h, inWord, decide_true, Bool.not_true,
    Bool.and_false, Bool.not_false, Bool.and_true, Bool.false_or]

/-- The twin of a staged register written, with DIRTY and without the marks of the calendar's pair. -/
def State.twinStored (s : State) (a : Nat) (r : RegRow) (w : Word) : State :=
  let rl : Word := BitVec.ofNat 32 r.rl
  let rs : Word := BitVec.ofNat 32 r.rs
  let t := if (s.rd a ^^^ w) &&& rs &&& rl ≠ 0 then s.lockViol (a / 0x400) a else s
  (t.wr a (twinWord rs rl (s.rd a) w)).put (.PG_CFGSTAT_DIRTY (a / 0x400)) 1

/-- TWR or DWR after a write to the twin of CAL_TIME or CAL_DATE (R281). -/
def State.calPairMarked (s : State) (a : Nat) : State :=
  if a = Adr.CAL_TIME + 0x200 then s.put .CAL_STAT_TWR 1
  else if a = Adr.CAL_DATE + 0x200 then s.put .CAL_STAT_DWR 1 else s

/-- A write to a twin of a locked page with no commit pending; the calendar's pair is noted in TWR and DWR (R281). -/
theorem State.twinWrite_of_locked {s : State} {a : Nat} {r : RegRow} (w : Word)
    (hr : findRow (pageAll (a / 0x400)) (a % 0x400 - 0x200) = some r) (hrs : r.rs ≠ 0)
    (hpend : s.bit (.PG_CFGSTAT_PENDING (a / 0x400)) = false) (hlock : s.locked (a / 0x400) = true) :
    s.twinWrite a w =
      (s.twinStored a r w).calPairMarked a := by
  unfold State.twinWrite
  dsimp only
  rw [hr]
  dsimp only
  rw [if_neg hrs, if_neg (by rw [hpend]; exact Bool.false_ne_true), if_pos hlock]
  rfl

/-- PG_CFGSTAT.DIRTY's register lies in its page's header. -/
theorem PG_CFGSTAT_DIRTY_addr (p : Nat) : (Fld.PG_CFGSTAT_DIRTY p).addr = p * 0x400 + 0x28 := by
  change 0x400 * p + 0x28 = _
  rw [Nat.mul_comm]

/-- The calendar's marks leave every twin, DIRTY and the batch. -/
theorem State.calPairMarked_frame (s : State) (a : Nat) (ha : 0x40 ≤ a % 0x400) :
    (s.calPairMarked a).rd a = s.rd a ∧
      (s.calPairMarked a).get (.PG_CFGSTAT_DIRTY (a / 0x400)) = s.get (.PG_CFGSTAT_DIRTY (a / 0x400)) ∧
      (s.calPairMarked a).raised = s.raised := by
  have twin : a ≠ Adr.CAL_STAT := by simp only [Adr.CAL_STAT]; omega
  have dirty : (Fld.PG_CFGSTAT_DIRTY (a / 0x400)).addr ≠ Adr.CAL_STAT := by
    rw [PG_CFGSTAT_DIRTY_addr]; simp only [Adr.CAL_STAT]; omega
  have put (f : Fld) (hf : f.addr = Adr.CAL_STAT) : (s.put f 1).rd a = s.rd a ∧
      (s.put f 1).get (.PG_CFGSTAT_DIRTY (a / 0x400)) = s.get (.PG_CFGSTAT_DIRTY (a / 0x400)) ∧
      (s.put f 1).raised = s.raised :=
    ⟨s.rd_put_ne _ _ _ (hf ▸ twin), s.get_put_ne _ _ _ (hf ▸ dirty), s.put_raised _ _⟩
  unfold State.calPairMarked
  split
  · exact put _ rfl
  · split
    · exact put _ rfl
    · exact ⟨rfl, rfl, rfl⟩

section
variable {s : State} {a : Nat} (r : RegRow) (w : Word) (hw : RegFile.wf s.regs = true)
include hw

theorem State.wf_twinStored_base : RegFile.wf (if (s.rd a ^^^ w) &&& BitVec.ofNat 32 r.rs &&& BitVec.ofNat 32 r.rl ≠ 0 then
    s.lockViol (a / 0x400) a else s).regs = true := by
  split
  · exact s.wf_lockViol _ _ hw
  · exact hw

/-- The twin reads the stored word: no other store goes to its address. -/
theorem State.rd_twinStored (ha : 0x30 ≤ a % 0x400) :
    (s.twinStored a r w).rd a = twinWord (BitVec.ofNat 32 r.rs) (BitVec.ofNat 32 r.rl) (s.rd a) w := by
  have dirty : a ≠ (Fld.PG_CFGSTAT_DIRTY (a / 0x400)).addr := by rw [PG_CFGSTAT_DIRTY_addr]; omega
  rw [State.twinStored, State.rd_put_ne _ _ _ _ dirty, State.rd_wr _ _ _ (State.wf_twinStored_base r w hw)]

/-- DIRTY reads 1. -/
theorem State.get_twinStored_dirty : (s.twinStored a r w).get (.PG_CFGSTAT_DIRTY (a / 0x400)) = 1 := by
  rw [State.twinStored, State.get_put _ _ _ (by decide : 0 < 32) (State.wf_wr _ _ _ (State.wf_twinStored_base r w hw))]
  rfl

omit hw in
/-- A twin's store raises SYS_LOCK_VIOL where the write would change a lockable field. -/
theorem State.twinStored_raised : (s.twinStored a r w).raised =
    s.raised ++ if (s.rd a ^^^ w) &&& BitVec.ofNat 32 r.rs &&& BitVec.ofNat 32 r.rl = 0 then [] else [Ev.SYS_LOCK_VIOL] := by
  change (if (s.rd a ^^^ w) &&& BitVec.ofNat 32 r.rs &&& BitVec.ofNat 32 r.rl ≠ 0 then s.lockViol (a / 0x400) a else s).raised = _
  by_cases h : (s.rd a ^^^ w) &&& BitVec.ofNat 32 r.rs &&& BitVec.ofNat 32 r.rl = 0
  · rw [if_neg (not_not_intro h), if_pos h, List.append_nil]
  · rw [if_pos h, if_neg h, State.lockViol_raised]

end

/-- A write to a twin's address, as any register write. -/
theorem exec_stagedTwinWrite (a : BitVec 16) (w : Word) (s : State) (hn : s.nativeHost = true) :
    exec (.stagedTwinWrite a w) s = .next (s.accessed.regWrite a.toNat w).lateOver.finish := by
  change done (s.native fun s => s.regWrite a.toNat w) = _
  rw [s.native_of_reach _ hn, done]

/-- Settles O44: the twin's word, DIRTY and the violation are those of the store; the marks of the calendar's pair go to
another register. -/
theorem lockedTwin : Obligations.LockedTwin := by
  intro p off r w s hn hw hp hlo hhi h4 hr hrs hpend hlock a rs rl
  have hp32 := p.isLt
  have inPage : a / 0x400 = p.val := by omega
  have atOff : a % 0x400 = off + 0x200 := by omega
  have addr : (BitVec.ofNat 16 a).toNat = a := by
    rw [BitVec.toNat_ofNat]
    omega
  clear_value a
  have row : findRow (pageAll (a / 0x400)) (a % 0x400 - 0x200) = some r := by rw [inPage, atOff, Nat.add_sub_cancel, hr]
  have write : s.accessed.regWrite a w = s.accessed.twinWrite a w :=
    State.regWrite_twin _ _ _ (by omega) (by omega) (by rw [inPage]; exact hp) (by omega) (by omega)
  have stored := State.twinWrite_of_locked w row hrs (by rw [inPage]; exact hpend) (by rw [inPage]; exact hlock)
  have run : exec (.stagedTwinWrite (BitVec.ofNat 16 a) w) s = .next (s.accessed.twinWrite a w).lateOver.finish := by
    rw [exec_stagedTwinWrite _ _ _ hn, addr, write]
  have word := State.rd_twinStored r w hw (a := a) (by omega)
  have dirty := State.get_twinStored_dirty (a := a) r w hw
  have raised := State.twinStored_raised (s := s.accessed) (a := a) r w
  have mark := State.calPairMarked_frame (s.accessed.twinStored a r w) a (by omega)
  obtain ⟨markWord, markDirty, markRaised⟩ := mark
  rw [stored] at run
  refine ⟨_, run, fun i hi => ?held, fun i hi hfree => ?free, ?dirty, markRaised.trans raised⟩
  case held => rw [markWord, word, getLsbD_twinWord_of_held _ _ hi]
  case free => rw [markWord, word, getLsbD_twinWord_of_free _ _ hi hfree]
  case dirty => rw [← inPage, State.bit, markDirty, dirty]; rfl

/-! ### Bytes of a stored word -/

/-- A stored byte string reads back byte by byte. -/
theorem State.byteAt_putBytes_in (s : State) (a : Nat) (l : List Byte) (h : Memory.wf s.mem = true) {i : Nat}
    (hi : i < l.length) : (s.putBytes a l).byteAt (a + i) = l[i] := by
  induction l generalizing s a i with
  | nil => cases hi
  | cons b l ih =>
    have next := s.wf_putByte a b h
    cases i with
    | zero =>
      change ((s.putByte a b).putBytes (a + 1) l).byteAt a = b
      rw [State.byteAt_putBytes_out _ _ _ _ (.inl (by omega)), s.byteAt_putByte a b h]
    | succ i =>
      rw [show a + (i + 1) = a + 1 + i by omega]
      exact ih _ _ next (by simpa using hi)

/-- The four bytes of a word make the word again. -/
theorem append_wordBytes (w : Word) :
    w.extractLsb' 24 8 ++ w.extractLsb' 16 8 ++ w.extractLsb' 8 8 ++ w.extractLsb' 0 8 = w := by
  refine BitVec.eq_of_getLsbD_eq fun i hi => ?_
  simp only [BitVec.getLsbD_append, BitVec.getLsbD_extractLsb']
  by_cases h8 : i < 8
  · simp [h8]
  · by_cases h16 : i < 16
    · simp [h8, show i - 8 < 8 by omega, show 8 + (i - 8) = i by omega]
    · by_cases h24 : i < 24
      · simp [h8, show ¬ i - 8 < 8 by omega, show i - 8 - 8 < 8 by omega, show 16 + (i - 8 - 8) = i by omega]
      · simp [h8, show ¬ i - 8 < 8 by omega, show ¬ i - 8 - 8 < 8 by omega, show i - 8 - 8 - 8 < 8 by omega,
          show 24 + (i - 8 - 8 - 8) = i by omega]

/-- A stored word reads back. -/
theorem State.memWord_putMemWord (s : State) (a : Nat) (w : Word) (h : Memory.wf s.mem = true) :
    (s.putMemWord a w).memWord a = w := by
  have bytes (i : Nat) (hi : i < (wordBytes w).length) := s.byteAt_putBytes_in a (wordBytes w) h hi
  have b0 := bytes 0 (by decide : 0 < 4)
  have b1 := bytes 1 (by decide : 1 < 4)
  have b2 := bytes 2 (by decide : 2 < 4)
  have b3 := bytes 3 (by decide : 3 < 4)
  rw [Nat.add_zero] at b0
  rw [State.memWord, State.putMemWord, b0, b1, b2, b3]
  exact append_wordBytes w

/-- Stored bytes leave the registers. -/
theorem State.regs_putBytes (s : State) (a : Nat) (l : List Byte) : (s.putBytes a l).regs = s.regs := by
  induction l generalizing s a with
  | nil => rfl
  | cons b l ih => exact ih _ _

/-- A host access leaves the packet store and the peer table. -/
@[simp] theorem State.accessed_mem (s : State) : s.accessed.mem = s.mem := by
  change s.hostWake.mem = s.mem
  unfold State.hostWake State.leaveEmber
  split <;> simp

/-- A refused access leaves the packet store and the peer table. -/
theorem State.accErr_mem (s : State) (a : Nat) (wr : Bool) (cause : Nat) (pw : Bool) : (s.accErr a wr cause pw).mem = s.mem := by
  have record (t : State) (p : Nat) (f : Fld) (off : Nat) : (t.pgErr p f off).mem = t.mem := by
    unfold State.pgErr
    dsimp only
    split <;> rfl
  unfold State.accErr
  dsimp only
  split <;> split <;> simp [record]

/-- What a stored word changes: it reads back, every byte outside it and every register is unchanged, and the memory keeps
its canonical form. -/
theorem State.putMemWord_stores (s : State) (a : Nat) (w : Word) (h : Memory.wf s.mem = true) :
    (s.putMemWord a w).memWord a = w ∧ (∀ b, b < a ∨ a + 4 ≤ b → (s.putMemWord a w).byteAt b = s.byteAt b) ∧
      Memory.wf (s.putMemWord a w).mem = true ∧ (s.putMemWord a w).regs = s.regs :=
  ⟨s.memWord_putMemWord a w h, fun _ hb => s.byteAt_putBytes_out _ _ _ hb, s.wf_putMemWord a w h, s.regs_putBytes _ _⟩

/-- The end of a native access leaves the stores. -/
theorem State.memWord_lateOver_finish (s : State) (a : Nat) : s.lateOver.finish.memWord a = s.memWord a := rfl

theorem State.byteAt_lateOver_finish (s : State) (a : Nat) : s.lateOver.finish.byteAt a = s.byteAt a := rfl

/-- What a stored word changes, at the end of the access that stored it. -/
theorem State.accessed_putMemWord_stores (s : State) (a : Nat) (w : Word) (h : Memory.wf s.mem = true) :
    let t := (s.accessed.putMemWord a w).lateOver.finish
    t.memWord a = w ∧ (∀ b, b < a ∨ a + 4 ≤ b → t.byteAt b = s.byteAt b) ∧ Memory.wf t.mem = true ∧
      t.regs = s.accessed.regs := by
  have outside (b : Nat) : s.accessed.byteAt b = s.byteAt b := by rw [State.byteAt, s.accessed_mem, State.byteAt]
  obtain ⟨word, others, wf, regs⟩ := s.accessed.putMemWord_stores a w (by rwa [State.accessed_mem])
  dsimp only
  rw [State.memWord_lateOver_finish, State.finish_mem, State.lateOver_mem, State.finish_regs, State.lateOver_regs]
  exact ⟨word, fun b hb => (State.byteAt_lateOver_finish _ b).trans ((others b hb).trans (outside b)), wf, regs⟩

/-- Settles O45: one rule for both windows, a stored word. -/
theorem memoryStores : Obligations.MemoryStores := by
  refine ⟨fun id k w s hn hm => ?peer, fun a w s hn hm h4 hlo hhi => ⟨fun off => ?free, fun on => ?managed⟩⟩
  case peer =>
    have hid := id.isLt
    have hk := k.isLt
    have addr : peerAddr id.toNat k.val = 0xE000 + 0x10 * id.toNat + 4 * k.val := rfl
    have run : exec (.peerEntryWrite id k w) s = .next (s.accessed.peerWrite (peerAddr id.toNat k) w).lateOver.finish := by
      change done (s.native fun s => s.regWrite (peerAddr id.toNat k) w) = _
      rw [s.native_of_reach _ hn, State.regWrite_peer _ _ _ (by omega) (by omega) (by omega), done]
    exact ⟨_, run, s.accessed_putMemWord_stores _ _ hm⟩
  case free =>
    have run : exec (.storeWindowWrite a w) s = .next (s.accessed.putMemWord a.toNat w).lateOver.finish := by
      change done (s.native fun s => s.regWrite a.toNat w) = _
      rw [s.native_of_reach _ hn, State.regWrite_store _ _ _ h4 hlo hhi, State.storeWrite,
        if_neg (by rw [off]; exact Bool.false_ne_true), done]
    exact ⟨_, run, s.accessed_putMemWord_stores _ _ hm⟩
  case managed =>
    have run : exec (.storeWindowWrite a w) s = .next (s.accessed.accErr a.toNat true 3).lateOver.finish := by
      change done (s.native fun s => s.regWrite a.toNat w) = _
      rw [s.native_of_reach _ hn, State.regWrite_store _ _ _ h4 hlo hhi, State.storeWrite, if_pos on, done]
    refine ⟨_, run, ?_⟩
    rw [State.finish_mem, State.lateOver_mem, State.accErr_mem, State.accessed_mem]

end Sys2Proof.Machine
end

section
/-! PROOFS. Bits and days: whitening (R341), the check values (R340), and the weekday that follows another (R277, R279). -/

namespace Sys2Proof.Machine

/-! ### Whitening (R341) -/

/-- The generator on numbers is a 9-bit shift register that feeds s[0] XOR s[5] into s[8]. -/
theorem whitenStep_eq : ∀ s : BitVec 9, whitenStep s.toNat =
    (s.getLsbD 0, ((s >>> 1) ||| (if s.getLsbD 0 ^^ s.getLsbD 5 then 0x100#9 else 0#9)).toNat) := by
  decide +kernel

/-- Whitening twice with the same sequence gives the bits back. -/
theorem whitenFrom_whitenFrom (s : Nat) (l : List Bool) : whitenFrom s (whitenFrom s l) = l := by
  induction l generalizing s with
  | nil => rfl
  | cons b l ih => simp only [whitenFrom, ih, Bool.xor_assoc, Bool.xor_self, Bool.xor_false]

/-- The sequence does not depend on what follows. -/
theorem take_whitenFrom_append (s : Nat) (k l : List Bool) :
    (whitenFrom s (k ++ l)).take k.length = whitenFrom s k := by
  induction k generalizing s with
  | nil => rfl
  | cons b k ih => simp only [List.cons_append, whitenFrom, List.length_cons, List.take_succ_cons, ih]

/-- Settles O56: the shift register over its 512 states, and two inductions over the bits. -/
theorem whitening : Obligations.Whitening := by
  refine ⟨fun _ => rfl, fun s b l => ?_, fun l => ?_, whitenFrom_whitenFrom _⟩
  · rw [whitenFrom, whitenStep_eq]
  · have first := take_whitenFrom_append 0x1FF (List.replicate 9 false) l
    rw [List.length_replicate] at first
    exact first.trans (by decide)

/-- Settles O54: nine bytes evaluated. -/
theorem checkValues : Obligations.CheckValues := by
  unfold Obligations.CheckValues
  decide +kernel

/-! ### Days and weekdays (R277, R278, R279) -/

/-- The number of a date's day, counted from 2000-01-01. -/
def dayNumber (y m d : Nat) : Nat :=
  365 * y + (y + 3) / 4 - (y + 99) / 100 + (y + 399) / 400 + daysBefore y m + (d - 1)

theorem weekday_eq (y m d : Nat) : weekday y m d = (dayNumber y m d + 5) % 7 + 1 := rfl

theorem daysBefore_succ (y m : Nat) (hm : 1 ≤ m) : daysBefore y (m + 1) = daysBefore y m + monthDays y m := by
  obtain ⟨k, rfl⟩ := Nat.exists_eq_add_of_le' hm
  simp only [daysBefore, Nat.add_sub_cancel, List.range_succ, List.map_append, List.sum_append, List.map_cons, List.map_nil,
    List.sum_singleton]

/-- A year has 365 days, a leap year 366. -/
theorem daysBefore_thirteen (y : Nat) : daysBefore y 13 = if leapYear y then 366 else 365 := by
  unfold daysBefore monthDays
  cases leapYear y <;> rfl

/-- The day after the last of a month is the first of the next. -/
theorem dayNumber_next_month (y m : Nat) (hm : 1 ≤ m) :
    dayNumber y (m + 1) 1 = dayNumber y m (monthDays y m) + 1 := by
  have pos : 28 ≤ monthDays y m := by unfold monthDays; split_ifs <;> omega
  have next := daysBefore_succ y m hm
  unfold dayNumber
  omega

/-- The day after the last of a year is the first of the next. -/
theorem dayNumber_next_year (y : Nat) (hy : y < 400) : dayNumber (y + 1) 1 1 = dayNumber y 13 1 := by
  have start : daysBefore (y + 1) 1 = 0 := rfl
  have year := daysBefore_thirteen y
  unfold dayNumber
  rw [start, year]
  simp only [leapYear, Bool.or_eq_true, Bool.and_eq_true, beq_iff_eq, bne_iff_ne, ne_eq]
  split <;> omega

/-- A later day's weekday, from its number. -/
theorem weekday_succ {y m d y' m' d' : Nat} (h : dayNumber y' m' d' = dayNumber y m d + 1) :
    weekday y' m' d' = weekday y m d % 7 + 1 := by
  rw [weekday_eq, weekday_eq, h]
  omega

/-- The wrap after 2399-12-31 keeps the week: 400 years are 146097 days, a whole number of weeks. -/
theorem weekday_wrap : weekday 0 1 1 = weekday 399 12 31 % 7 + 1 := by decide

/-- Settles O52, along the cases of the next day: within a month, over a month's end, over a year's end. -/
theorem weekdayFollows : Obligations.WeekdayFollows := by
  intro c h
  simp only [Safety.calendarOk, Bool.and_eq_true, decide_eq_true_eq] at h
  obtain ⟨⟨⟨⟨⟨⟨⟨hy, hm⟩, hm12⟩, hd⟩, hdm⟩, -⟩, -⟩, -⟩ := h
  unfold Calendar.nextDay
  split
  · refine weekday_succ ?_
    simp only [dayNumber]
    omega
  · have last : c.day = monthDays c.year c.month := by omega
    split
    · refine weekday_succ ?_
      rw [last]
      exact dayNumber_next_month _ _ hm
    · have december : c.month = 12 := by omega
      rw [last, december]
      by_cases wrap : c.year = 399
      · rw [wrap]
        exact weekday_wrap
      · refine weekday_succ ?_
        rw [Nat.mod_eq_of_lt (by omega), dayNumber_next_year _ hy]
        exact dayNumber_next_month _ 12 (by decide)

end Sys2Proof.Machine
end

section
/-! PROOFS. What one occurrence requests of the router (R258, R259). -/

namespace Sys2Proof.Machine

/-- The task that channel `i` requests; a TASK from 96 to 127 acts as NOP (R258). -/
def State.channelTask (s : State) (i : Nat) : Nat := if s.get (.EVR_CH_TASK i) < 96 then s.get (.EVR_CH_TASK i) else Task.NOP

/-- A firing requests its task and takes no request back. -/
theorem State.mem_latches_fireTask (s : State) (n m : Nat) : m ∈ (s.fireTask n).latches ↔ m ∈ s.latches ∨ m = n := by
  unfold State.fireTask
  split
  next held =>
    have held : n ∈ s.latches := List.contains_iff_mem.mp held
    rw [State.raise_latches, State.put_latches, State.sat_latches]
    exact ⟨.inl, fun h => h.elim id fun e => e ▸ held⟩
  next => simp

/-- A firing leaves the channels' tasks: it writes the overrun count, EVR_STAT and the page's RAW word alone. -/
theorem State.channelTask_fireTask (s : State) (n : Nat) {i : Nat} (hi : i < 32) :
    (s.fireTask n).channelTask i = s.channelTask i := by
  have same : (s.fireTask n).get (.EVR_CH_TASK i) = s.get (.EVR_CH_TASK i) := by
    have place : (Fld.EVR_CH_TASK i).addr = 0x1440 + 4 * i := rfl
    unfold State.fireTask
    split
    · refine State.get_congr ?_
      rw [State.rd_raise_ne _ (by decide : eventHome Ev.EVR_OVERRUN = some (5, 0)) (by rw [place, Adr.PG_EVT_RAW]; omega),
        State.rd_put_ne _ _ _ _ (by rw [place]; simp only [Fld.EVR_STAT_OVRTASK, Adr.EVR_STAT]; omega), State.sat,
        State.rd_put_ne _ _ _ _ (by rw [place]; simp only [Fld.EVR_CNT_OVR, Adr.EVR_CNT]; omega)]
    · rfl
  rw [State.channelTask, same, State.channelTask]

/-- Channels that fire one after another request each its own task. -/
theorem State.mem_latches_fireChannels (s : State) (l : List Nat) (hl : ∀ i ∈ l, i < 32) (m : Nat) :
    m ∈ (s.forEach l State.fireChannel).latches ↔ m ∈ s.latches ∨ ∃ i ∈ l, s.channelTask i = m := by
  induction l generalizing s with
  | nil => simp [State.forEach]
  | cons i l ih =>
    have rest : ∀ j ∈ l, j < 32 := fun j hj => hl j (List.mem_cons_of_mem _ hj)
    have tasks : (∃ j ∈ l, (s.fireChannel i).channelTask j = m) ↔ ∃ j ∈ l, s.channelTask j = m :=
      exists_congr fun j => and_congr_right fun hj => by
        rw [show (s.fireChannel i).channelTask j = s.channelTask j from s.channelTask_fireTask _ (rest j hj)]
    calc m ∈ (s.forEach (i :: l) State.fireChannel).latches
        ↔ m ∈ (s.fireChannel i).latches ∨ ∃ j ∈ l, (s.fireChannel i).channelTask j = m := ih _ rest
      _ ↔ (m ∈ s.latches ∨ m = s.channelTask i) ∨ ∃ j ∈ l, s.channelTask j = m :=
        or_congr (s.mem_latches_fireTask _ _) tasks
      _ ↔ m ∈ s.latches ∨ ∃ j ∈ i :: l, s.channelTask j = m := by
        rw [or_assoc, List.exists_mem_cons_iff, eq_comm (a := m)]

/-- A member's EN set by its group requests no task. -/
theorem State.memberEn_latches (s : State) (i : Nat) (on : Bool) : (s.memberEn i on).latches = s.latches := by
  unfold State.memberEn
  split_ifs
  · rfl
  · rw [State.raise_latches, State.put_latches]
  · rw [State.putBit_latches]

/-- A group's action requests no task. -/
theorem State.groupAction_latches (s : State) (g : Nat) (on : Bool) : (s.groupAction g on).latches = s.latches := by
  rw [State.groupAction, State.raiseIf_latches]
  exact State.forEach_keeps (P := fun t => t.latches = s.latches) (fun t i _ ht => (t.memberEn_latches i on).trans ht) rfl

/-- What an occurrence does to the groups requests no task. -/
theorem State.groupOccurrence_latches (s : State) (e g : Nat) : (s.groupOccurrence e g).latches = s.latches := by
  unfold State.groupOccurrence
  dsimp only
  split_ifs
  · rfl
  · exact s.groupAction_latches _ _
  · exact s.groupAction_latches _ _
  · exact s.groupAction_latches _ _
  · rfl

/-- The channels that fire are those whose EN was 1 and whose SRC names the event. -/
theorem State.mem_matching (s : State) {e : Nat} (he : e < 192) (i : Nat) :
    i ∈ s.matching e ↔ i < 32 ∧ s.bit (.EVR_CH_EN i) = true ∧ s.get (.EVR_CH_SRC i) = e := by
  simp [State.matching, channels, he]

/-- The requests after an occurrence: the earlier ones and those of the channels it fires. -/
theorem State.mem_latches_routeOccurrence (s : State) {e : Nat} (he : e < 192) (on : s.routerOn = true) (m : Nat) :
    m ∈ (s.routeOccurrence e).latches ↔
      m ∈ s.latches ∨ ∃ i, (i < 32 ∧ s.bit (.EVR_CH_EN i) = true ∧ s.get (.EVR_CH_SRC i) = e) ∧ s.channelTask i = m := by
  have groupsIdle : (s.routeOccurrence e).latches = (s.forEach (s.matching e) State.fireChannel).latches := by
    rw [State.routeOccurrence, if_pos on]
    exact State.forEach_keeps (P := fun t => t.latches = _) (fun t g _ ht => (t.groupOccurrence_latches e g).trans ht) rfl
  rw [groupsIdle, s.mem_latches_fireChannels _ fun i hi => ((s.mem_matching he i).mp hi).1]
  simp only [s.mem_matching he]

/-- Settles O48: the two directions of the requests after an occurrence. -/
theorem routerFires : Obligations.RouterFires := by
  intro s e he on _ task
  have requests := s.mem_latches_routeOccurrence he on
  refine ⟨fun i hi hen hsrc => (requests _).mpr (.inr ⟨i, ⟨hi, hen, hsrc⟩, rfl⟩), fun n hn => ?_⟩
  obtain old | ⟨i, ⟨hi, hen, hsrc⟩, ht⟩ := (requests n).mp hn
  · exact .inl old
  · exact .inr ⟨i, hi, hen, hsrc, ht⟩

end Sys2Proof.Machine
end

section
/-! PROOFS. Locked key slots (R498, R499). -/

namespace Sys2Proof.Machine

/-- Slot `n` holds the key `k` and is locked. -/
structure SlotHolds (n : Nat) (k : Option (List Byte)) (s : State) : Prop where
  key : s.keyOf n = k
  locked : s.keyLocked n = true
  wf : RegFile.wf s.regs = true

namespace SlotHolds

variable {n : Nat} {k : Option (List Byte)} {s : State}

/-- A store to a field outside SEC_KEYLOCK keeps every slot. -/
theorem put (h : SlotHolds n k s) (f : Fld) (v : Nat) (hf : Adr.SEC_KEYLOCK ≠ f.addr) : SlotHolds n k (s.put f v) where
  key := h.key
  locked := by
    have same : (s.put f v).get .SEC_KEYLOCK_LOCK = s.get .SEC_KEYLOCK_LOCK := s.get_put_ne f .SEC_KEYLOCK_LOCK v hf
    rw [State.keyLocked, State.bitAt, same]
    exact h.locked
  wf := s.wf_put _ _ h.wf

/-- An event of the SEC page keeps every slot. -/
theorem raise (h : SlotHolds n k s) (e : Nat) {b : Nat} (he : eventHome e = some (10, b)) : SlotHolds n k (s.raise e) where
  key := by rw [State.keyOf, State.raise_sec]; exact h.key
  locked := by
    have same : (s.raise e).get .SEC_KEYLOCK_LOCK = s.get .SEC_KEYLOCK_LOCK :=
      State.get_congr (s.rd_raise_ne he (by decide))
    rw [State.keyLocked, State.bitAt, same]
    exact h.locked
  wf := s.wf_raise _ h.wf

/-- Everything of the security unit but the keys may change. -/
theorem ofKeys (h : SlotHolds n k s) (u : Security) (hu : u.keys = s.sec.keys) : SlotHolds n k { s with sec := u } where
  key := by rw [State.keyOf, hu]; exact h.key
  locked := h.locked
  wf := h.wf

theorem ne_of_unlocked (h : SlotHolds n k s) {slot : Nat} (unlocked : ¬ s.keyLocked slot = true) : slot ≠ n :=
  fun same => unlocked (same ▸ h.locked)

/-- Another slot's key may change. -/
theorem setKey (h : SlotHolds n k s) {slot : Nat} (hs : slot ≠ n) (k' : Option (List Byte)) :
    SlotHolds n k (s.setKey slot k') := by
  have stored : SlotHolds n k { s with sec := { s.sec with keys := s.sec.keys.set slot k' } } := by
    refine ⟨?_, h.locked, h.wf⟩
    change (s.sec.keys.set slot k').getD n none = k
    rw [List.getD_eq_getElem?_getD, List.getElem?_set_ne hs, ← List.getD_eq_getElem?_getD]
    exact h.key
  exact stored.put _ _ (by decide)

/-- Locking a slot unlocks none. -/
theorem lockKey (h : SlotHolds n k s) (hn : n < 32) (slot : Nat) : SlotHolds n k (s.lockKey slot) := by
  unfold State.lockKey
  split
  · exact h
  refine SlotHolds.raise (s := s.setBitAt .SEC_KEYLOCK_LOCK slot true) ⟨h.key, ?_, s.wf_put _ _ h.wf⟩ _
    (by decide : eventHome Ev.SEC_KEY_LOCKED = some (10, 4))
  have set : (s.setBitAt .SEC_KEYLOCK_LOCK slot true).get .SEC_KEYLOCK_LOCK = (s.get .SEC_KEYLOCK_LOCK ||| 2 ^ slot) % 2 ^ 32 :=
    s.get_put _ _ (by decide) h.wf
  have before : (s.get .SEC_KEYLOCK_LOCK).testBit n = true := by
    rw [Nat.testBit_eq_decide_div_mod_eq]
    exact h.locked
  change ((s.setBitAt .SEC_KEYLOCK_LOCK slot true).get .SEC_KEYLOCK_LOCK / 2 ^ n % 2 == 1) = true
  refine (Nat.testBit_eq_decide_div_mod_eq (x := _)).symm.trans ?_
  rw [set, Nat.testBit_mod_two_pow, Nat.testBit_or, before, decide_eq_true hn]
  rfl

/-- Disarming the sink keeps every slot. -/
theorem disarmSink (h : SlotHolds n k s) : SlotHolds n k s.disarmSink :=
  (h.put .SEC_SINK_ARMED 0 (by decide)).ofKeys _ rfl

/-- Clearing SEC_KEY0 to SEC_KEY3 keeps every slot. -/
theorem clearKeyIn (h : SlotHolds n k s) : SlotHolds n k s.clearKeyIn := h.ofKeys _ rfl

/-- Recording a cause keeps every slot. -/
theorem secErr (h : SlotHolds n k s) (cause peer slot : Nat) : SlotHolds n k (s.secErr cause peer slot) :=
  ((((h.put .SEC_LAST_VALID 1 (by decide)).put .SEC_LAST_CAUSE cause (by decide)).put .SEC_LAST_PEER peer
    (by decide)).put .SEC_LAST_SLOT slot (by decide)).raise _
    (by decide : eventHome Ev.SEC_ERR = some (10, 7))

/-- Zeroising goes round the locked slots (R499). -/
theorem zeroiseAll (h : SlotHolds n k s) : SlotHolds n k s.zeroiseAll := by
  refine (State.forEach_keeps (P := SlotHolds n k) (fun t slot _ ht => ?_) h).disarmSink
  split
  · exact ht
  next unlocked => exact ht.setKey (ht.ne_of_unlocked unlocked) none

/-- A refused payload of the sink keeps every slot. -/
theorem sinkRefuse (h : SlotHolds n k s) (result : Nat) : SlotHolds n k (s.sinkRefuse result) :=
  ((h.put .SEC_SINK_RESULT result (by decide)).put .SEC_CNT_SINKFAIL _ (by decide)).secErr _ _ _

/-- A key command that takes effect keeps a locked slot (R498). -/
theorem keyEffect (h : SlotHolds n k s) (hn : n < 32) {op slot : Nat} {t : State} (ht : s.keyEffect op slot = .inl t) :
    SlotHolds n k t := by
  have loaded : eventHome Ev.SEC_KEY_LOADED = some (10, 3) := by decide
  unfold State.keyEffect at ht
  split at ht
  · split at ht <;> cases ht
    next unlocked => exact ((h.setKey (h.ne_of_unlocked unlocked) (some (wordsBytes s.sec.keyIn))).clearKeyIn).raise _ loaded
  split at ht
  · split at ht <;> cases ht
    next unlocked => exact h.setKey (h.ne_of_unlocked unlocked) none
  split at ht
  · cases ht
    exact h.lockKey hn slot
  split at ht
  · split at ht
    · cases ht
    split at ht <;> cases ht
    exact State.forEach_keeps (P := SlotHolds n k)
      (fun u i hi hu => hu.put _ _ (by have := List.mem_range.mp hi; change 0x2894 ≠ 0x28A0 + 4 * i; omega)) h
  split at ht
  · split at ht
    · cases ht
    next unlocked =>
      split at ht <;> cases ht
      exact (h.setKey (h.ne_of_unlocked unlocked) _).raise _ loaded
  split at ht
  · split at ht <;> cases ht
    exact h.put _ _ (by decide : Adr.SEC_KEYLOCK ≠ Fld.SEC_CHECK_CV.addr)
  split at ht <;> cases ht
  · exact h.disarmSink
  · exact h.zeroiseAll

/-- The end of a key command keeps a locked slot (R502). -/
theorem keyComplete (h : SlotHolds n k s) (hn : n < 32) : SlotHolds n k s.keyComplete := by
  unfold State.keyComplete State.keyEnds
  split
  · exact h
  split
  · exact h
  next op slot _ =>
    have freed : SlotHolds n k { s.put .SEC_SINK_BUSY 0 with sec := { s.sec with cmd := none } } :=
      (h.put .SEC_SINK_BUSY 0 (by decide)).ofKeys _ rfl
    dsimp only
    split
    next t ht => exact (freed.keyEffect hn ht).raise _ (by decide : eventHome Ev.SEC_DONE = some (10, 0))
    next => exact freed.secErr _ _ _

/-- The sink stores to an unlocked slot alone (R513). -/
theorem sinkExamine (h : SlotHolds n k s) (hn : n < 32) (p : List Byte) : SlotHolds n k (s.sinkExamine p).2 := by
  unfold State.sinkExamine
  dsimp only
  split
  · exact h
  split
  · split
    · exact h.sinkRefuse 2
    split
    · exact h.sinkRefuse 3
    split
    · exact h.sinkRefuse 4
    next unlocked =>
      split
      · exact h.sinkRefuse 5
      have taken := ((h.setKey (h.ne_of_unlocked unlocked) (some ((p.drop 6).take 16))).raise _
        (by decide : eventHome Ev.SEC_KEY_LOADED = some (10, 3))).disarmSink
      refine SlotHolds.put (SlotHolds.put ?_ .SEC_SINK_RESULT 1 (by decide)) .SEC_CHECK_CV _ (by decide)
      split
      · exact taken.lockKey hn _
      · exact taken
  split <;> exact h

end SlotHolds

/-- Settles O50: the three operations keep a slot that holds its key locked. -/
theorem lockedSlots : Obligations.LockedSlots := by
  intro n s hn hw locked
  have h : SlotHolds n (s.keyOf n) s := ⟨rfl, locked, hw⟩
  have ends := h.keyComplete hn
  have zeroised := h.zeroiseAll
  exact ⟨⟨ends.key, ends.locked⟩, ⟨zeroised.key, zeroised.locked⟩,
    fun p => ⟨(h.sinkExamine hn p).key, (h.sinkExamine hn p).locked⟩⟩

end Sys2Proof.Machine
end

section
/-! PROOFS. No register shows key material (R497). -/

namespace Sys2Proof.Machine

/-- The state with other keys held and other words written to SEC_KEY0 to SEC_KEY3. -/
def State.reKeyed (s : State) (keys : List (Option (List Byte))) (keyIn : List Word) : State :=
  { s with sec := { s.sec with keys := keys, keyIn := keyIn } }

section
variable (s : State) (keys : List (Option (List Byte))) (keyIn : List Word)

@[simp] theorem State.reKeyed_rd (a : Nat) : (s.reKeyed keys keyIn).rd a = s.rd a := rfl
@[simp] theorem State.reKeyed_get (f : Fld) : (s.reKeyed keys keyIn).get f = s.get f := rfl
@[simp] theorem State.reKeyed_bit (f : Fld) : (s.reKeyed keys keyIn).bit f = s.bit f := rfl
@[simp] theorem State.reKeyed_memWord (a : Nat) : (s.reKeyed keys keyIn).memWord a = s.memWord a := rfl
@[simp] theorem State.reKeyed_enabled (p : Nat) : (s.reKeyed keys keyIn).enabled p = s.enabled p := rfl
@[simp] theorem State.reKeyed_safe (p : Nat) : (s.reKeyed keys keyIn).safe p = s.safe p := rfl
@[simp] theorem State.reKeyed_locked (p : Nat) : (s.reKeyed keys keyIn).locked p = s.locked p := rfl
@[simp] theorem State.reKeyed_openCount (n : Nat) : (s.reKeyed keys keyIn).openCount n = s.openCount n := rfl
@[simp] theorem State.reKeyed_pend (p : Nat) : (s.reKeyed keys keyIn).pend p = s.pend p := rfl
@[simp] theorem State.reKeyed_drainHold (p : Nat) : (s.reKeyed keys keyIn).drainHold p = s.drainHold p := rfl
@[simp] theorem State.reKeyed_pageHeld (p : Nat) : (s.reKeyed keys keyIn).pageHeld p = s.pageHeld p := rfl
@[simp] theorem State.reKeyed_initsReady (p : Nat) (b : Bool) :
    (s.reKeyed keys keyIn).initsReady p b = s.initsReady p b := rfl
@[simp] theorem State.reKeyed_blockBusy (p : Nat) : (s.reKeyed keys keyIn).blockBusy p = s.blockBusy p := rfl
@[simp] theorem State.reKeyed_leView (n off : Nat) : (s.reKeyed keys keyIn).leView n off = s.leView n off := rfl
@[simp] theorem State.reKeyed_pageView (p off : Nat) : (s.reKeyed keys keyIn).pageView p off = s.pageView p off := rfl
@[simp] theorem State.reKeyed_roleSafe : (s.reKeyed keys keyIn).roleSafe = s.roleSafe := rfl
@[simp] theorem State.reKeyed_calSafe : (s.reKeyed keys keyIn).calSafe = s.calSafe := rfl
@[simp] theorem State.reKeyed_secQuiet : (s.reKeyed keys keyIn).secQuiet = s.secQuiet := rfl
@[simp] theorem State.reKeyed_gpiSafe : (s.reKeyed keys keyIn).gpiSafe = s.gpiSafe := rfl
@[simp] theorem State.reKeyed_nfcSafePoint : (s.reKeyed keys keyIn).nfcSafePoint = s.nfcSafePoint := rfl
@[simp] theorem State.reKeyed_nfpSafePoint : (s.reKeyed keys keyIn).nfpSafePoint = s.nfpSafePoint := rfl
@[simp] theorem State.reKeyed_radSafe : (s.reKeyed keys keyIn).radSafe = s.radSafe := rfl
@[simp] theorem State.reKeyed_rdmSafe : (s.reKeyed keys keyIn).rdmSafe = s.rdmSafe := rfl
@[simp] theorem State.reKeyed_islandWaits (n : Nat) : (s.reKeyed keys keyIn).islandWaits n = s.islandWaits n := rfl
@[simp] theorem State.reKeyed_leQuiet (n : Nat) : (s.reKeyed keys keyIn).leQuiet n = s.leQuiet n := rfl
@[simp] theorem State.reKeyed_bindChanging (n : Nat) : (s.reKeyed keys keyIn).bindChanging n = s.bindChanging n := rfl

/-- What the decoder and the encoder begin with does not depend on keys. -/
theorem State.reKeyed_fecStart : (s.reKeyed keys keyIn).fecStart = s.fecStart.reKeyed keys keyIn := by
  unfold State.fecStart
  dsimp only
  rw [apply_ite (fun t : State => t.reKeyed keys keyIn)]
  rfl

@[simp] theorem State.reKeyed_fecSafe : (s.reKeyed keys keyIn).fecSafe = s.fecSafe := by
  rw [State.fecSafe, State.reKeyed_fecStart]
  rfl

@[simp] theorem State.reKeyed_atSafePoint (p : Nat) : (s.reKeyed keys keyIn).atSafePoint p = s.atSafePoint p := by
  unfold State.atSafePoint
  simp only [State.reKeyed_roleSafe, State.reKeyed_enabled, State.reKeyed_safe, State.reKeyed_get, State.reKeyed_calSafe,
    State.reKeyed_secQuiet, State.reKeyed_fecSafe, State.reKeyed_gpiSafe, State.reKeyed_nfcSafePoint,
    State.reKeyed_nfpSafePoint, State.reKeyed_radSafe, State.reKeyed_rdmSafe, State.reKeyed_islandWaits,
    State.reKeyed_leQuiet, State.reKeyed_bindChanging]

@[simp] theorem State.reKeyed_statWord (p : Nat) : (s.reKeyed keys keyIn).statWord p = s.statWord p := by
  simp only [State.statWord, State.standsSafe, State.reKeyed_openCount, State.reKeyed_drainHold, State.reKeyed_locked,
    State.reKeyed_pageHeld, State.reKeyed_atSafePoint, State.reKeyed_bit, State.reKeyed_initsReady, State.reKeyed_blockBusy,
    State.reKeyed_enabled]

/-- A register shows the same word whatever the keys are. -/
@[simp] theorem State.reKeyed_shown (p off : Nat) : (s.reKeyed keys keyIn).shown p off = s.shown p off := by
  simp only [State.shown, State.reKeyed_rd, State.reKeyed_enabled, State.reKeyed_statWord, State.reKeyed_pend,
    State.reKeyed_leView, State.reKeyed_pageView] <;> rfl

end

/-- Counting SECDED errors draws no value. -/
theorem State.ecc_ctr (s : State) (l : List (Nat × Bool)) : (s.ecc l).ctr = s.ctr := by
  refine State.forEach_keeps (P := fun t => t.ctr = s.ctr) (fun t e _ ht => ?_) rfl
  dsimp only
  split <;> rw [State.raise_ctr, State.sat_ctr, State.put_ctr, ht]

/-- The value read from the packet store (R37, R588). -/
theorem State.storeRead_fst (s : State) (a : Nat) (ecc : List (Nat × Bool)) : (s.storeRead a ecc).1 =
    if (ecc.filter fun e => e.1 == storeCell a).any (·.2) then BitVec.ofNat 32 (Config.freeNat s.ctr) else s.memWord a := by
  unfold State.storeRead
  dsimp only
  split
  · rw [State.fresh, State.ecc_ctr]
  · rfl

/-- A read's value is that of a read of the same state with other keys. -/
theorem State.reKeyed_regRead (s : State) (keys : List (Option (List Byte))) (keyIn : List Word) (a : Nat)
    (ecc : List (Nat × Bool)) : ((s.reKeyed keys keyIn).regRead a ecc).1 = (s.regRead a ecc).1 := by
  have time : (s.reKeyed keys keyIn).calTimeRead.1 = s.calTimeRead.1 := rfl
  unfold State.regRead
  split_ifs
  · rfl
  · rw [State.storeRead_fst, State.storeRead_fst]
    rfl
  · rfl
  · rfl
  · rfl
  · exact time
  · exact s.reKeyed_shown keys keyIn _ _

/-- Settles O49: the state with other keys is the re-keyed state. -/
theorem keysUnreadable : Obligations.KeysUnreadable := fun s keys keyIn a ecc => s.reKeyed_regRead keys keyIn a ecc

end Sys2Proof.Machine
end

section
/-! PROOFS. The step, its idle case, a host access, and the state at reset. -/

namespace Sys2Proof.Machine

/-- Settles O1: the front of the queue is the case of `step`. -/
theorem stepRunsFrontCommand : Obligations.StepRunsFrontCommand := fun _ _ => rfl

/-- Settles O2, along the order of what a running part owes. -/
theorem idleStep : Obligations.IdleStep := by
  intro s queue
  have step_eq : step s = .next s.idle := by rw [step, queue]
  refine ⟨fun down => ?reset, fun up => ⟨fun n l requests => ?task, fun noTask waits => ?occurrence,
    fun noTask noOcc pass => ?pass, fun noTask noOcc noPass => ?cycle⟩⟩
  case reset => rw [step_eq, State.idle, down]; rfl
  case task => rw [step_eq, State.idle, up, requests]; rfl
  case occurrence =>
    have some : s.occ.isEmpty = false := by simpa using waits
    rw [step_eq, State.idle, up, noTask, some]; rfl
  case pass => rw [step_eq, State.idle, up, noTask, noOcc, pass]; rfl
  case cycle => rw [step_eq, State.idle, up, noTask, noOcc, noPass]; rfl

/-- The count of R145 that is broken stays so. -/
theorem State.breakEmber_of_broken {s : State} (h : s.pwr.emberBroken = true) : s.breakEmber = s := by
  rw [State.breakEmber, ← h]

/-- A host access in Ember wakes the part (R131). -/
theorem State.accessed_of_ember (s : State) (h : s.pwr.phase = .ember) : s.accessed =
    ({ s with pwr := { s.pwr with phase := .waking, emberBroken := true, emberCount := 0 } } : State).raise Ev.HIF_WAKE := by
  rw [State.accessed, State.hostWake, if_pos h, State.leaveEmber, if_pos h]
  exact State.breakEmber_of_broken (by rw [State.raise_pwr])

/-- Settles O6: awake and in Ember. -/
theorem hostAccessDoes : Obligations.HostAccessDoes :=
  fun s => ⟨s.accessed_of_awake, s.accessed_of_ember⟩

/-- The host reaches the registers of a view exactly in a running part with VDD_IO and that view. -/
theorem State.legacyHost_iff (s : State) :
    s.legacyHost = true ↔ s.up = true ∧ s.pwr.ioUp = true ∧ s.legacyView = true := by
  simp [State.legacyHost, and_assoc]

/-- Every command completes. -/
theorem exec_completes (c : Instr) (s : State) : ∃ t, exec c s = .next t := by
  cases c <;> exact ⟨_, rfl⟩

/-- Settles O7: the three ways to reach the part, and that every command completes. -/
theorem outOfReach : Obligations.OutOfReach := by
  refine ⟨State.native_of_not, State.legacyAccess_of_not, State.live_of_not_up, fun s h => ?native, fun s h => ?legacy,
    exec_completes⟩
  case native =>
    obtain ⟨up, io, view⟩ := s.nativeHost_iff.mp h
    exact ⟨up, io, view⟩
  case legacy => exact (s.legacyHost_iff).mp h

/-- The factory's trims of the PA table lie outside its field DBM. -/
theorem dbm_of_paTrim (x : Word) : (Fld.RAD_PATAB_DBM 31).of (0x1C#32 ||| (x &&& 0x3F3F0100#32)) = 28 := by
  have low : (0x3F3F0100#32).toNat % 2 ^ 8 = 0 := by decide
  change (0x1C#32 ||| (x &&& 0x3F3F0100#32)).toNat >>> 0 % 2 ^ 8 = 28
  rw [Nat.shiftRight_zero, BitVec.toNat_or, BitVec.toNat_and, Nat.or_mod_two_pow, Nat.and_mod_two_pow, low, Nat.and_zero]
  decide

/-- At reset PA step 31 is that of 28 dBm. -/
theorem State.reset_get_dbm : State.reset.get (.RAD_PATAB_DBM 31) = 28 := dbm_of_paTrim (Config.paTrim 31)

/-- Settles O41: the state at reset evaluated, its one word of a factory trim apart. -/
theorem resetValues : Obligations.ResetValues := by
  unfold Obligations.ResetValues Safety.Canonical
  rw [State.reset_get_dbm]
  decide +kernel

end Sys2Proof.Machine
end

section
/-! PROOFS. Register writes, staged twins, commits and commit groups, command by command (R69 to R81). -/

namespace Sys2Proof.Machine

/-! ### Ways in: a command's outcome where it reaches the part -/

theorem done_live {s t : State} {f : State → State} (h : s.up = true) (hf : f s = t) : done (s.live f) = .next t.finish := by
  rw [s.live_of_up f h, hf, done]

theorem done_native {s t : State} {f : State → State} (h : s.nativeHost = true) (hf : f s.accessed = t) :
    done (s.native f) = .next t.lateOver.finish := by
  rw [s.native_of_reach f h, hf, done]

theorem done_legacy {s t : State} {f : State → State} (h : s.legacyHost = true) (hf : f s.accessed = t) :
    done (s.legacyAccess f) = .next t.lateOver.finish := by
  rw [s.legacyAccess_of_reach f h, hf, done]

theorem done_always {s t : State} {f : State → State} (h : s.up = true) (hf : f s = t) :
    done (s.always f) = .next t.finish := by
  rw [s.always_of_up f h, hf, done]

theorem done_inReset {s t : State} {f : State → State} (h : s.up = false) (hf : s.emberOnly (f s) = t) :
    done (s.always f) = .next t.finish := by
  rw [s.always_of_not_up f h, hf, done]

theorem done_task {s t : State} {n a : Nat} {w : Word} (h : s.up = true) (hf : s.routerTask n = t) :
    done (s.taskOrWrite true n a w) = .next t.finish := by
  rw [State.taskOrWrite, if_pos rfl]
  exact done_live (f := fun s => s.routerTask n) h hf

theorem done_write {s t : State} {n a : Nat} {w : Word} (h : s.nativeHost = true) (hf : s.accessed.regWrite a w = t) :
    done (s.taskOrWrite false n a w) = .next t.lateOver.finish := by
  rw [State.taskOrWrite, if_neg Bool.false_ne_true]
  exact done_native (f := fun s => s.regWrite a w) h hf

/-! ### Event enables (R69) -/

/-- A register whose bits are all RW, none of them lockable, takes the written word. -/
theorem State.plainWrite_of_rw (s : State) {a : Nat} {r : RegRow} (w : Word) (hrw : BitVec.ofNat 32 r.rw = BitVec.allOnes 32)
    (hrl : r.rl = 0) (hc : r.w1c = 0) : s.plainWrite a r w = s.wr a w := by
  simp only [State.plainWrite, hrw, hrl, hc, BitVec.ofNat_eq_ofNat, ite_self, BitVec.and_zero, ne_eq, not_true_eq_false, if_false,
    BitVec.not_zero, BitVec.and_allOnes, BitVec.not_allOnes, BitVec.zero_or, decide_false, Bool.and_false, Bool.false_eq_true]

/-- A write to PG_EVT_EN (R69, R130). -/
theorem State.regWrite_eventEn (s : State) (p : Fin 32) (w : Word) (h : pageExists p = true) :
    s.regWrite (Adr.PG_EVT_EN p) w =
      let v := w &&& eventMask p
      (s.retrigger p (decide ((s.wr (Adr.PG_EVT_EN p) v).pend p &&& ~~~s.pend p ≠ 0))).wr (Adr.PG_EVT_EN p) v := by
  have write (t : State) (v : Word) : t.plainWrite (Adr.PG_EVT_EN p) ⟨0x018, 1, 4, 0xffffffff, 0x0, 0x0, 0x0, 0x0, 0x0⟩ v =
      t.wr (Adr.PG_EVT_EN p) v := t.plainWrite_of_rw v (by decide) rfl rfl
  have header : s.regWrite (Adr.PG_EVT_EN p) w = s.eventEnWrite p ⟨0x018, 1, 4, 0xffffffff, 0x0, 0x0, 0x0, 0x0, 0x0⟩ w := by
    fin_cases p
    rotate_left 18 -- pages 18 to 23 do not exist
    iterate 6 exact absurd h (by decide)
    all_goals rfl
  simp only [header, State.eventEnWrite, write]

/-! ### Twins (R71, R73, R281) -/

/-- A write to a twin of an unlocked page with no commit pending takes the staged bits. -/
theorem State.twinWrite_of_free {s : State} {a : Nat} {r : RegRow} (w : Word)
    (hr : findRow (pageAll (a / 0x400)) (a % 0x400 - 0x200) = some r) (hrs : r.rs ≠ 0)
    (hpend : s.bit (.PG_CFGSTAT_PENDING (a / 0x400)) = false) (hlock : s.locked (a / 0x400) = false) :
    s.twinWrite a w =
      ((s.wr a ((s.rd a &&& ~~~BitVec.ofNat 32 r.rs) ||| (w &&& BitVec.ofNat 32 r.rs))).put
        (.PG_CFGSTAT_DIRTY (a / 0x400)) 1).calPairMarked a := by
  unfold State.twinWrite
  dsimp only
  rw [hr]
  dsimp only
  rw [if_neg hrs, if_neg (by rw [hpend]; exact Bool.false_ne_true)]
  simp only [hlock, Bool.false_eq_true, if_false, BitVec.ofNat_eq_ofNat, BitVec.and_zero, ne_eq, not_true_eq_false,
    BitVec.not_zero, BitVec.and_allOnes]
  rfl

/-- While a commit is pending a twin refuses a write whole. -/
theorem State.twinWrite_of_pending {s : State} {a : Nat} {r : RegRow} (w : Word)
    (hr : findRow (pageAll (a / 0x400)) (a % 0x400 - 0x200) = some r) (hrs : r.rs ≠ 0)
    (hpend : s.bit (.PG_CFGSTAT_PENDING (a / 0x400)) = true) : s.twinWrite a w = s.accErr a true 1 true := by
  unfold State.twinWrite
  dsimp only
  rw [hr]
  dsimp only
  rw [if_neg hrs, if_pos hpend]

/-- CAL_TIME and CAL_DATE are staged. -/
theorem calPair_staged : ∀ off ∈ [Adr.CAL_TIME % 0x400, Adr.CAL_DATE % 0x400], ∃ r, findRow (pageAll 7) off = some r ∧ r.rs ≠ 0 := by
  decide

theorem State.calPairMarked_of_ne {s : State} {a : Nat} (ht : a ≠ Adr.CAL_TIME + 0x200) (hd : a ≠ Adr.CAL_DATE + 0x200) :
    s.calPairMarked a = s := by
  rw [State.calPairMarked, if_neg ht, if_neg hd]

/-! ### Commits of a page (R71 to R77) -/

/-- A page with no pending commit has nothing to apply. -/
theorem State.pageApply_of_clean (s : State) {p : Nat} (h : s.bit (.PG_CFGSTAT_PENDING p) = false) : s.pageApply p = s := by
  rw [State.pageApply, State.reachSafe, h]
  exact ite_self s

/-- A page whose credit INITs have not applied waits for them. -/
theorem State.pageApply_of_waiting (s : State) {p : Nat} (hd : s.drainHold p = false) (hi : s.initsReady p false = false) :
    s.pageApply p = s := by
  rw [State.pageApply, State.reachSafe, hd, hi, if_neg Bool.false_ne_true, if_neg Bool.false_ne_true, ite_self, ite_self]

/-- A DRAIN member that holds at its safe point waits for the common application. -/
theorem State.pageApply_of_held (s : State) {p : Nat} (hd : s.drainHold p = true) (hr : s.cmt.reached.contains p = true) :
    s.pageApply p = s := by
  rw [State.pageApply, State.reachSafe, if_pos hd, State.latch, hr, Bool.not_true, Bool.and_false,
    if_neg Bool.false_ne_true, ite_self, ite_self]

/-- No pending commit: a request ends what TIMEOUT and FAIL tell of the last one (R75, R589). -/
def State.goBegun (s : State) (p : Nat) : State :=
  let u := s.put (.PG_CFGSTAT_TIMEOUT p) 0
  if u.bit (.PG_CFGSTAT_INGROUP p) then
    { u.setBitAt .SYS_CMT_FAIL_FAILED p false with cmt := { u.cmt with alone := p :: u.cmt.alone } }
  else u

/-- The same with the commit record read after FAIL has cleared. -/
theorem State.goBegun_eq (s : State) (p : Nat) :
    (if (s.put (.PG_CFGSTAT_TIMEOUT p) 0).bit (.PG_CFGSTAT_INGROUP p) then
      { (s.put (.PG_CFGSTAT_TIMEOUT p) 0).setBitAt .SYS_CMT_FAIL_FAILED p false with
        cmt := { ((s.put (.PG_CFGSTAT_TIMEOUT p) 0).setBitAt .SYS_CMT_FAIL_FAILED p false).cmt with
          alone := p :: ((s.put (.PG_CFGSTAT_TIMEOUT p) 0).setBitAt .SYS_CMT_FAIL_FAILED p false).cmt.alone } }
    else s.put (.PG_CFGSTAT_TIMEOUT p) 0) = s.goBegun p := by
  rw [State.setBitAt_cmt]
  rfl

theorem State.commitGo_of_pending {s : State} {p : Nat} (h : s.bit (.PG_CFGSTAT_PENDING p) = true) : s.commitGo p = s :=
  if_pos h

theorem State.commitGo_of_bad {s : State} {p off : Nat} (h : s.bit (.PG_CFGSTAT_PENDING p) = false)
    (hr : ((s.goBegun p).rangeCheck p).1 = some off) :
    s.commitGo p =
      (if (s.put (.PG_CFGSTAT_TIMEOUT p) 0).bit (.PG_CFGSTAT_INGROUP p) then
        (((s.goBegun p).rangeCheck p).2.refuseCommit p off).setBitAt .SYS_CMT_FAIL_FAILED p true
      else ((s.goBegun p).rangeCheck p).2.refuseCommit p off).raise Ev.SYS_CMT_TIMEOUT := by
  unfold State.commitGo
  rw [if_neg (by rw [h]; exact Bool.false_ne_true)]
  change (match ((s.goBegun p).rangeCheck p).1 with | none => _ | some off => _) = _
  rw [hr]
  rfl

theorem State.commitGo_of_good {s : State} {p : Nat} (h : s.bit (.PG_CFGSTAT_PENDING p) = false)
    (hr : ((s.goBegun p).rangeCheck p).1 = none) : s.commitGo p = ((s.goBegun p).rangeCheck p).2.pendCommit p := by
  unfold State.commitGo
  rw [if_neg (by rw [h]; exact Bool.false_ne_true)]
  change (match ((s.goBegun p).rangeCheck p).1 with | none => _ | some off => _) = _
  rw [hr]
  rfl

theorem State.commitWrite_go (s : State) (p : Nat) : s.commitWrite p (Fld.PG_COMMIT_GO p).one = s.commitGo p := by
  have word : (Fld.PG_COMMIT_GO p).one = 1#32 := (by decide : (⟨0, 0, 0⟩ : Fld).one = 1#32)
  rw [word]
  rfl

theorem State.commitWrite_revert (s : State) (p : Nat) : s.commitWrite p (Fld.PG_COMMIT_REVERT p).one = s.commitRevert p := by
  have word : (Fld.PG_COMMIT_REVERT p).one = 2#32 := (by decide : (⟨0, 1, 1⟩ : Fld).one = 2#32)
  rw [word]
  rfl

/-- A write of GO to PG_COMMIT. -/
theorem exec_commitGo {p : Fin 32} {s t : State} (hn : s.nativeHost = true) (hp : pageExists p = true)
    (h : s.accessed.commitGo p = t) : exec (.commitGo p) s = .next t.lateOver.finish :=
  done_native hn ((s.accessed.regWrite_commit p _ hp).trans ((State.commitWrite_go _ _).trans h))

/-- A write of REVERT to PG_COMMIT. -/
theorem exec_commitRevert {p : Fin 32} {s t : State} (hn : s.nativeHost = true) (hp : pageExists p = true)
    (h : s.accessed.commitRevert p = t) : exec (.commitRevert p) s = .next t.lateOver.finish :=
  done_native hn ((s.accessed.regWrite_commit p _ hp).trans ((State.commitWrite_revert _ _).trans h))

/-- A write to SYS_CMT_GO. -/
theorem exec_groupGo {s t : State} (hn : s.nativeHost = true) (h : s.accessed.groupGo (s.accessed.bit .SYS_CMT_MODE_MODE) = t) :
    exec .groupGo s = .next t.lateOver.finish := done_native hn h

theorem exec_groupDrain {s t : State} (hn : s.nativeHost = true) (h : s.accessed.groupGo true = t) :
    exec .groupDrain s = .next t.lateOver.finish := done_native hn h

theorem exec_groupCancel {s t : State} (hn : s.nativeHost = true) (h : s.accessed.groupCancel = t) :
    exec .groupCancel s = .next t.lateOver.finish := done_native hn h

/-- A write to a header register of a page that does not exist is an access error (R85). -/
theorem State.regWrite_of_noPage (s : State) {p off : Nat} (w : Word) (hp : pageExists p = false) (hp32 : p < 32) (h4 : off % 4 = 0)
    (ho : off < 0x200) : s.regWrite (0x400 * p + off) w = s.accErr (0x400 * p + off) true 0 := by
  have page : (0x400 * p + off) / 0x400 = p := by omega
  have here : (0x400 * p + off) % 0x400 = off := by omega
  unfold State.regWrite
  rw [if_neg (by omega), if_neg (by omega), if_neg (by omega), if_neg (by simp only [inQueue, here, Bool.and_eq_true, decide_eq_true_eq]; omega),
    if_pos (by rw [page, hp]; exact .inr (.inl rfl))]

theorem done_write_of_noPage {s : State} {p a o : Nat} (hn : s.nativeHost = true) (hp : pageExists p = false) (hp32 : p < 32)
    (w : State → Word) (ha : a = 0x400 * p + o) (h4 : o % 4 = 0) (ho : o < 0x200) :
    done (s.native fun s => s.regWrite a (w s)) = .next (s.accessed.accErr a true 0).lateOver.finish := by
  subst ha
  exact done_native hn (s.accessed.regWrite_of_noPage (w s.accessed) hp hp32 h4 ho)

theorem PG_CTRL_addr (p : Nat) : Adr.PG_CTRL p = 0x400 * p + 8 := rfl
theorem PG_EVT_PEND_addr (p : Nat) : Adr.PG_EVT_PEND p = 0x400 * p + 0x14 := rfl
theorem PG_EVT_FORCE_addr (p : Nat) : Adr.PG_EVT_FORCE p = 0x400 * p + 0x1C := rfl
theorem PG_LOCK_addr (p : Nat) : Adr.PG_LOCK p = 0x400 * p + 0x20 := rfl
theorem PG_COMMIT_addr (p : Nat) : Adr.PG_COMMIT p = 0x400 * p + 0x24 := rfl

/-- Settles O8, command by command. -/
theorem pageCommands : Obligations.PageCommands := by
  have off {b : Bool} (h : b = false) : ¬ b = true := by rw [h]; exact Bool.false_ne_true
  refine ⟨fun a w s hn hq => ?word, fun a w s hn hq => ?pushWord, fun p w s hn hp => ?eventEn,
    fun a w s r hn h4 hu hl hq hp hr hrs ht hd hlock hpend => ?twin,
    fun a w s r hn h4 hu hl hq hp hr hrs hpend => ?twinPending, fun w s hn hlock hpend => ?calPair,
    fun p s hn hp => ?go, fun p s => ?range, fun p s hn hp => ?revert, fun p s hn hp => ?noPage,
    fun p s hu hpend hdrain hsafe hinit => ?apply, fun p s hu => ?applyWaits, fun p s hu hpend hdrain hto => ?timeout,
    fun p s hu h => ?noTimeout, fun s hn => ?group, fun s hn hidle hmask => ?newGroup, fun s hn hb => ?cancel,
    fun s hn hb => ?noCancel, fun s hu => ?drainWaits, fun s hu hd hall => ?drain, fun s hu hd hto hlate => ?drainTimeout⟩
  case word => exact done_native hn (if_neg (off hq))
  case pushWord => exact done_native hn (if_pos hq)
  case eventEn =>
    have addr : (BitVec.ofNat 16 (Adr.PG_EVT_EN p)).toNat = Adr.PG_EVT_EN p := by
      rw [BitVec.toNat_ofNat, Adr.PG_EVT_EN]; omega
    refine done_native hn ((if_neg ?_).trans ?_)
    · rw [addr]
      have header : decide (0x3C0 ≤ Adr.PG_EVT_EN p % 0x400) = false :=
        decide_eq_false (by rw [Adr.PG_EVT_EN]; omega)
      rw [queueWord, inQueue, header, Bool.and_false, Bool.false_and, Bool.false_and, Bool.false_and]
      exact Bool.false_ne_true
    · rw [addr]
      exact s.accessed.regWrite_eventEn p w hp
  case twin =>
    refine done_native hn ((s.accessed.regWrite_twin _ w h4 hu hp hl hq).trans ?_)
    rw [State.twinWrite_of_free w hr hrs hpend hlock, State.calPairMarked_of_ne ht hd]
  case twinPending =>
    refine done_native hn ((s.accessed.regWrite_twin _ w h4 hu hp hl hq).trans ?_)
    exact State.twinWrite_of_pending w hr hrs hpend
  case calPair =>
    have twin {a off : Nat} {r : RegRow} (ha : a = 0x1C00 + off + 0x200) (ho : off = 0x40 ∨ off = 0x44)
        (hr : findRow (pageAll 7) off = some r) (hrs : r.rs ≠ 0) :
        exec (.stagedTwinWrite (BitVec.ofNat 16 a) w) s =
          .next (((s.accessed.wr a ((s.accessed.rd a &&& ~~~BitVec.ofNat 32 r.rs) ||| (w &&& BitVec.ofNat 32 r.rs))).put
            (.PG_CFGSTAT_DIRTY 7) 1).calPairMarked a).lateOver.finish := by
      have page : a / 0x400 = 7 := by omega
      have here : a % 0x400 - 0x200 = off := by omega
      have addr : (BitVec.ofNat 16 a).toNat = a := by rw [BitVec.toNat_ofNat]; omega
      refine done_native hn ?_
      rw [addr, s.accessed.regWrite_twin a w (by omega) (by omega) (by rw [page]; rfl) (by omega) (by omega)]
      have free := State.twinWrite_of_free (s := s.accessed) (a := a) w (by rw [page, here]; exact hr) hrs
        (by rw [page]; exact hpend) (by rw [page]; exact hlock)
      rw [page] at free
      exact free
    refine ⟨fun r hr => ?_, fun r hr => ?_⟩
    · obtain ⟨r', hr', hrs⟩ := calPair_staged _ (.head _)
      cases hr.symm.trans hr'
      exact twin rfl (.inl rfl) hr hrs
    · obtain ⟨r', hr', hrs⟩ := calPair_staged _ (.tail _ (.head _))
      cases hr.symm.trans hr'
      exact twin rfl (.inr rfl) hr hrs
  case go =>
    intro t u member f m r
    have begun : r = (t.goBegun p).rangeCheck p := congrArg (State.rangeCheck · p) (t.goBegun_eq p)
    clear_value r
    subst begun
    refine ⟨fun hpend => exec_commitGo hn hp (State.commitGo_of_pending hpend), fun hpend => ⟨fun o hr => ?_, fun hr => ?_⟩⟩
    · exact exec_commitGo hn hp (State.commitGo_of_bad hpend hr)
    · have good := State.commitGo_of_good hpend hr
      exact ⟨fun dirty => exec_commitGo hn hp (good.trans (if_pos dirty)),
        fun clean => exec_commitGo hn hp (good.trans (if_neg (off clean)))⟩
  case range =>
    refine ⟨fun hp => if_neg hp, fun hp hf => ?_, fun f al o hp hf => ?_⟩
    · rw [State.rangeCheck, if_pos hp, hf]
    · rw [State.rangeCheck, if_pos hp, hf]
  case revert =>
    refine ⟨fun hg => exec_commitRevert hn hp (if_pos hg), fun hg h7 => ?_, fun hg h7 => ?_⟩
    · exact exec_commitRevert hn hp ((if_neg (off hg)).trans (if_neg h7))
    · exact exec_commitRevert hn hp ((if_neg (off hg)).trans (if_pos h7))
  case noPage =>
    have none {a o : Nat} (w : State → Word) := done_write_of_noPage (a := a) (o := o) hn hp p.isLt w
    exact ⟨none (fun _ => (Fld.PG_COMMIT_GO p).one) (PG_COMMIT_addr p) (by decide) (by decide),
      none (fun _ => (Fld.PG_COMMIT_REVERT p).one) (PG_COMMIT_addr p) (by decide) (by decide),
      none (fun _ => 0x4C4B) (PG_LOCK_addr p) (by decide) (by decide),
      fun on => ⟨none (fun s => s.ctrlWith p (.PG_CTRL_EN p) on) (PG_CTRL_addr p) (by decide) (by decide),
        none (fun s => s.ctrlWith p (.PG_CTRL_SAFE p) on) (PG_CTRL_addr p) (by decide) (by decide)⟩,
      none (fun s => s.ctrlWith p (.PG_CTRL_SRST p) true) (PG_CTRL_addr p) (by decide) (by decide),
      fun w => ⟨none (fun _ => w) (PG_EVT_PEND_addr p) (by decide) (by decide),
        none (fun _ => w) (PG_EVT_FORCE_addr p) (by decide) (by decide)⟩⟩
  case apply =>
    refine done_live hu ?_
    rw [State.pageApply, if_pos hsafe, State.reachSafe, hpend, hdrain, hinit]
    rfl
  case applyWaits =>
    refine ⟨fun h => done_live hu (if_neg (off h)), fun h => ?_, fun hd hi => ?_, fun hd hr => ?_, fun hs hpend hd hr => ?_⟩
    · exact done_live hu (s.pageApply_of_clean h)
    · exact done_live hu (s.pageApply_of_waiting hd hi)
    · exact done_live hu (s.pageApply_of_held hd hr)
    · refine done_live hu ?_
      rw [State.pageApply, if_pos hs, State.reachSafe, hpend, if_neg (by decide), if_pos hd, State.latch, hd, hr]
      rfl
  case timeout =>
    have ends : s.commitTimeout p = (if ((s.put (.PG_CFGSTAT_PENDING p) 0).put (.PG_CFGSTAT_TIMEOUT p) 1).bit
        (.PG_CFGSTAT_INGROUP p) then
          ((s.put (.PG_CFGSTAT_PENDING p) 0).put (.PG_CFGSTAT_TIMEOUT p) 1).setBitAt .SYS_CMT_FAIL_FAILED p true
        else (s.put (.PG_CFGSTAT_PENDING p) 0).put (.PG_CFGSTAT_TIMEOUT p) 1).raise Ev.SYS_CMT_TIMEOUT :=
      if_pos (by simp only [hpend, hdrain, bne_iff_ne.mpr hto, Bool.not_false, Bool.and_self])
    refine ⟨fun hg => done_live hu ?_, fun hg => done_live hu ?_⟩
    · rw [ends, if_neg (off hg)]
    · rw [ends, if_pos hg]
  case noTimeout =>
    refine done_live hu (if_neg ?_)
    rw [Bool.and_eq_true, Bool.and_eq_true, bne_iff_ne, Bool.not_eq_true']
    rintro ⟨⟨pending, running⟩, limit⟩
    obtain clean | held | none := h
    · exact off clean pending
    · exact off running held
    · exact limit none
  case group =>
    refine ⟨fun hb => ⟨exec_groupGo hn (if_pos hb), exec_groupDrain hn (if_pos hb)⟩, fun hb hm => ?_⟩
    have bad (drain : Bool) : s.accessed.groupGo drain = s.accessed.accErr Adr.SYS_CMT_GO true 2 := by
      rw [State.groupGo, if_neg (off hb), hm]; rfl
    exact ⟨exec_groupGo hn (bad _), exec_groupDrain hn (bad _)⟩
  case newGroup =>
    have some : s.accessed.groupMask.isEmpty = false := by simpa using hmask
    have new (drain : Bool) := (if_neg (off hidle) : s.accessed.groupGo drain = _).trans (if_neg (off some))
    exact ⟨exec_groupGo hn (new _), exec_groupDrain hn (new _)⟩
  case cancel => exact exec_groupCancel hn (if_pos hb)
  case noCancel => exact exec_groupCancel hn (if_neg (off hb))
  case drainWaits =>
    refine ⟨fun h => done_live hu (if_neg ?_), fun h => done_live hu (if_neg ?_)⟩
    · rw [Bool.and_eq_true]
      rintro ⟨draining, reached⟩
      exact h.elim (off · draining) (off · reached)
    · rw [Bool.and_eq_true, Bool.and_eq_true, bne_iff_ne, Bool.not_eq_true', List.isEmpty_eq_false_iff]
      rintro ⟨⟨draining, limit⟩, late⟩
      exact h.elim (off · draining) (Or.elim · limit late)
  case drain => exact done_live hu (if_pos (by rw [hd, hall]; rfl))
  case drainTimeout =>
    refine done_live hu (if_pos ?_)
    rw [hd, bne_iff_ne.mpr hto, List.isEmpty_eq_false_iff.mpr hlate]
    rfl

end Sys2Proof.Machine
end

section
/-! PROOFS. The lock and the control bits of a page (R82, R88, R91). -/

namespace Sys2Proof.Machine

/-! ### The bits of PG_CTRL -/

/-- A one-bit field reads as the bit of its register. -/
theorem State.bit_eq_getLsbD (s : State) {f : Fld} (hf : f.hi = f.lo) : s.bit f = (s.rd f.addr).getLsbD f.lo := by
  have width : f.width = 1 := by rw [Fld.width, hf]; omega
  have low := f.testBit_of (s.rd f.addr) 0
  rw [width, decide_eq_true Nat.zero_lt_one, Bool.true_and, Nat.add_zero] at low
  have small : s.get f < 2 := by
    rw [State.get, Fld.of, width]
    exact Nat.mod_lt _ (by decide)
  rw [← low, State.bit]
  change (s.get f != 0) = (s.get f).testBit 0
  interval_cases s.get f <;> rfl

/-- A bit of a one-bit field stored to a word. -/
theorem Fld.getLsbD_into_bit {f : Fld} (hf : f.hi = f.lo) (h32 : f.lo < 32) (w : Word) (v : Nat) :
    (f.into w v).getLsbD f.lo = v.testBit 0 :=
  f.getLsbD_into_in w v (i := 0) (by rw [Fld.width, hf]; omega) h32

section
variable (s : State) (p : Nat) (on : Bool)

theorem testBit_zero_toNat (b : Bool) : b.toNat.testBit 0 = b := by cases b <;> rfl

/-- A word of PG_CTRL written for EN alone: EN as asked for, no SRST, SAFE as it stands. -/
theorem State.ctrlWith_en : (s.ctrlWith p (.PG_CTRL_EN p) on).getLsbD 0 = on ∧ (s.ctrlWith p (.PG_CTRL_EN p) on).getLsbD 1 = false ∧
    (s.ctrlWith p (.PG_CTRL_EN p) on).getLsbD 2 = (s.rd (Adr.PG_CTRL p)).getLsbD 2 := by
  refine ⟨?_, ?_, ?_⟩ <;> unfold State.ctrlWith
  · exact (Fld.getLsbD_into_bit (f := .PG_CTRL_EN p) rfl (by decide : 0 < 32) _ _).trans (testBit_zero_toNat on)
  · rw [Fld.getLsbD_into_out _ _ _ _ (.inr (by decide : 0 + 1 ≤ 1))]
    exact Fld.getLsbD_into_bit (f := .PG_CTRL_SRST p) rfl (by decide : 1 < 32) _ _
  · rw [Fld.getLsbD_into_out _ _ _ _ (.inr (by decide : 0 + 1 ≤ 2)), Fld.getLsbD_into_out _ _ _ _ (.inr (by decide : 1 + 1 ≤ 2))]

/-- A word of PG_CTRL written for SAFE alone. -/
theorem State.ctrlWith_safe : (s.ctrlWith p (.PG_CTRL_SAFE p) on).getLsbD 0 = (s.rd (Adr.PG_CTRL p)).getLsbD 0 ∧
    (s.ctrlWith p (.PG_CTRL_SAFE p) on).getLsbD 1 = false ∧ (s.ctrlWith p (.PG_CTRL_SAFE p) on).getLsbD 2 = on := by
  refine ⟨?_, ?_, ?_⟩ <;> unfold State.ctrlWith
  · rw [Fld.getLsbD_into_out _ _ _ _ (.inl (by decide : 0 < 2)), Fld.getLsbD_into_out _ _ _ _ (.inl (by decide : 0 < 1))]
  · rw [Fld.getLsbD_into_out _ _ _ _ (.inl (by decide : 1 < 2))]
    exact Fld.getLsbD_into_bit (f := .PG_CTRL_SRST p) rfl (by decide : 1 < 32) _ _
  · exact (Fld.getLsbD_into_bit (f := .PG_CTRL_SAFE p) rfl (by decide : 2 < 32) _ _).trans (testBit_zero_toNat on)

/-- A word of PG_CTRL written for SRST: EN and SAFE as they stand. -/
theorem State.ctrlWith_srst : (s.ctrlWith p (.PG_CTRL_SRST p) true).getLsbD 0 = (s.rd (Adr.PG_CTRL p)).getLsbD 0 ∧
    (s.ctrlWith p (.PG_CTRL_SRST p) true).getLsbD 1 = true ∧
    (s.ctrlWith p (.PG_CTRL_SRST p) true).getLsbD 2 = (s.rd (Adr.PG_CTRL p)).getLsbD 2 := by
  refine ⟨?_, ?_, ?_⟩ <;> unfold State.ctrlWith
  · rw [Fld.getLsbD_into_out _ _ _ _ (.inl (by decide : 0 < 1)), Fld.getLsbD_into_out _ _ _ _ (.inl (by decide : 0 < 1))]
  · exact Fld.getLsbD_into_bit (f := .PG_CTRL_SRST p) rfl (by decide : 1 < 32) _ _
  · rw [Fld.getLsbD_into_out _ _ _ _ (.inr (by decide : 1 + 1 ≤ 2)), Fld.getLsbD_into_out _ _ _ _ (.inr (by decide : 1 + 1 ≤ 2))]

/-! ### Draining members hold (R80) -/

/-- The state in which a page's control word acts: draining members at their safe points hold there (R19, R80). -/
def State.latched : State := (s.latch p (s.atSafePoint p)).latch 0 s.roleSafe

theorem State.latch_regs (safe : Bool) : (s.latch p safe).regs = s.regs := by
  unfold State.latch
  split <;> rfl

theorem State.latched_regs : (s.latched p).regs = s.regs := by
  rw [State.latched, State.latch_regs, State.latch_regs]

theorem State.latched_rd (a : Nat) : (s.latched p).rd a = s.rd a := by rw [State.rd, State.latched_regs, State.rd]

/-- SAFE written as it stands changes nothing. -/
theorem State.pageSafe_latched_same : (s.latched p).pageSafe p ((s.rd (Adr.PG_CTRL p)).getLsbD 2) = s.latched p := by
  refine if_pos ?_
  have same : (s.latched p).safe p = (s.rd (Adr.PG_CTRL p)).getLsbD 2 := by
    rw [State.safe, State.bit_eq_getLsbD _ (f := .PG_CTRL_SAFE p) rfl, State.latched_rd]
    rfl
  rw [same, beq_self_eq_true, Bool.or_true]

end

/-- A write of EN (R88). -/
theorem exec_pageEnable {p : Fin 32} {on : Bool} {s t : State} (hn : s.nativeHost = true) (hp : pageExists p = true)
    (h : (s.accessed.latched p).pageEnable p on = t) : exec (.pageEnable p on) s = .next t.lateOver.finish := by
  obtain ⟨en, srst, safe⟩ := s.accessed.ctrlWith_en p on
  refine done_native (f := fun s => s.regWrite (Adr.PG_CTRL p) (s.ctrlWith p (.PG_CTRL_EN p) on)) hn ?_
  rw [State.regWrite_ctrl _ p _ hp, State.ctrlWrite, en, srst, safe, ← h, ← State.pageSafe_latched_same]
  rfl

/-- A write of SAFE (R88). -/
theorem exec_pageSafe {p : Fin 32} {on : Bool} {s t : State} (hn : s.nativeHost = true) (hp : pageExists p = true)
    (h : ((s.accessed.latched p).pageSafe p on).pageEnable p ((s.accessed.rd (Adr.PG_CTRL p)).getLsbD 0) = t) :
    exec (.pageSafe p on) s = .next t.lateOver.finish := by
  obtain ⟨en, srst, safe⟩ := s.accessed.ctrlWith_safe p on
  refine done_native (f := fun s => s.regWrite (Adr.PG_CTRL p) (s.ctrlWith p (.PG_CTRL_SAFE p) on)) hn ?_
  rw [State.regWrite_ctrl _ p _ hp, State.ctrlWrite, en, srst, safe, ← h]
  rfl

/-- A write of SRST (R88). -/
theorem exec_pageSoftReset {p : Fin 32} {s t : State} (hn : s.nativeHost = true) (hp : pageExists p = true)
    (h : (((s.accessed.latched p).pageSoftReset p).pageSafe p ((s.accessed.rd (Adr.PG_CTRL p)).getLsbD 2)).pageEnable p
      ((s.accessed.rd (Adr.PG_CTRL p)).getLsbD 0) = t) : exec (.pageSoftReset p) s = .next t.lateOver.finish := by
  obtain ⟨en, srst, safe⟩ := s.accessed.ctrlWith_srst p
  refine done_native (f := fun s => s.regWrite (Adr.PG_CTRL p) (s.ctrlWith p (.PG_CTRL_SRST p) true)) hn ?_
  rw [State.regWrite_ctrl _ p _ hp, State.ctrlWrite, en, srst, safe, ← h]
  rfl

/-! ### EN page by page (R28, R38, R88, R298) -/

section
variable {s : State} {p : Nat} {on : Bool}

theorem State.pageEnable_of_fixed (h : fixedPage p = true ∨ p = 10) : s.pageEnable p on = s :=
  if_pos (by simpa using h)

/-- EN of QMX: refused while a page uses it (R38). -/
theorem State.pageEnable_qmx (on : Bool) : s.pageEnable 9 on =
    if on then (if s.enabled 9 then s else s.qmxEnable)
    else if qmxUsers.any fun q => s.enabled q then s.accErr (Adr.PG_CTRL 9) true 1
    else if s.enabled 9 then s.qmxDisable else s := rfl

/-- EN of a page with the bit. -/
theorem State.pageEnable_block (hf : fixedPage p = false) (h9 : p ≠ 9) (h10 : p ≠ 10) : s.pageEnable p on =
    if s.bit (.PG_CTRL_EN p) == on then s
    else if on then
      if [12, 13, 15, 16].contains p && s.get .CLK_XO_CFG_MODE == 2 then s
      else if 24 ≤ p ∧ s.duplicate (p - 24) then s.put (.LE_STAT_DUPBIND (p - 24)) 1
      else (s.put (.PG_CTRL_EN p) 1).syncIslands
    else ((s.pageStops p).put (.PG_CTRL_EN p) 0).syncIslands := by
  unfold State.pageEnable
  rw [if_neg (by simp [hf, h10]), if_neg h9]

/-- EN written as it stands. -/
theorem State.pageEnable_of_same (h : s.bit (.PG_CTRL_EN p) = on) (hf : fixedPage p = false) (h9 : p ≠ 9) (h10 : p ≠ 10) :
    s.pageEnable p on = s := by
  rw [State.pageEnable_block hf h9 h10, if_pos (beq_iff_eq.mpr h)]

/-- EN falls: the block's work is cut. -/
theorem State.pageEnable_off (h : s.bit (.PG_CTRL_EN p) = true) (hf : fixedPage p = false) (h9 : p ≠ 9) (h10 : p ≠ 10) :
    s.pageEnable p false = ((s.pageStops p).put (.PG_CTRL_EN p) 0).syncIslands := by
  rw [State.pageEnable_block hf h9 h10, h]
  rfl

/-- EN rises on a page that the XO or another engine's binding does not hold back. -/
theorem State.pageEnable_on (h : s.bit (.PG_CTRL_EN p) = false) (hf : fixedPage p = false) (h9 : p ≠ 9) (h10 : p ≠ 10)
    (hx : ([12, 13, 15, 16].contains p && s.get .CLK_XO_CFG_MODE == 2) = false) (hd : ¬ (24 ≤ p ∧ s.duplicate (p - 24) = true)) :
    s.pageEnable p true = (s.put (.PG_CTRL_EN p) 1).syncIslands := by
  rw [State.pageEnable_block hf h9 h10, h, hx, if_neg (by decide), if_pos rfl, if_neg Bool.false_ne_true, if_neg hd]

/-! ### SAFE and SRST page by page (R48, R88, R325) -/

theorem State.pageSafe_of_same (h : fixedPage p = true ∨ p = 9 ∨ p = 10 ∨ s.safe p = on) : s.pageSafe p on = s := by
  refine if_pos ?_
  simp only [Bool.or_eq_true, decide_eq_true_eq, beq_iff_eq]
  tauto

/-- What the rise of SAFE brings in a block (R88, R389, R463). -/
def State.safeRises (s : State) (p : Nat) : State :=
  match p with
  | 12 => s.nfcSafe
  | 13 => if s.nfcServing then s.nfpAbort else s
  | 14 => s.lineIdle
  | 15 => s.radToSleep
  | 16 => (s.searchSet false).radioRxErr RxErr.CUT
  | _ => s

/-- SAFE changes on a page with the bit. -/
theorem State.pageSafe_block (hf : fixedPage p = false) (h9 : p ≠ 9) (h10 : p ≠ 10) (h : s.safe p ≠ on) : s.pageSafe p on =
    if 24 ≤ p then (s.putBit (.PG_CTRL_SAFE p) on).engineSafe (p - 24) on
    else if on then (s.putBit (.PG_CTRL_SAFE p) on).safeRises p
    else if p = 12 then (s.putBit (.PG_CTRL_SAFE p) on).syncForced
    else s.putBit (.PG_CTRL_SAFE p) on := by
  unfold State.pageSafe
  rw [if_neg (by simp [hf, h9, h10, h])]
  rfl

/-- SAFE falls on a page that does not restart a field. -/
theorem State.pageSafe_off (hf : fixedPage p = false) (h9 : p ≠ 9) (h10 : p ≠ 10) (h12 : p ≠ 12) (hp : p < 24)
    (h : s.safe p ≠ false) : s.pageSafe p false = s.putBit (.PG_CTRL_SAFE p) false := by
  rw [State.pageSafe_block hf h9 h10 h, if_neg (by omega), if_neg Bool.false_ne_true, if_neg h12]

/-- A block's own soft reset (R48, R88). -/
def State.blockReset (s : State) (p : Nat) : State :=
  match p with
  | 4 => s.schSoftReset
  | 5 => s.evrSoftReset
  | 9 => s.qmxDisable.qmxEnable
  | 10 => s.secSoftReset
  | 11 => s.fecSoftReset
  | 12 => s.nfcSoftReset
  | 13 => s.nfpSoftReset
  | 14 => s.wirSoftReset
  | 15 => s.radSoftReset
  | 16 => s.rdmSoftReset
  | 17 => s.gpiSoftReset
  | p => if p = 31 ∧ s.leg.bound ∧ !s.legacyView then (s.engineSoftReset 7).legacyUnbind
    else if 24 ≤ p then s.engineSoftReset (p - 24) else s

/-- SRST of a page with the bit, QMX only where no page uses it: the block's reset, then a pending commit applies. -/
theorem State.pageSoftReset_block (hf : fixedPage p = false) (h9 : ¬ (p = 9 ∧ (qmxUsers.any fun q => s.enabled q) = true)) :
    s.pageSoftReset p = ((s.blockReset p).reachSafe p).syncIslands := by
  unfold State.pageSoftReset
  rw [if_neg (by rw [hf]; exact Bool.false_ne_true), if_neg h9]
  rfl

/-- An engine's reset; one of the legacy binding ends with it outside the legacy view. -/
theorem State.blockReset_engine (hp : 24 ≤ p) (hl : ¬ (p = 31 ∧ s.leg.bound = true ∧ (!s.legacyView) = true)) :
    s.blockReset p = s.engineSoftReset (p - 24) := by
  obtain ⟨k, rfl⟩ := Nat.exists_eq_add_of_le' hp
  exact (if_neg hl).trans (if_pos hp)

end

/-- The pages without EN, SAFE and SRST are the first ones. -/
theorem not_fixed {p : Nat} (h : 9 ≤ p) : fixedPage p = false := by
  simp only [fixedPage, List.contains_eq_mem, decide_eq_false_iff_not, List.mem_cons, List.not_mem_nil, or_false]
  omega

/-- SCH, EVR, WIR and GPI have the bits, and the XO does not hold them back. -/
theorem plain_pages : ∀ p : Fin 32, p.val = 4 ∨ p.val = 5 ∨ p.val = 14 ∨ p.val = 17 →
    fixedPage p = false ∧ p.val ≠ 9 ∧ p.val ≠ 10 ∧ [12, 13, 15, 16].contains p.val = false ∧ p.val < 24 := by
  decide

/-- SAFE of SCH, EVR and GPI is the bit alone: EN stays as it is and no block's work ends. -/
theorem exec_pageSafe_plain {p : Fin 32} {on : Bool} {s : State} (hw : RegFile.wf s.accessed.regs = true)
    (hn : s.nativeHost = true) (hp : p.val = 4 ∨ p.val = 5 ∨ p.val = 17) (h : s.accessed.safe p ≠ on) :
    exec (.pageSafe p on) s = .next ((s.accessed.latched p).put (.PG_CTRL_SAFE p) on.toNat).lateOver.finish := by
  obtain ⟨hf, h9, h10, -, hlt⟩ := plain_pages p (by omega)
  refine exec_pageSafe hn (by simp [pageExists]; omega) ?_
  have wf : RegFile.wf (s.accessed.latched p).regs = true := by rwa [State.latched_regs]
  have differs : (s.accessed.latched p).safe p ≠ on := by
    rwa [State.safe, State.bit_congr (s.accessed.latched_rd p _), ← State.safe]
  have written : (s.accessed.latched p).pageSafe p on = (s.accessed.latched p).put (.PG_CTRL_SAFE p) on.toNat := by
    rw [State.pageSafe_block hf h9 h10 differs, if_neg (by omega)]
    have rises (t : State) : t.safeRises p = t := by
      obtain h | h | h := hp <;> rw [h] <;> rfl
    rw [rises, if_neg (by omega : ¬ p.val = 12), ite_self]
    rfl
  have en : ((s.accessed.latched p).put (.PG_CTRL_SAFE p) on.toNat).bit (.PG_CTRL_EN p) = (s.accessed.rd (Adr.PG_CTRL p)).getLsbD 0 := by
    rw [State.bit, State.get_put_apart _ _ _ _ (.inl (by decide : 0 < 2)) wf, ← State.bit,
      State.bit_eq_getLsbD _ (f := .PG_CTRL_EN p) rfl, State.latched_rd]
    rfl
  rw [written, State.pageEnable_of_same en hf h9 h10]

/-- Settles O9, bit by bit and page by page. -/
theorem pageControlCommands : Obligations.PageControlCommands := by
  have off {b : Bool} (h : b = false) : ¬ b = true := by rw [h]; exact Bool.false_ne_true
  refine ⟨fun p s hn hp hl => ?lock, fun p on s hn hp => exec_pageEnable hn hp rfl, fun p safe s hd => ?latchFree,
    fun p s hd hr => ?latch, fun s hq => (State.pageEnable_qmx false).trans (if_pos hq), fun s hq h9 => ?qmxOff, fun s h9 => ?qmxOn,
    fun n s hen hd => ?duplicate, fun p s hp => ?four, fun p on s hn hp => exec_pageSafe hn hp rfl,
    fun p s hw hn hp hs => ?safeOn, fun p s hw hn hp hs => ?safeOff, fun p s hn hp => exec_pageSoftReset hn hp rfl,
    fun p s hn hp hl => ?locked, fun p on s => ?en, fun p on s => ?safe, fun p s => ?srst⟩
  case lock =>
    refine done_native hn ((s.accessed.regWrite_lock p _ hp).trans ?_)
    rw [State.writeLock, if_neg (off hl), if_pos rfl]
  case latchFree => rw [State.latch, hd]; rfl
  case latch => rw [State.latch, hd, hr]; rfl
  case qmxOff => rw [State.pageEnable_qmx, if_neg Bool.false_ne_true, if_neg (off hq), if_pos h9]
  case qmxOn => rw [State.pageEnable_qmx, if_pos rfl, if_neg (off h9)]
  case duplicate =>
    have hn := n.isLt
    have page : 24 + n.val - 24 = n.val := by omega
    have noXo : [12, 13, 15, 16].contains (24 + n.val) = false := by
      simp only [List.contains_eq_mem, decide_eq_false_iff_not, List.mem_cons, List.not_mem_nil, or_false]
      omega
    rw [State.pageEnable_block (not_fixed (by omega)) (by omega) (by omega), hen, if_neg (by decide), if_pos rfl, noXo, Bool.false_and,
      if_neg Bool.false_ne_true, page, if_pos ⟨by omega, hd⟩]
  case four =>
    obtain ⟨hf, h9, h10, hx, hlt⟩ := plain_pages p hp
    refine ⟨fun h => State.pageEnable_on h hf h9 h10 (by rw [hx, Bool.false_and]) ?_, fun h => State.pageEnable_off h hf h9 h10⟩
    omega
  case safeOn => exact exec_pageSafe_plain hw hn hp (by rw [hs]; exact Bool.false_ne_true)
  case safeOff => exact exec_pageSafe_plain hw hn hp (by rw [hs]; decide)
  case locked => exact done_native hn ((s.accessed.regWrite_lock p _ hp).trans (if_pos hl))
  case en =>
    refine ⟨State.pageEnable_of_fixed, ?_, ?_, fun hf h9 h10 => ⟨fun h => State.pageEnable_of_same h hf h9 h10,
      fun h => State.pageEnable_off h hf h9 h10, fun h hp hxo => ?_, fun h hp hxo => ?_, fun h hp hd => ?_⟩⟩
    · rintro rfl h
      rw [State.pageEnable_qmx, if_pos rfl, if_pos h]
    · rintro rfl h hq
      rw [State.pageEnable_qmx, if_neg Bool.false_ne_true, if_neg (off hq), if_neg (off h)]
    · rw [State.pageEnable_block hf h9 h10, h, if_neg (by decide), if_pos rfl, if_pos]
      simp [hxo, hp]
    · exact State.pageEnable_on h hf h9 h10 (by simp [hxo]) (by omega)
    · refine State.pageEnable_on h hf h9 h10 ?_ fun dup => off hd dup.2
      have : [12, 13, 15, 16].contains p = false := by
        simp only [List.contains_eq_mem, decide_eq_false_iff_not, List.mem_cons, List.not_mem_nil, or_false]
        omega
      rw [this, Bool.false_and]
  case safe =>
    refine ⟨State.pageSafe_of_same, fun hf h9 h10 h => ?_⟩
    have block := State.pageSafe_block hf h9 h10 h
    refine ⟨fun hp => block.trans (if_pos hp), fun rises => ⟨?_, ?_, ?_, ?_, ?_, ?_⟩, fun falls => ⟨?_, fun hp h12 => ?_⟩⟩
    · rintro rfl; subst rises; exact block
    · rintro rfl; subst rises; exact block
    · rintro rfl; subst rises; exact block
    · rintro rfl; subst rises; exact block
    · rintro rfl; subst rises; exact block
    · rintro (rfl | rfl | rfl | rfl) <;> subst rises <;> exact block
    · rintro rfl; subst falls; exact block
    · subst falls; exact block.trans ((if_neg (by omega)).trans ((if_neg Bool.false_ne_true).trans (if_neg h12)))
  case srst =>
    have block {q : Nat} (h : p = q) (hf : fixedPage q = false) (h9 : q ≠ 9) :
        s.pageSoftReset p = ((s.blockReset q).reachSafe q).syncIslands := by
      subst h
      exact State.pageSoftReset_block hf fun h => h9 h.1
    refine ⟨fun h => if_pos h, ?_, ?_, fun h => block (q := 4) h rfl (by decide), fun h => block (q := 5) h rfl (by decide),
      fun h => block (q := 10) h rfl (by decide), fun h => block (q := 11) h rfl (by decide),
      fun h => block (q := 12) h rfl (by decide), fun h => block (q := 13) h rfl (by decide),
      fun h => block (q := 14) h rfl (by decide), fun h => block (q := 15) h rfl (by decide),
      fun h => block (q := 16) h rfl (by decide), fun h => block (q := 17) h rfl (by decide), fun h24 h31 => ?_, fun h hl => ?_, fun h hb hv => ?_⟩
    · rintro rfl h
      exact (if_neg (by decide)).trans (if_pos ⟨rfl, h⟩)
    · rintro rfl h
      exact State.pageSoftReset_block rfl fun hq => off h hq.2
    · rw [block rfl (not_fixed (by omega)) (by omega), State.blockReset_engine h24 (by omega)]
    · have free : ¬ (31 = 31 ∧ s.leg.bound = true ∧ (!s.legacyView) = true) := by
        rintro ⟨-, bound, native⟩
        obtain unbound | view := hl
        · exact off unbound bound
        · rw [view] at native; exact Bool.false_ne_true native
      rw [block h rfl (by decide), State.blockReset_engine (by decide) free]
    · rw [block h rfl (by decide)]
      have bound : s.blockReset 31 = (s.engineSoftReset 7).legacyUnbind := if_pos ⟨rfl, hb, by rw [hv]; rfl⟩
      rw [bound]

end Sys2Proof.Machine
end

section
/-! PROOFS. Events, interrupt summaries, resets and Kindling (R69, R90, R99, R132, R139, R148, R157 to R159, R553). -/

namespace Sys2Proof.Machine

/-! ### One bit of a word (R90, R139) -/

/-- The bits of a word with one bit. -/
theorem filter_getLsbD_two_pow : ∀ k : Fin 32,
    ((List.range 32).filter fun i => (BitVec.ofNat 32 (2 ^ k.val)).getLsbD i) = [k.val] := by
  decide +kernel

/-- Each event has its own bit of its page. -/
theorem filter_eventHome : ∀ e : Fin 192, ∀ h ∈ eventHome e,
    ((List.range 192).filter fun x => (eventHome x).any fun g => g.1 == h.1 && (BitVec.ofNat 32 (2 ^ h.2)).getLsbD g.2) = [e.val] := by
  decide +kernel

theorem pageExists_of_eventHome : ∀ e : Fin 192, ∀ h ∈ eventHome e, pageExists h.1 = true := by decide +kernel

/-! ### Resets (R102, R157 to R159) -/

/-- What a further cause does before Kindling has run, phase by phase. -/
theorem State.resetPart_of_down {s : State} (h : s.up = false) (cause : Nat) : s.resetPart cause =
    ({ s with pwr := { s.pwr with phase := if s.pwr.phase == .held && cause != Rst.PIN then .held
      else if s.pwr.phase == .hot then .hot else .inReset } } : State).put .RST_CAUSE_CAUSE
        (if s.pwr.por then Rst.POR else firstCause (s.get .RST_CAUSE_CAUSE) cause) := by
  unfold State.resetPart
  rw [h, if_neg Bool.false_ne_true]

/-- Kindling begins at the start threshold of the reset's cause, with TEST low (R148). -/
theorem State.kindling_of_start {s : State} {k : Samples} (fails : Nat) (io : Bool) (hs : s.pwr.phase = .inReset)
    (hv : (if s.pwr.por || s.get .RST_CAUSE_CAUSE == Rst.VRST then 1760 else 1700) ≤ k.vmain) :
    s.kindling fails false io k = if 3 ≤ fails then { s with pwr := { s.pwr with phase := .held, ioUp := io } }
      else if io then s.ready k else { s with pwr := { s.pwr with phase := .waitIo, ioUp := false } } := by
  unfold State.kindling
  dsimp only
  rw [if_neg]
  rintro (phase | low | test)
  · exact phase hs
  · omega
  · exact Bool.false_ne_true test

/-- Kindling does not begin. -/
theorem State.kindling_of_no_start {s : State} {k : Samples} (fails : Nat) {test : Bool} (io : Bool)
    (h : s.pwr.phase ≠ .inReset ∨ test = true ∨
      k.vmain < if (s.pwr.por || s.get .RST_CAUSE_CAUSE == Rst.VRST) = true then 1760 else 1700) :
    s.kindling fails test io k = s := by
  refine if_pos ?_
  obtain h | h | h := h
  · exact .inl h
  · exact .inr (.inr h)
  · exact .inr (.inl h)

/-- Settles O10, command by command. -/
theorem eventAndResetCommands : Obligations.EventAndResetCommands := by
  have off {b : Bool} (h : b = false) : ¬ b = true := by rw [h]; exact Bool.false_ne_true
  refine ⟨fun p w s hn hp => ?pend, fun n k p b s hn he => ?sumBit, fun p e b s hn he hh hl => ?forceBit,
    fun s hn => done_native hn rfl, fun s hn => ?soft, fun s hu hio => ?pin, fun mv s hu hv => ?vrst, fun mv s hv => ?loss,
    fun fails strap a1 a0 temp vmain vstore s hs hv hf => ?kindling, fun strap a1 a0 temp vmain vstore s hs => ?ioReady,
    fun n w s hn => ?sum, fun p w s hn hp => ⟨fun hl => ?forceLocked, fun hl => ?force⟩, fun key s hn hk => ?softKey,
    fun mv s => ⟨fun hio => ?noPin, fun hv => ?noVrst, fun hv => ?noLoss⟩, fun mv s hu => ⟨fun hio => ?pinDown, fun hv => ?vrstDown⟩,
    fun fails test io strap a1 a0 temp vmain vstore s => ⟨fun hs ht hv => ⟨fun hf hio => ?runs, fun hf hio => ?waits, fun hf => ?held⟩,
      fun h => ?idle, fun h => ?noWait⟩⟩
  case pend => exact done_native hn (s.accessed.regWrite_pend p w hp)
  case sumBit =>
    refine done_native hn ((s.accessed.regWrite_IRQ_SUM n _).trans ?_)
    rw [State.irqSumClear, filter_getLsbD_two_pow k]
    simp only [State.forEach, List.foldl_cons, List.foldl_nil, he]
    rfl
  case forceBit =>
    refine done_native hn ((s.accessed.regWrite_force p _ ?_).trans ?_)
    · exact pageExists_of_eventHome ⟨e, he⟩ (p.val, b) hh
    · have bits := filter_eventHome ⟨e, he⟩ (p.val, b) hh
      rw [State.eventForce, if_neg (off hl), bits]
      rfl
  case soft => exact done_native hn ((s.accessed.regWrite_SYS_SWRST _).trans (if_pos rfl))
  case pin =>
    change done (if s.pwr.ioUp then s.resetPart Rst.PIN else s) = _
    rw [if_pos hio, State.resetPart_of_up hu]
    rfl
  case vrst =>
    change done (if mv < 1700 then s.resetPart Rst.VRST else s) = _
    rw [if_pos hv, State.resetPart_of_up hu]
    rfl
  case loss => exact (exec_emberDomainLoss hv s).trans rfl
  case kindling =>
    have start : (if s.pwr.por || s.get .RST_CAUSE_CAUSE == Rst.VRST then 1760 else 1700) ≤ vmain := by split <;> omega
    exact congrArg done ((State.kindling_of_start (k := { strap, a1, a0, temp, vmain, vstore }) fails true hs start).trans
      ((if_neg (by omega)).trans (if_pos rfl)))
  case ioReady => exact congrArg done (if_pos hs)
  case sum => exact done_native hn (s.accessed.regWrite_IRQ_SUM n w)
  case forceLocked => exact done_native hn ((s.accessed.regWrite_force p w hp).trans (if_pos hl))
  case force => exact done_native hn ((s.accessed.regWrite_force p w hp).trans (if_neg (off hl)))
  case softKey => exact done_native hn ((s.accessed.regWrite_SYS_SWRST _).trans (if_neg hk))
  case noPin => exact congrArg done (if_neg (off hio))
  case noVrst => exact congrArg done (if_neg (by omega))
  case noLoss => exact congrArg done (if_neg (by omega))
  case pinDown =>
    change done (if s.pwr.ioUp then s.resetPart Rst.PIN else s) = _
    rw [if_pos hio, State.resetPart_of_down hu]
    have phase : (s.pwr.phase == Phase.held && Rst.PIN != Rst.PIN) = false := Bool.and_false _
    simp only [phase, Bool.false_eq_true, if_false, beq_iff_eq]
    rfl
  case vrstDown =>
    change done (if mv < 1700 then s.resetPart Rst.VRST else s) = _
    rw [if_pos hv, State.resetPart_of_down hu]
    have phase : (s.pwr.phase == Phase.held && Rst.VRST != Rst.PIN) = (s.pwr.phase == Phase.held) := Bool.and_true _
    simp only [phase, beq_iff_eq]
    rfl
  case runs =>
    subst ht
    exact congrArg done ((State.kindling_of_start (k := { strap, a1, a0, temp, vmain, vstore }) fails io hs hv).trans
      ((if_neg (by omega)).trans (if_pos hio)))
  case waits =>
    subst ht
    exact congrArg done ((State.kindling_of_start (k := { strap, a1, a0, temp, vmain, vstore }) fails io hs hv).trans
      ((if_neg (by omega)).trans (if_neg (off hio))))
  case held =>
    subst ht
    exact congrArg done ((State.kindling_of_start (k := { strap, a1, a0, temp, vmain, vstore }) fails io hs hv).trans
      (if_pos hf))
  case idle => exact congrArg done (State.kindling_of_no_start (k := { strap, a1, a0, temp, vmain, vstore }) fails io h)
  case noWait => exact congrArg done (if_neg h)

end Sys2Proof.Machine
end

section
/-! PROOFS. The host interface: native transactions, queue pushes and pops, the wake pin (R106 to R123, R131, R587). -/

namespace Sys2Proof.Machine

/-! ### A native transaction by its command byte (R107, R108) -/

section
variable {s : State} {c hi lo : Byte} {data : List Byte} {n ready : Nat} {ecc : List (Nat × Bool)} {close : Bool}

theorem State.nativeTransaction_of_bad (h : badCommand c = true) (l : List Byte) :
    s.nativeTransaction (c :: l) n ready ecc close = ([], s.put .HIF_STAT_BADCMD 1) := if_pos h

theorem State.nativeTransaction_of_status (h : badCommand c = false) (hop : c &&& 0xC0 = 0x80) (l : List Byte) :
    s.nativeTransaction (c :: l) n ready ecc close = ([], s) := by
  unfold State.nativeTransaction
  dsimp only
  rw [h, if_neg Bool.false_ne_true, if_pos (beq_iff_eq.mpr hop)]

/-- A transaction cut short before its address is whole. -/
theorem State.nativeTransaction_of_short (h : badCommand c = false) (hop : c &&& 0xC0 ≠ 0x80) {l : List Byte} (hl : l.length < 2) :
    s.nativeTransaction (c :: l) n ready ecc close = (if s.i2c then [] else List.replicate l.length 0, s) := by
  unfold State.nativeTransaction
  dsimp only
  rw [h, if_neg Bool.false_ne_true, if_neg (by simpa using hop)]
  match l, hl with
  | [], _ => rfl
  | [x], _ => rfl

theorem State.nativeTransaction_of_read (h : badCommand c = false) (hop : c &&& 0xC0 = 0x40) :
    s.nativeTransaction (c :: hi :: lo :: data) n ready ecc close =
      let r := s.readTransaction (s.bit .HIF_CRC_EN_EN) (c.getLsbD 5) (hi ++ lo).toNat n ready ecc [c, hi, lo]
      ((if s.i2c then [] else List.replicate 2 0) ++ r.1, r.2) := by
  unfold State.nativeTransaction
  dsimp only
  rw [h, if_neg Bool.false_ne_true, if_neg (by rw [hop]; decide), if_pos (beq_iff_eq.mpr hop)]

theorem State.nativeTransaction_of_write (h : badCommand c = false) (hop : c &&& 0xC0 = 0x00) :
    s.nativeTransaction (c :: hi :: lo :: data) n ready ecc close =
      (if s.i2c then [] else List.replicate (data.length + 2) 0,
        s.writeBytes (s.bit .HIF_CRC_EN_EN) (c.getLsbD 5) close (hi ++ lo).toNat [c, hi, lo] [] data) := by
  unfold State.nativeTransaction
  dsimp only
  rw [h, if_neg Bool.false_ne_true, if_neg (by rw [hop]; decide), if_neg (by rw [hop]; decide)]
  rfl

end

/-! ### Written words (R111, R115, R116, R118) -/

section
variable (s : State) (fix close : Bool) (a : Nat) (pre : List Byte) (push : List Word) (b0 b1 b2 b3 : Byte) (rest : List Byte)

theorem State.writeBytes_word : s.writeBytes false fix close a pre push (b0 :: b1 :: b2 :: b3 :: rest) =
    (s.wordIn a push (b0 ++ b1 ++ b2 ++ b3)).2.writeBytes false fix close (nextAddr fix a) []
      (s.wordIn a push (b0 ++ b1 ++ b2 ++ b3)).1 rest := by
  cases rest with
  | nil => rw [State.writeBytes]; rfl
  | cons => rw [State.writeBytes]; rfl

theorem State.writeBytes_crc {k : Byte} (h : k = hostCrc (pre ++ [b0, b1, b2, b3])) :
    s.writeBytes true fix close a pre push (b0 :: b1 :: b2 :: b3 :: k :: rest) =
      (s.wordIn a push (b0 ++ b1 ++ b2 ++ b3)).2.writeBytes true fix close (nextAddr fix a) []
        (s.wordIn a push (b0 ++ b1 ++ b2 ++ b3)).1 rest := by
  rw [State.writeBytes]
  exact if_pos h

theorem State.writeBytes_badCrc {k : Byte} (h : k ≠ hostCrc (pre ++ [b0, b1, b2, b3])) :
    s.writeBytes true fix close a pre push (b0 :: b1 :: b2 :: b3 :: k :: rest) = s.crcError := by
  rw [State.writeBytes]
  exact if_neg h

/-- A word without its CRC byte, the bytes ending there. -/
theorem State.writeBytes_noCrc :
    s.writeBytes true fix close a pre push [b0, b1, b2, b3] = if close then s.endPush a push else s := by
  rw [State.writeBytes]
  rfl

/-- A word cut short. -/
theorem State.writeBytes_short (crc : Bool) {l : List Byte} (h : l.length < 4) :
    s.writeBytes crc fix close a pre push l = if close then s.endPush a push else s := by
  match l, h with
  | [], _ => rfl
  | [_], _ => rfl
  | [_, _], _ => rfl
  | [_, _, _], _ => rfl

end

/-- A word outside the queue windows is written at once. -/
theorem State.wordIn_of_register {s : State} {a : Nat} (hu : s.up = true) (hq : inQueue a = false) (push : List Word) (w : Word) :
    s.wordIn a push w = (push, s.regWrite a w) := by
  rw [State.wordIn, hu, queueWord, hq]
  rfl

/-! ### Words read (R112 to R114, R119) -/

/-- One register word read with CRC off. -/
theorem State.readWords_of_register {s : State} {a : Nat} (hq : inQueue a = false) (fix : Bool) (ecc : List (Nat × Bool))
    (pre : List Byte) : s.readWords false fix false a ecc pre 1 = (wordBytes (s.regRead a ecc).1, (s.regRead a ecc).2) := by
  have word : s.wordOut a ecc =
      ((s.regRead a ecc).1, (if storeAddr a then (eccSplit ecc [storeCell a]).2 else ecc), (s.regRead a ecc).2) := by
    rw [State.wordOut, queueWord, hq]
    rfl
  simp only [State.readWords, Bool.false_eq_true, if_false, word, List.append_nil]

/-- A late word reads 0 without a side effect. -/
theorem State.readWords_of_late (s : State) (a : Nat) (fix : Bool) (ecc : List (Nat × Bool)) (pre : List Byte) :
    s.readWords false fix true a ecc pre 1 = ([0, 0, 0, 0], s) := by
  simp only [State.readWords, Bool.false_eq_true, if_false, if_true, List.append_nil]
  rfl

/-- On SPI with fixed wait bytes the data follow them; they are late where they are ready after the last one (R112). -/
theorem State.readTransaction_of_bytes {s : State} {a : Nat} (h2c : s.i2c = false) (hq : inQueue a = false)
    (hm : s.bit .HIF_WAIT_MODE = false) (fix : Bool) (ready : Nat) (ecc : List (Nat × Bool)) (pre : List Byte) :
    s.readTransaction false fix a 1 ready ecc pre =
      let late := decide (s.get .HIF_WAIT_BYTES < ready)
      let r := s.readWords false fix late a ecc pre 1
      let t := if late then (r.2.releasePopped s).underrun else r.2.releasePopped s
      (List.replicate (s.get .HIF_WAIT_BYTES) 0 ++ r.1, { t with hif := { t.hif with lateNow := late } }) := by
  unfold State.readTransaction
  rw [h2c, hq, hm]
  simp only [Bool.false_eq_true, if_false, Bool.or_self, Nat.zero_lt_one, decide_true, Bool.and_true]

/-- A host access leaves a running part running. -/
theorem State.up_accessed (s : State) : s.accessed.up = s.up := by
  by_cases h : s.pwr.phase = .ember
  · rw [s.accessed_of_ember h, State.up, State.raise_pwr, State.up, h]
    rfl
  · rw [s.accessed_of_awake h]
    rfl

theorem State.up_withHif (s : State) (h : Hif) : ({ s with hif := h } : State).up = s.up := rfl

/-- LATE shows in the next transaction's status byte (R110). -/
theorem State.lateOver_withLateNow (s : State) (b : Bool) (out : List Byte) :
    ({ ({ s with hif := { s.hif with lateNow := b } } : State).lateOver with hostOut := out } : State) =
      { s with hif := { s.hif with late := b, lateNow := false }, hostOut := out } := rfl

/-! ### Transactions (R106, R110, R124, R131) -/

/-- A host transaction of a running part with VDD_IO, in the view that holds. -/
def State.ranTransaction (s : State) (bytes : List Byte) (n ready : Nat) (ecc : List (Nat × Bool)) (close : Bool) : State :=
  let r := if s.legacyView then s.accessed.legacyTransaction bytes n else s.accessed.nativeTransaction bytes n ready ecc close
  if r.2.up then { r.2.lateOver with hostOut := (if s.i2c then [] else [BitVec.ofNat 8 s.statusByte]) ++ r.1 } else r.2

theorem State.transaction_of_up {s : State} (hu : s.up = true) (hio : s.pwr.ioUp = true) (bytes : List Byte) (n ready : Nat)
    (ecc : List (Nat × Bool)) (close : Bool) :
    s.transaction bytes n ready ecc close = s.ranTransaction bytes n ready ecc close := by
  unfold State.transaction State.ranTransaction
  rw [hio, hu]
  rfl

theorem State.transaction_of_no_io {s : State} (hio : s.pwr.ioUp = false) (bytes : List Byte) (n ready : Nat)
    (ecc : List (Nat × Bool)) (close : Bool) : s.transaction bytes n ready ecc close = s := by
  unfold State.transaction
  rw [hio]
  rfl

/-- A native transaction whose part still runs. -/
theorem State.ranTransaction_native {s u : State} {bytes out : List Byte} {n ready : Nat} {ecc : List (Nat × Bool)} {close : Bool}
    (hv : s.legacyView = false) (hr : s.accessed.nativeTransaction bytes n ready ecc close = (out, u)) (hu : u.up = true) :
    s.ranTransaction bytes n ready ecc close =
      { u.lateOver with hostOut := (if s.i2c then [] else [BitVec.ofNat 8 s.statusByte]) ++ out } := by
  unfold State.ranTransaction
  rw [hv, if_neg Bool.false_ne_true, hr]
  exact if_pos hu

/-! ### Pops (R119, R120, R587) -/

theorem State.qctlWrite_release (s : State) (q : Fin 9) : s.qctlWrite (Fld.HIF_QCTL_Q.into 0 q) = s.popRelease q := by
  fin_cases q <;> rfl

theorem State.qctlWrite_rewind (s : State) (q : Fin 9) :
    s.qctlWrite (Fld.HIF_QCTL_OP.into (Fld.HIF_QCTL_Q.into 0 q) 1) = s.popRewind q := by
  fin_cases q <;> rfl

/-! ### Settling the host's commands -/

/-- Settles O11, command by command. -/
theorem hostCommands : Obligations.HostCommands := by
  have off {b : Bool} (h : b = false) : ¬ b = true := by rw [h]; exact Bool.false_ne_true
  refine ⟨fun hi lo b0 b1 b2 b3 s hn hcrc hq htu hu => ?write, fun hi lo ready ecc s hn h2c h2c' hcrc hm hq hr hv => ?read,
    fun hi lo ready ecc s hn h2c h2c' hcrc hm hq hr hv => ?late, fun s hn h2c => ?status, fun bytes s hio hd => ?before,
    fun hi lo word s hn h2c h2c' hw => ?busTimeout, fun n words s hn hne hlen hfree hen hcred => ?push,
    fun n k ecc s hn => done_native hn rfl, fun q i s hn hi hread => ?release, fun q i s hn hi => ?rewind,
    fun s hu => ⟨done_live hu rfl, done_live hu rfl⟩, fun s hio hh hp => ?wake, fun s hp => ?awake,
    fun bytes n ready ecc s => ⟨fun hu hio => ?runs, fun hio => ?noIo, fun h2c => ?spiTimeout⟩,
    fun c hi lo data n ready ecc close s => ?byCommand, fun fix close a pre push b0 b1 b2 b3 k rest s => ?byWord,
    fun crc fix a n ready ecc pre s => ?reads, fun n words s hn => ?noPush, fun q ecc s => ?pops, fun q s hn => ?noRelease,
    fun high s => ?edges⟩
  case write =>
    obtain ⟨up, io, view⟩ := s.nativeHost_iff.mp hn
    have tx : s.accessed.nativeTransaction [0x00, hi, lo, b0, b1, b2, b3] 0 0 [] true =
        (if s.accessed.i2c then [] else List.replicate 6 0, s.accessed.regWrite (hi ++ lo).toNat (b0 ++ b1 ++ b2 ++ b3)) := by
      rw [State.nativeTransaction_of_write (by decide) (by decide), hcrc, State.writeBytes_word, State.wordIn_of_register htu hq]
      rfl
    exact congrArg done ((State.transaction_of_up up io _ 0 0 [] true).trans (State.ranTransaction_native view tx hu))
  case read =>
    obtain ⟨up, io, view⟩ := s.nativeHost_iff.mp hn
    have intime : decide (s.accessed.get .HIF_WAIT_BYTES < ready) = false := decide_eq_false (Nat.not_lt.mpr hr)
    have tx := State.nativeTransaction_of_read (s := s.accessed) (hi := hi) (lo := lo) (data := []) (n := 1) (ready := ready)
      (ecc := ecc) (close := true) (by decide : badCommand 0x40 = false) (by decide)
    rw [hcrc, h2c', State.readTransaction_of_bytes h2c' hq hm, intime] at tx
    dsimp only at tx
    rw [State.readWords_of_register hq, if_neg Bool.false_ne_true, if_neg Bool.false_ne_true] at tx
    dsimp only at tx
    refine congrArg done ((State.transaction_of_up up io _ 1 ready ecc true).trans ?_)
    rw [State.ranTransaction_native view tx ((State.up_withHif _ _).trans hv), h2c, State.lateOver_withLateNow,
      if_neg Bool.false_ne_true]
    rfl
  case late =>
    obtain ⟨up, io, view⟩ := s.nativeHost_iff.mp hn
    have tx := State.nativeTransaction_of_read (s := s.accessed) (hi := hi) (lo := lo) (data := []) (n := 1) (ready := ready)
      (ecc := ecc) (close := true) (by decide : badCommand 0x40 = false) (by decide)
    rw [hcrc, h2c', State.readTransaction_of_bytes h2c' hq hm, decide_eq_true hr] at tx
    dsimp only at tx
    rw [State.readWords_of_late] at tx
    refine congrArg done ((State.transaction_of_up up io _ 1 ready ecc true).trans ?_)
    rw [State.ranTransaction_native view tx ((State.up_withHif _ _).trans hv), h2c, State.lateOver_withLateNow,
      if_neg Bool.false_ne_true]
    rfl
  case status =>
    obtain ⟨up, io, view⟩ := s.nativeHost_iff.mp hn
    have tx := State.nativeTransaction_of_status (s := s.accessed) (n := 0) (ready := 0) (ecc := []) (close := true)
      (by decide : badCommand 0x80 = false) (by decide) []
    have runs : s.accessed.up = true := by rw [State.up_accessed]; exact up
    refine congrArg done ((State.transaction_of_up up io _ 0 0 [] true).trans ?_)
    rw [State.ranTransaction_native view tx runs, h2c]
    rfl
  case before =>
    refine congrArg done (?_ : s.transaction bytes 0 0 [] true = _)
    unfold State.transaction
    rw [hio, hd]
    simp only [Bool.not_true, Bool.not_false, Bool.false_eq_true, if_false, if_true, beq_iff_eq]
  case busTimeout =>
    obtain ⟨up, io, view⟩ := s.nativeHost_iff.mp hn
    have tx := State.nativeTransaction_of_write (s := s.accessed) (hi := hi) (lo := lo) (data := word) (n := 0) (ready := 0)
      (ecc := []) (close := false) (by decide : badCommand 0x00 = false) (by decide)
    rw [h2c', State.writeBytes_short _ _ _ _ _ _ _ hw] at tx
    have runs : s.accessed.up = true := by rw [State.up_accessed]; exact up
    refine congrArg done ((if_pos h2c).trans ((State.transaction_of_up up io _ 0 0 [] false).trans
      ((State.ranTransaction_native view tx runs).trans ?_)))
    rw [h2c]
    rfl
  case push =>
    have some : words.isEmpty = false := by simpa using hne
    refine done_native hn ((if_neg (off some)).trans ?_)
    unfold State.closePush
    dsimp only
    rw [some, if_neg Bool.false_ne_true, if_neg, if_neg (by omega)]
    rw [hen]
    rintro (long | short | disabled)
    · omega
    · omega
    · exact Bool.false_ne_true disabled
  case release =>
    refine done_native hn ((s.accessed.regWrite_HIF_QCTL _).trans ((State.qctlWrite_release _ q).trans ?_))
    rw [State.popRelease, hi]
    refine if_pos ?_
    rwa [Bool.or_eq_true, decide_eq_true_eq]
  case rewind =>
    refine done_native hn ((s.accessed.regWrite_HIF_QCTL _).trans ((State.qctlWrite_rewind _ q).trans ?_))
    rw [State.popRewind, hi]
    rfl
  case wake =>
    have up : s.up = true := by rw [State.up, hp]; rfl
    refine congrArg done (?_ : s.wakeEdge true = _)
    unfold State.wakeEdge
    rw [hio, hh, up]
    exact (if_pos rfl).trans ((if_pos hp).trans (congrArg (State.raise · Ev.HIF_WAKE) (if_pos hp)))
  case awake =>
    have up : s.up = true := by rw [State.up, hp]; rfl
    exact done_live up (if_pos hp)
  case runs =>
    have ran (bytes : List Byte) (n ready : Nat) (ecc : List (Nat × Bool)) (close : Bool) :=
      congrArg done (State.transaction_of_up hu hio bytes n ready ecc close)
    exact ⟨ran bytes 0 0 [] true, ran bytes n ready ecc true, ran [0x80] 0 0 [] true,
      fun h2c => (congrArg done (if_pos h2c)).trans (ran bytes 0 0 [] false)⟩
  case noIo =>
    have idle (bytes : List Byte) (n ready : Nat) (ecc : List (Nat × Bool)) (close : Bool) :=
      congrArg done (State.transaction_of_no_io hio bytes n ready ecc close)
    refine ⟨idle bytes 0 0 [] true, idle bytes n ready ecc true, idle [0x80] 0 0 [] true, congrArg done ?_⟩
    rw [State.transaction_of_no_io hio, ite_self]
  case spiTimeout => exact congrArg done (if_neg (off h2c))
  case byCommand =>
    exact ⟨State.nativeTransaction_of_bad, State.nativeTransaction_of_status, fun h hop l hl => State.nativeTransaction_of_short h hop hl,
      State.nativeTransaction_of_read, State.nativeTransaction_of_write⟩
  case byWord =>
    exact ⟨s.writeBytes_word fix close a pre push b0 b1 b2 b3 rest, fun h => s.writeBytes_crc fix close a pre push b0 b1 b2 b3 rest h,
      fun h => s.writeBytes_badCrc fix close a pre push b0 b1 b2 b3 rest h, s.writeBytes_noCrc fix close a pre push b0 b1 b2 b3,
      fun crc l hl => s.writeBytes_short fix close a pre push crc hl⟩
  case reads =>
    refine ⟨fun h2c => if_pos h2c, fun h2c hq => ?_⟩
    have slow : (inQueue a || s.bit .HIF_WAIT_MODE) = true := by rwa [Bool.or_eq_true]
    refine ⟨fun hr => ?_, fun hr => ?_⟩
    · unfold State.readTransaction
      dsimp only
      rw [if_neg (off h2c), if_pos slow, if_neg (by omega)]
    · unfold State.readTransaction
      dsimp only
      rw [if_neg (off h2c), if_pos slow, if_pos hr]
  case noPush =>
    refine ⟨fun he => done_native hn (if_pos (by rw [he]; rfl)), fun hne h => ?_⟩
    have some : words.isEmpty = false := by simpa using hne
    refine done_native hn ((if_neg (off some)).trans ?_)
    unfold State.closePush
    dsimp only
    rw [some, if_neg Bool.false_ne_true, if_pos]
    rwa [Bool.not_eq_true']
  case pops =>
    refine ⟨fun hi hh => if_pos (by rw [hi, hh]; rfl), fun h => ?_⟩
    have next : ¬ ((s.popItem q).isSome && !(s.pop q).held) = true := by
      obtain h | h := h <;> rw [h] <;> simp
    exact ⟨fun hc => (if_neg next).trans (if_pos hc), fun hc => (if_neg next).trans (if_neg (off hc))⟩
  case noRelease =>
    refine ⟨fun h => ?_, fun h => ?_⟩
    · refine done_native hn ((s.accessed.regWrite_HIF_QCTL _).trans ((State.qctlWrite_release _ q).trans ?_))
      obtain h | ⟨held, start⟩ := h
      · rw [State.popRelease, h]
      · rw [State.popRelease, held, start]
        split <;> rfl
    · refine done_native hn ((s.accessed.regWrite_HIF_QCTL _).trans ((State.qctlWrite_rewind _ q).trans ?_))
      rw [State.popRewind, h]
      rfl
  case edges =>
    refine ⟨fun h => congrArg done (?_ : s.wakeEdge high = _), fun hh hio hw hu hp => congrArg done (?_ : s.wakeEdge high = _),
      fun hp => ?_⟩
    · refine if_neg ?_
      simp only [Bool.and_eq_true, Bool.not_eq_true']
      rintro ⟨⟨⟨rise, io⟩, low⟩, up⟩
      obtain h | h | h | h := h
      · exact off h rise
      · exact off h io
      · rw [low] at h; exact Bool.false_ne_true h
      · exact off h up
    · unfold State.wakeEdge
      rw [hh, hio, hw, hu]
      exact if_neg hp
    · cases hu : s.up with
      | true => exact done_live hu (if_neg hp)
      | false => exact congrArg done (s.live_of_not_up _ hu)

end Sys2Proof.Machine
end

section
/-! PROOFS. The Narurdin 3 legacy view (R124 to R128, R135). -/

namespace Sys2Proof.Machine

/-! ### L_CMD (R126, R127) -/

section
variable {s : State} {c : Nat}

/-- A code that is a command of L_CMD, neither IDLE nor FIELD_OFF. -/
theorem State.legacyCmd_command (hc : c ∈ [0x21, 0x22, 0x23, 0x30, 0x40, 0x41]) : s.legacyCmd c =
    if !s.leg.bound then s
    else if s.legacyBusy then
      if s.legacyFieldOn then
        if c = 0x30 then s
        else if s.leg.todo.isSome || s.leg.stop then s.legacyRefuse
        else (s.setLeg fun l => { l with todo := some c }).nfpNext
      else s.legacyRefuse
    else if (s.slot 63).st = .running then s.legacyRefuse
    else s.legacyBegin c := by
  unfold State.legacyCmd
  rw [if_neg (by rintro (rfl | rfl) <;> simp at hc), if_pos (List.contains_iff_mem.mpr hc)]

theorem State.legacyCmd_unbound (hc : c ∈ [0x21, 0x22, 0x23, 0x30, 0x40, 0x41]) (hb : s.leg.bound = false) :
    s.legacyCmd c = s := by
  rw [State.legacyCmd_command hc, hb]
  rfl

/-- A command of a free slot 63 starts a task. -/
theorem State.legacyCmd_free (hc : c ∈ [0x21, 0x22, 0x23, 0x30, 0x40, 0x41]) (hb : s.leg.bound = true)
    (hbusy : s.legacyBusy = false) (hst : (s.slot 63).st ≠ .running) : s.legacyCmd c = s.legacyBegin c := by
  rw [State.legacyCmd_command hc, hb, hbusy, if_neg (by decide), if_neg (by decide), if_neg hst]

/-- While an earlier task of slot 63 still ends no command is accepted (R125). -/
theorem State.legacyCmd_ending (hc : c ∈ [0x21, 0x22, 0x23, 0x30, 0x40, 0x41]) (hb : s.leg.bound = true)
    (hbusy : s.legacyBusy = false) (hst : (s.slot 63).st = .running) : s.legacyCmd c = s.legErr 7 := by
  rw [State.legacyCmd_command hc, hb, hbusy, if_neg (by decide), if_neg (by decide), if_pos hst, State.legacyRefuse]

/-- Within a task other than FIELD_ON no command is accepted. -/
theorem State.legacyCmd_busy (hc : c ∈ [0x21, 0x22, 0x23, 0x30, 0x40, 0x41]) (hb : s.leg.bound = true)
    (hbusy : s.legacyBusy = true) (hon : s.legacyFieldOn = false) : s.legacyCmd c = s.legErr 7 := by
  rw [State.legacyCmd_command hc, hb, hbusy, hon, if_neg (by decide), if_pos rfl, if_neg (by decide), State.legacyRefuse]

/-- Within a FIELD_ON task one command may wait, and FIELD_ON itself does nothing. -/
theorem State.legacyCmd_fieldOn (hc : c ∈ [0x21, 0x22, 0x23, 0x30, 0x40, 0x41]) (hb : s.leg.bound = true)
    (hbusy : s.legacyBusy = true) (hon : s.legacyFieldOn = true) : s.legacyCmd c =
      if c = 0x30 then s else if s.leg.todo.isSome || s.leg.stop then s.legErr 7
      else (s.setLeg fun l => { l with todo := some c }).nfpNext := by
  rw [State.legacyCmd_command hc, hb, hbusy, hon, if_neg (by decide), if_pos rfl, if_pos rfl, State.legacyRefuse]

end

theorem State.legacyCmd_idle (s : State) : s.legacyCmd 0x10 = s.legacyStop := if_pos (.inl rfl)
theorem State.legacyCmd_fieldOff (s : State) : s.legacyCmd 0x31 = s.legacyStop := if_pos (.inr rfl)

/-- A byte written to L_CMD. -/
theorem done_legacyCmd {s t : State} {b : Byte} {c : Nat} (h : s.legacyHost = true) (hb : b.toNat = c) (hc : s.accessed.legacyCmd c = t) :
    done (s.legacyAccess fun s => s.legacyWrite 0x01 b) = .next t.lateOver.finish := by
  subst hb
  exact done_legacy h hc

/-- The commands other than FIELD_ON, whatever each of them does. -/
theorem exec_legacyTasks {s : State} {g : Nat → State} (h : s.legacyHost = true)
    (hg : ∀ c ∈ [0x21, 0x22, 0x23, 0x40, 0x41], s.accessed.legacyCmd c = g c) :
    exec .legacyTransceive s = .next (g 0x21).lateOver.finish ∧ exec .legacyTransmit s = .next (g 0x22).lateOver.finish ∧
      exec .legacyReceive s = .next (g 0x23).lateOver.finish ∧
      exec .legacyTypeaAnticoll s = .next (g 0x40).lateOver.finish ∧
      exec .legacyInventory s = .next (g 0x41).lateOver.finish :=
  ⟨done_legacyCmd (b := 0x21) h rfl (hg _ (by decide)), done_legacyCmd (b := 0x22) h rfl (hg _ (by decide)),
    done_legacyCmd (b := 0x23) h rfl (hg _ (by decide)), done_legacyCmd (b := 0x40) h rfl (hg _ (by decide)),
    done_legacyCmd (b := 0x41) h rfl (hg _ (by decide))⟩

theorem exec_legacyFieldOn {s t : State} (h : s.legacyHost = true) (ht : s.accessed.legacyCmd 0x30 = t) :
    exec .legacyFieldOn s = .next t.lateOver.finish := done_legacyCmd (b := 0x30) h rfl ht

/-- A command other than FIELD_ON is a command. -/
theorem mem_legacyCommands : ∀ c ∈ [0x21, 0x22, 0x23, 0x40, 0x41], c ∈ [0x21, 0x22, 0x23, 0x30, 0x40, 0x41] ∧ c ≠ 0x30 := by
  decide

/-! ### Mapped registers (R127, R128) -/

/-- An address that maps to no staged field. -/
theorem State.legacyMapped_of_none (s : State) {a : Nat} (h : a < 0x10 ∨ 0x16 ≤ a) (b : Byte) : s.legacyMapped a b = s := by
  unfold State.legacyMapped
  dsimp only
  rw [if_neg (by omega), if_neg (by omega), if_neg (by omega), if_neg (by omega), if_neg (by omega), if_neg (by omega)]

/-- Settles O12, command by command. -/
theorem legacyCommands : Obligations.LegacyCommands := by
  have off {b : Bool} (h : b = false) : ¬ b = true := by rw [h]; exact Bool.false_ne_true
  refine ⟨fun s hn hv => ?enter, fun s hu hio => ?select, fun s hl => done_legacy hl rfl, fun s hl hb hbusy hst => ?begin,
    fun s hl hbusy => ?idle, fun s hl hbusy => ⟨fun hst => ?stopWaiting, fun hst hon => ?stopRunning, fun hst hon => ?stopFieldOn⟩,
    fun s hu => done_live hu rfl, fun b s hl => ⟨fun hlen => ?fifoWrite, fun hlen => ?fifoFull⟩, fun b c r s hl hrx => ?fifoRead,
    fun s hl => done_legacy hl rfl, fun b s hl => ⟨done_legacy hl rfl, done_legacy hl rfl⟩,
    fun s hl => ⟨fun hb => ?unbound, fun hb hbusy hon => ?busy, fun hb hbusy hon => ?fieldOn, fun hb hbusy hst => ?ending⟩,
    fun b s hl => ⟨fun hrx => ?lastByte, fun hrx => ?empty⟩,
    fun b s hl => ⟨done_legacy hl rfl, done_legacy hl rfl, done_legacy hl rfl, done_legacy hl rfl, fun a ha => ?noMap⟩⟩
  case enter =>
    refine done_native hn ((s.accessed.regWrite_HIF_VIEW 1).trans ?_)
    unfold State.setView
    dsimp only
    rw [hv]
    rfl
  case select =>
    refine congrArg done (if_pos (by rw [hu, hio]; rfl))
  case begin =>
    obtain ⟨transceive, transmit, receive, anticoll, inventory⟩ := exec_legacyTasks (g := s.accessed.legacyBegin) hl
      fun c hc => State.legacyCmd_free (mem_legacyCommands c hc).1 hb hbusy hst
    exact ⟨transceive, transmit, receive, exec_legacyFieldOn hl (State.legacyCmd_free (by decide) hb hbusy hst), anticoll, inventory⟩
  case idle =>
    have stop : s.accessed.legacyStop = s.accessed := if_pos (by rw [hbusy]; rfl)
    exact ⟨done_legacyCmd (b := 0x10) hl rfl ((State.legacyCmd_idle _).trans stop),
      done_legacyCmd (b := 0x31) hl rfl ((State.legacyCmd_fieldOff _).trans stop)⟩
  case stopWaiting =>
    have stop : s.accessed.legacyStop = _ := (if_neg (by rw [hbusy]; decide)).trans (if_neg hst)
    exact ⟨done_legacyCmd (b := 0x10) hl rfl ((State.legacyCmd_idle _).trans stop),
      done_legacyCmd (b := 0x31) hl rfl ((State.legacyCmd_fieldOff _).trans stop)⟩
  case stopRunning =>
    have stop : s.accessed.legacyStop = _ := (if_neg (by rw [hbusy]; decide)).trans ((if_pos hst).trans (if_neg (off hon)))
    exact ⟨done_legacyCmd (b := 0x10) hl rfl ((State.legacyCmd_idle _).trans stop),
      done_legacyCmd (b := 0x31) hl rfl ((State.legacyCmd_fieldOff _).trans stop)⟩
  case stopFieldOn =>
    have stop : s.accessed.legacyStop = _ := (if_neg (by rw [hbusy]; decide)).trans ((if_pos hst).trans (if_pos hon))
    exact ⟨done_legacyCmd (b := 0x10) hl rfl ((State.legacyCmd_idle _).trans stop),
      done_legacyCmd (b := 0x31) hl rfl ((State.legacyCmd_fieldOff _).trans stop)⟩
  case fifoWrite => exact done_legacy hl (if_pos hlen)
  case fifoFull => exact done_legacy hl (if_neg (Nat.not_lt.mpr hlen))
  case fifoRead =>
    have pop : s.accessed.legacyReadByte 0x06 = (b, s.accessed.setLeg fun l => { l with rxf := c :: r }) := by
      refine (if_pos rfl).trans ?_
      rw [State.legacyFifoPop, hrx]
      rfl
    refine done_legacy hl ?_
    rw [pop]
  case unbound =>
    exact ⟨exec_legacyTasks (g := fun _ => _) hl fun c hc => State.legacyCmd_unbound (mem_legacyCommands c hc).1 hb,
      exec_legacyFieldOn hl (State.legacyCmd_unbound (by decide) hb)⟩
  case busy =>
    exact ⟨exec_legacyTasks (g := fun _ => _) hl fun c hc => State.legacyCmd_busy (mem_legacyCommands c hc).1 hb hbusy hon,
      exec_legacyFieldOn hl (State.legacyCmd_busy (by decide) hb hbusy hon)⟩
  case fieldOn =>
    have within (c : Nat) (hc : c ∈ [0x21, 0x22, 0x23, 0x40, 0x41]) :=
      (State.legacyCmd_fieldOn (mem_legacyCommands c hc).1 hb hbusy hon).trans (if_neg (mem_legacyCommands c hc).2)
    refine ⟨exec_legacyFieldOn hl ((State.legacyCmd_fieldOn (by decide) hb hbusy hon).trans (if_pos rfl)), fun h => ?_,
      fun htodo hstop => ?_⟩
    · exact exec_legacyTasks (g := fun _ => _) hl fun c hc => (within c hc).trans (if_pos (by rwa [Bool.or_eq_true]))
    · exact exec_legacyTasks (g := fun c => (s.accessed.setLeg fun l => { l with todo := some c }).nfpNext) hl
        fun c hc => (within c hc).trans (if_neg (by rw [htodo, hstop]; decide))
  case ending =>
    exact ⟨exec_legacyTasks (g := fun _ => _) hl fun c hc => State.legacyCmd_ending (mem_legacyCommands c hc).1 hb hbusy hst,
      exec_legacyFieldOn hl (State.legacyCmd_ending (by decide) hb hbusy hst)⟩
  case lastByte =>
    have pop : s.accessed.legacyReadByte 0x06 = (b, ((s.accessed.setLeg fun l => { l with rxf := [] }).giveCells
        (s.accessed.setLeg fun l => { l with rxf := [] }).leg.cells).setLeg fun l => { l with cells := [] }) := by
      refine (if_pos rfl).trans ?_
      rw [State.legacyFifoPop, hrx]
      rfl
    refine done_legacy hl ?_
    rw [pop]
  case empty =>
    have pop : s.accessed.legacyReadByte 0x06 =
        (BitVec.ofNat 8 (s.accessed.freshBelow 256).1, (s.accessed.freshBelow 256).2) := by
      refine (if_pos rfl).trans ?_
      rw [State.legacyFifoPop, hrx]
    refine done_legacy hl ?_
    rw [pop]
  case noMap => exact done_legacy hl (s.accessed.legacyMapped_of_none ha b)

end Sys2Proof.Machine
end

section
/-! PROOFS. Buttons, the knob, plugs and pulses (R522 to R534). -/

namespace Sys2Proof.Machine

/-! ### Router tasks of a page -/

/-- A task that a page takes whenever it is requested (R266). -/
theorem State.routerTask_page {s : State} {n p : Nat} (he : s.enabled p = true) (hs : s.safe p = false)
    (hp : taskTarget n = some p) (hh : taskHonour n = .always) (hr : taskRole n ≠ some (!s.hub)) :
    s.routerTask n = State.taskEffect { s with latches := s.latches.filter (· != n) } n := by
  refine State.takeTask_always _ n hr ?_ hh
  unfold State.taskRefused
  rw [hp, hh]
  exact congrArg₂ (fun a b => (!a || b) || false) he hs

/-- The state whose task `n` waits no more. -/
def State.unlatched (s : State) (n : Nat) : State := { s with latches := s.latches.filter (· != n) }

/-- A task in either role. -/
theorem taskRole_ne {n : Nat} {b : Bool} (h : taskRole n = none) : taskRole n ≠ some b := by
  rw [h]
  simp

/-! ### The knob (R529, R530) -/

section
variable {s : State} {a b : Bool}

/-- The knob's state once `(a, b)` is taken. -/
def State.knobAt (s : State) (a b : Bool) : State := { s with gpi := { s.gpi with knob := some (a, b) } }

theorem State.knobTaken_off (h : s.gpiWatches = false ∨ s.bit .GPI_KNOB_EN = false) : s.knobTaken a b = s := by
  refine if_neg ?_
  rw [Bool.and_eq_true]
  rintro ⟨watches, used⟩
  obtain h | h := h
  · exact Bool.false_ne_true (h.symm.trans watches)
  · exact Bool.false_ne_true (h.symm.trans used)

variable (hw : s.gpiWatches = true) (hu : s.bit .GPI_KNOB_EN = true)
include hw hu

theorem State.knobTaken_first (hk : s.gpi.knob = none) : s.knobTaken a b = s.knobAt a b := by
  rw [State.knobTaken, hw, hu, hk]
  rfl

variable {old : Bool × Bool} (hk : s.gpi.knob = some old)
include hk

theorem State.knobTaken_invalid (hg : knobSign old (a, b) = none) :
    s.knobTaken a b = ((s.knobAt a b).sat .GPI_KNOBCNT_ERR).setKnobSub 0 := by
  rw [State.knobTaken, hw, hu, hk]
  dsimp only
  rw [hg]
  rfl

theorem State.knobTaken_still (hg : knobSign old (a, b) = some 0) : s.knobTaken a b = s.knobAt a b := by
  rw [State.knobTaken, hw, hu, hk]
  dsimp only
  rw [hg]
  rfl

/-- A valid transition: a step under X4, else the detent decides. -/
theorem State.knobTaken_moved {g : Int} (hg : knobSign old (a, b) = some g) (h0 : g ≠ 0) : s.knobTaken a b =
    let sign := if s.bit .GPI_KNOB_DIR then -g else g
    let sub := s.knobSub + sign
    let detent := s.bit .GPI_KNOB_DETENT
    if s.bit .GPI_KNOB_X4 then (s.knobAt a b).knobStep sign
    else if (a, b) = (detent, detent) then
      if sub = 4 then ((s.knobAt a b).setKnobSub 0).knobStep 1
      else if sub = -4 then ((s.knobAt a b).setKnobSub 0).knobStep (-1) else (s.knobAt a b).setKnobSub 0
    else (s.knobAt a b).setKnobSub sub := by
  refine (if_pos (by rw [hw, hu]; rfl)).trans ?_
  rw [hk]
  dsimp only
  rw [hg]
  split
  case h_1 h => cases h
  case h_2 h => exact absurd (Option.some.inj h) h0
  case h_3 h =>
    obtain rfl := Option.some.inj h
    rfl

end

/-- Settles O53: a valid transition with X4 0. -/
theorem knobDetents : Obligations.KnobDetents := by
  intro old new g s hu hw _ used hx hk hg h0
  have moved := State.knobTaken_moved (a := new.1) (b := new.2) hw used hk hg h0
  have moved := moved.trans (if_neg (hx ▸ Bool.false_ne_true))
  exact ⟨fun hn => done_live hu (moved.trans (if_neg hn)),
    fun hn h4 => done_live hu (moved.trans ((if_pos hn).trans (if_pos h4))),
    fun hn h4 => done_live hu (moved.trans ((if_pos hn).trans ((if_neg (by rw [h4]; decide)).trans (if_pos h4)))),
    fun hn h4 h4' => done_live hu (moved.trans ((if_pos hn).trans ((if_neg h4).trans (if_neg h4'))))⟩

/-! ### Buttons and plugs (R523 to R528, R531) -/

theorem State.gpMode_levels (s : State) (n m : Nat) (b : Bool) : (s.setBitAt .GPI_LEVEL_DEB m b).gpMode n = s.gpMode n := by
  have apart : Fld.GPI_LEVEL_DEB.addr < (Fld.GPI_CFG_MODE n).addr := by
    show 0x4430 < 0x4440 + 4 * n
    omega
  unfold State.gpMode State.knobPin State.bit State.setBitAt
  rw [State.get_put_ne _ _ .GPI_KNOB_EN _ (by decide), State.get_put_ne _ _ _ _ (Nat.ne_of_gt apart)]

section
variable {s : State} {n : Nat}

theorem State.debounceDue_iff : s.debounceDue n = true ↔
    (s.gpMode n = GpMode.BUTTON ∨ s.gpMode n = GpMode.PLUG) ∧ s.gpDebounce n ≤ (s.gp n).count := by
  rw [State.debounceDue, Bool.and_eq_true, Bool.or_eq_true, beq_iff_eq, beq_iff_eq, decide_eq_true_eq]

/-- A pin that owes no change keeps its state. -/
theorem State.debounceChange_of_not (h : s.gpiWatches = false ∨ s.debounceDue n = false) : s.debounceChange n = s := by
  refine if_neg ?_
  rw [Bool.and_eq_true]
  rintro ⟨watches, due⟩
  obtain h | h := h
  · exact Bool.false_ne_true (h.symm.trans watches)
  · exact Bool.false_ne_true (h.symm.trans due)

theorem State.debounceChange_of_due (hw : s.gpiWatches = true) (hd : s.debounceDue n = true) : s.debounceChange n =
    let t := s.setBitAt .GPI_LEVEL_DEB n (!s.gpActive n)
    let t := t.setGp n fun p =>
      { p with count := 0, press := if !s.gpActive n && s.gpMode n == GpMode.BUTTON then some t.orbitUs else none,
               longed := false, lastRpt := none }
    if s.gpMode n = GpMode.PLUG then t.plugChanged n else t.buttonEdge n (!s.gpActive n) := by
  have mode := s.gpMode_levels n n (!s.gpActive n)
  refine (if_pos (by rw [hw, hd]; rfl)).trans ?_
  dsimp only
  rw [mode]
  exact if_congr (Eq.congr_left mode) rfl rfl

theorem State.debounceChange_button (hw : s.gpiWatches = true) (hm : s.gpMode n = GpMode.BUTTON)
    (hd : s.gpDebounce n ≤ (s.gp n).count) : s.debounceChange n =
      let t := s.setBitAt .GPI_LEVEL_DEB n (!s.gpActive n)
      (t.setGp n fun p =>
        { p with count := 0, press := if s.gpActive n then none else some t.orbitUs, longed := false,
                 lastRpt := none }).buttonEdge n (!s.gpActive n) := by
  refine (State.debounceChange_of_due hw (State.debounceDue_iff.mpr ⟨.inl hm, hd⟩)).trans ?_
  rw [hm]
  refine (if_neg (by decide)).trans ?_
  cases s.gpActive n <;> rfl

theorem State.debounceChange_plug (hw : s.gpiWatches = true) (hm : s.gpMode n = GpMode.PLUG)
    (hd : s.gpDebounce n ≤ (s.gp n).count) : s.debounceChange n =
      ((s.setBitAt .GPI_LEVEL_DEB n (!s.gpActive n)).setGp n fun p =>
        { p with count := 0, press := none, longed := false, lastRpt := none }).plugChanged n := by
  refine (State.debounceChange_of_due hw (State.debounceDue_iff.mpr ⟨.inr hm, hd⟩)).trans ?_
  rw [hm]
  refine (if_pos rfl).trans ?_
  cases s.gpActive n <;> rfl

/-- No long press and no repeat without a press. -/
theorem State.longPress_of_no_press (h : (s.gp n).press = none) : s.longPress n = s := by
  rw [State.longPress, h]

theorem State.autoRepeat_of_no_press (h : (s.gp n).press = none) : s.autoRepeat n = s := by
  rw [State.autoRepeat, h]

theorem State.longPress_of_not (h : (s.gpiWatches && s.bit (.GPI_CFG_LONGEN n) && !(s.gp n).longed && !s.debounceDue n) = false) :
    s.longPress n = s := by
  rw [State.longPress, h]
  split
  · rfl
  · rfl

theorem State.autoRepeat_of_not (h : (s.gpiWatches && s.bit (.GPI_CFG_RPTEN n) && !s.debounceDue n) = false) :
    s.autoRepeat n = s := by
  rw [State.autoRepeat, h]
  split
  · rfl
  · rfl

end

/-! ### Pulses (R532) and VDD_IO (R533) -/

theorem taskOf_gpPulse : ∀ n : Fin 12, taskTarget (68 + n) = some 17 ∧ taskHonour (68 + n) = .always ∧ taskRole (68 + n) = none := by
  decide

theorem State.taskEffect_gpPulse (s : State) (n : Fin 12) : s.taskEffect (68 + n) = s.gpPulse n := by
  fin_cases n <;> rfl

theorem State.gpiCommand_pulse (s : State) (n : Fin 12) : s.gpiCommand (BitVec.ofNat 32 (2 ^ n.val)) = s.gpPulse n := by
  fin_cases n <;> rfl

/-- What the return of VDD_IO does to pin `n`. -/
def State.pinReturns (s : State) (pins n : Nat) : State :=
  let u := (s.setGp n fun p => { p with level := pins / 2 ^ n % 2 == 1, pulse := none }).adopt n
  if u.gpMode n = GpMode.PLUG ∧ u.gpActive n ≠ s.gpActive n then u.plugChanged n else u

/-- The part with VDD_IO present. -/
def State.ioPresent (s : State) : State := { s with pwr := { s.pwr with ioUp := true } }

/-- The knob's inputs adopt their levels as VDD_IO returns. -/
def State.knobReturns (s : State) (pins : Nat) : State :=
  s.whenB (s.gpiWatches && s.bit .GPI_KNOB_EN) fun s => s.knobAt (pins % 2 == 1) (pins / 2 % 2 == 1)

theorem State.ioReturn_pins (s : State) (pins : Nat) : s.ioReturn pins =
    if (s.ioPresent.knobReturns pins).gpiWatches then
      (s.ioPresent.knobReturns pins).forEach gpPins fun s n => s.pinReturns pins n
    else s.ioPresent.knobReturns pins := by
  have pin : (fun (s : State) n =>
      let was := s.gpActive n
      let s := s.setGp n fun p => { p with level := pins / 2 ^ n % 2 == 1, pulse := none }
      let s := s.adopt n
      s.whenB (s.gpMode n == GpMode.PLUG && s.gpActive n != was) fun s => s.plugChanged n) = fun s n => s.pinReturns pins n := by
    funext s n
    refine if_congr ?_ rfl rfl
    rw [Bool.and_eq_true, beq_iff_eq, bne_iff_ne]
  exact congrArg (fun f => if (s.ioPresent.knobReturns pins).gpiWatches then
    (s.ioPresent.knobReturns pins).forEach gpPins f else s.ioPresent.knobReturns pins) pin

theorem State.ioPresent_gpiWatches (s : State) : s.ioPresent.gpiWatches = (s.up && s.enabled 17) := Bool.and_true _

theorem State.knobReturns_gpiWatches (s : State) (pins : Nat) : (s.knobReturns pins).gpiWatches = s.gpiWatches := by
  unfold State.knobReturns State.whenB
  split
  · rfl
  · rfl

theorem State.ioReturn_off {s : State} (pins : Nat) (h : (s.up && s.enabled 17) = false) : s.ioReturn pins = s.ioPresent := by
  have watches := s.ioPresent_gpiWatches.trans h
  have still : s.ioPresent.knobReturns pins = s.ioPresent := if_neg (by rw [watches]; exact Bool.false_ne_true)
  rw [s.ioReturn_pins, still, watches]
  exact if_neg Bool.false_ne_true

theorem State.ioReturn_on {s : State} (pins : Nat) (h : (s.up && s.enabled 17) = true) : s.ioReturn pins =
    (if s.bit .GPI_KNOB_EN then s.ioPresent.knobAt (pins % 2 == 1) (pins / 2 % 2 == 1) else s.ioPresent).forEach gpPins
      fun s n => s.pinReturns pins n := by
  have watches := s.ioPresent_gpiWatches.trans h
  rw [s.ioReturn_pins, State.knobReturns_gpiWatches, watches, if_pos rfl, State.knobReturns, watches]
  rfl

/-- Settles O33, command by command. -/
theorem gpiCommands : Obligations.GpiCommands := by
  have off {b : Bool} (h : b = false) : ¬ b = true := by rw [h]; exact Bool.false_ne_true
  refine ⟨fun n s hu hw hm => ⟨fun hd => ?button, fun hd => ?early⟩, fun n s hu hw hm hd => ?plug, fun n s hu h => ?unwatched,
    fun n k s hu hw hd hp => ⟨fun hl hn => ?longPress, fun hr hn => ?firstRepeat, fun l hr hn => ?nextRepeat⟩,
    fun n s hu => ⟨fun h => ?noPress, fun h => ?noLong, fun h => ?noRepeat⟩, fun a b s hu hw hk => ?knob,
    fun a b s hu h => done_live hu (State.knobTaken_off h), fun s hn => ?clear, fun n s hu he hs hw ht => ?pulseTask,
    fun n s hn => ?pulse, fun n k s hu hp => ?pulseEnd, fun n s hu hp => ?noPulse, fun s => rfl,
    fun pins s => ⟨fun h => ?ioOff, fun hu he => ?ioOn⟩⟩
  case button => exact done_live hu (congrArg State.gpiMoment (State.debounceChange_button hw hm hd))
  case early =>
    refine done_live hu (congrArg State.gpiMoment (State.debounceChange_of_not (.inr ?_)))
    exact Bool.eq_false_iff.mpr fun due => Nat.not_le.mpr hd (State.debounceDue_iff.mp due).2
  case plug => exact done_live hu (congrArg State.gpiMoment (State.debounceChange_plug hw hm hd))
  case unwatched =>
    refine done_live hu (congrArg State.gpiMoment (State.debounceChange_of_not (h.imp_right fun hm => ?_)))
    exact Bool.eq_false_iff.mpr fun due => (State.debounceDue_iff.mp due).1.elim hm.1 hm.2
  case longPress =>
    refine done_live hu ?_
    rw [State.longPress, hp]
    exact if_pos (by rw [hw, hl, hn, hd]; rfl)
  case firstRepeat =>
    refine done_live hu ?_
    rw [State.autoRepeat, hp]
    refine (if_pos (by rw [hw, hr, hd]; rfl)).trans ?_
    rw [hn]
  case nextRepeat =>
    refine done_live hu ?_
    rw [State.autoRepeat, hp]
    refine (if_pos (by rw [hw, hr, hd]; rfl)).trans ?_
    rw [hn]
  case noPress =>
    obtain h | h | h := h
    · exact ⟨done_live hu (State.longPress_of_no_press h), done_live hu (State.autoRepeat_of_no_press h)⟩
    · exact ⟨done_live hu (State.longPress_of_not (by rw [h]; rfl)), done_live hu (State.autoRepeat_of_not (by rw [h]; rfl))⟩
    · exact ⟨done_live hu (State.longPress_of_not (by rw [h, Bool.not_true, Bool.and_false])),
        done_live hu (State.autoRepeat_of_not (by rw [h, Bool.not_true, Bool.and_false]))⟩
  case noLong =>
    refine done_live hu (State.longPress_of_not ?_)
    obtain h | h := h
    · rw [h, Bool.and_false, Bool.false_and, Bool.false_and]
    · rw [h, Bool.not_true, Bool.and_false, Bool.false_and]
  case noRepeat => exact done_live hu (State.autoRepeat_of_not (by rw [h, Bool.and_false, Bool.false_and]))
  case knob =>
    refine ⟨fun h => done_live hu (State.knobTaken_first hw hk h), fun old ho => ⟨
      fun h => done_live hu (State.knobTaken_invalid hw hk ho h), fun h => done_live hu (State.knobTaken_still hw hk ho h),
      fun g h h0 => ?_⟩⟩
    have moved := State.knobTaken_moved hw hk ho h h0
    refine ⟨fun hx => done_live hu (moved.trans (if_pos hx)),
      fun hx hn => done_live hu (moved.trans ((if_neg (off hx)).trans (if_neg hn))), fun hx hn => ?_⟩
    have moved := moved.trans ((if_neg (off hx)).trans (if_pos hn))
    exact ⟨fun h4 => done_live hu (moved.trans (if_pos h4)),
      fun h4 => done_live hu (moved.trans ((if_neg (by rw [h4]; decide)).trans (if_pos h4))),
      fun h4 h4' => done_live hu (moved.trans ((if_neg h4).trans (if_neg h4')))⟩
  case clear => exact done_native hn (s.accessed.regWrite_GPI_CMD _)
  case pulseTask =>
    obtain ⟨target, honour, role⟩ := taskOf_gpPulse n
    have taken := (State.routerTask_page he hs target honour (taskRole_ne role)).trans (State.taskEffect_gpPulse _ n)
    refine ⟨fun hm => done_task hu (taken.trans ?_), fun hm => done_task hu (taken.trans (if_neg hm))⟩
    refine (if_pos hm).trans (if_pos ?_)
    exact congrArg₂ and hw ht
  case pulse => exact done_write hn ((s.accessed.regWrite_GPI_CMD _).trans (State.gpiCommand_pulse _ n))
  case pulseEnd =>
    refine done_live hu ?_
    rw [State.pulseEnd, hp]
  case noPulse =>
    refine done_live hu ?_
    rw [State.pulseEnd, hp]
  case ioOff =>
    refine congrArg done (State.ioReturn_off _ ?_)
    obtain h | h := h
    · rw [h, Bool.false_and]
    · rw [h, Bool.and_false]
  case ioOn => exact congrArg done (State.ioReturn_on _ (by rw [hu, he]; rfl))

end Sys2Proof.Machine
end

section
/-! PROOFS. The supplies, the Damper, Ember and the Hearth bank (R144 to R170). -/

namespace Sys2Proof.Machine

/-! ### The Damper (R151 to R156) -/

section
variable {s : State} {mv : Nat}

theorem State.damperOn_of_on (h : s.bit .PWR_MODE_DAMPER = true) : s.damperOn = s := if_pos h

theorem State.vwarnCross_above (h : s.vwarn ≤ mv) : s.vwarnCross mv = s.mainAt mv := if_pos h

/-- A supply-caused engagement that starts; the dip is told where the Damper was not engaged. -/
theorem State.vwarnCross_first (h : mv < s.vwarn) (he : s.pwr.supplyEng = false) : s.vwarnCross mv =
    let t : State := { s with pwr := { s.pwr with mainMv := mv, supplyEng := true, minV := mv, dipUs := s.usec } }
    (if s.bit .PWR_MODE_DAMPER then t else (t.sat .PWR_DIP_COUNT_COUNT).raise Ev.PWR_WARN).damperOn :=
  (if_neg (Nat.not_le.mpr h)).trans (if_neg (he ▸ Bool.false_ne_true))

theorem State.vwarnCross_again (h : mv < s.vwarn) (he : s.pwr.supplyEng = true) : s.vwarnCross mv =
    { s.put .PWR_MODE_DWELL 0 with pwr := { s.pwr with mainMv := mv, minV := min s.pwr.minV mv } } :=
  (if_neg (Nat.not_le.mpr h)).trans (if_pos he)

theorem State.dwellStart_free (he : s.pwr.supplyEng = false) : s.dwellStart mv = s.mainAt mv :=
  if_neg (he ▸ Bool.false_ne_true)

/-- VDD_MAIN's level, told within an engagement. -/
def State.dipAt (s : State) (mv : Nat) : State :=
  { s with pwr := { s.pwr with mainMv := mv, minV := min s.pwr.minV mv } }

theorem State.dwellStart_engaged (he : s.pwr.supplyEng = true) : s.dwellStart mv =
    let t := (s.dipAt mv).putBit .PWR_MODE_DWELL (decide (s.vwarn + 60 ≤ mv))
    if s.bit .PWR_MODE_DWELL then t else { t with pwr := { t.pwr with dwellUs := t.usec } } := if_pos he

theorem State.dwellStart_up (he : s.pwr.supplyEng = true) (hv : s.vwarn + 60 ≤ mv) : s.dwellStart mv =
    let t := (s.dipAt mv).put .PWR_MODE_DWELL 1
    if s.bit .PWR_MODE_DWELL then t else { t with pwr := { t.pwr with dwellUs := t.usec } } := by
  rw [State.dwellStart_engaged he, decide_eq_true hv]
  rfl

theorem State.dwellStart_down (he : s.pwr.supplyEng = true) (hv : mv < s.vwarn + 60) : s.dwellStart mv =
    let t := (s.dipAt mv).put .PWR_MODE_DWELL 0
    if s.bit .PWR_MODE_DWELL then t else { t with pwr := { t.pwr with dwellUs := t.usec } } := by
  rw [State.dwellStart_engaged he, decide_eq_false (Nat.not_le.mpr hv)]
  rfl

theorem State.releaseDamper_unforced (h : s.bit .PWR_MODE_FORCED = false) : s.releaseDamper = s :=
  if_neg (h ▸ Bool.false_ne_true)

theorem State.releaseDamper_forced (h : s.bit .PWR_MODE_FORCED = true) : s.releaseDamper =
    if s.pwr.supplyEng then s.put .PWR_MODE_FORCED 0 else (s.put .PWR_MODE_FORCED 0).damperOff := if_pos h

end

theorem State.dampControl_force (s : State) : s.dampControl Fld.PWR_DAMP_CTRL_FORCE.one = s.forceDamper := rfl
theorem State.dampControl_release (s : State) : s.dampControl Fld.PWR_DAMP_CTRL_RELEASE.one = s.releaseDamper := rfl
theorem State.dampControl_clear (s : State) : s.dampControl Fld.PWR_DAMP_CTRL_CLRCNT.one = s.dipClear := rfl

/-! ### The Hearth bank (R160 to R170) -/

/-- A write of PWR_BANK_ADJ with OP 0. -/
theorem State.regWrite_bankAdd (s : State) (v : BitVec 24) :
    s.regWrite Adr.PWR_BANK_ADJ (Fld.PWR_BANK_ADJ_VALUE.into 0 v.toNat) = s.bankAdjusted false v.toNat := by
  have value : Fld.PWR_BANK_ADJ_VALUE.of (Fld.PWR_BANK_ADJ_VALUE.into 0 v.toNat) = v.toNat :=
    (Fld.of_into _ _ _ (by decide)).trans (Nat.mod_eq_of_lt v.isLt)
  have op : Fld.PWR_BANK_ADJ_OP.of (Fld.PWR_BANK_ADJ_VALUE.into 0 v.toNat) = 0 := Fld.of_into_apart _ _ 0 _ (.inr (by decide))
  rw [State.regWrite_PWR_BANK_ADJ, value, Fld.asked, op]
  rfl

/-- A write of PWR_BANK_ADJ with OP 1. -/
theorem State.regWrite_bankSet (s : State) (v : BitVec 24) :
    s.regWrite Adr.PWR_BANK_ADJ (Fld.PWR_BANK_ADJ_OP.into (Fld.PWR_BANK_ADJ_VALUE.into 0 v.toNat) 1) =
      s.bankAdjusted true v.toNat := by
  have value : Fld.PWR_BANK_ADJ_VALUE.of (Fld.PWR_BANK_ADJ_OP.into (Fld.PWR_BANK_ADJ_VALUE.into 0 v.toNat) 1) = v.toNat :=
    (Fld.of_into_apart _ _ _ _ (.inl (by decide))).trans ((Fld.of_into _ _ _ (by decide)).trans (Nat.mod_eq_of_lt v.isLt))
  have op : Fld.PWR_BANK_ADJ_OP.of (Fld.PWR_BANK_ADJ_OP.into (Fld.PWR_BANK_ADJ_VALUE.into 0 v.toNat) 1) = 1 :=
    Fld.of_into _ _ _ (by decide)
  rw [State.regWrite_PWR_BANK_ADJ, value, Fld.asked, op]
  rfl

theorem State.bankAdjusted_battery {s : State} (h : s.get .PWR_BANK_KIND_KIND = 2) (op : Bool) (v : Nat) :
    s.bankAdjusted op v = (s.setBank (min (s.get .PWR_BANK_CAP_CAP) (if op then v else s.bankLevel + v))).moment 1 :=
  (if_pos h).trans (congrArg (State.moment · 1) (if_pos h))

theorem State.bankAdjusted_other {s : State} (h : s.get .PWR_BANK_KIND_KIND ≠ 2) (op : Bool) (v : Nat) :
    s.bankAdjusted op v = s.accErr Adr.PWR_BANK_ADJ true 1 := (if_neg h).trans (if_neg h)

/-- What a measurement stores (R162). -/
def State.measureStored (s : State) (vmain vstore : Nat) : State :=
  ((s.mainAt vmain).put .PWR_VMEAS_VMAIN vmain).put .PWR_VMEAS_VSTORE (min vstore 3600)

/-- A measurement outside SUPERCAP updates no level. -/
theorem State.measured_other {s : State} {vmain vstore : Nat}
    (h : (s.measureStored vmain vstore).get .PWR_BANK_KIND_KIND ≠ 1) :
    s.measured vmain vstore = s.measureStored vmain vstore := by
  have stored : s.measure vmain vstore = s.measureStored vmain vstore := if_neg h
  unfold State.measured
  rw [stored]
  exact if_neg h

/-- In SUPERCAP the level is replaced. -/
theorem State.measured_supercap {s : State} {vmain vstore : Nat} {t : State} (ht : s.measureStored vmain vstore = t)
    (h : t.get .PWR_BANK_KIND_KIND = 1) (h' : (t.setBank (t.capLevel (min vstore 3600))).get .PWR_BANK_KIND_KIND = 1) :
    s.measured vmain vstore = (t.setBank (t.capLevel (min vstore 3600))).moment 1 := by
  subst ht
  have stored : s.measure vmain vstore = _ := if_pos h
  unfold State.measured
  rw [stored]
  exact if_pos h'

/-- Settles O13, command by command. -/
theorem powerCommands : Obligations.PowerCommands := by
  have off {b : Bool} (h : b = false) : ¬ b = true := by rw [h]; exact Bool.false_ne_true
  refine ⟨fun s hu hr hb hc => ?ember, fun mv s hu hv hx => ?txLow, fun mv s hu hv => done_live hu (if_pos hv),
    fun mv s hu hv he hd => ?warn, fun mv s hu hv he hd => ?warnDamped, fun mv s hu hv he => ?warnAgain,
    fun s old => ⟨fun h => if_pos h, fun h => if_neg h⟩, fun s hu => done_live hu rfl, fun mv s hu he hd hv => ?dwell,
    fun s hu he hd => ⟨fun hf => ?dwellForced, fun hf => ?dwellFree⟩, fun s hn => ?force, fun s hu he hs => ?forceTask,
    fun s hn hf he => ?release, fun s hu he hs hf => ?releaseTask, fun s hn => ?clear, fun v s hn hk => ⟨?add, ?set⟩,
    fun v s hn hk => ⟨?noAdd, ?noSet⟩, fun s hn => ?measStore, fun s hu he hs => ?measTask,
    fun vmain vstore s hu => done_live hu rfl,
    fun vmain vstore s => ⟨fun h => State.measured_other h, fun h h' => State.measured_supercap rfl h h'⟩,
    fun vmain vstore s hu hm => done_live hu (if_pos hm),
    fun mv vstore s hu => ⟨fun h => ?noEmber, fun h => ?noLow, fun h => done_live hu (if_neg (Nat.not_le.mpr h)), fun h => ?noDwell,
      fun h => done_live hu (if_neg (off h))⟩,
    fun mv s hu => ⟨fun h => done_live hu (State.vwarnCross_above h), fun h => done_live hu (State.dwellStart_free h),
      fun he hd => ⟨fun hv => ?goesOn, fun hv => ?stops⟩, fun he hd hv => ?below⟩,
    fun s hn => ⟨fun hf he => ?releaseKept, fun hf => ?unforced⟩, fun s hu he hs hf => ?unforcedTask⟩
  case ember => exact done_live hu (if_pos (by rw [hr, hb, decide_eq_true hc]; rfl))
  case txLow => exact done_live hu ((if_pos hv).trans (if_neg (off hx)))
  case warn => exact done_live hu ((State.vwarnCross_first hv he).trans (congrArg State.damperOn (if_neg (off hd))))
  case warnDamped =>
    refine done_live hu ((State.vwarnCross_first hv he).trans ((congrArg State.damperOn (if_pos hd)).trans ?_))
    exact State.damperOn_of_on hd
  case warnAgain => exact done_live hu (State.vwarnCross_again hv he)
  case dwell => exact done_live hu ((State.dwellStart_up he hv).trans (if_neg (off hd)))
  case dwellForced => exact done_live hu ((if_pos (by rw [he, hd]; rfl)).trans (if_pos hf))
  case dwellFree => exact done_live hu ((if_pos (by rw [he, hd]; rfl)).trans (if_neg (off hf)))
  case force => exact done_write hn ((State.regWrite_PWR_DAMP_CTRL _ _).trans (State.dampControl_force _))
  case forceTask => exact done_task hu (State.routerTask_page he hs rfl rfl (taskRole_ne rfl))
  case release =>
    refine done_write hn ((State.regWrite_PWR_DAMP_CTRL _ _).trans ((State.dampControl_release _).trans ?_))
    exact (State.releaseDamper_forced hf).trans (if_neg (off he))
  case releaseTask =>
    have taken := (State.routerTask_page (n := 6) he hs rfl rfl (taskRole_ne rfl)).trans (State.releaseDamper_forced hf)
    exact ⟨fun h => done_task hu (taken.trans (if_pos h)), fun h => done_task hu (taken.trans (if_neg (off h)))⟩
  case clear => exact done_native hn ((State.regWrite_PWR_DAMP_CTRL _ _).trans (State.dampControl_clear _))
  case add => exact done_native hn ((State.regWrite_bankAdd _ v).trans (State.bankAdjusted_battery hk _ _))
  case set => exact done_native hn ((State.regWrite_bankSet _ v).trans (State.bankAdjusted_battery hk _ _))
  case noAdd => exact done_native hn ((State.regWrite_bankAdd _ v).trans (State.bankAdjusted_other hk _ _))
  case noSet => exact done_native hn ((State.regWrite_bankSet _ v).trans (State.bankAdjusted_other hk _ _))
  case measStore => exact done_write hn (State.regWrite_PWR_MEAS_CTRL _ _)
  case measTask => exact done_task hu (State.routerTask_page he hs rfl rfl (taskRole_ne rfl))
  case noEmber =>
    refine done_live hu (if_neg ?_)
    simp only [Bool.and_eq_true, Bool.not_eq_true', decide_eq_true_eq]
    rintro ⟨⟨ready, held⟩, count⟩
    obtain h | h | h := h
    · exact off h ready
    · exact off held h
    · exact Nat.not_lt.mpr h count
  case noLow =>
    obtain h | h := h
    · exact done_live hu (if_neg (Nat.not_lt.mpr h))
    · refine done_live hu ((?_ : (if mv < 2600 then s.txsupLow else s) = s))
      split
      · exact if_pos h
      · rfl
  case noDwell =>
    refine done_live hu (if_neg ?_)
    rw [Bool.and_eq_true]
    rintro ⟨engaged, dwells⟩
    exact h.elim (fun h => off h engaged) (fun h => off h dwells)
  case goesOn => exact done_live hu ((State.dwellStart_up he hv).trans (if_pos hd))
  case stops => exact done_live hu ((State.dwellStart_down he hv).trans (if_pos hd))
  case below => exact done_live hu ((State.dwellStart_down he hv).trans (if_neg (off hd)))
  case releaseKept =>
    refine done_write hn ((State.regWrite_PWR_DAMP_CTRL _ _).trans ((State.dampControl_release _).trans ?_))
    exact (State.releaseDamper_forced hf).trans (if_pos he)
  case unforced =>
    refine done_write hn ((State.regWrite_PWR_DAMP_CTRL _ _).trans ((State.dampControl_release _).trans ?_))
    exact State.releaseDamper_unforced hf
  case unforcedTask =>
    exact done_task hu ((State.routerTask_page (n := 6) he hs rfl rfl (taskRole_ne rfl)).trans (State.releaseDamper_unforced hf))

end Sys2Proof.Machine
end

section
/-! PROOFS. Temperature, the analogue inputs, the heater and the Flue ledger (R174 to R191). -/

namespace Sys2Proof.Machine

/-! ### Over-temperature (R180, R181) -/

/-- The forced states of a trip. -/
def State.tripped (s : State) : State :=
  ((((((s.put .THM_FLAGS_OT 1).sat .THM_OTCOUNT_COUNT).syncHeater).put .THM_HEAT_EN 0).raise
    Ev.THM_OVERTEMP).radOvertemp).forceField Cause.OVERTEMP

section
variable {s : State}

theorem State.overtempTrip_again (h : s.bit .THM_FLAGS_OT = true) : s.overtempTrip = s := by
  unfold State.overtempTrip State.overtemp
  rw [h, if_pos rfl, Bool.not_true, Bool.and_false]
  exact if_neg Bool.false_ne_true

theorem State.overtempTrip_first (h : s.bit .THM_FLAGS_OT = false) : s.overtempTrip =
    if s.bit .THM_CFG_OTRESET then s.tripped.resetHot else s.tripped := by
  unfold State.overtempTrip State.overtemp
  rw [h, if_neg Bool.false_ne_true, Bool.not_false, Bool.and_true]
  rfl

/-! ### The heater (R188) -/

theorem State.heatWrite_running (h : s.bit .THM_FLAGS_HEAT = true) (w : Word) : s.heatWrite w =
    (((s.put .THM_HEAT_EN 0).syncHeater).wr Adr.THM_HEAT (w &&& 0xFF31)).syncHeater := if_pos h

theorem State.heatWrite_heldOff (h : s.bit .THM_FLAGS_HEAT = false) (he : s.bit .THM_HEAT_EN = true) (w : Word) :
    s.heatWrite w = (s.wr Adr.THM_HEAT (w &&& 0xFF31)).syncHeater := (if_neg (h ▸ Bool.false_ne_true)).trans (if_pos he)

theorem State.heatWrite_off (h : s.bit .THM_FLAGS_HEAT = false) (he : s.bit .THM_HEAT_EN = false) (w : Word) :
    s.heatWrite w = (State.wr { s with thm := { s.thm with heatRun := 0 } } Adr.THM_HEAT (w &&& 0xFF31)).syncHeater :=
  (if_neg (h ▸ Bool.false_ne_true)).trans (if_neg (he ▸ Bool.false_ne_true))

end

/-! ### The analogue inputs (R186, R187) -/

theorem ainCode_over {v vdd : Nat} (h : vdd ≤ v) : ainCode v vdd = 16383 := if_pos h

theorem ainCode_bounds {v vdd : Nat} (h : v < vdd) :
    ainCode v vdd * vdd ≤ 16384 * v ∧ 16384 * v < (ainCode v vdd + 1) * vdd := by
  have code : ainCode v vdd = 16384 * v / vdd := if_neg (Nat.not_le.mpr h)
  rw [code]
  exact ⟨Nat.div_mul_le_self _ _, (Nat.lt_div_mul_add (Nat.zero_lt_of_lt h)).trans_eq (Nat.succ_mul _ _).symm⟩

/-- Both channels start where neither converts. -/
theorem State.startAin_both {s : State} (h0 : s.bit .THM_AIN_CTRL_CH0EN = true) (h1 : s.bit .THM_AIN_CTRL_CH1EN = true)
    (hb : s.thm.ainBusy = []) : s.startAin = { s with thm := { s.thm with ainBusy := [0, 1] } } := by
  unfold State.startAin
  rw [h0, h1, hb]
  rfl

theorem State.mem_startAin (s : State) (c : Nat) : c ∈ s.startAin.thm.ainBusy ↔
    c ∈ s.thm.ainBusy ∨ (c = 0 ∧ s.bit .THM_AIN_CTRL_CH0EN = true) ∨ (c = 1 ∧ s.bit .THM_AIN_CTRL_CH1EN = true) := by
  have enabled (b : Bool) (k : Nat) : c ∈ (if b then [k] else []) ↔ c = k ∧ b = true := by cases b <;> simp
  show c ∈ _ ++ List.filter _ _ ↔ _
  rw [List.mem_append, List.mem_filter, List.mem_append, enabled, enabled, Bool.not_eq_true', ← Bool.not_eq_true, List.contains_iff_mem]
  by_cases busy : c ∈ s.thm.ainBusy
  · exact ⟨fun _ => .inl busy, fun _ => .inl busy⟩
  · exact ⟨fun h => h.imp_right And.left, fun h => h.imp_right fun h => ⟨h, busy⟩⟩

theorem State.flueSnapshot_of {s : State} {b : Bool}
    (h : ((s.put .FLUE_SNAP_TEMP (s.get .THM_TEMP_TEMP)).put .FLUE_SNAP_BIAS (s.get .FLUE_BIAS_BIAS)).bit .THM_AIN_CTRL_SNAPAIN = b) :
    s.flueSnapshot =
      if b then ((s.put .FLUE_SNAP_TEMP (s.get .THM_TEMP_TEMP)).put .FLUE_SNAP_BIAS (s.get .FLUE_BIAS_BIAS)).startAin
      else (s.put .FLUE_SNAP_TEMP (s.get .THM_TEMP_TEMP)).put .FLUE_SNAP_BIAS (s.get .FLUE_BIAS_BIAS) := by
  subst h
  rfl

theorem State.thmCommand_sample (s : State) : s.thmCommand Fld.THM_CMD_SAMPLE.one = s.startExtraSample := rfl
theorem State.thmCommand_snap (s : State) : s.thmCommand Fld.THM_CMD_SNAP.one = s.flueSnapshot := rfl
theorem State.thmCommand_ain (s : State) : s.thmCommand Fld.THM_CMD_AIN.one = s.startAin := rfl

/-- Settles O14, command by command. -/
theorem thermalCommands : Obligations.ThermalCommands := by
  have off {b : Bool} (h : b = false) : ¬ b = true := by rw [h]; exact Bool.false_ne_true
  refine ⟨fun s hu => done_live hu rfl, fun x s hu hs => ?sampleEnds, fun s hn => ?extra, fun s hu he hs => ?extraTask,
    fun x s hu hx => done_live hu (if_pos hx), fun s hu ho hr => ?trip, fun s hp => congrArg done (if_pos hp), fun s hn hx => ?snap,
    fun s hu he hs hx => ?snapTask, fun s hn h0 h1 hb => ?convert, fun c x s hu hb => done_live hu (if_pos hb),
    fun v vdd => ⟨ainCode_over, ainCode_bounds⟩, fun w s hn hf he => ?heat, fun s hu hf => done_live hu (if_pos hf),
    fun n w s hn => ?flueWrite, fun x c v s hu => ⟨fun h => ?noSample, fun h => done_live hu (if_neg (off h)),
      fun h => done_live hu (if_neg (off h)), fun h => done_live hu (if_neg (off h)), fun h => ?noTrip⟩,
    fun s hp => congrArg done (if_neg hp), fun s hu ho hr => ?tripReset, fun s hn hx => ?snapAin, fun s hu he hs hx => ?snapTaskPlain,
    fun s hn => ⟨?convertAny, fun c => ?converting⟩, fun w s hn => ⟨fun hf => ?heatRunning, fun hf he => ?heatHeld⟩⟩
  case sampleEnds => exact done_live hu ((if_pos hs).trans (congrArg (State.moment · 2) (if_pos hs)))
  case extra => exact done_write hn ((State.regWrite_THM_CMD _ _).trans (State.thmCommand_sample _))
  case extraTask => exact done_task hu (State.routerTask_page he hs rfl rfl (taskRole_ne rfl))
  case trip => exact done_live hu ((State.overtempTrip_first ho).trans (if_neg (off hr)))
  case tripReset => exact done_live hu ((State.overtempTrip_first ho).trans (if_pos hr))
  case noTrip => exact done_live hu (State.overtempTrip_again h)
  case noSample => exact done_live hu (if_neg (off h))
  case snap =>
    exact done_write hn ((State.regWrite_THM_CMD _ _).trans ((State.thmCommand_snap _).trans (State.flueSnapshot_of hx)))
  case snapAin =>
    exact done_write hn ((State.regWrite_THM_CMD _ _).trans ((State.thmCommand_snap _).trans (State.flueSnapshot_of hx)))
  case snapTask =>
    exact done_task hu ((State.routerTask_page (n := 9) he hs rfl rfl (taskRole_ne rfl)).trans (State.flueSnapshot_of hx))
  case snapTaskPlain =>
    exact done_task hu ((State.routerTask_page (n := 9) he hs rfl rfl (taskRole_ne rfl)).trans (State.flueSnapshot_of hx))
  case convert =>
    exact done_native hn ((State.regWrite_THM_CMD _ _).trans ((State.thmCommand_ain _).trans (State.startAin_both h0 h1 hb)))
  case convertAny => exact done_native hn ((State.regWrite_THM_CMD _ _).trans (State.thmCommand_ain _))
  case converting =>
    rw [List.contains_iff_mem, List.contains_iff_mem]
    exact State.mem_startAin _ c
  case heat => exact done_native hn ((State.regWrite_THM_HEAT _ w).trans (State.heatWrite_off hf he w))
  case heatRunning => exact done_native hn ((State.regWrite_THM_HEAT _ w).trans (State.heatWrite_running hf w))
  case heatHeld => exact done_native hn ((State.regWrite_THM_HEAT _ w).trans (State.heatWrite_heldOff hf he w))
  case flueWrite => exact done_native hn (State.regWrite_FLUE_X _ n w)

end Sys2Proof.Machine
end

section
/-! PROOFS. The orbit, the scheduler's passes, slot commands, triggers and task ends (R200 to R227). -/

namespace Sys2Proof.Machine

/-! ### Slot commands (R218) -/

/-- A write of SCH_SLOTCMD with OP `op` and SLOT `i`. -/
theorem State.regWrite_slotCmd (s : State) {op : Nat} (h : op < 8) (i : Fin 64) :
    s.regWrite Adr.SCH_SLOTCMD (slotCmd op i) = s.slotCommand op i := by
  have hop : Fld.SCH_SLOTCMD_OP.of (slotCmd op i) = op :=
    (Fld.of_into _ _ _ (by decide)).trans (Nat.mod_eq_of_lt h)
  have hslot : Fld.SCH_SLOTCMD_SLOT.of (slotCmd op i) = i :=
    (Fld.of_into_apart _ _ _ _ (by decide)).trans ((Fld.of_into _ _ _ (by decide)).trans (Nat.mod_eq_of_lt i.isLt))
  rw [State.regWrite_SCH_SLOTCMD, hop, hslot]

/-- A host access leaves the scheduler. -/
@[simp] theorem State.accessed_sch (s : State) : s.accessed.sch = s.sch := by
  change s.hostWake.sch = s.sch
  unfold State.hostWake State.leaveEmber
  split <;> simp

/-- Two folds agree whose steps agree where a fact holds that they keep. -/
theorem State.forEach_congr_of {α : Type} {P : State → Prop} {f g : State → α → State} {l : List α}
    (h : ∀ t x, P t → f t x = g t x ∧ P (g t x)) {s : State} (hs : P s) : s.forEach l f = s.forEach l g := by
  induction l generalizing s with
  | nil => rfl
  | cons x l ih =>
    obtain ⟨same, kept⟩ := h s x hs
    exact (congrArg (State.forEach · l f) same).trans (ih kept)

/-- LOAD reads the slot as it stands through the writes of its own words. -/
theorem State.slotLoad_eq (s : State) (i : Nat) : s.slotLoad i =
    (s.forEach (List.range 7) fun u k => u.wr (Adr.SCH_WIN k) ((u.accessed.slot i).word k)).wr Adr.SCH_WIN7
      (s.slot i).status := by
  refine congrArg (State.wr · Adr.SCH_WIN7 (s.slot i).status) ?_
  refine State.forEach_congr_of (P := fun t => t.sch = s.sch) (fun t k ht => ⟨?_, ?_⟩) rfl
  · rw [show t.accessed.slot i = s.slot i by rw [State.slot, State.slot, State.accessed_sch, ht]]
  · exact ht

theorem State.slotCommand_reserved (s : State) (op : Fin 3) (i : Nat) : s.slotCommand (5 + op) i = s.slotRefuse i 8 := by
  fin_cases op <;> rfl

/-- A slot whose task has ended, or that holds none. -/
theorem SlotState.ended_idle {st : SlotState} (h : st = .free ∨ st = .done ∨ st = .missed ∨ st = .aborted) :
    st ≠ .running ∧ ¬ (st.active = true ∨ st = .waiting) := by
  obtain rfl | rfl | rfl | rfl := h <;> decide

/-- A slot whose task waits. -/
theorem SlotState.pending_waits {st : SlotState} (h : st = .waiting ∨ st = .ready ∨ st.deferred = true) :
    st ≠ .running ∧ (st.active = true ∨ st = .waiting) := by
  obtain rfl | rfl | h := h
  · decide
  · decide
  · cases st with
    | deferE | deferH | deferM => decide
    | _ => exact absurd h Bool.false_ne_true

section
variable {s : State} {i : Nat}

/-- What ARM writes to the slot, before its start. -/
def State.armed (s : State) : Slot := { Slot.empty with st := .waiting, words := (List.range 7).map fun k => s.rd (Adr.SCH_WIN k) }

/-- The slot as ARM leaves it, with its start (R209). -/
def State.withStart (s : State) (t : Slot) : Slot :=
  if t.trigen then t
  else if t.tbase then { t with skipDay := t.start ≤ s.timeOfDay }
  else { t with estart := some ((s.schTime + t.start) % 2 ^ 32) }

section
variable (s : State) {t : Slot}

theorem State.withStart_trigger (h : t.trigen = true) : s.withStart t = t := if_pos h

theorem State.withStart_calendar (h : t.trigen = false) (hb : t.tbase = true) :
    s.withStart t = { t with skipDay := t.start ≤ s.timeOfDay } := (if_neg (h ▸ Bool.false_ne_true)).trans (if_pos hb)

theorem State.withStart_relative (h : t.trigen = false) (hb : t.tbase = false) :
    s.withStart t = { t with estart := some ((s.schTime + t.start) % 2 ^ 32) } :=
  (if_neg (h ▸ Bool.false_ne_true)).trans (if_neg (hb ▸ Bool.false_ne_true))

end

/-- ARM of an idle slot (R218). -/
def State.armIdle (s : State) (i : Nat) (t : Slot) : State :=
  match descriptorFault t with
  | some c => s.slotRefuse i c
  | none => s.setSlot i (s.withStart t)

theorem State.slotArm_eq (s : State) (i : Nat) : s.slotArm i =
    if s.legacyHolds i then s.slotRefuse i 5
    else if (s.slot i).st = .free ∨ (s.slot i).st = .done ∨ (s.slot i).st = .missed ∨ (s.slot i).st = .aborted then
      s.armIdle i s.armed
    else s.slotRefuse i 1 := rfl

variable (hl : s.legacyHolds i = false)
include hl

theorem State.slotArm_ok (hst : (s.slot i).st = .free ∨ (s.slot i).st = .done ∨ (s.slot i).st = .missed ∨ (s.slot i).st = .aborted)
    (hf : descriptorFault s.armed = none) : s.slotArm i = s.setSlot i (s.withStart s.armed) := by
  rw [State.slotArm_eq, hl, if_neg Bool.false_ne_true, if_pos hst, State.armIdle, hf]

theorem State.slotArm_fault (hst : (s.slot i).st = .free ∨ (s.slot i).st = .done ∨ (s.slot i).st = .missed ∨ (s.slot i).st = .aborted)
    {c : Nat} (hf : descriptorFault s.armed = some c) : s.slotArm i = s.slotRefuse i c := by
  rw [State.slotArm_eq, hl, if_neg Bool.false_ne_true, if_pos hst, State.armIdle, hf]

theorem State.slotArm_busy (hst : ¬ ((s.slot i).st = .free ∨ (s.slot i).st = .done ∨ (s.slot i).st = .missed ∨ (s.slot i).st = .aborted)) :
    s.slotArm i = s.slotRefuse i 1 := (if_neg (hl ▸ Bool.false_ne_true)).trans (if_neg hst)

theorem State.slotFree_ok (hst : (s.slot i).st ≠ .running) : s.slotFree i = s.setSlot i Slot.empty :=
  (if_neg (hl ▸ Bool.false_ne_true)).trans (if_neg hst)

theorem State.slotFree_busy (hst : (s.slot i).st = .running) : s.slotFree i = s.slotRefuse i 1 :=
  (if_neg (hl ▸ Bool.false_ne_true)).trans (if_pos hst)

theorem State.slotAbort_pending (hst : (s.slot i).st = .waiting ∨ (s.slot i).st = .ready ∨ (s.slot i).st.deferred = true) :
    s.slotAbort i = (s.setSlot i { s.slot i with abort := true }).taskEnds i (.aborted Cause.HOST) := by
  obtain ⟨still, waits⟩ := SlotState.pending_waits hst
  exact (if_neg (hl ▸ Bool.false_ne_true)).trans ((if_neg still).trans (if_pos waits))

theorem State.slotAbort_running (hst : (s.slot i).st = .running) :
    s.slotAbort i = (s.setSlot i { s.slot i with abort := true }).nudge i :=
  (if_neg (hl ▸ Bool.false_ne_true)).trans (if_pos hst)

theorem State.slotAbort_ended (hst : (s.slot i).st = .free ∨ (s.slot i).st = .done ∨ (s.slot i).st = .missed ∨ (s.slot i).st = .aborted) :
    s.slotAbort i = s.slotRefuse i 1 := by
  obtain ⟨still, idle⟩ := SlotState.ended_idle hst
  exact (if_neg (hl ▸ Bool.false_ne_true)).trans ((if_neg still).trans (if_neg idle))

end

/-! ### The end of a task by its block, and its pre-emption point (R211, R216) -/

section
variable {s : State} {i : Nat} {e : TaskEnd}

theorem State.blockEnds_field (h : kindResource (s.slot i).kind = some .field) : s.blockEnds i e = s.fieldEnd e := by
  rw [State.blockEnds, h]

theorem State.blockEnds_radio (h : kindResource (s.slot i).kind = some .radio) : s.blockEnds i e = s.radEnd e := by
  rw [State.blockEnds, h]

theorem State.blockEnds_lineCycle (h : (s.slot i).kind = Kind.LINE_CYCLE) : s.blockEnds i e = s.lineIdle.taskEnds i e := by
  rw [State.blockEnds, h]
  rfl

theorem State.blockEnds_lineTrain (h : (s.slot i).kind = Kind.LINE_TRAIN) :
    s.blockEnds i e = s.lineIdle.trainOver.taskEnds i e := by
  rw [State.blockEnds, h]
  rfl

/-- A task that no block but the scheduler's own holds anything for. -/
theorem State.blockEnds_plain (h : kindResource (s.slot i).kind = none ∨ kindResource (s.slot i).kind = some .decoder) :
    s.blockEnds i e = s.taskEnds i e := by
  obtain h | h := h
  · rw [State.blockEnds, h]
  · rw [State.blockEnds, h]

/-- A USER task has no block. -/
theorem kindResource_user {k : Nat} (h : k = Kind.USER) : kindResource k = none := h ▸ rfl

variable (hst : (s.slot i).st = .running)
include hst

theorem State.nudge_field (h : kindResource (s.slot i).kind = some .field) :
    s.nudge i = if s.nfcServing then s.nfpNext else s := by
  refine (if_neg (not_not_intro hst)).trans ?_
  rw [h]

theorem State.nudge_radio (h : kindResource (s.slot i).kind = some .radio) : s.nudge i =
    if (s.slot i).abort then s.radToSleep else if (s.slot i).kind = Kind.RAD_RX_WIN then s.winNext else s.radNext := by
  refine (if_neg (not_not_intro hst)).trans ?_
  rw [h]

theorem State.nudge_line (h : kindResource (s.slot i).kind = some .line) : s.nudge i = s.lineStop := by
  refine (if_neg (not_not_intro hst)).trans ?_
  rw [h]

theorem State.nudge_decoder (h : kindResource (s.slot i).kind = some .decoder) : s.nudge i = s.burstStep := by
  refine (if_neg (not_not_intro hst)).trans ?_
  rw [h]

theorem State.nudge_user (h : (s.slot i).kind = Kind.USER) (he : (s.slot i).stopEnd = some e) : s.nudge i = s.taskEnds i e := by
  refine (if_neg (not_not_intro hst)).trans ?_
  rw [kindResource_user h]
  refine (if_pos h).trans ?_
  rw [he]

end

/-! ### Triggers (R210) -/

theorem taskOf_trigger : ∀ m : Fin 16, taskTarget (16 + m) = none ∧ taskHonour (16 + m) = .always ∧ taskRole (16 + m) = none := by
  decide

theorem State.taskEffect_trigger (s : State) (m : Fin 16) : s.taskEffect (16 + m) = s.trigger m := by
  fin_cases m <;> rfl

theorem State.regWrite_trigger (s : State) (m : Fin 16) : s.regWrite Adr.SCH_TRIG (BitVec.ofNat 32 (2 ^ m.val)) = s.trigger m := by
  have bit : ∀ m : Fin 16, (List.range 16).filter (fun k => (BitVec.ofNat 32 (2 ^ m.val)).getLsbD k) = [m.val] := by decide
  rw [State.regWrite_SCH_TRIG, bit, State.forEach, List.foldl_cons, List.foldl_nil]

/-- A task that no page's enables hold back (R266). -/
theorem State.routerTask_free {s : State} {n : Nat} (hp : taskTarget n = none) (hh : taskHonour n = .always)
    (hr : taskRole n = none) : s.routerTask n = State.taskEffect { s with latches := s.latches.filter (· != n) } n := by
  refine State.takeTask_always _ n (taskRole_ne hr) ?_ hh
  unfold State.taskRefused
  rw [hp, hh]
  rfl

/-- Settles O15, command by command. -/
theorem schedulerCommands : Obligations.SchedulerCommands := by
  have off {b : Bool} (h : b = false) : ¬ b = true := by rw [h]; exact Bool.false_ne_true
  refine ⟨fun pins s hu => done_live hu rfl, fun s hu he => ⟨fun ht => ?pass, fun ht => ?passHeld⟩,
    fun i s hu hp hst hk ha => ?preempted, fun i s hu hst hk => ⟨?taskDone, ?taskFailed⟩,
    fun i s hu hst hk => done_live hu (if_pos ⟨hst, hk⟩), fun i e s hu hst he hd => ?ready, fun m s hn => ?trigger,
    fun m s hu => ?triggerTask, fun i s hn => ?load, fun i s hn hl hst hf ht hb => ?armRelative, fun i s hn hl hst => ?free,
    fun i s hn hl => ⟨fun hst => ?abortPending, fun hst => ?abortRunning⟩, fun i s hn hst hk => ?slotEnd,
    fun i op s hn hv => ?reserved, fun s hu he => ?passOff, fun i s hu => ⟨fun hp => ?unasked, fun hp hst => ?notRunning,
      fun hp hst => ⟨fun hk hs => ?field, fun hk hs => ?fieldIdle, fun hk ha hw => ?window, fun hk ha hw => ?radio, fun hk ha => ?radioStop,
        fun hk => ?line, fun hk => ?decoder, fun hk ha => ?user⟩⟩,
    fun i failed s hu => ⟨fun hst => ?noEnd, fun hst => ⟨fun hk => ?endField, fun hk => ?endRadio, fun hk => ?endCycle, fun hk => ?endTrain,
      fun hk => ?endDecoder⟩⟩, fun i s hu h => ?noTimeout,
    fun i s hu => ⟨fun hst => ?noReady, fun hst => ⟨fun e he hd => ?readyPast, fun he hd => ?readyDue, fun he hd => ?readyLater⟩⟩,
    fun i s hn hl hst hf => ⟨fun ht => ?armTrigger, fun ht hb => ?armCalendar⟩,
    fun i s hn => ⟨fun hl c hc => ?legacy, fun hl => ⟨fun hst => ?armBusy, fun c hst hf => ?armFault, fun hst => ?freeBusy, fun hst => ?abortEnded⟩,
      fun h => ?noEndCmd, fun op => ?reservedAny⟩⟩
  case pass => exact done_live hu (congrArg (State.moment · 4) ((if_pos he).trans (if_pos ht)))
  case passHeld => exact done_live hu (congrArg (State.moment · 4) ((if_pos he).trans (if_neg (off ht))))
  case passOff => exact done_live hu (congrArg (State.moment · 4) (if_neg (off he)))
  case preempted =>
    refine done_live hu ((if_pos hp).trans (State.nudge_user hst hk ?_))
    rw [Slot.stopEnd, ha, hp]
    rfl
  case taskDone => exact done_live hu ((if_pos hst).trans (State.blockEnds_plain (.inl hk)))
  case taskFailed => exact done_live hu ((if_pos hst).trans (State.blockEnds_plain (.inl hk)))
  case ready =>
    refine done_live hu ((if_pos hst).trans ?_)
    rw [he]
    exact congrArg State.readyDue (if_pos hd)
  case trigger => exact done_write hn (State.regWrite_trigger _ m)
  case triggerTask =>
    obtain ⟨target, honour, role⟩ := taskOf_trigger m
    exact done_task hu ((State.routerTask_free target honour role).trans (State.taskEffect_trigger _ m))
  case load =>
    exact done_native hn ((State.regWrite_slotCmd _ (by decide : 0 < 8) i).trans (State.slotLoad_eq _ i))
  case armRelative =>
    have armed : s.accessed.slotArm i = _ :=
      (State.slotArm_ok hl hst hf).trans (congrArg (s.accessed.setSlot i) (State.withStart_relative _ ht hb))
    exact done_native hn ((State.regWrite_slotCmd _ (by decide : 1 < 8) i).trans armed)
  case armTrigger =>
    have armed : s.accessed.slotArm i = _ :=
      (State.slotArm_ok hl hst hf).trans (congrArg (s.accessed.setSlot i) (State.withStart_trigger _ ht))
    exact done_native hn ((State.regWrite_slotCmd _ (by decide : 1 < 8) i).trans armed)
  case armCalendar =>
    have armed : s.accessed.slotArm i = _ :=
      (State.slotArm_ok hl hst hf).trans (congrArg (s.accessed.setSlot i) (State.withStart_calendar _ ht hb))
    exact done_native hn ((State.regWrite_slotCmd _ (by decide : 1 < 8) i).trans armed)
  case free => exact done_native hn ((State.regWrite_slotCmd _ (by decide : 2 < 8) i).trans (State.slotFree_ok hl hst))
  case abortPending => exact done_native hn ((State.regWrite_slotCmd _ (by decide : 3 < 8) i).trans (State.slotAbort_pending hl hst))
  case abortRunning => exact done_native hn ((State.regWrite_slotCmd _ (by decide : 3 < 8) i).trans (State.slotAbort_running hl hst))
  case slotEnd => exact done_native hn ((State.regWrite_slotCmd _ (by decide : 4 < 8) i).trans (if_pos ⟨hst, hk⟩))
  case reserved =>
    refine done_native hn ((State.regWrite_slotCmd _ (Nat.add_lt_add_left op.isLt 5) i).trans ((State.slotCommand_reserved _ op i).trans ?_))
    exact if_neg (off hv)
  case unasked => exact done_live hu (if_neg (off hp))
  case notRunning => exact done_live hu ((if_pos hp).trans (if_pos hst))
  case field => exact done_live hu ((if_pos hp).trans ((State.nudge_field hst hk).trans (if_pos hs)))
  case fieldIdle => exact done_live hu ((if_pos hp).trans ((State.nudge_field hst hk).trans (if_neg (off hs))))
  case window =>
    exact done_live hu ((if_pos hp).trans ((State.nudge_radio hst hk).trans ((if_neg (off ha)).trans (if_pos hw))))
  case radio =>
    exact done_live hu ((if_pos hp).trans ((State.nudge_radio hst hk).trans ((if_neg (off ha)).trans (if_neg hw))))
  case radioStop => exact done_live hu ((if_pos hp).trans ((State.nudge_radio hst hk).trans (if_pos ha)))
  case line => exact done_live hu ((if_pos hp).trans (State.nudge_line hst hk))
  case decoder => exact done_live hu ((if_pos hp).trans (State.nudge_decoder hst hk))
  case user =>
    refine done_live hu ((if_pos hp).trans (State.nudge_user hst hk ?_))
    rw [Slot.stopEnd, ha]
    rfl
  case noEnd => exact done_live hu (if_neg hst)
  case endField => exact done_live hu ((if_pos hst).trans (State.blockEnds_field hk))
  case endRadio => exact done_live hu ((if_pos hst).trans (State.blockEnds_radio hk))
  case endCycle => exact done_live hu ((if_pos hst).trans (State.blockEnds_lineCycle hk))
  case endTrain => exact done_live hu ((if_pos hst).trans (State.blockEnds_lineTrain hk))
  case endDecoder => exact done_live hu ((if_pos hst).trans (State.blockEnds_plain (.inr hk)))
  case noTimeout => exact done_live hu (if_neg fun ⟨hst, hk⟩ => h.elim (· hst) (· hk))
  case noReady => exact done_live hu (if_neg hst)
  case readyPast =>
    refine done_live hu ((if_pos hst).trans ?_)
    rw [he]
    exact congrArg State.readyDue (if_neg (Nat.not_lt.mpr hd))
  case readyDue =>
    refine done_live hu ((if_pos hst).trans ?_)
    rw [he]
    exact if_pos hd
  case readyLater =>
    refine done_live hu ((if_pos hst).trans ?_)
    rw [he]
    exact if_neg (off hd)
  case legacy =>
    rw [List.mem_cons, List.mem_cons, List.mem_singleton] at hc
    obtain rfl | rfl | rfl := hc
    · exact done_native hn ((State.regWrite_slotCmd _ (by decide : 1 < 8) i).trans (if_pos hl))
    · exact done_native hn ((State.regWrite_slotCmd _ (by decide : 2 < 8) i).trans (if_pos hl))
    · exact done_native hn ((State.regWrite_slotCmd _ (by decide : 3 < 8) i).trans (if_pos hl))
  case armBusy => exact done_native hn ((State.regWrite_slotCmd _ (by decide : 1 < 8) i).trans (State.slotArm_busy hl hst))
  case armFault => exact done_native hn ((State.regWrite_slotCmd _ (by decide : 1 < 8) i).trans (State.slotArm_fault hl hst hf))
  case freeBusy => exact done_native hn ((State.regWrite_slotCmd _ (by decide : 2 < 8) i).trans (State.slotFree_busy hl hst))
  case abortEnded => exact done_native hn ((State.regWrite_slotCmd _ (by decide : 3 < 8) i).trans (State.slotAbort_ended hl hst))
  case noEndCmd =>
    exact done_native hn ((State.regWrite_slotCmd _ (by decide : 4 < 8) i).trans (if_neg fun ⟨hst, hk⟩ => h.elim (· hst) (· hk)))
  case reservedAny =>
    exact done_native hn ((State.regWrite_slotCmd _ (Nat.add_lt_add_left op.isLt 5) i).trans (State.slotCommand_reserved _ op i))

end Sys2Proof.Machine
end

section
/-! PROOFS. The oscillators and the wire island's source (R231 to R249). -/

namespace Sys2Proof.Machine

/-! ### The XO's monitor (R233 to R238) -/

/-- The end of a step that may have failed the XO: its failure policy (R239). -/
theorem State.afterXo_fine (s : State) : State.afterXo (false, s) = s := rfl

theorem State.afterXo_kept {s : State} (h : s.failResets = false) : State.afterXo (true, s) = s :=
  if_neg (by rw [h]; exact Bool.false_ne_true)

theorem State.afterXo_reset {s : State} (h : s.failResets = true) : State.afterXo (true, s) = s.resetPart Rst.XO_FAIL :=
  if_pos h

section
variable {s : State} {n : Nat} (hx : s.get .CLK_STAT_XO ≠ 0)
include hx

/-- A window's end with the XO running, by what its judgement says. -/
theorem State.windowEnds_of {r : Bool × State} (h : s.xoWindow n = r) : s.windowEnds n = (r.1, r.2.moment 3) := by
  subst h
  exact if_neg hx

theorem State.xoWindow_stays (hg : (s.countWindow n).xoGood = true) (hb : (s.countWindow n).clk.xoBad < 2) :
    s.xoWindow n = (false, s.countWindow n) := (if_neg hx).trans ((if_pos hg).trans (if_neg (Nat.not_le.mpr hb)))

theorem State.xoWindow_fails (hg : (s.countWindow n).xoGood = true) (hb : 2 ≤ (s.countWindow n).clk.xoBad) :
    s.xoWindow n = (true, (s.countWindow n).xoFail) := (if_neg hx).trans ((if_pos hg).trans (if_pos hb))

theorem State.xoWindow_becomesGood (hg : (s.countWindow n).xoGood = false) (hj : (s.countWindow n).xoJudgedGood = true) :
    s.xoWindow n = (false, (s.countWindow n).xoOk) := (if_neg hx).trans ((if_neg (hg ▸ Bool.false_ne_true)).trans (if_pos hj))

theorem State.xoWindow_waits (hg : (s.countWindow n).xoGood = false) (hj : (s.countWindow n).xoJudgedGood = false) :
    s.xoWindow n = (false, s.countWindow n) :=
  (if_neg hx).trans ((if_neg (hg ▸ Bool.false_ne_true)).trans (if_neg (hj ▸ Bool.false_ne_true)))

end

/-! ### The wire island's source (R241 to R243) -/

section
variable {s : State}

theorem State.wireFallback_of_hub (h : s.hub = true) : s.wireFallback = s := if_pos (by rw [h]; rfl)

theorem State.wireFallback_in_use (h : 2 ≤ s.get .CLK_STAT_WSRC) : s.wireFallback = s :=
  if_pos (by rw [decide_eq_true h, Bool.or_true])

theorem State.wireFallback_free (h : s.hub = false) (hs : s.get .CLK_STAT_WSRC < 2) :
    s.wireFallback = s.requestWire s.wireFallbackSrc :=
  if_neg (by rw [h, decide_eq_false (Nat.not_le.mpr hs)]; exact Bool.false_ne_true)

theorem State.wireRestore_ignored (h : s.hub = true ∨ s.bit .CLK_STAT_CDR = false ∨ s.get .CLK_STAT_WSRC = 1) :
    s.wireRestore = s := by
  refine if_pos ?_
  obtain h | h | h := h
  · rw [h]
    rfl
  · rw [h, Bool.not_false, Bool.or_true, Bool.true_or]
  · rw [h, beq_self_eq_true, Bool.or_true]

theorem State.wireRestore_free (h : s.hub = false) (hl : s.bit .CLK_STAT_CDR = true) (hs : s.get .CLK_STAT_WSRC ≠ 1) :
    s.wireRestore = s.requestWire 1 :=
  if_neg (by rw [h, hl, beq_eq_false_iff_ne.mpr hs]; exact Bool.false_ne_true)

theorem State.wireSwitch_idle (h : s.clk.wireReq = none ∨ s.clk.wireStop = true) : s.wireSwitch = s := by
  unfold State.wireSwitch
  obtain h | h := h
  · rw [h]
  · split
    · rw [h]
      rfl
    · rfl

/-- A requested switch at its point, or behind the end of a legacy frame. -/
theorem State.wireSwitch_requested {src : Nat} (h : s.clk.wireReq = some src) (hs : s.clk.wireStop = false) : s.wireSwitch =
    if s.legacySending then s
    else { s with clk := { s.clk with wireReq := none, wireStop := true, wireTo := src, voidSlot := s.get .WIR_STAT_WIN == 3 } } := by
  rw [State.wireSwitch, h, hs]
  rfl

end

theorem State.clkCommand_fallback (s : State) : s.clkCommand Fld.CLK_CMD_FALLBACK.one = s.wireFallback := by
  have guarded : s.clkCommand Fld.CLK_CMD_FALLBACK.one = if !s.hub then s.wireFallback else s := rfl
  rw [guarded]
  cases h : s.hub with
  | false => rfl
  | true => exact (State.wireFallback_of_hub h).symm

theorem State.clkCommand_restore (s : State) : s.clkCommand Fld.CLK_CMD_RESTORE.one = s.wireRestore := by
  have guarded : s.clkCommand Fld.CLK_CMD_RESTORE.one = if !s.hub then s.wireRestore else s := rfl
  rw [guarded]
  cases h : s.hub with
  | false => rfl
  | true => exact (State.wireRestore_ignored (.inl h)).symm

/-- The source that the island restarts on (R243). -/
def State.restartSrc (s : State) : Nat := if s.clk.wireTo = 2 ∧ s.xoGood = false then 3 else s.clk.wireTo

/-- The island runs on source `src`. -/
def State.runsOn (s : State) (src : Nat) : State :=
  { s.put .CLK_STAT_WSRC src with clk := { s.clk with wireStop := false } }

theorem State.wireRestart_eq (s : State) : s.wireRestart =
    (if 2 ≤ s.restartSrc then ((s.runsOn s.restartSrc).sat .CLK_FAILCNT_WIRE).raise Ev.CLK_WIRE_FALLBACK
     else (s.runsOn s.restartSrc).raiseIf (s.restartSrc == 1) Ev.CLK_WIRE_RESTORE).syncXo := by
  have src : (if s.clk.wireTo = 2 && !s.xoGood then 3 else s.clk.wireTo) = s.restartSrc := by
    refine if_congr ?_ rfl rfl
    rw [Bool.and_eq_true, decide_eq_true_eq, Bool.not_eq_true']
  exact congrArg (fun c : Nat => (if 2 ≤ c then ((s.runsOn c).sat .CLK_FAILCNT_WIRE).raise Ev.CLK_WIRE_FALLBACK
    else (s.runsOn c).raiseIf (c == 1) Ev.CLK_WIRE_RESTORE).syncXo) src

/-- Settles O16, command by command. -/
theorem clockCommands : Obligations.ClockCommands := by
  have off {b : Bool} (h : b = false) : ¬ b = true := by rw [h]; exact Bool.false_ne_true
  have toNode {s : State} {n : Nat} (hub : s.hub = false) (h : taskRole n = some false) : taskRole n ≠ some (!s.hub) := by
    rw [h, hub]
    decide
  refine ⟨fun s hu he hs => ⟨?start, ?stop⟩, fun n s hu hx => ⟨fun hg hb => ?stays, fun hg hb hf => ?fails, fun hg hb hf => ?failReset,
      fun hg hj => ?good, fun hg hj => ?waits⟩, fun s hu hx hf => ?timeout, fun s hn hub hs => ?fallback, fun s hu hub he hs hw => ?fallbackTask,
    fun s hn hub hl hw => ?restore, fun s hn hub => ⟨fun hw => ?fallbackUsed, fun hw => ?restoreUsed⟩, fun s hu hub he hs hl hw => ?restoreTask,
    fun s hu hh hub hl hw => ?hold, fun src s hu hr hs => ⟨fun hl => ?switchNow, fun hl => ?legacy⟩,
    fun s hu hs => ⟨fun hsrc => ?ontoFallback, fun hsrc => ?ontoLine, fun hsrc => ?ontoZero⟩, fun s hu hv hs => ?void,
    fun n s hu => ⟨fun h => ?noWindow, fun h => ?noStart, fun h => done_live hu (if_neg (off h)), fun h => done_live hu (State.wireSwitch_idle h),
      fun h => done_live hu (if_neg (off h)), fun h => ?noVoid⟩, fun s hu hx hf => ?timeoutReset, fun s hu hh h => ?holdEnds,
    fun s hn => ⟨fun h => ?hubFallback, fun h => ?hubRestore⟩, fun s hu hub he hs => ⟨fun h => ?taskFallbackUsed, fun h => ?taskRestoreUsed⟩⟩
  case start => exact done_live hu (State.routerTask_page (n := 10) he hs rfl rfl (taskRole_ne rfl))
  case stop => exact done_live hu (State.routerTask_page (n := 11) he hs rfl rfl (taskRole_ne rfl))
  case stays =>
    exact done_live hu ((congrArg State.afterXo (State.windowEnds_of hx (State.xoWindow_stays hx hg hb))).trans (State.afterXo_fine _))
  case fails =>
    exact done_live hu ((congrArg State.afterXo (State.windowEnds_of hx (State.xoWindow_fails hx hg hb))).trans (State.afterXo_kept hf))
  case failReset =>
    exact done_live hu ((congrArg State.afterXo (State.windowEnds_of hx (State.xoWindow_fails hx hg hb))).trans (State.afterXo_reset hf))
  case good =>
    exact done_live hu ((congrArg State.afterXo (State.windowEnds_of hx (State.xoWindow_becomesGood hx hg hj))).trans (State.afterXo_fine _))
  case waits =>
    exact done_live hu ((congrArg State.afterXo (State.windowEnds_of hx (State.xoWindow_waits hx hg hj))).trans (State.afterXo_fine _))
  case timeout => exact done_live hu ((congrArg State.afterXo (if_pos hx)).trans (State.afterXo_kept hf))
  case timeoutReset => exact done_live hu ((congrArg State.afterXo (if_pos hx)).trans (State.afterXo_reset hf))
  case noStart => exact done_live hu ((congrArg State.afterXo (if_neg h)).trans (State.afterXo_fine _))
  case noWindow =>
    have window : s.windowEnds n = (false, s) := (if_pos h).trans (if_pos h)
    exact done_live hu ((congrArg State.afterXo window).trans (State.afterXo_fine _))
  case fallback =>
    exact done_write hn ((State.regWrite_CLK_CMD _ _).trans ((State.clkCommand_fallback _).trans (State.wireFallback_free hub hs)))
  case fallbackUsed =>
    exact done_write hn ((State.regWrite_CLK_CMD _ _).trans ((State.clkCommand_fallback _).trans (State.wireFallback_in_use hw)))
  case hubFallback =>
    exact done_write hn ((State.regWrite_CLK_CMD _ _).trans ((State.clkCommand_fallback _).trans (State.wireFallback_of_hub h)))
  case fallbackTask =>
    exact done_task hu ((State.routerTask_page (n := 13) he hs rfl rfl (toNode hub rfl)).trans (State.wireFallback_free hub hw))
  case taskFallbackUsed =>
    exact done_task hu ((State.routerTask_page (n := 13) he hs rfl rfl (toNode hub rfl)).trans (State.wireFallback_in_use h))
  case restore =>
    exact done_write hn ((State.regWrite_CLK_CMD _ _).trans ((State.clkCommand_restore _).trans (State.wireRestore_free hub hl hw)))
  case restoreUsed =>
    refine done_write hn ((State.regWrite_CLK_CMD _ _).trans ((State.clkCommand_restore _).trans ?_))
    exact State.wireRestore_ignored (.inr (.inr hw))
  case hubRestore =>
    refine done_write hn ((State.regWrite_CLK_CMD _ _).trans ((State.clkCommand_restore _).trans ?_))
    exact State.wireRestore_ignored (h.imp_right Or.inl)
  case restoreTask =>
    exact done_task hu ((State.routerTask_page (n := 14) he hs rfl rfl (toNode hub rfl)).trans (State.wireRestore_free hub hl hw))
  case taskRestoreUsed =>
    exact done_task hu ((State.routerTask_page (n := 14) he hs rfl rfl (toNode hub rfl)).trans (State.wireRestore_ignored (.inr h)))
  case hold => exact done_live hu ((if_pos hh).trans (State.wireRestore_free hub hl hw))
  case holdEnds => exact done_live hu ((if_pos hh).trans (State.wireRestore_ignored h))
  case switchNow => exact done_live hu ((State.wireSwitch_requested hr hs).trans (if_neg (off hl)))
  case legacy => exact done_live hu ((State.wireSwitch_requested hr hs).trans (if_pos hl))
  case ontoFallback =>
    exact done_live hu ((if_pos hs).trans (s.wireRestart_eq.trans (congrArg State.syncXo (if_pos hsrc))))
  case ontoLine =>
    have one : s.restartSrc = 1 := hsrc
    refine done_live hu ((if_pos hs).trans (s.wireRestart_eq.trans (congrArg State.syncXo ((if_neg ?_).trans (if_pos ?_)))))
    · rw [one]
      decide
    · rw [one]
      rfl
  case ontoZero =>
    have zero : s.restartSrc = 0 := hsrc
    refine done_live hu ((if_pos hs).trans (s.wireRestart_eq.trans (congrArg State.syncXo ((if_neg ?_).trans (if_neg ?_)))))
    · rw [zero]
      decide
    · rw [zero]
      decide
  case void => exact done_live hu (if_pos (by rw [hv, hs]; rfl))
  case noVoid =>
    refine done_live hu (if_neg ?_)
    rw [Bool.and_eq_true, Bool.not_eq_true']
    rintro ⟨slot, runs⟩
    exact h.elim (fun h => off h slot) (fun h => off runs h)

end Sys2Proof.Machine
end

section
/-! PROOFS. The FEC divider, the HFRC, the LFRC and the LXO (R244 to R249). -/

namespace Sys2Proof.Machine

/-! ### The FEC divider (R244) -/

section
variable {s : State}

/-- The island without work for the whole of a step. -/
def State.fecIdle (s : State) : Bool := !s.fecWork && (s.fec.idleStep || s.get .CLK_FEC_DIV_DIV == 0)

/-- The next idle step begins. -/
def State.fecStepBegun (s : State) : State := { s with fec := { s.fec with idleStep := s.fec.work.isNone } }

theorem State.fecRampStep_held (h : s.bit .PWR_MODE_DAMPER = true ∨ s.get (.gate Island.FEC) ≠ Gate.RUN) : s.fecRampStep = s := by
  refine if_pos ?_
  rw [Bool.or_eq_true, decide_eq_true_eq]
  exact h

theorem State.fecRampStep_runs (hd : s.bit .PWR_MODE_DAMPER = false) (hg : s.get (.gate Island.FEC) = Gate.RUN) :
    s.fecRampStep = if s.fecIdle then s.fecStepBegun.fecDown else s.fecStepBegun.fecUp := by
  refine if_neg ?_
  rw [Bool.or_eq_true, decide_eq_true_eq]
  rintro (h | h)
  · exact Bool.false_ne_true (hd.symm.trans h)
  · exact h hg

theorem State.fecUp_at0 (h : s.get .CLK_FEC_DIV_DIV = 0) : s.fecUp = s.put .CLK_FEC_DIV_RAMP 0 := if_pos h

theorem State.fecUp_at1 (h : s.get .CLK_FEC_DIV_DIV = 1) :
    s.fecUp = ((s.put .CLK_FEC_DIV_DIV 0).put .CLK_FEC_DIV_RAMP 0).raise Ev.CLK_RAMP_DONE :=
  (if_neg (by rw [h]; decide)).trans (if_pos h)

theorem State.fecUp_above (h : 2 ≤ s.get .CLK_FEC_DIV_DIV) :
    s.fecUp = (s.put .CLK_FEC_DIV_DIV (s.get .CLK_FEC_DIV_DIV - 1)).put .CLK_FEC_DIV_RAMP 1 :=
  (if_neg (Nat.ne_of_gt (Nat.lt_of_lt_of_le Nat.two_pos h))).trans (if_neg (Nat.ne_of_gt h))

theorem State.fecDown_at4 (h : s.get .CLK_FEC_DIV_DIV = 4) :
    s.fecDown = (s.put (.gate Island.FEC) Gate.GATED).put .CLK_FEC_DIV_RAMP 0 := if_pos h

theorem State.fecDown_at3 (h : s.get .CLK_FEC_DIV_DIV = 3) :
    s.fecDown = ((s.put .CLK_FEC_DIV_DIV 4).put .CLK_FEC_DIV_RAMP 0).raise Ev.CLK_RAMP_DONE :=
  (if_neg (by rw [h]; decide)).trans (if_pos h)

theorem State.fecDown_else (h3 : s.get .CLK_FEC_DIV_DIV ≠ 3) (h4 : s.get .CLK_FEC_DIV_DIV ≠ 4) :
    s.fecDown = (s.put .CLK_FEC_DIV_DIV (s.get .CLK_FEC_DIV_DIV + 1)).put .CLK_FEC_DIV_RAMP 1 := (if_neg h4).trans (if_neg h3)

/-! ### Trims and calibrations (R247, R248) -/

theorem State.trimHfrc_held (h : s.hfrcRef = 0) : s.trimHfrc = s := if_pos h

theorem State.trimHfrc_reached (h : s.hfrcRef ≠ 0) :
    s.trimHfrc = (s.freshBelow 4096).2.put .CLK_HFRC_STAT_TRIM (s.freshBelow 4096).1 := if_neg h

/-- A calibration against the reference `ref`. -/
def State.lfrcCalOn (s : State) (ref : Nat) : State := { s with clk := { s.clk with lfrcCal := some ref } }

theorem State.startLfrcCal_xo (h : s.get .CLK_XO_CFG_MODE ≠ 2) : s.startLfrcCal = (s.lfrcCalOn 1).syncXo :=
  congrArg (fun r => (s.lfrcCalOn r).syncXo) (if_pos h)

theorem State.startLfrcCal_noXo (h : s.get .CLK_XO_CFG_MODE = 2) : s.startLfrcCal =
    (s.lfrcCalOn (if s.hub = false ∧ s.bit .CLK_STAT_CDR = true then 2 else 0)).syncXo := by
  refine congrArg (fun r => (s.lfrcCalOn r).syncXo) ((if_neg (not_not_intro h)).trans (if_congr ?_ rfl rfl))
  rw [Bool.and_eq_true, Bool.not_eq_true']

/-- A calibration's end: with its reference present, or without (NOREF). -/
theorem State.lfrcCalDone_of {ref : Nat} {ok : Bool} (h : s.clk.lfrcCal = some ref)
    (hok : ((ref == 1 && s.xoGood) || (ref == 2 && s.bit .CLK_STAT_CDR)) = ok) : s.lfrcCalDone =
      let t : State := { s with clk := { s.clk with lfrcCal := none } }
      (if ok then ((t.freshBelow 1024).2.put .CLK_LFRC_CAL_TRIM (t.freshBelow 1024).1).put .CLK_LFRC_CAL_DONE 1
       else t.put .CLK_LFRC_CAL_NOREF 1).syncXo := by
  subst hok
  rw [State.lfrcCalDone, h]
  rfl

end

theorem State.clkCommand_lfrcCal (s : State) : s.clkCommand Fld.CLK_CMD_LFRC_CAL.one = s.startLfrcCal := rfl
theorem State.clkCommand_hfrcTrim (s : State) : s.clkCommand Fld.CLK_CMD_HFRC_TRIM.one =
    { s with clk := { s.clk with hfrcTrim := true } } := rfl

/-! ### The LXO's monitor (R249) -/

section
variable {s : State} {n el : Nat}

theorem State.lxoWindow_absent (h : s.get .CLK_STAT_LXO = 0) : s.lxoWindow n el = s := if_pos h

/-- A window's count within 8 % of its 256 edges. -/
theorem lxoInTol_iff : (decide (256 * 92 ≤ n * 100) && decide (n * 100 ≤ 256 * 108)) = true ↔ 236 ≤ n ∧ n ≤ 276 := by
  rw [Bool.and_eq_true, decide_eq_true_eq, decide_eq_true_eq]
  omega

theorem State.lxoWindow_in (h : s.get .CLK_STAT_LXO ≠ 0) (hn : 236 ≤ n ∧ n ≤ 276) : s.lxoWindow n el =
    if s.get .CLK_STAT_LXO ≠ 2 && 8 ≤ s.clk.lxoRun + 1 then
      State.raise { s.put .CLK_STAT_LXO 2 with clk := { s.clk with lxoRun := s.clk.lxoRun + 1, lxoBad := 0, lxoBack := true } }
        Ev.CLK_LXO_OK
    else { s with clk := { s.clk with lxoRun := s.clk.lxoRun + 1, lxoBad := 0 } } := by
  refine (if_neg h).trans ?_
  rw [lxoInTol_iff.mpr hn]
  rfl

theorem State.lxoWindow_out (h : s.get .CLK_STAT_LXO ≠ 0) (hn : n < 236 ∨ 276 < n) : s.lxoWindow n el =
    let t : State := { s with clk := { s.clk with lxoRun := 0, lxoBad := s.clk.lxoBad + 1 } }
    if s.get .CLK_STAT_LXO ≠ 3 && 2 ≤ s.clk.lxoBad + 1 then t.lxoFail el else t := by
  refine (if_neg h).trans ?_
  rw [show (decide (256 * 92 ≤ n * 100) && decide (n * 100 ≤ 256 * 108)) = false from
    Bool.eq_false_iff.mpr fun ok => by have := lxoInTol_iff.mp ok; omega]
  rfl

theorem State.lxoRestore_none (h : s.clk.lxoBack = false ∨ s.bit .CLK_LXO_CFG_AUTORESTORE = false ∨ s.bit .CLK_LXO_CFG_PRESENT = false) :
    s.lxoRestore = s := by
  refine if_neg ?_
  rw [Bool.and_eq_true, Bool.and_eq_true]
  rintro ⟨⟨back, auto⟩, present⟩
  obtain h | h | h := h
  · exact Bool.false_ne_true (h.symm.trans back)
  · exact Bool.false_ne_true (h.symm.trans auto)
  · exact Bool.false_ne_true (h.symm.trans present)

end

/-- What of a change of the part in reset survives it. -/
theorem State.emberOnly_failCount (s t : State) (h : RegFile.wf t.regs = true) :
    (s.emberOnly t).rd Fld.CLK_FAILCNT_XO.addr = s.rd Fld.CLK_FAILCNT_XO.addr :=
  State.rd_wr _ _ _ (State.wf_wr _ _ _ (State.wf_wr _ _ _ h))

/-- Settles O17, command by command. -/
theorem oscillatorCommands : Obligations.OscillatorCommands := by
  have off {b : Bool} (h : b = false) : ¬ b = true := by rw [h]; exact Bool.false_ne_true
  refine ⟨fun s hu hd hg => ⟨fun hi h => ?up0, fun hi h => ?up1, fun hi h => ?up, fun hi h3 h4 => ?down, fun hi h => ?down3, fun hi h => ?down4⟩,
    fun s hu hd hr => ?discipline, fun s hn => ?trim, fun s hu he hs => ?trimTask, fun s hu ht => done_live hu (if_pos ht),
    fun s hn hm => ?cal, fun s hu he hs hm => ?calTask, fun s hu hc => ⟨fun hg => ?calDone, fun hg => ?calNoRef⟩,
    fun n el s hu h0 h2 hl hh hr => ?lxoGood, fun el s hu h => ?timeout, fun s hu hb ha hp => ?restore,
    fun n el s hu => ⟨done_inReset hu rfl, done_inReset hu rfl, done_inReset hu rfl⟩,
    fun s t => ⟨rfl, rfl, rfl, State.emberOnly_failCount s t⟩,
    fun s hu => ⟨fun h => done_live hu (State.fecRampStep_held h), fun h => ?noDiscipline, fun h => done_live hu (if_neg (off h)), fun h => ?noCal⟩,
    fun s hn hm => ?calLine, fun s hu he hs hm => ?calLineTask, fun s hu => ⟨fun h hl => ?lineDone, fun h hl => ?lineNoRef, fun h => ?zeroNoRef⟩,
    fun n el s hu => ⟨fun h => done_always hu (State.lxoWindow_absent h), fun h0 hl hh h => ?lxoSettled, fun h0 h => ⟨fun h3 hb => ?lxoFails, fun h3 => ?lxoFirstBad⟩,
      fun h => done_always hu (if_pos h), fun h => done_always hu (State.lxoRestore_none h)⟩⟩
  case up0 =>
    exact done_live hu ((State.fecRampStep_runs hd hg).trans ((if_neg (off hi)).trans (State.fecUp_at0 (s := s.fecStepBegun) h)))
  case up1 =>
    exact done_live hu ((State.fecRampStep_runs hd hg).trans ((if_neg (off hi)).trans (State.fecUp_at1 (s := s.fecStepBegun) h)))
  case up =>
    exact done_live hu ((State.fecRampStep_runs hd hg).trans ((if_neg (off hi)).trans (State.fecUp_above (s := s.fecStepBegun) h)))
  case down =>
    exact done_live hu ((State.fecRampStep_runs hd hg).trans ((if_pos hi).trans (State.fecDown_else (s := s.fecStepBegun) h3 h4)))
  case down3 =>
    exact done_live hu ((State.fecRampStep_runs hd hg).trans ((if_pos hi).trans (State.fecDown_at3 (s := s.fecStepBegun) h)))
  case down4 =>
    exact done_live hu ((State.fecRampStep_runs hd hg).trans ((if_pos hi).trans (State.fecDown_at4 (s := s.fecStepBegun) h)))
  case discipline => exact done_live hu ((if_neg hd).trans (State.trimHfrc_reached hr))
  case noDiscipline =>
    refine done_live hu ?_
    split
    · rfl
    next hd => exact State.trimHfrc_held (h.resolve_left hd)
  case trim => exact done_write hn ((State.regWrite_CLK_CMD _ _).trans (State.clkCommand_hfrcTrim _))
  case trimTask => exact done_task hu (State.routerTask_page (n := 15) he hs rfl rfl (taskRole_ne rfl))
  case cal =>
    exact done_write hn ((State.regWrite_CLK_CMD _ _).trans ((State.clkCommand_lfrcCal _).trans (State.startLfrcCal_xo hm)))
  case calLine =>
    exact done_write hn ((State.regWrite_CLK_CMD _ _).trans ((State.clkCommand_lfrcCal _).trans (State.startLfrcCal_noXo hm)))
  case calTask =>
    exact done_task hu ((State.routerTask_page (n := 12) he hs rfl rfl (taskRole_ne rfl)).trans (State.startLfrcCal_xo hm))
  case calLineTask =>
    exact done_task hu ((State.routerTask_page (n := 12) he hs rfl rfl (taskRole_ne rfl)).trans (State.startLfrcCal_noXo hm))
  case calDone => exact done_live hu (State.lfrcCalDone_of (ok := true) hc (by rw [hg]; rfl))
  case calNoRef => exact done_live hu (State.lfrcCalDone_of (ok := false) hc (by rw [hg]; rfl))
  case lineDone => exact done_live hu (State.lfrcCalDone_of (ok := true) h (by rw [hl]; rfl))
  case lineNoRef => exact done_live hu (State.lfrcCalDone_of (ok := false) h (by rw [hl]; rfl))
  case zeroNoRef => exact done_live hu (State.lfrcCalDone_of (ok := false) h rfl)
  case noCal =>
    refine done_live hu ?_
    rw [State.lfrcCalDone, h]
  case lxoGood =>
    refine done_always hu ((State.lxoWindow_in h0 ⟨hl, hh⟩).trans (if_pos ?_))
    rw [Bool.and_eq_true, decide_eq_true_eq, decide_eq_true_eq]
    exact ⟨h2, Nat.succ_le_succ hr⟩
  case lxoSettled =>
    refine done_always hu ((State.lxoWindow_in h0 ⟨hl, hh⟩).trans (if_neg ?_))
    rw [Bool.and_eq_true, decide_eq_true_eq, decide_eq_true_eq]
    rintro ⟨other, long⟩
    exact h.elim other fun h => Nat.not_lt.mpr (Nat.le_of_succ_le_succ long) h
  case lxoFails =>
    refine done_always hu ((State.lxoWindow_out h0 h).trans (if_pos ?_))
    rw [Bool.and_eq_true, decide_eq_true_eq, decide_eq_true_eq]
    exact ⟨h3, Nat.succ_le_succ hb⟩
  case lxoFirstBad =>
    refine done_always hu ((State.lxoWindow_out h0 h).trans (if_neg ?_))
    rw [Bool.and_eq_true, decide_eq_true_eq, decide_eq_true_eq]
    rintro ⟨other, second⟩
    obtain h3 | h3 := h3
    · exact other h3
    · rw [h3] at second
      exact absurd second (by decide)
  case timeout =>
    refine done_always hu (if_neg ?_)
    rintro (absent | failed)
    · rw [absent] at h
      exact absurd h (by decide)
    · rw [failed] at h
      exact absurd h (by decide)
  case restore => exact done_always hu (if_pos (by rw [hb, ha, hp]; rfl))

end Sys2Proof.Machine
end

section
/-! PROOFS. The event router (R257 to R275). -/

namespace Sys2Proof.Machine

/-! ### Router tasks (R265 to R267) -/

/-- A router task's command runs its task; QMX_SCRUB does more where it is honoured. -/
theorem exec_of_taskOf {c : Instr} {n : Nat} (s : State) (h : Safety.taskOf c = some n) :
    exec c s = done (s.live fun s => s.routerTask n) ∨ ∃ ecc, c = .qmxScrub ecc ∧ n = 35 := by
  unfold Safety.taskOf at h
  split at h <;> cases h
  case h_21 ecc => exact .inr ⟨ecc, rfl, rfl⟩
  all_goals exact .inl rfl

/-- A refused task, or one of the other role: nothing but the refusal is counted. -/
theorem exec_of_untaken {c : Instr} {n : Nat} {s t : State} (h : Safety.taskOf c = some n) (hu : s.up = true)
    (hn : taskRole n = some (!s.hub) ∨ s.taskRefused n = true) (ht : s.routerTask n = t) : exec c s = .next t.finish := by
  obtain run | ⟨ecc, rfl, rfl⟩ := exec_of_taskOf s h
  · exact run.trans (done_live hu ht)
  · obtain role | refused := hn
    · exact absurd role (taskRole_ne rfl)
    · refine done_live hu ?_
      rw [refused]
      exact ht

theorem State.taskRefused_of_page {s : State} {n p : Nat} (hp : taskTarget n = some p) (h : s.enabled p = false ∨ s.safe p = true) :
    s.taskRefused n = true := by
  unfold State.taskRefused
  rw [hp]
  dsimp only
  obtain h | h := h
  · rw [h]
    rfl
  · rw [h, Bool.or_true, Bool.true_or]

theorem State.taskRefused_of_not_held {s : State} {n : Nat} {r : Resource} {x : Bool} (hh : taskHonour n = .running r x)
    (h : s.holds r x = false) : s.taskRefused n = true := by
  unfold State.taskRefused
  rw [hh]
  exact (congrArg (fun b => _ || !b) h).trans (Bool.or_true _)

theorem State.taskRefused_of_not_waiting {s : State} {n k : Nat} (hh : taskHonour n = .kind k) (h : s.kindWaiting k = false) :
    s.taskRefused n = true := by
  unfold State.taskRefused
  rw [hh]
  exact (congrArg (fun b => _ || !b) h).trans (Bool.or_true _)

/-! ### Groups (R261, R263) -/

/-- A fold whose steps act for one element alone. -/
theorem State.forEach_only {α : Type} {f : State → α → State} {l : List α} {a : α} (ha : a ∈ l) (hl : l.Nodup)
    (hf : ∀ t, ∀ x ∈ l, x ≠ a → f t x = t) (s : State) : s.forEach l f = f s a := by
  have rest (l : List α) (hn : a ∉ l) (hf : ∀ t, ∀ x ∈ l, x ≠ a → f t x = t) (s : State) : s.forEach l f = s := by
    induction l generalizing s with
    | nil => rfl
    | cons x l ih =>
      rw [List.mem_cons, not_or] at hn
      have still : f s x = s := hf s x List.mem_cons_self (Ne.symm hn.1)
      exact (congrArg (State.forEach · l f) still).trans (ih hn.2 (fun t y hy => hf t y (List.mem_cons_of_mem _ hy)) s)
  induction l generalizing s with
  | nil => cases ha
  | cons x l ih =>
    obtain ⟨hx, hl⟩ := List.nodup_cons.mp hl
    have tail (t : State) (y) (hy : y ∈ l) := hf t y (List.mem_cons_of_mem _ hy)
    by_cases e : x = a
    · subst e
      exact rest l hx tail (f s x)
    · have still : f s x = s := hf s x List.mem_cons_self e
      exact (congrArg (State.forEach · l f) still).trans (ih (List.mem_of_ne_of_mem (Ne.symm e) ha) hl tail s)

/-- A group command's step on group `g`. -/
def State.groupStep (s : State) (on : Bool) (g : Nat) : State :=
  if s.bit (.EVR_GRP_LOCK g) then s.lockViol 5 Adr.EVR_GRPCMD else s.groupAction g on

theorem State.regWrite_groupEnable (s : State) (w : BitVec 8) :
    s.regWrite Adr.EVR_GRPCMD (Fld.EVR_GRPCMD_ENABLE.into 0 w.toNat) = s.groupCommand w.toNat 0 := by
  have enable : Fld.EVR_GRPCMD_ENABLE.of (Fld.EVR_GRPCMD_ENABLE.into 0 w.toNat) = w.toNat :=
    (Fld.of_into _ _ _ (by decide)).trans (Nat.mod_eq_of_lt w.isLt)
  have disable : Fld.EVR_GRPCMD_DISABLE.of (Fld.EVR_GRPCMD_ENABLE.into 0 w.toNat) = 0 :=
    Fld.of_into_apart _ _ 0 _ (by decide)
  rw [State.regWrite_EVR_GRPCMD, enable, disable]

theorem State.regWrite_groupDisable (s : State) (w : BitVec 8) :
    s.regWrite Adr.EVR_GRPCMD (Fld.EVR_GRPCMD_DISABLE.into 0 w.toNat) = s.groupCommand 0 w.toNat := by
  have disable : Fld.EVR_GRPCMD_DISABLE.of (Fld.EVR_GRPCMD_DISABLE.into 0 w.toNat) = w.toNat :=
    (Fld.of_into _ _ _ (by decide)).trans (Nat.mod_eq_of_lt w.isLt)
  have enable : Fld.EVR_GRPCMD_ENABLE.of (Fld.EVR_GRPCMD_DISABLE.into 0 w.toNat) = 0 :=
    Fld.of_into_apart _ _ 0 _ (by decide)
  rw [State.regWrite_EVR_GRPCMD, enable, disable]

/-- Bit `g` of a word of eight group bits. -/
theorem groupBit (w : BitVec 8) (g : Nat) : (w.toNat / 2 ^ g % 2 == 1) = w.getLsbD g :=
  (Nat.testBit_eq_decide_div_mod_eq).symm

theorem noGroupBit (g : Nat) : (0 / 2 ^ g % 2 == 1) = false := by
  rw [Nat.zero_div]
  rfl

section
variable {s : State} {w : BitVec 8}

/-- Under the page lock a command that names a group is refused, one that names none does nothing (R264). -/
theorem State.groupCommand_locked (hl : s.locked 5 = true) {e d : Nat} : s.groupCommand e d =
    if e % 256 = 0 ∧ d % 256 = 0 then s else s.lockViol 5 Adr.EVR_GRPCMD := if_pos hl

variable (hl : s.locked 5 = false)
include hl

theorem State.groupCommand_enable : s.groupCommand w.toNat 0 =
    s.forEach groups fun s g => if w.getLsbD g then s.groupStep true g else s := by
  refine (if_neg (hl ▸ Bool.false_ne_true)).trans ?_
  refine congrArg (s.forEach groups) (funext fun t => funext fun g => ?_)
  dsimp only
  rw [groupBit, noGroupBit]
  rfl

theorem State.groupCommand_disable : s.groupCommand 0 w.toNat =
    s.forEach groups fun s g => if w.getLsbD g then s.groupStep false g else s := by
  refine (if_neg (hl ▸ Bool.false_ne_true)).trans ?_
  refine congrArg (s.forEach groups) (funext fun t => funext fun g => ?_)
  dsimp only
  rw [groupBit, noGroupBit, Bool.or_false]
  split
  · next h => rw [h]; rfl
  · rfl

end

/-- A command that names one group without a lock acts on it alone. -/
theorem State.forEach_oneGroup (s : State) (on : Bool) (g : Fin 8) (hk : s.bit (.EVR_GRP_LOCK g) = false) :
    (s.forEach groups fun s k => if (BitVec.ofNat 8 (2 ^ g.val)).getLsbD k then s.groupStep on k else s) = s.groupAction g on := by
  have bit : ∀ g : Fin 8, ∀ k ∈ groups, (BitVec.ofNat 8 (2 ^ g.val)).getLsbD k = decide (k = g.val) := by decide
  have mem : ∀ g : Fin 8, g.val ∈ groups := by decide
  refine (State.forEach_only (mem g) (by decide) (fun t k hk hne => ?_) s).trans ?_
  · rw [bit g k hk, decide_eq_false hne]
    rfl
  · rw [bit g g (mem g), decide_eq_true rfl]
    exact if_neg (hk ▸ Bool.false_ne_true)

/-! ### Words under a lock of their own (R260, R263) -/

section
variable {s : State} {a : Nat} {held : Bool} {keep w : Word}

theorem State.lockedWrite_free (hh : held = false) (hl : s.locked 5 = false) :
    s.lockedWrite a held keep w = s.wr a (w ||| (s.rd a &&& 0x80000000)) :=
  if_neg (by rw [hh, hl]; exact Bool.false_ne_true)

theorem State.lockedWrite_refused (h : s.locked 5 = true ∨ held = true)
    (hc : (s.rd a ^^^ (w ||| (s.rd a &&& 0x80000000))) &&& keep ≠ 0) : s.lockedWrite a held keep w = s.lockViol 5 a := by
  refine if_pos ?_
  rw [Bool.and_eq_true, Bool.or_eq_true, decide_eq_true_eq]
  exact ⟨h.symm, hc⟩

theorem State.lockedWrite_same (hc : (s.rd a ^^^ (w ||| (s.rd a &&& 0x80000000))) &&& keep = 0) :
    s.lockedWrite a held keep w = s.wr a (w ||| (s.rd a &&& 0x80000000)) := by
  refine if_neg ?_
  rw [Bool.and_eq_true, decide_eq_true_eq]
  exact fun h => h.2 hc

end

/-! ### Software fire (R270) -/

section
variable {s : State} {w : Word}

theorem wordMod (w : Word) : w.toNat % 2 ^ 32 = w.toNat := Nat.mod_eq_of_lt w.isLt

theorem State.softwareFire_none (h : w.toNat = 0) : s.softwareFire w.toNat = s := if_pos ((wordMod w).trans h)

theorem State.softwareFire_off (h : w.toNat ≠ 0) (hr : s.routerOn = false) : s.softwareFire w.toNat = s.raise Ev.EVR_SW :=
  (if_neg (by rw [wordMod]; exact h)).trans (congrArg (State.raise · Ev.EVR_SW) (if_neg (hr ▸ Bool.false_ne_true)))

theorem State.softwareFire_on (h : w.toNat ≠ 0) (hr : s.routerOn = true) : s.softwareFire w.toNat =
    (s.forEach (channels.filter fun i => w.getLsbD i && s.bit (.EVR_CH_EN i)) State.fireChannel).raise Ev.EVR_SW := by
  have bit (i : Nat) : (w.toNat / 2 ^ i % 2 == 1) = w.getLsbD i := (Nat.testBit_eq_decide_div_mod_eq).symm
  refine (if_neg (by rw [wordMod]; exact h)).trans (congrArg (State.raise · Ev.EVR_SW) ((if_pos hr).trans ?_))
  rw [show (fun i => w.toNat / 2 ^ i % 2 == 1 && s.bit (.EVR_CH_EN i)) = fun i => w.getLsbD i && s.bit (.EVR_CH_EN i) from
    funext fun i => congrArg (· && _) (bit i)]

end

/-- The word that names channel `n` alone. -/
theorem oneChannel : ∀ n : Fin 32, (BitVec.ofNat 32 (2 ^ n.val)).toNat ≠ 0 ∧
    channels.filter (fun i => (BitVec.ofNat 32 (2 ^ n.val)).getLsbD i) = [n.val] := by decide +kernel

/-- The one channel that a word names fires where its EN is 1. -/
theorem filter_oneChannel (n : Fin 32) {en : Nat → Bool} (h : en n = true) :
    channels.filter (fun i => (BitVec.ofNat 32 (2 ^ n.val)).getLsbD i && en i) = [n.val] := by
  rw [show (fun i => (BitVec.ofNat 32 (2 ^ n.val)).getLsbD i && en i) = fun i => en i && (BitVec.ofNat 32 (2 ^ n.val)).getLsbD i from
    funext fun i => Bool.and_comm _ _]
  rw [← List.filter_filter, (oneChannel n).2, List.filter_cons_of_pos h, List.filter_nil]

/-- Settles O18, command by command. -/
theorem routerCommands : Obligations.RouterCommands := by
  have off {b : Bool} (h : b = false) : ¬ b = true := by rw [h]; exact Bool.false_ne_true
  refine ⟨fun e r s hu ho hr => ?occurrence, fun g s hn hl hk => ⟨?enableOne, ?disableOne⟩, fun n w s hn hl hk => ?channel,
    fun n w s hn hl hk => ?source, fun n s hn hr he => ?fireOne, fun s hu => ?nop, fun s hu he hs => ⟨?irqA, ?irqB⟩,
    fun c n s hc hu => ⟨fun hr => ?role, fun hr => ⟨fun p hp h => ?page, fun r x hh h => ?running, fun k hh h => ?kind⟩⟩,
    fun w s hn => ⟨fun hl => ⟨fun hw => ⟨?enableNone, ?disableNone⟩, fun hw => ⟨?enableLocked, ?disableLocked⟩⟩, fun hl => ⟨?enableAny, ?disableAny⟩⟩,
    fun n w s hn h => ⟨fun hc => ?channelRefused, fun hc => ?channelSame⟩, fun n w s hn h => ⟨fun hc => ?sourceRefused, fun hc => ?sourceSame⟩,
    fun w s hn => ⟨fun hw => ?fireNone, fun hw hr => ?fireOff, fun hw hr => ?fireAny⟩, fun s hu => ⟨fun ho => ?noOccurrence, fun e r ho hr => ?lost⟩⟩
  case occurrence =>
    refine done_live hu ?_
    rw [State.nextOccurrence, ho]
    exact if_pos hr
  case noOccurrence =>
    refine done_live hu ?_
    rw [State.nextOccurrence, ho]
  case lost =>
    refine done_live hu ?_
    rw [State.nextOccurrence, ho]
    exact if_neg (off hr)
  case enableOne =>
    exact done_native hn ((State.regWrite_groupEnable _ _).trans ((State.groupCommand_enable hl).trans (State.forEach_oneGroup _ true g hk)))
  case disableOne =>
    exact done_native hn ((State.regWrite_groupDisable _ _).trans ((State.groupCommand_disable hl).trans (State.forEach_oneGroup _ false g hk)))
  case enableAny => exact done_native hn ((State.regWrite_groupEnable _ w).trans (State.groupCommand_enable hl))
  case disableAny => exact done_native hn ((State.regWrite_groupDisable _ w).trans (State.groupCommand_disable hl))
  case enableNone =>
    exact done_native hn ((State.regWrite_groupEnable _ w).trans ((State.groupCommand_locked hl).trans (if_pos ⟨by rw [hw], rfl⟩)))
  case disableNone =>
    exact done_native hn ((State.regWrite_groupDisable _ w).trans ((State.groupCommand_locked hl).trans (if_pos ⟨rfl, by rw [hw]⟩)))
  case enableLocked =>
    have named : w.toNat % 256 ≠ 0 := (Nat.mod_eq_of_lt w.isLt).trans_ne hw
    exact done_native hn ((State.regWrite_groupEnable _ w).trans ((State.groupCommand_locked hl).trans (if_neg fun h => named h.1)))
  case disableLocked =>
    have named : w.toNat % 256 ≠ 0 := (Nat.mod_eq_of_lt w.isLt).trans_ne hw
    exact done_native hn ((State.regWrite_groupDisable _ w).trans ((State.groupCommand_locked hl).trans (if_neg fun h => named h.2)))
  case channel => exact done_native hn ((State.regWrite_EVR_CH _ n w).trans (State.lockedWrite_free hk hl))
  case channelRefused => exact done_native hn ((State.regWrite_EVR_CH _ n w).trans (State.lockedWrite_refused h hc))
  case channelSame => exact done_native hn ((State.regWrite_EVR_CH _ n w).trans (State.lockedWrite_same hc))
  case source => exact done_native hn ((State.regWrite_EVR_GRP _ n w).trans (State.lockedWrite_free hk hl))
  case sourceRefused => exact done_native hn ((State.regWrite_EVR_GRP _ n w).trans (State.lockedWrite_refused h hc))
  case sourceSame => exact done_native hn ((State.regWrite_EVR_GRP _ n w).trans (State.lockedWrite_same hc))
  case fireOne =>
    refine done_native hn ((State.regWrite_EVR_SWFIRE _ _).trans ((State.softwareFire_on (oneChannel n).1 hr).trans ?_))
    rw [filter_oneChannel n (en := fun i => s.accessed.bit (.EVR_CH_EN i)) he]
    rfl
  case fireNone => exact done_native hn ((State.regWrite_EVR_SWFIRE _ w).trans (State.softwareFire_none hw))
  case fireOff => exact done_native hn ((State.regWrite_EVR_SWFIRE _ w).trans (State.softwareFire_off hw hr))
  case fireAny => exact done_native hn ((State.regWrite_EVR_SWFIRE _ w).trans (State.softwareFire_on hw hr))
  case nop => exact done_live hu (State.routerTask_free (n := 0) rfl rfl rfl)
  case irqA => exact done_live hu (State.routerTask_page (n := 1) he hs rfl rfl (taskRole_ne rfl))
  case irqB => exact done_live hu (State.routerTask_page (n := 2) he hs rfl rfl (taskRole_ne rfl))
  case role => exact exec_of_untaken hc hu (.inl hr) (State.takeTask_role _ n hr)
  case page =>
    have refused := State.taskRefused_of_page hp h
    exact exec_of_untaken hc hu (.inr refused) (State.takeTask_refused _ n hr refused)
  case running =>
    have refused := State.taskRefused_of_not_held hh h
    exact exec_of_untaken hc hu (.inr refused) (State.takeTask_refused _ n hr refused)
  case kind =>
    have refused := State.taskRefused_of_not_waiting hh h
    exact exec_of_untaken hc hu (.inr refused) (State.takeTask_refused _ n hr refused)

end Sys2Proof.Machine
end

section
/-! PROOFS. The calendar's commands (R276 to R291). -/

namespace Sys2Proof.Machine

/-! ### Seconds (R276) -/

section
variable {s : State}

/-- No alignment applies before the boundary. -/
theorem State.toBoundary_direct (h : s.cal.align = none ∨ s.toGo ≤ 2) : s.toBoundary = s.calendarCycles s.toGo := by
  have direct : (s.cal.align.isSome && decide (2 < s.toGo)) = false := by
    obtain h | h := h
    · rw [h]
      rfl
    · rw [decide_eq_false (Nat.not_lt.mpr h), Bool.and_false]
  unfold State.toBoundary
  rw [direct]
  rfl

theorem State.toBoundary_aligns (h : s.cal.align.isSome = true) (hn : 2 < s.toGo) :
    s.toBoundary = (s.calendarCycles 1).calendarCycles (s.calendarCycles 1).toGo := by
  unfold State.toBoundary
  rw [h, decide_eq_true hn]
  rfl

/-- The second's last cycle. -/
theorem State.calendarCycles_last (h : 32767 ≤ s.arrive.cal.sub) : s.calendarCycles 1 = s.arrive.calendarCycle :=
  if_pos (Or.inr h)

end

/-! ### Hour steps (R284) -/

theorem State.regWrite_stepForward (s : State) : s.regWrite Adr.CAL_ADJ (Fld.CAL_ADJ_OP.into 0 1) = s.requestStep true := rfl
theorem State.regWrite_stepBack (s : State) : s.regWrite Adr.CAL_ADJ (Fld.CAL_ADJ_OP.into 0 2) = s.requestStep false := rfl

/-- A step that is refused. -/
def State.stepRefused (s : State) : State :=
  (((s.put .CAL_ERRCODE_FIELD 8).put .CAL_ERRCODE_ALARM 0).put .CAL_ERRCODE_ALM 0).raise Ev.CAL_ERR

section
variable {s : State} {fwd : Bool}

theorem State.requestStep_refused
    (h : s.cal.step.isSome = true ∨ (fwd = false ∧ s.cal.nextSecond.firstDay = true ∧ s.cal.nextSecond.hour = 0)) :
    s.requestStep fwd = s.stepRefused := by
  refine if_pos ?_
  obtain h | ⟨rfl, first, hour⟩ := h
  · rw [h, Bool.true_or]
  · rw [first, hour]
    exact Bool.or_true _

theorem State.requestStep_ok (h : s.cal.step = none)
    (hf : fwd = true ∨ (s.cal.nextSecond.firstDay && s.cal.nextSecond.hour == 0) = false) : s.requestStep fwd =
      State.put { s with cal := { s.cal with step := some fwd } } .CAL_STAT_ADJPEND 1 := by
  refine if_neg ?_
  rw [h, Bool.and_assoc]
  obtain rfl | hf := hf
  · exact Bool.false_ne_true
  · rw [hf, Bool.and_false]
    exact Bool.false_ne_true

end

/-! ### Reads and snapshots (R281) -/

theorem State.regRead_CAL_TIME (s : State) : s.regRead Adr.CAL_TIME [] = s.calTimeRead := rfl

/-! ### Synchronisation (R290, R291) -/

section
variable {s : State}

theorem State.subsecSync_none (h : s.hub = true ∨ s.bit .CAL_SYNCSTAT_VALID = false) :
    s.subsecSync = s.put .CAL_SYNCSTAT_NOMARK 1 := by
  refine if_pos ?_
  obtain h | h := h
  · rw [h]
    rfl
  · rw [h, Bool.not_false, Bool.or_true]

/-- SUB as the held offset makes it, before it wraps. -/
def State.syncedSub (s : State) : Int := (s.cal.sub : Int) + s.getS .CAL_SYNCSTAT_OFS

variable (hh : s.hub = false) (hv : s.bit .CAL_SYNCSTAT_VALID = true)
include hh hv

theorem State.subsecSync_marked : s.subsecSync =
    if 32768 ≤ s.syncedSub then
      if 0 < s.cal.stretch then
        { s.put .CAL_SYNCSTAT_VALID 0 with cal := { s.cal with sub := s.syncedSub.toNat - 32768, stretch := s.cal.stretch - 1 } }
      else (s.put .CAL_SYNCSTAT_VALID 0).secondBoundary (s.syncedSub.toNat - 32768)
    else if s.syncedSub < 0 then
      { s.put .CAL_SYNCSTAT_VALID 0 with cal := { s.cal with sub := (s.syncedSub + 32768).toNat, stretch := s.cal.stretch + 1 } }
    else { s.put .CAL_SYNCSTAT_VALID 0 with cal := { s.cal with sub := s.syncedSub.toNat } } :=
  if_neg (by rw [hh, hv]; exact Bool.false_ne_true)

end

/-- Settles O19, command by command. -/
theorem calendarCommands : Obligations.CalendarCommands := by
  have off {b : Bool} (h : b = false) : ¬ b = true := by rw [h]; exact Bool.false_ne_true
  refine ⟨fun s hu => ⟨fun h => ?direct, fun h hn => ?aligns⟩, fun s hu hs h0 => ?last,
    fun s hu => ⟨done_inReset hu rfl, done_inReset hu rfl⟩, fun s hn hs => ⟨?forward, fun h => ?back⟩, fun s hn => ?read,
    fun s hu he hs => ?snapshot, fun s hu he hs => ⟨fun hh hv h0 h1 => ?within, fun hh hv h => ?longer, fun hh hv h h0 => ?passes, fun h => ?hub, fun h => ?unmarked⟩,
    fun l s hu hl h => ?align, fun s hn => ⟨fun h => ⟨?noForward, ?noBack⟩, fun hd h0 => ?first⟩, fun s hu he hs hh hv h h0 => ?shorter,
    fun s hu h => ?noAlign⟩
  case direct => exact done_always hu (congrArg State.readyDue (State.toBoundary_direct h))
  case aligns => exact done_always hu (congrArg State.readyDue (State.toBoundary_aligns h hn))
  case last =>
    have one : s.toGo = 1 := by rw [State.toGo, hs, h0]
    refine done_always hu (congrArg State.readyDue ((State.toBoundary_direct (.inr ?_)).trans ?_))
    · rw [one]
      decide
    · rw [one]
      exact State.calendarCycles_last (Nat.le_of_eq hs.symm)
  case forward => exact done_native hn ((State.regWrite_stepForward _).trans (State.requestStep_ok hs (.inl rfl)))
  case back => exact done_native hn ((State.regWrite_stepBack _).trans (State.requestStep_ok hs (.inr h)))
  case noForward => exact done_native hn ((State.regWrite_stepForward _).trans (State.requestStep_refused (.inl h)))
  case noBack => exact done_native hn ((State.regWrite_stepBack _).trans (State.requestStep_refused (.inl h)))
  case first => exact done_native hn ((State.regWrite_stepBack _).trans (State.requestStep_refused (.inr ⟨rfl, hd, h0⟩)))
  case read => exact done_native hn (congrArg (fun r : Word × State => { r.2 with hostOut := wordBytes r.1 }) (State.regRead_CAL_TIME _))
  case snapshot => exact done_live hu (State.routerTask_page (n := 32) he hs rfl rfl (taskRole_ne rfl))
  case within =>
    refine done_live hu ((State.routerTask_page (n := 33) he hs rfl rfl (taskRole_ne rfl)).trans ((State.subsecSync_marked (s := s.unlatched 33) hh hv).trans ?_))
    exact (if_neg (Int.not_le.mpr h1)).trans (if_neg (Int.not_lt.mpr h0))
  case longer =>
    refine done_live hu ((State.routerTask_page (n := 33) he hs rfl rfl (taskRole_ne rfl)).trans ((State.subsecSync_marked (s := s.unlatched 33) hh hv).trans ?_))
    exact (if_neg (Int.not_le.mpr (Int.lt_trans h (by decide)))).trans (if_pos h)
  case passes =>
    refine done_live hu ((State.routerTask_page (n := 33) he hs rfl rfl (taskRole_ne rfl)).trans ((State.subsecSync_marked (s := s.unlatched 33) hh hv).trans ?_))
    exact (if_pos h).trans (if_neg (Nat.not_lt.mpr (Nat.le_of_eq h0)))
  case shorter =>
    refine done_live hu ((State.routerTask_page (n := 33) he hs rfl rfl (taskRole_ne rfl)).trans ((State.subsecSync_marked (s := s.unlatched 33) hh hv).trans ?_))
    exact (if_pos h).trans (if_pos h0)
  case hub =>
    exact done_live hu ((State.routerTask_page (n := 33) he hs rfl rfl (taskRole_ne rfl)).trans (State.subsecSync_none (s := s.unlatched 33) (.inl h)))
  case unmarked =>
    exact done_live hu ((State.routerTask_page (n := 33) he hs rfl rfl (taskRole_ne rfl)).trans (State.subsecSync_none (s := s.unlatched 33) (.inr h)))
  case align =>
    refine done_always hu ?_
    rw [State.fullAlign, hl]
    refine if_neg ?_
    rw [State.calSafe, Bool.not_eq_true', Bool.or_eq_false_iff, bne_eq_false_iff_eq, decide_eq_false_iff_not]
    rintro ⟨last, plain⟩
    exact h.elim (· last) plain
  case noAlign =>
    refine done_always hu ?_
    obtain h | ⟨last, plain⟩ := h
    · rw [State.fullAlign, h]
    · unfold State.fullAlign
      split
      · rfl
      · rw [State.calSafe, last, plain]
        rfl

end Sys2Proof.Machine
end

section
/-! PROOFS. Crossings, credits, the packet store and the stall monitor (R37 to R66). -/

namespace Sys2Proof.Machine

/-! ### Handovers (R39) -/

/-- The consumer of crossing `n` acknowledges, or holds its acknowledgement back. -/
theorem State.handover_push (s : State) (n : Fin 8) (acked : Bool) (soft : List Int) :
    s.handover (16 + 2 * n.val) acked soft =
      (s.putXing (16 + 2 * n.val) { s.xing (16 + 2 * n.val) with slow := !acked }).pushHand n acked := by
  fin_cases n <;> rfl

theorem State.handover_host (s : State) (n : Fin 8) (acked : Bool) (soft : List Int) :
    s.handover (17 + 2 * n.val) acked soft =
      (s.putXing (17 + 2 * n.val) { s.xing (17 + 2 * n.val) with slow := !acked }).handHost n acked := by
  fin_cases n <;> rfl

/-! ### Resynchronisation (R49, R51) -/

theorem stagedXings_contains : ∀ n : Fin 32, stagedXings.contains n.val = decide (n.val < 10 ∨ 16 ≤ n.val) := by decide

section
variable {s : State} {n : Fin 32} {far : Bool}

theorem State.tokenSeen_unstaged (h : 10 ≤ n.val ∧ n.val < 16) : s.tokenSeen n far = s.seeToken n far := by
  have unstaged : ¬ stagedXings.contains n.val = true := by
    rw [stagedXings_contains, decide_eq_true_eq]
    omega
  refine (if_neg unstaged).trans ((if_neg (by omega)).trans (if_neg (by omega)))

/-- What the loss of a frame's items brings. -/
def State.losesItems (s t : State) (n : Nat) : State :=
  t.forEach (((s.xing n).unacked.filter fun i => !(t.xing n).unacked.any fun u => u.id == i.id).map (·.frame))
    fun u id => (u.discardRx id).fecSettle u

theorem State.tokenSeen_staged (h : n.val < 10 ∨ 16 ≤ n.val) : s.tokenSeen n far =
    (let t := s.seeToken n far
     let t := if n.val = 3 ∨ n.val = 5 then s.losesItems t n else t
     if n.val = 1 then t.heldLost else t).applyInit n :=
  if_pos (by rw [stagedXings_contains, decide_eq_true_eq]; exact h)

/-- The crossing as the answer finds it: a producer has its whole count again. -/
def State.replied (s : State) (n : Nat) (far : Bool) : Xing :=
  if far == farConsumes n then s.xing n else { s.xing n with debt := 0 }

theorem State.replied_rep (s : State) (n : Nat) (far : Bool) :
    (s.replied n far).repR = (s.xing n).repR ∧ (s.replied n far).repL = (s.xing n).repL := by
  unfold State.replied
  split
  · exact ⟨rfl, rfl⟩
  · exact ⟨rfl, rfl⟩

theorem State.seeReply_eq (s : State) (n : Nat) (far : Bool) : s.seeReply n far =
    if far then
      (if (s.replied n far).repR then (s.setXing n { s.replied n far with repR := false, waitR := false }).closeShakes n else s)
    else if (s.replied n far).repL then (s.setXing n { s.replied n far with repL := false, waitL := false }).closeShakes n
    else s := rfl

theorem State.seeReply_unawaited {n : Nat} (h : (if far then (s.xing n).repR else (s.xing n).repL) = false) : s.seeReply n far = s := by
  rw [State.seeReply_eq, (s.replied_rep n far).1, (s.replied_rep n far).2]
  cases far with
  | true => exact (if_pos rfl).trans (if_neg fun awaited => Bool.false_ne_true (h.symm.trans awaited))
  | false => exact (if_neg Bool.false_ne_true).trans (if_neg fun awaited => Bool.false_ne_true (h.symm.trans awaited))

end

/-! ### Credits (R51) -/

section
variable {s : State} {n : Nat}

theorem State.applyInit_ok (hp : s.bit (.PG_CFGSTAT_PENDING (initPage n)) = true) (hd : s.drainHold (initPage n) = false)
    (hc : s.getTwin (initFld n) ≠ s.get (initFld n)) :
    s.applyInit n = (s.put (initFld n) (s.getTwin (initFld n))).judgeCredit n (s.credit n) :=
  if_pos (by rw [hp, hd, State.initChanging, bne_iff_ne.mpr hc]; rfl)

theorem State.applyInit_none (h : s.bit (.PG_CFGSTAT_PENDING (initPage n)) = false ∨ s.drainHold (initPage n) = true ∨
    s.getTwin (initFld n) = s.get (initFld n)) : s.applyInit n = s := by
  refine if_neg ?_
  rw [Bool.and_eq_true, Bool.and_eq_true, Bool.not_eq_true', State.initChanging, bne_iff_ne]
  rintro ⟨⟨pending, free⟩, changing⟩
  obtain h | h | h := h
  · exact Bool.false_ne_true (h.symm.trans pending)
  · exact Bool.false_ne_true (free.symm.trans h)
  · exact changing h

end

/-! ### The packet store's window (R37, R588) -/

section
variable {s : State} {a : Nat}

theorem State.regRead_store (h4 : a % 4 = 0) (hlo : 0x8000 ≤ a) (hhi : a < 0xE000) (ecc : List (Nat × Bool)) :
    s.regRead a ecc = s.storeRead a ecc :=
  (if_neg (not_not_intro h4)).trans (if_pos (by rw [storeAddr, decide_eq_true hlo, decide_eq_true hhi]; rfl))

theorem State.regRead_unaligned (h4 : a % 4 ≠ 0) (ecc : List (Nat × Bool)) : s.regRead a ecc = (0, s.accErr a false 0) :=
  if_pos h4

/-- A command that reads one word. -/
theorem done_read {t : State} {w : Word} {ecc : List (Nat × Bool)} (hn : s.nativeHost = true)
    (h : s.accessed.regRead a ecc = (w, t)) :
    done (s.native fun s => s.readOut a ecc) = .next (State.lateOver { t with hostOut := wordBytes w }).finish :=
  done_native hn (congrArg (fun r : Word × State => { r.2 with hostOut := wordBytes r.1 }) h)

/-- The SECDED errors that a read of address `a` finds. -/
def cellErrors (a : Nat) (ecc : List (Nat × Bool)) : List (Nat × Bool) := ecc.filter fun e => e.1 == storeCell a

theorem State.storeRead_readable {ecc : List (Nat × Bool)} (h : (cellErrors a ecc).any (·.2) = false) :
    s.storeRead a ecc = (s.memWord a, s.ecc (cellErrors a ecc)) := if_neg (h ▸ Bool.false_ne_true)

theorem State.storeRead_lost {ecc : List (Nat × Bool)} (h : (cellErrors a ecc).any (·.2) = true) :
    s.storeRead a ecc = (BitVec.ofNat 32 (s.ecc (cellErrors a ecc)).fresh.1, (s.ecc (cellErrors a ecc)).fresh.2) := if_pos h

end

/-! ### The stall monitor (R53, R54) -/

section
variable {s : State} {page xing : Nat}

theorem State.stall_none (h : s.get .SYS_STALL_TO_TO = 0 ∨ s.pwr.phase = .ember ∨ s.xingIslandWaits xing = true) :
    s.stall page xing = s := by
  refine if_pos ?_
  rw [Bool.or_eq_true, Bool.or_eq_true, decide_eq_true_eq, decide_eq_true_eq, or_assoc]
  exact h

/-- A stall recorded (R54). -/
def State.stallAt (s : State) (page xing : Nat) : State :=
  ((s.put .QMX_STALLINFO_VALID 1).put .QMX_STALLINFO_PAGE page).put .QMX_STALLINFO_XING xing

theorem State.stall_recorded (ht : s.get .SYS_STALL_TO_TO ≠ 0) (hp : s.pwr.phase ≠ .ember) (hx : s.xingIslandWaits xing = false) :
    s.stall page xing = { (s.stallAt page xing).raise Ev.SYS_STALL with
      stallReset := (s.stallAt page xing).stallReset || (s.stallAt page xing).bit .SYS_STALL_TO_RESET } := by
  refine if_neg ?_
  rw [Bool.or_eq_true, Bool.or_eq_true, decide_eq_true_eq, decide_eq_true_eq, hx]
  rintro ((h | h) | h)
  · exact ht h
  · exact hp h
  · exact Bool.false_ne_true h

theorem State.stallTimeout_open {h : Nat × Nat × Nat} (hf : (s.stuck.find? fun h => h.1 == page && h.2.1 == xing) = some h) :
    s.stallTimeout page xing = (s.advanceTo (h.2.2 + 1000 * s.get .SYS_STALL_TO_TO)).stall page xing := by
  rw [State.stallTimeout, hf]

theorem State.stallTimeout_closed (hf : (s.stuck.find? fun h => h.1 == page && h.2.1 == xing) = none) :
    s.stallTimeout page xing = if xing = 0x3F then s.stall page xing else s := by
  rw [State.stallTimeout, hf]

end

theorem State.cntClear_minfree (s : State) : s.cntClear Fld.QMX_CNT_CLR_MINFREE.one = s.clearMinfree := rfl
theorem State.cntClear_xstat (s : State) : s.cntClear Fld.QMX_CNT_CLR_XSTAT.one = s.clearXstat := rfl
theorem State.cntClear_ecc (s : State) : s.cntClear Fld.QMX_CNT_CLR_ECC.one = s.clearEcc := rfl
theorem State.cntClear_stall (s : State) : s.cntClear Fld.QMX_CNT_CLR_STALL.one = s.clearStall := rfl
theorem State.cntClear_drop (s : State) : s.cntClear Fld.QMX_CNT_CLR_DROP.one = s.clearDrop := rfl
theorem State.cntClear_xlost (s : State) : s.cntClear Fld.QMX_CNT_CLR_XLOST.one = s.clearXlost := rfl

/-- Settles O20, command by command. -/
theorem fabricCommands : Obligations.FabricCommands := by
  have off {b : Bool} (h : b = false) : ¬ b = true := by rw [h]; exact Bool.false_ne_true
  refine ⟨fun acked ecc soft s hu => ?handover, fun n acked ecc soft s hu => ⟨?push, ?host⟩,
    fun n far s hu => ⟨fun h h' => ?unstaged, fun h h1 h3 h5 => ?staged, fun h => ?held, fun h => ?loses⟩,
    fun n far s hu => ⟨fun hf hr => ?replyFar, fun hf hr => ?replyNear⟩, fun n s hu hn hi hp hd hc => ?credit,
    fun a w s hn h4 hlo hhi hq => ?store, fun a s hn h4 hlo hhi => ?load, fun ecc s hn => ⟨fun hc => ?pop, fun hc => ?popReleased⟩,
    fun s hu he hs => ?flush, fun ecc s hu he hs => ?scrub, fun s hn => ⟨?minfree, ?xstat, ?ecc, ?stall, ?drop, ?xlost⟩,
    fun page s hu ht hp hs => ?probe, fun page xing h s hu hf => done_live hu (State.stallTimeout_open hf), fun s hu h => done_live hu (if_pos h),
    fun s hu he hs => ?check, fun n far s hu h => ?noReply, fun n acked soft s hu h => ?noXing, fun n s hu h => ?noCredit,
    fun a w s hn => ⟨fun h4 hlo hhi hq => ?storeRefused, ?storeAny⟩,
    fun a ecc s hn => ⟨fun h4 hlo hhi he => ?loadFixed, fun h4 hlo hhi he => ?loadLost, fun h4 => ?loadUnaligned⟩,
    fun page xing s hu hf => ⟨fun hx => ?noHandshake, fun hx => ?stallNow⟩,
    fun page xing s => ⟨State.stall_none, State.stall_recorded⟩, fun s hu h => done_live hu (if_neg (off h))⟩
  case handover =>
    exact ⟨done_live hu rfl, done_live hu rfl, done_live hu rfl, done_live hu rfl, done_live hu rfl, done_live hu rfl, done_live hu rfl,
      done_live hu rfl, done_live hu rfl, done_live hu rfl, done_live hu rfl, done_live hu rfl, done_live hu rfl⟩
  case push => exact done_live hu (State.handover_push _ n acked soft)
  case host => exact done_live hu (State.handover_host _ n acked soft)
  case noXing =>
    obtain rfl | rfl | rfl : n = 13 ∨ n = 14 ∨ n = 15 := h.imp Fin.ext (Or.imp Fin.ext Fin.ext)
    · exact done_live hu rfl
    · exact done_live hu rfl
    · exact done_live hu rfl
  case unstaged => exact done_live hu (State.tokenSeen_unstaged ⟨h, h'⟩)
  case staged =>
    refine done_live hu ((State.tokenSeen_staged h).trans (congrArg (State.applyInit · n) ((if_neg h1).trans (if_neg ?_))))
    exact fun h => h.elim h3 h5
  case held =>
    refine done_live hu ((State.tokenSeen_staged (.inl (by omega))).trans (congrArg (State.applyInit · n) ((if_pos h).trans ?_)))
    exact congrArg State.heldLost (if_neg (by omega))
  case loses =>
    refine done_live hu ((State.tokenSeen_staged (.inl (by omega))).trans (congrArg (State.applyInit · n) ((if_neg (by omega)).trans ?_)))
    exact if_pos h
  case replyFar =>
    subst hf
    have seen : s.seeReply n true = _ := (State.seeReply_eq s n true).trans ((if_pos rfl).trans (if_pos hr))
    exact done_live hu (congrArg (fun t : State => if n.val = 8 then t.feedEncoder else t) seen)
  case replyNear =>
    subst hf
    have seen : s.seeReply n false = _ := (State.seeReply_eq s n false).trans ((if_neg Bool.false_ne_true).trans (if_pos hr))
    exact done_live hu (congrArg (fun t : State => if n.val = 8 then t.feedEncoder else t) seen)
  case noReply =>
    exact done_live hu (congrArg (fun t : State => if n.val = 8 then t.feedEncoder else t) (State.seeReply_unawaited h))
  case credit =>
    refine done_live hu ((if_pos ?_).trans (State.applyInit_ok hp hd hc))
    rw [stagedXings_contains, decide_eq_true hn, hi]
    rfl
  case noCredit =>
    refine done_live hu ?_
    split
    next ready =>
      rw [Bool.and_eq_true, stagedXings_contains, decide_eq_true_eq] at ready
      obtain h | h | h := h
      · omega
      · exact absurd ready.2 (off h)
      · exact State.applyInit_none h
    · rfl
  case store =>
    exact done_native hn ((State.regWrite_store _ _ _ h4 hlo hhi).trans (if_neg (off hq)))
  case storeRefused => exact done_native hn ((State.regWrite_store _ _ _ h4 hlo hhi).trans (if_pos hq))
  case storeAny => exact done_native hn rfl
  case load => exact done_read hn (State.regRead_store h4 hlo hhi _)
  case loadFixed => exact done_read hn ((State.regRead_store h4 hlo hhi _).trans (State.storeRead_readable he))
  case loadLost => exact done_read hn ((State.regRead_store h4 hlo hhi _).trans (State.storeRead_lost he))
  case loadUnaligned => exact done_read hn (State.regRead_unaligned h4 _)
  case pop =>
    refine done_native hn ?_
    unfold State.popOut
    rw [hc]
    rfl
  case popReleased =>
    refine done_native hn ?_
    unfold State.popOut
    rw [hc]
    rfl
  case flush => exact done_live hu (State.routerTask_page (n := 34) he hs rfl rfl (taskRole_ne rfl))
  case scrub =>
    have honoured : s.taskRefused 35 = false := congrArg₂ (fun a b => (!a || b) || false) he hs
    refine done_live hu ?_
    rw [honoured]
    exact congrArg (State.scrub · ecc) (State.routerTask_page (n := 35) he hs rfl rfl (taskRole_ne rfl))
  case minfree => exact done_native hn ((State.regWrite_QMX_CNT_CLR _ _).trans (State.cntClear_minfree _))
  case xstat => exact done_native hn ((State.regWrite_QMX_CNT_CLR _ _).trans (State.cntClear_xstat _))
  case ecc => exact done_native hn ((State.regWrite_QMX_CNT_CLR _ _).trans (State.cntClear_ecc _))
  case stall => exact done_native hn ((State.regWrite_QMX_CNT_CLR _ _).trans (State.cntClear_stall _))
  case drop => exact done_native hn ((State.regWrite_QMX_CNT_CLR _ _).trans (State.cntClear_drop _))
  case xlost => exact done_native hn ((State.regWrite_QMX_CNT_CLR _ _).trans (State.cntClear_xlost _))
  case probe =>
    refine done_live hu ((State.stallTimeout_closed ?_).trans ((if_pos rfl).trans (State.stall_recorded ht hp rfl)))
    rw [hs]
    rfl
  case check => exact done_live hu (State.routerTask_page (n := 3) he hs rfl rfl (taskRole_ne rfl))
  case noHandshake => exact done_live hu ((State.stallTimeout_closed hf).trans (if_neg hx))
  case stallNow => exact done_live hu ((State.stallTimeout_closed hf).trans (if_pos hx))

end Sys2Proof.Machine
end

section
/-! PROOFS. The link engines' commands (R303 to R325). -/

namespace Sys2Proof.Machine

/-! ### Opening a transaction (R305, R306) -/

/-- Engine `n` may open a transaction: it takes work, its PHY is enabled, and no hold stands. -/
def State.opens (s : State) (n : Nat) : Bool :=
  s.takesWork (24 + n) && (s.phyOf n != Phy.NONE && (phyPages (s.phyOf n)).all s.enabled) && !s.bit (.LE_STAT_HELD n)

section
variable {s : State} {n i : Nat} {t : Item} {c : Nat}

theorem State.opens_of (ht : s.takesWork (24 + n) = true) (hp : s.phyOf n ≠ Phy.NONE)
    (he : (phyPages (s.phyOf n)).all s.enabled = true) (hh : s.bit (.LE_STAT_HELD n) = false) : s.opens n = true := by
  rw [State.opens, ht, bne_iff_ne.mpr hp, he, hh]
  rfl

theorem State.openOne_none (h : s.takesWork (24 + n) = false ∨ s.phyOf n = Phy.NONE ∨ (phyPages (s.phyOf n)).all s.enabled = false ∨
    s.bit (.LE_STAT_HELD n) = true ∨ s.freePlace n = none ∨ s.eligible n = none) : s.openOne n = s := by
  unfold State.openOne
  dsimp only
  split
  next opens =>
    rw [Bool.and_eq_true, Bool.and_eq_true, Bool.and_eq_true, bne_iff_ne, Bool.not_eq_true'] at opens
    obtain ⟨⟨works, bound, pages⟩, free⟩ := opens
    obtain h | h | h | h | h | h := h
    · exact absurd (h.symm.trans works) Bool.false_ne_true
    · exact absurd h bound
    · exact absurd (h.symm.trans pages) Bool.false_ne_true
    · exact absurd (free.symm.trans h) Bool.false_ne_true
    · rw [h]
    · rw [h]
      cases s.freePlace n <;> rfl
  · rfl

variable (ho : s.opens n = true) (hi : s.freePlace n = some i) (ht : s.eligible n = some t)
include ho hi ht

theorem State.openOne_nfc (hp : s.phyOf n = Phy.NFC) (hr : nfcRefusal t = none) : s.openOne n = s.openPlace n i t := by
  refine (if_pos ho).trans ?_
  rw [hi, ht]
  refine (if_pos hp).trans ?_
  rw [hr]

theorem State.openOne_nfcRefused (hp : s.phyOf n = Phy.NFC) (hr : nfcRefusal t = some c) : s.openOne n = s.refuseItem n i t c := by
  refine (if_pos ho).trans ?_
  rw [hi, ht]
  refine (if_pos hp).trans ?_
  rw [hr]

theorem State.openOne_other (hp : s.phyOf n ≠ Phy.NFC) (hr : s.openRefusal n t = none) : s.openOne n = s.openPlace n i t := by
  refine (if_pos ho).trans ?_
  rw [hi, ht]
  refine (if_neg hp).trans ?_
  rw [hr]

/-- A refused push. -/
theorem State.openOne_refused (hp : s.phyOf n ≠ Phy.NFC) (hr : s.openRefusal n t = some (c, false)) :
    s.openOne n = s.refuseItem n i t c := by
  refine (if_pos ho).trans ?_
  rw [hi, ht]
  refine (if_neg hp).trans ?_
  rw [hr]
  exact congrArg (State.refuseItem · n i t c) (if_neg Bool.false_ne_true)

/-- An exhausted counter is SEC's error as well. -/
theorem State.openOne_exhausted (hp : s.phyOf n ≠ Phy.NFC) (hr : s.openRefusal n t = some (c, true)) : s.openOne n =
    (s.secErr SecCause.EXHAUSTED (pushDst t.desc) (s.txKeySlot n (pushBcast t.desc) (pushDst t.desc))).refuseItem n i t c := by
  refine (if_pos ho).trans ?_
  rw [hi, ht]
  refine (if_neg hp).trans ?_
  rw [hr]
  exact congrArg (State.refuseItem · n i t c) (if_pos rfl)

end

/-! ### Transmission, timeouts and delays (R308, R309) -/

section
variable {s : State} {n i : Nat}

theorem State.linkTransmit_nfc (h : s.phyOf n = Phy.NFC) : s.linkTransmit n = (s.nfcTake n).nfpNext := if_pos h

theorem State.linkTransmit_line (h : s.phyOf n = Phy.LINE) : s.linkTransmit n = (s.lineTake n).lineNext :=
  (if_neg (by rw [h]; decide)).trans (if_pos h)

theorem State.linkTransmit_radio (h : s.phyOf n = Phy.RADIO) : s.linkTransmit n = s.radTake n :=
  (if_neg (by rw [h]; decide)).trans ((if_neg (by rw [h]; decide)).trans (if_pos h))

theorem State.linkTransmit_none (h : s.phyOf n = Phy.NONE) : s.linkTransmit n = s :=
  (if_neg (by rw [h]; decide)).trans ((if_neg (by rw [h]; decide)).trans (if_neg (by rw [h]; decide)))

theorem State.lineTake_ok (h : s.phyOf n = Phy.LINE) (hg : s.genOf n = s.get .WIR_STAT_WIN) (hm : s.mayTransmit n = true)
    (hf : s.hasFrame n = true) : s.lineTake n = s.transmitOne n :=
  if_pos (by rw [h, hg, hm, hf, beq_self_eq_true, beq_self_eq_true]; rfl)

theorem State.lineTake_none (h : s.genOf n ≠ s.get .WIR_STAT_WIN ∨ s.mayTransmit n = false ∨ s.hasFrame n = false) :
    s.lineTake n = s := by
  refine if_neg ?_
  rw [Bool.and_eq_true, Bool.and_eq_true, Bool.and_eq_true, beq_iff_eq, beq_iff_eq]
  rintro ⟨⟨⟨_, window⟩, may⟩, frame⟩
  obtain h | h | h := h
  · exact h window
  · exact Bool.false_ne_true (h.symm.trans may)
  · exact Bool.false_ne_true (h.symm.trans frame)

/-- An engine that stands still. -/
theorem not_moves {P : Prop} {en safe : Bool} (h : ¬ P ∨ en = false ∨ safe = true) : ¬ (P ∧ en = true ∧ ¬ safe = true) := by
  rintro ⟨holds, on, awake⟩
  obtain h | h | h := h
  · exact h holds
  · exact Bool.false_ne_true (h.symm.trans on)
  · exact awake h

theorem moves {P : Prop} {en safe : Bool} (h : P) (he : en = true) (hs : safe = false) : P ∧ en = true ∧ ¬ safe = true :=
  ⟨h, he, hs ▸ Bool.false_ne_true⟩

/-- A place's next attempt, after its random delay where it is not 0. -/
theorem State.ackTimeout_again (h : (s.place n i).st = .waitAck ∧ s.enabled (24 + n) = true ∧ ¬ s.safe (24 + n) = true)
    (ha : (s.place n i).tries ≤ (s.place n i).most) : s.ackTimeout n i =
      let t := s.advanceTo (((s.place n i).due + 999) / 1000 * 1000)
      let f := t.freshBelow ((s.place n i).jitter + 1)
      f.2.setPlace n i (if f.1 = 0 then { s.place n i with st := .due }
        else { s.place n i with st := .jitter, due := t.usec + f.1 * 1000 }) :=
  (if_pos h).trans ((if_neg (Nat.not_lt.mpr ha)).trans (apply_ite _ _ _ _).symm)

theorem State.ackTimeout_last (h : (s.place n i).st = .waitAck ∧ s.enabled (24 + n) = true ∧ ¬ s.safe (24 + n) = true)
    (ha : (s.place n i).most < (s.place n i).tries) : s.ackTimeout n i =
      (s.advanceTo (((s.place n i).due + 999) / 1000 * 1000)).endTransaction n i LeCause.RETRIES :=
  (if_pos h).trans (if_pos ha)

theorem State.retryReport_some (h : ((List.range 4).find? fun i => (s.place n i).st == .report) = some i) :
    s.retryReport n = s.queueReport n i (s.place n i).report := by
  rw [State.retryReport, h]

theorem State.retryReport_none (h : ((List.range 4).find? fun i => (s.place n i).st == .report) = none) : s.retryReport n = s := by
  rw [State.retryReport, h]

end

/-! ### Reception (R311, R312) -/

section
variable {s : State} {ack : Bool} {f : RxFrame} {n : Nat}

/-- No cell is in error. -/
theorem State.storeErrors_nil (s : State) : s.storeErrors [] = s := by
  have nothing {α : Type} (l : List α) (t : State) (f : State → α → State) (hf : ∀ x, f t x = t) : t.forEach l f = t := by
    induction l with
    | nil => rfl
    | cons x l ih => exact (congrArg (State.forEach · l f) (hf x)).trans ih
  have none {α : Type} (l : List α) (c : α → List Nat) : l.filter (fun t => eccHits [] (c t)) = [] :=
    List.filter_eq_nil_iff.mpr fun _ _ => Bool.false_ne_true
  unfold State.storeErrors
  dsimp only
  rw [show s.ecc [] = s from rfl, nothing (List.range 32) s _ fun n => by rw [none]; rfl, none]
  rfl

theorem State.linkJudges_none (h : s.linkFront ack = none) : s.linkJudges ack = s := by
  rw [State.linkJudges, h]

theorem State.linkJudges_unbound (h : s.linkFront ack = some f) (hn : s.boundEngine (xingPhy f.xing) f.gen = none) :
    s.linkJudges ack = s.dropRxFrame 2 f := by
  rw [State.linkJudges, h]
  dsimp only
  rw [hn]

theorem State.linkJudges_ack (h : s.linkFront true = some f) (hn : s.boundEngine (xingPhy f.xing) f.gen = some n) :
    s.linkJudges true = (s.judgeAck n f).tellRadio s n f := by
  rw [State.linkJudges, h]
  dsimp only
  rw [hn]
  rfl

theorem State.linkJudges_frame (h : s.linkFront false = some f) (hn : s.boundEngine (xingPhy f.xing) f.gen = some n) :
    s.linkJudges false = (s.judgeFrame n f).tellRadio s n f := by
  rw [State.linkJudges, h]
  dsimp only
  rw [hn]
  rfl

end

/-! ### LEn_KICK and LEn_HOLD -/

theorem taskOf_leKick : ∀ n : Fin 8, taskTarget (80 + 2 * n) = some (24 + n.val) ∧ taskHonour (80 + 2 * n) = .always ∧
    taskRole (80 + 2 * n) = none := by decide

theorem taskOf_leHold : ∀ n : Fin 8, taskTarget (81 + 2 * n) = some (24 + n.val) ∧ taskHonour (81 + 2 * n) = .always ∧
    taskRole (81 + 2 * n) = none := by decide

theorem State.taskEffect_leKick (s : State) (n : Fin 8) : s.taskEffect (80 + 2 * n) = s.kick n := by
  fin_cases n <;> rfl

theorem State.taskEffect_leHold (s : State) (n : Fin 8) : s.taskEffect (81 + 2 * n) = s.put (.LE_STAT_HELD n) 1 := by
  fin_cases n <;> rfl

/-- Settles O21, command by command. -/
theorem linkCommands : Obligations.LinkCommands := by
  have off {b : Bool} (h : b = false) : ¬ b = true := by rw [h]; exact Bool.false_ne_true
  refine ⟨fun n i t s hu hw hp he hh hi ht => ⟨fun hx hr => ?openPlain, fun hx hr => ?openNfc⟩,
    fun n s hu => ⟨fun h => done_live hu (State.linkTransmit_nfc h), fun h hg hm hf => ?line, fun h hn => ?lineNone,
      fun h => done_live hu (State.linkTransmit_radio h)⟩, fun s hu => ⟨done_live hu rfl, done_live hu rfl⟩,
    fun n i s hu hw he hs => ⟨fun h => done_live hu (State.ackTimeout_last (moves hw he hs) h),
      fun h => done_live hu (State.ackTimeout_again (moves hw he hs) h)⟩,
    fun n i s hu hj he hs => done_live hu (if_pos (moves hj he hs)), fun f n s hu hf hn => ?ack, fun f n s hu hf hn => ?frame,
    fun n i s hu hr => ⟨fun hq => ?report, fun hq => ?reportKept⟩, fun id w v s hn => ?peer, fun s hu => done_live hu rfl,
    fun n s hu he hs => ?kick, fun n s hu he hs => ?hold,
    fun n i t c s hu hw hp he hh hi ht => ⟨fun hx hr => ?refusedNfc, fun hx hr => ?refused, fun hx hr => ?exhausted⟩,
    fun n s hu h => done_live hu (State.openOne_none h),
    fun n i s hu => ⟨fun h => done_live hu (State.linkTransmit_none h), fun h => done_live hu (if_neg (not_moves h)),
      fun h => done_live hu (if_neg (not_moves h)), fun h => done_live hu (State.retryReport_none h)⟩,
    fun s hu => ⟨fun h => done_live hu (State.linkJudges_none h), fun f h hn => done_live hu (State.linkJudges_unbound h hn)⟩,
    fun ecc s hu => ⟨fun h => done_live hu (State.linkJudges_none h), fun f h hn => done_live hu (State.linkJudges_unbound h hn),
      fun f n h hn => done_live hu (State.linkJudges_frame h hn)⟩⟩
  case openPlain => exact done_live hu (State.openOne_other (State.opens_of hw hp he hh) hi ht hx hr)
  case openNfc => exact done_live hu (State.openOne_nfc (State.opens_of hw hp he hh) hi ht hx hr)
  case refusedNfc => exact done_live hu (State.openOne_nfcRefused (State.opens_of hw hp he hh) hi ht hx hr)
  case refused => exact done_live hu (State.openOne_refused (State.opens_of hw hp he hh) hi ht hx hr)
  case exhausted => exact done_live hu (State.openOne_exhausted (State.opens_of hw hp he hh) hi ht hx hr)
  case line =>
    exact done_live hu ((State.linkTransmit_line h).trans (congrArg State.lineNext (State.lineTake_ok h hg hm hf)))
  case lineNone => exact done_live hu ((State.linkTransmit_line h).trans (congrArg State.lineNext (State.lineTake_none hn)))
  case ack => exact done_live hu (State.linkJudges_ack hf hn)
  case frame =>
    have errorless : (s.storeErrors []).linkJudges false = s.linkJudges false := by rw [s.storeErrors_nil]
    exact done_live hu (errorless.trans (State.linkJudges_frame hf hn))
  case report =>
    refine done_live hu ((State.retryReport_some hr).trans ?_)
    rw [State.queueReport, hq]
    rfl
  case reportKept =>
    refine done_live hu ((State.retryReport_some hr).trans ?_)
    rw [State.queueReport, hq]
    rfl
  case peer =>
    have hid := id.isLt
    have hw := w.isLt
    have addr : peerAddr id.toNat w.val = 0xE000 + 0x10 * id.toNat + 4 * w.val := rfl
    exact done_native hn (State.regWrite_peer _ _ _ (by omega) (by omega) (by omega))
  case kick =>
    obtain ⟨target, honour, role⟩ := taskOf_leKick n
    exact done_live hu ((State.routerTask_page he hs target honour (taskRole_ne role)).trans (State.taskEffect_leKick _ n))
  case hold =>
    obtain ⟨target, honour, role⟩ := taskOf_leHold n
    exact done_live hu ((State.routerTask_page he hs target honour (taskRole_ne role)).trans (State.taskEffect_leHold _ n))

end Sys2Proof.Machine
end

section
/-! PROOFS. Forward error correction's commands (R244, R347 to R352). -/

namespace Sys2Proof.Machine

/-! ### Codewords that arrive (R349, R351) -/

section
variable {s : State} {f : RxFrame} {w : List Int}

/-- The first whole codeword that waits, with its frame. -/
def State.wordFront (s : State) : Option (RxFrame × List Int) :=
  s.rx.findSome? fun f => if f.stage = .coming then f.nextWord.map fun w => (f, w) else none

theorem State.handWord_offers (h : (s.xing 6).unacked = []) : s.handWord true = s.offerWord true :=
  if_neg (by rw [h]; exact Bool.false_ne_true)

theorem State.handWord_acks (h : (s.xing 6).unacked ≠ []) : s.handWord true = (s.ackItem 6).fecArrival := by
  refine if_pos ?_
  rw [Bool.and_true, Bool.not_eq_true', List.isEmpty_eq_false_iff]
  exact h

theorem State.offerWord_none (h : s.wordFront = none) : s.offerWord true = s := by
  unfold State.wordFront at h
  rw [State.offerWord, h]

/-- What becomes of the codeword in front. -/
theorem State.offerWord_some (h : s.wordFront = some (f, w)) : s.offerWord true =
    if s.enabled 11 && s.stopped 6 then s
    else if !s.takesWork 11 || !s.accepts 6 1 then s.fecFull f
    else
      let i := (s.consumeItems f w.length).newId
      let c : Item := { id := i.1, cost := 1, cells := [], words := [], llrs := w, frame := f.id }
      let u := (i.2.handItem 6 c 0 true).2.setRx { f with offered := f.offered + 1 }
      if (u.xing 6).owned.any (fun t => t.id == c.id) then u.fecArrival else u := by
  unfold State.wordFront at h
  rw [State.offerWord, h]

theorem State.not_stopped_of_accepts {n k : Nat} (h : s.accepts n k = true) : s.stopped n = false := by
  rw [State.accepts, Bool.and_eq_true, Bool.and_eq_true, Bool.not_eq_true'] at h
  exact h.1.2

theorem State.takesWork_of_disabled {p : Nat} (h : s.enabled p = false) : s.takesWork p = false := by
  rw [State.takesWork, h]
  rfl

theorem State.offerWord_taken (h : s.wordFront = some (f, w)) (ht : s.takesWork 11 = true) (ha : s.accepts 6 1 = true) :
    s.offerWord true =
      let i := (s.consumeItems f w.length).newId
      let c : Item := { id := i.1, cost := 1, cells := [], words := [], llrs := w, frame := f.id }
      let u := (i.2.handItem 6 c 0 true).2.setRx { f with offered := f.offered + 1 }
      if (u.xing 6).owned.any (fun t => t.id == c.id) then u.fecArrival else u := by
  refine (State.offerWord_some h).trans ((if_neg ?_).trans (if_neg ?_))
  · rw [State.not_stopped_of_accepts ha, Bool.and_false]
    exact Bool.false_ne_true
  · rw [ht, ha]
    exact Bool.false_ne_true

theorem State.offerWord_waits (h : s.wordFront = some (f, w)) (he : s.enabled 11 = true) (hs : s.stopped 6 = true) :
    s.offerWord true = s := (State.offerWord_some h).trans (if_pos (by rw [he, hs]; rfl))

/-- The frame is discarded. -/
theorem State.offerWord_full (h : s.wordFront = some (f, w)) (hs : s.enabled 11 = false ∨ s.stopped 6 = false)
    (hf : s.takesWork 11 = false ∨ s.accepts 6 1 = false) : s.offerWord true = s.fecFull f := by
  refine (State.offerWord_some h).trans ((if_neg ?_).trans (if_pos ?_))
  · rw [Bool.and_eq_true]
    rintro ⟨on, stopped⟩
    exact hs.elim (fun h => Bool.false_ne_true (h.symm.trans on)) (fun h => Bool.false_ne_true (h.symm.trans stopped))
  · rw [Bool.or_eq_true, Bool.not_eq_true', Bool.not_eq_true']
    exact hf

/-- A kind firing on FEC_BURST where no burst runs. -/
theorem State.fecArrival_fires (h : s.runningKind Kind.FEC_BURST = none) :
    s.fecArrival = (s.kindFiring Kind.FEC_BURST).fecWake.fecStart :=
  congrArg (fun t : State => t.fecWake.fecStart) (if_neg (by rw [h]; exact Bool.false_ne_true))

theorem State.fecArrival_runs (h : (s.runningKind Kind.FEC_BURST).isSome = true) : s.fecArrival = s.fecWake.fecStart :=
  congrArg (fun t : State => t.fecWake.fecStart) (if_pos h)

end

/-! ### Codewords encoded (R350) -/

section
variable {s : State} {c : Item} {r : List Item}

theorem State.encodeFirst_idle (h : s.fecStart.fec.work ≠ some true) : s.encodeFirst = s.fecStart := by
  unfold State.encodeFirst
  dsimp only
  split
  next work _ => exact absurd work h
  · rfl

variable (hw : s.fecStart.fec.work = some true) (ho : (s.fecStart.xing 8).owned = c :: r)
include hw ho

theorem State.encodeFirst_gone (hf : s.fecStart.txFrame c.frame = none) :
    s.encodeFirst = ((s.fecStart.freeOwned 8 c.id).fecWorked true).feedEncoder.fecSettle s := by
  unfold State.encodeFirst
  dsimp only
  rw [hw, ho]
  dsimp only
  rw [hf]

/-- The codeword as it goes back. -/
def State.encodedItem (s : State) (f : TxFrame) : Item :=
  { id := s.newId.1, cost := 1, cells := [], words := [],
    llrs := bitLlrs (codewordSent f.code (whiten (bytesBits f.bytes)) (s.encoded f)), frame := f.id }

theorem State.encodeFirst_frame {f : TxFrame} (hf : s.fecStart.txFrame c.frame = some f) : s.encodeFirst =
    let t := s.fecStart
    let h := t.newId.2.handItem 9 (t.encodedItem f) 0 true
    if h.1 then
      ((((h.2.freeOwned 8 c.id).fecWorked true).raiseIf (f.ncw ≤ t.encoded f + 1) Ev.FEC_ENC_DONE).takeEncoded.feedEncoder).fecSettle s
    else h.2 := by
  unfold State.encodeFirst
  dsimp only
  rw [hw, ho]
  dsimp only
  rw [hf]
  rfl

end

/-- Settles O22, command by command. -/
theorem fecCommands : Obligations.FecCommands := by
  have off {b : Bool} (h : b = false) : ¬ b = true := by rw [h]; exact Bool.false_ne_true
  refine ⟨fun f w s hu hf hx => ⟨fun ht ha => ⟨fun ho => ?taken, fun ho => ?offered⟩, fun he hs => ?waits, fun hs ha => ?full⟩,
    fun s hu hx => done_live hu (State.handWord_acks hx), fun s => ⟨State.fecArrival_fires, State.fecArrival_runs⟩,
    fun s hu => done_live hu rfl, fun c r f s hu hw ho hf => ⟨fun hh => ?noCredit, fun hh => ?encoded⟩,
    fun s hu hw => done_live hu (State.encodeFirst_idle hw), fun s hu he hs => ?abort,
    fun s hu hx => ⟨fun hf => ?noWord, fun f w hf hs ht => ?held, fun f w hf he => ?disabled⟩,
    fun s hu c r hw ho hf => done_live hu (State.encodeFirst_gone hw ho hf)⟩
  case taken => exact done_live hu ((State.handWord_offers hx).trans ((State.offerWord_taken hf ht ha).trans (if_pos ho)))
  case offered => exact done_live hu ((State.handWord_offers hx).trans ((State.offerWord_taken hf ht ha).trans (if_neg (off ho))))
  case waits => exact done_live hu ((State.handWord_offers hx).trans (State.offerWord_waits hf he hs))
  case full => exact done_live hu ((State.handWord_offers hx).trans (State.offerWord_full hf (.inr hs) (.inr ha)))
  case noWord => exact done_live hu ((State.handWord_offers hx).trans (State.offerWord_none hf))
  case held => exact done_live hu ((State.handWord_offers hx).trans (State.offerWord_full hf (.inr hs) (.inl ht)))
  case disabled =>
    exact done_live hu ((State.handWord_offers hx).trans
      (State.offerWord_full hf (.inl he) (.inl (State.takesWork_of_disabled he))))
  case noCredit => exact done_live hu ((State.encodeFirst_frame hw ho hf).trans (if_neg (off hh)))
  case encoded => exact done_live hu ((State.encodeFirst_frame hw ho hf).trans (if_pos hh))
  case abort => exact done_live hu (State.routerTask_page (n := 38) he hs rfl rfl (taskRole_ne rfl))

end Sys2Proof.Machine
end

section
/-! PROOFS. Security's commands (R496 to R520). -/

namespace Sys2Proof.Machine

/-! ### Verification (R501, R507) -/

section
variable {s : State} {f : RxFrame}

/-- The first frame that SEC holds. -/
def State.secFront (s : State) : Option RxFrame := s.rx.find? fun f => f.stage == .sec

theorem State.secFront_none (h : s.rx.all (fun f => f.stage != .sec) = true) : s.secFront = none := by
  refine List.find?_eq_none.mpr fun f hf => ?_
  have other := List.all_eq_true.mp h f hf
  rw [bne_iff_ne] at other
  exact fun same => other (beq_iff_eq.mp same)

theorem State.secStart_empty (h : s.secFront = none) : s.secStart = s := by
  unfold State.secFront at h
  rw [State.secStart, h]

theorem State.secStart_begins (h : s.secFront = some f) (hk : f.key = none) (hd : s.drainHold 10 = false) :
    s.secStart = s.setRx { f with key := some (s.keyOf (s.rxKeySlot f)) } := by
  unfold State.secFront at h
  rw [State.secStart, h]
  exact if_neg (by rw [hk, hd]; exact Bool.false_ne_true)

theorem State.secStart_held (h : s.secFront = some f) (hd : s.drainHold 10 = true) : s.secStart = s := by
  unfold State.secFront at h
  rw [State.secStart, h]
  exact if_pos (by rw [hd, Bool.or_true])

theorem State.secVerdict_empty (h : s.secFront = none) : s.secVerdict = s := by
  have start := State.secStart_empty h
  unfold State.secFront at h
  unfold State.secVerdict
  dsimp only
  rw [start, h]

theorem State.secVerdict_held (h : s.secFront = some f) (hk : f.key = none) (hd : s.drainHold 10 = true) : s.secVerdict = s := by
  have start := State.secStart_held h hd
  unfold State.secFront at h
  unfold State.secVerdict
  dsimp only
  rw [start, h]
  dsimp only
  rw [hk]

theorem State.secVerdict_judges {key : Option (List Byte)} (h : s.secStart.secFront = some f) (hk : f.key = some key) :
    s.secVerdict = (s.secStart.secJudge f key).secStart := by
  unfold State.secFront at h
  unfold State.secVerdict
  dsimp only
  rw [h]
  dsimp only
  rw [hk]

end

/-! ### SEC_KEYCMD (R497 to R502) -/

/-- A write of SEC_KEYCMD with OP `op` and SLOT `slot`. -/
theorem State.regWrite_keyCmd (s : State) {op slot : Nat} (ho : op < 8) (hs : slot < 32) :
    s.regWrite Adr.SEC_KEYCMD (keyCmd op slot) = s.keyCommand op slot := by
  have hop : Fld.SEC_KEYCMD_OP.of (keyCmd op slot) = op := (Fld.of_into _ _ _ (by decide)).trans (Nat.mod_eq_of_lt ho)
  have hslot : Fld.SEC_KEYCMD_SLOT.of (keyCmd op slot) = slot :=
    (Fld.of_into_apart _ _ _ _ (by decide)).trans ((Fld.of_into _ _ _ (by decide)).trans (Nat.mod_eq_of_lt hs))
  rw [State.regWrite_SEC_KEYCMD, hop, hslot]

section
variable {s : State} {op slot : Nat}

theorem State.keyCommand_busy (h : s.sec.cmd.isSome = true) : s.keyCommand op slot = s.secErr SecCause.BUSY 0 slot := if_pos h

theorem State.keyCommand_begins (h : s.sec.cmd = none) : s.keyCommand op slot =
    let t := s.latch 10 s.secQuiet
    { t.put .SEC_SINK_BUSY 1 with sec := { t.sec with cmd := some (op, slot), cmdKey := t.keyOf slot } } :=
  if_neg (by rw [h]; exact Bool.false_ne_true)

/-- No command in progress. -/
def State.keyIdle (s : State) : State := { s.put .SEC_SINK_BUSY 0 with sec := { s.sec with cmd := none } }

/-- A command's end: done, or refused with its cause. -/
def State.keyResult (s : State) (slot : Nat) : State ⊕ Nat → State
  | .inl t => t.raise Ev.SEC_DONE
  | .inr c => s.secErr c 0 slot

theorem State.keyComplete_ends (h : s.sec.cmd = some (op, slot)) (hp : s.pageHeld 10 = false) :
    s.keyComplete = s.keyIdle.keyResult slot (s.keyIdle.keyEffect op slot) := by
  refine (if_neg (hp ▸ Bool.false_ne_true)).trans ?_
  rw [State.keyEnds, h]
  rfl

theorem State.keyComplete_none (h : s.sec.cmd = none) : s.keyComplete = s := by
  have ends : s.keyEnds = s := by rw [State.keyEnds, h]
  unfold State.keyComplete
  rw [ends, ite_self]

theorem State.sinkTimeout_none (h : s.sec.sinkEnd = none ∨ s.bit .SEC_SINK_ARMED = false) : s.sinkTimeout = s := by
  unfold State.sinkTimeout
  obtain h | h := h
  · rw [h]
  · rw [h]
    split
    · rfl
    · rfl

end

/-- Every SEC_KEYCMD command on `slot`, whatever each of them does. -/
theorem exec_keyCmds {s : State} {slot : Fin 32} {g : Nat → Nat → State} (hn : s.nativeHost = true)
    (hg : ∀ op slot, s.accessed.keyCommand op slot = g op slot) :
    exec (.keyLoad slot) s = .next (g 0 slot).lateOver.finish ∧ exec (.keyZeroise slot) s = .next (g 1 slot).lateOver.finish ∧
      exec (.keyLock slot true) s = .next (g 2 slot).lateOver.finish ∧ exec (.keyWrap slot) s = .next (g 3 slot).lateOver.finish ∧
      exec (.keyUnwrap slot) s = .next (g 4 slot).lateOver.finish ∧ exec (.keyCheck slot) s = .next (g 5 slot).lateOver.finish ∧
      exec .sinkDisarm s = .next (g 6 0).lateOver.finish ∧ exec (.secZeroiseUnlocked false) s = .next (g 7 0).lateOver.finish :=
  have run (op slot : Nat) (ho : op < 8) (hs : slot < 32) := (State.regWrite_keyCmd s.accessed ho hs).trans (hg op slot)
  ⟨done_native hn (run 0 slot (by decide) slot.isLt), done_native hn (run 1 slot (by decide) slot.isLt),
    done_native hn ((if_pos rfl).trans (run 2 slot (by decide) slot.isLt)), done_native hn (run 3 slot (by decide) slot.isLt),
    done_native hn (run 4 slot (by decide) slot.isLt), done_native hn (run 5 slot (by decide) slot.isLt),
    done_native hn (run 6 0 (by decide) (by decide)), done_write hn (run 7 0 (by decide) (by decide))⟩

/-- A write of SEC_KEYLOCK that names one slot. -/
theorem State.regWrite_keylock (s : State) (slot : Fin 32) :
    s.regWrite Adr.SEC_KEYLOCK (BitVec.ofNat 32 (2 ^ slot.val)) = s.lockKey slot := by
  have named : (List.range 32).filter (fun n => (BitVec.ofNat 32 (2 ^ slot.val)).getLsbD n) = [slot.val] := (oneChannel slot).2
  rw [State.regWrite_SEC_KEYLOCK, State.keylockWrite, named]
  rfl

/-- Settles O23, command by command. -/
theorem securityCommands : Obligations.SecurityCommands := by
  have off {b : Bool} (h : b = false) : ¬ b = true := by rw [h]; exact Bool.false_ne_true
  refine ⟨fun f s hu hf => ⟨fun hk => ?noKey, fun key hk => ?judged⟩, fun f s hf hk hd => State.secStart_begins hf hk hd,
    fun slot s hn hc => exec_keyCmds hn fun op slot => State.keyCommand_begins hc,
    fun slot s hn hc => exec_keyCmds (g := fun _ slot => s.accessed.secErr SecCause.BUSY 0 slot) hn fun op slot => State.keyCommand_busy hc,
    fun slot s hn hl => ?lock, fun s hu he hs => ?zeroise, fun s hu he hs => ?arm, fun s hu hp => done_live hu (if_pos hp),
    fun op slot s hu hc hp => ⟨fun u he => ?done, fun c he => ?refused⟩, fun e s hu he ha => ?timeout,
    fun w s hn => ⟨done_native hn rfl, done_native hn (State.regWrite_SEC_CTRVAL _ w), done_native hn (State.regWrite_SEC_CTREP _ w)⟩,
    fun s hu => ⟨fun h => done_live hu (State.secVerdict_empty (State.secFront_none h)),
      fun f hf hk hd => done_live hu (State.secVerdict_held hf hk hd), fun h => done_live hu (State.keyComplete_none h),
      fun h => done_live hu (State.sinkTimeout_none h)⟩, fun slot s hn hl => ?locked⟩
  case noKey => exact done_live hu (State.secVerdict_judges hf hk)
  case judged =>
    refine done_live hu ((State.secVerdict_judges hf hk).trans (congrArg State.secStart ?_))
    unfold State.secJudge
    dsimp only
    obtain verdict | ⟨c, high, p⟩ := s.secStart.verifyFrame (f.header.nonceOf f.legacy) (s.secStart.ctrRec (rxCtrKey f.header)) key
      (f.header.aad f.legacy) f.body f.mic
    · rfl
    · exact (ite_not _ _ _).symm
  case lock =>
    exact done_native hn ((if_neg Bool.false_ne_true).trans ((State.regWrite_keylock _ slot).trans (if_neg (off hl))))
  case locked =>
    exact done_native hn ((if_neg Bool.false_ne_true).trans ((State.regWrite_keylock _ slot).trans (if_pos hl)))
  case zeroise => exact done_task hu (State.routerTask_page (n := 36) he hs rfl rfl (taskRole_ne rfl))
  case arm => exact done_live hu (State.routerTask_page (n := 37) he hs rfl rfl (taskRole_ne rfl))
  case done => exact done_live hu ((State.keyComplete_ends hc hp).trans (congrArg (s.keyIdle.keyResult slot) he))
  case refused => exact done_live hu ((State.keyComplete_ends hc hp).trans (congrArg (s.keyIdle.keyResult slot) he))
  case timeout =>
    refine done_live hu ?_
    rw [State.sinkTimeout, he]
    exact if_pos ha

end Sys2Proof.Machine
end

section
/-! PROOFS. The router tasks honoured inside a running task or as a kind firing, and the commands of line power and of the hub's
cycle. -/

namespace Sys2Proof.Machine

/-! ### Router tasks honoured inside a running task or as a kind firing (R266) -/

/-- A task honoured only inside a running task that holds its resource. -/
theorem State.routerTask_running {s : State} {n p : Nat} {r : Resource} {x : Bool} (he : s.enabled p = true)
    (hs : s.safe p = false) (hp : taskTarget n = some p) (hh : taskHonour n = .running r x) (hr : taskRole n ≠ some (!s.hub))
    (hold : s.holds r x = true) : s.routerTask n = (s.unlatched n).taskEffect n := by
  refine State.takeTask_running _ n r x hr ?_ hh
  unfold State.taskRefused
  rw [hp, hh]
  exact (congrArg₂ (fun a b => (!a || b) || !(s.unlatched n).holds r x) he hs).trans (congrArg (fun b => false || !b) hold)

/-- A task that is a kind firing, while a slot of the kind waits. -/
theorem State.routerTask_kind {s : State} {n k : Nat} (hp : taskTarget n = none) (hh : taskHonour n = .kind k)
    (hr : taskRole n ≠ some (!s.hub)) (hw : s.kindWaiting k = true) : s.routerTask n = (s.unlatched n).kindFiring k := by
  refine State.takeTask_kind _ n k hr ?_ hh
  unfold State.taskRefused
  rw [hp, hh]
  exact congrArg (fun b => false || !b) hw

/-- A task of the hub is not refused for its role at a hub. -/
theorem taskRole_ne_of_hub {n : Nat} {hub : Bool} (h : taskRole n = some true) (hh : hub = true) : taskRole n ≠ some (!hub) := by
  rw [h, hh]
  decide

/-! ### WIR_CMD (R392) -/

section
variable (s : State)

theorem State.wirCommand_on : s.wirCommand Fld.WIR_CMD_ON.one = if s.hub && s.enabled 14 then s.linePowerOn else s := rfl

theorem State.wirCommand_off : s.wirCommand Fld.WIR_CMD_OFF.one = if s.hub then s.lineOpen else s := rfl

theorem State.wirCommand_softOff : s.wirCommand Fld.WIR_CMD_SOFTOFF.one =
    if s.hub then s.setLine fun l => { l with softOff := true } else s := rfl

theorem State.wirCommand_probe : s.wirCommand Fld.WIR_CMD_PROBE.one =
    if s.hub then s.setLine fun l => { l with probe := true } else s := rfl

theorem State.wirCommand_polCheck : s.wirCommand Fld.WIR_CMD_POLCHECK.one = s.setLine fun l => { l with judgePol := true } := rfl

theorem State.wirCommand_hold : s.wirCommand Fld.WIR_CMD_HOLD.one = s.lineHold := rfl

end

/-! ### Line power (R357 to R361) -/

section
variable {s : State} {ma : Nat}

theorem State.linePowerOn_starts (hh : s.hub = true) (hp : s.linePwr = LinePwr.OFF) : s.linePowerOn =
    (s.put .WIR_STAT_PWR LinePwr.INRUSH).setLine fun l =>
      { l with samples := [], above := 0, below := 0, excess := 0, twice := 0, softOff := false } :=
  if_pos (by rw [hh, hp]; rfl)

theorem State.linePowerOn_already (hp : s.linePwr ≠ LinePwr.OFF) : s.linePowerOn = s :=
  if_neg fun h => hp (beq_iff_eq.mp (Bool.and_eq_true_iff.mp h).2)

theorem State.lineSample_unpowered (h : s.hub = false ∨ s.linePwr = LinePwr.OFF) : s.lineSample ma = s := by
  refine if_pos ?_
  obtain h | h := h
  · rw [h]
    rfl
  · exact (congrArg (_ || ·) (decide_eq_true h)).trans (Bool.or_true _)

/-- A hub's line that is not OFF is sampled. -/
theorem State.sampled (hh : s.hub = true) (hp : s.linePwr ≠ LinePwr.OFF) : ¬ (!s.hub || decide (s.linePwr = LinePwr.OFF)) = true := by
  rw [hh, decide_eq_false hp]
  exact Bool.false_ne_true

theorem State.lineSample_full (hh : s.hub = true) (hp : s.linePwr ≠ LinePwr.OFF) (hm : 1000 ≤ ma) :
    s.lineSample ma = (s.put .WIR_ISNS_I 1000).lineShort := by
  refine (if_neg (State.sampled hh hp)).trans ?_
  dsimp only
  rw [Nat.min_eq_right hm]
  exact if_pos rfl

theorem State.lineSample_inrush (hh : s.hub = true) (hp : s.linePwr = LinePwr.INRUSH) (hm : ma < 1000) :
    s.lineSample ma = (s.put .WIR_ISNS_I ma).lineBase ma := by
  have powered : s.linePwr ≠ LinePwr.OFF := by rw [hp]; decide
  refine (if_neg (State.sampled hh powered)).trans ?_
  dsimp only
  rw [Nat.min_eq_left (Nat.le_of_lt hm)]
  exact (if_neg (Nat.ne_of_lt hm)).trans (if_pos hp)

/-- A sample `p` at which `two` samples in a row stand at twice ILIM and `exc` above it. -/
def State.lineJudged (p : State) (two exc : Nat) : State := p.setLine fun l => { l with twice := two, excess := exc }

/-- What follows from a judged sample, the line being in SETTLE or ON. -/
def State.lineJudge (t : State) (pwr two exc ma : Nat) : State :=
  if 2 ≤ two then t.lineShort
  else if t.get .WIR_PWR_CFG_OCT ≤ exc then t.lineOvercurrent
  else if pwr = LinePwr.ON then t.linePlug ma else t.lineBase ma

theorem State.lineSample_judged (hh : s.hub = true) (hp : s.linePwr = LinePwr.SETTLE ∨ s.linePwr = LinePwr.ON) (hm : ma < 1000) :
    s.lineSample ma =
      let p := s.put .WIR_ISNS_I ma
      let two := if 2 * p.ilim ≤ ma then s.line.twice + 1 else 0
      let exc := if p.ilim < ma then s.line.excess + 1 else 0
      (p.lineJudged two exc).lineJudge s.linePwr two exc ma := by
  have powered : s.linePwr ≠ LinePwr.OFF := by rintro h; rw [h] at hp; exact absurd hp (by decide)
  have settled : s.linePwr ≠ LinePwr.INRUSH := by rintro h; rw [h] at hp; exact absurd hp (by decide)
  refine (if_neg (State.sampled hh powered)).trans ?_
  dsimp only
  rw [Nat.min_eq_left (Nat.le_of_lt hm)]
  exact (if_neg (Nat.ne_of_lt hm)).trans (if_neg settled)

theorem State.lineInrushEnd_settles (hp : s.linePwr = LinePwr.INRUSH) (hk : (s.lineSample ma).linePwr = LinePwr.INRUSH)
    (hm : min ma 1000 ≤ (s.lineSample ma).ilim) : s.lineInrushEnd ma = (s.lineSample ma).put .WIR_STAT_PWR LinePwr.SETTLE :=
  (if_pos hp).trans ((if_neg (not_not.mpr hk)).trans (if_neg (Nat.not_lt.mpr hm)))

theorem State.lineInrushEnd_exceeds (hp : s.linePwr = LinePwr.INRUSH) (hk : (s.lineSample ma).linePwr = LinePwr.INRUSH)
    (hm : (s.lineSample ma).ilim < min ma 1000) : s.lineInrushEnd ma = (s.lineSample ma).lineOvercurrent :=
  (if_pos hp).trans ((if_neg (not_not.mpr hk)).trans (if_pos hm))

theorem State.lineInrushEnd_left (hp : s.linePwr = LinePwr.INRUSH) (hk : (s.lineSample ma).linePwr ≠ LinePwr.INRUSH) :
    s.lineInrushEnd ma = s.lineSample ma :=
  (if_pos hp).trans (if_pos hk)

theorem State.settleEnds_on (hp : s.linePwr = LinePwr.SETTLE) : s.settleEnds = (s.moment 14).lineSettleEnd := by
  unfold State.settleEnds
  rw [State.whenB, hp]
  rfl

theorem State.settleEnds_early (hp : s.linePwr ≠ LinePwr.SETTLE) : s.settleEnds = s := by
  unfold State.settleEnds
  rw [State.whenB, beq_false_of_ne hp]
  exact if_neg hp

end

/-! ### The hub's cycle (R360, R367, R368) -/

section
variable {s : State}

theorem State.gridRuns_on (hh : s.hub = true) (hp : s.linePwr = LinePwr.ON) (he : s.enabled 14 = true)
    (hw : s.islandWaits Island.WIRE = false) : s.gridRuns = true := by
  unfold State.gridRuns
  rw [hh, hp, he, hw]
  rfl

theorem State.gridRuns_off (h : s.hub = false ∨ s.linePwr ≠ LinePwr.ON ∨ s.enabled 14 = false ∨ s.islandWaits Island.WIRE = true) :
    s.gridRuns = false := by
  unfold State.gridRuns
  obtain h | h | h | h := h
  · rw [h]; rfl
  · rw [beq_false_of_ne h, Bool.and_false]; rfl
  · rw [h, Bool.and_false]; rfl
  · rw [h]; exact Bool.and_false _

theorem State.cycleStarts_off (h : s.gridRuns = false) : s.cycleStarts = s := by
  have kept : (s.whenB (s.gridRuns && !s.line.softOff) fun s => s.moment 14) = s :=
    if_neg (by rw [h]; exact Bool.false_ne_true)
  exact (congrArg State.cycleBoundary kept).trans (if_neg (h ▸ Bool.false_ne_true))

theorem State.cycleStarts_softOff (h : s.gridRuns = true) (hs : s.line.softOff = true) : s.cycleStarts = s.lineOpen := by
  have kept : (s.whenB (s.gridRuns && !s.line.softOff) fun s => s.moment 14) = s :=
    if_neg (by rw [hs, Bool.not_true, Bool.and_false]; exact Bool.false_ne_true)
  exact (congrArg State.cycleBoundary kept).trans ((if_pos h).trans (if_pos hs))

theorem State.cycleStarts_next (h : s.gridRuns = true) (hs : s.line.softOff = false) (hu : (s.moment 14).gridRuns = true)
    (ho : (s.moment 14).line.softOff = false) : s.cycleStarts = ((s.moment 14).wrap .WIR_STAT_CYCNO).hubCycle := by
  have moved : (s.whenB (s.gridRuns && !s.line.softOff) fun s => s.moment 14) = s.moment 14 := if_pos (by rw [h, hs]; rfl)
  exact (congrArg State.cycleBoundary moved).trans ((if_pos hu).trans (if_neg (ho ▸ Bool.false_ne_true)))

/-- The line carries cycles: ON at a hub, a layout at a node. -/
def State.cycles (s : State) : Bool := if s.hub then s.linePwr == LinePwr.ON else s.bit .WIR_STAT_LAYOUT

theorem State.cycleLead_fires (he : s.enabled 14 = true) (hs : s.safe 14 = false) (hr : s.cycles = true) :
    s.cycleLead = s.kindFiring Kind.LINE_CYCLE :=
  if_pos (congrArg₂ and (congrArg₂ (fun a b => a && !b) he hs) hr)

theorem State.cycleLead_none (h : s.enabled 14 = false ∨ s.safe 14 = true ∨ s.cycles = false) : s.cycleLead = s := by
  have quiet : (s.enabled 14 && !s.safe 14 && s.cycles) = false := by
    obtain h | h | h := h
    · rw [h]; rfl
    · rw [h]; exact congrArg (· && s.cycles) (Bool.and_false _)
    · rw [h]; exact Bool.and_false _
  exact if_neg fun h' => Bool.false_ne_true (quiet.symm.trans h')

/-! ### Windows (R368, R372, R379) -/

/-- Window `g` is in the layout of a line that carries cycles. -/
def State.windowOn (s : State) (g : Nat) : Bool := s.enabled 14 && s.windowLen g != 0 && s.cycles

/-- Window `g` begins. -/
def State.windowBegun (s : State) (g : Nat) : State :=
  let p := s.put .WIR_STAT_WIN g
  let w := p.setLine fun l => { l with room := p.windowLen g * windowXo }
  w.raiseIf (w.bit .WIR_CFG_WINEVT) Ev.WIR_GEN_WIN

/-- What a window does in a LINE_TRAIN task. -/
def State.windowTrains (t : State) : State :=
  let v := t.setLine fun l => { l with trains := true }
  if !v.hub then v.lineContend 3
  else if !v.lineHeld && unitsFit 3 trainingUnits (v.windowLen 3 * windowXo / unitXo 3) then v.trainStart else v

/-- What window `g` does in a LINE_CYCLE task, once its announcement is sent. -/
def State.windowServes (u : State) (g : Nat) : State :=
  if !u.hub then u.lineContend g
  else if g = 3 then u.hubNext
  else if u.lineHeld then u else u.sendWindowBeacon g

/-- The windows 1 to 3 begin where they are on the line and a task serves them. -/
theorem State.windowStart_eq (s : State) (g : Fin 3) : s.windowStart (g.val + 1) =
    if (s.windowOn (g.val + 1) && (s.lineServing || (s.lineTraining && g.val == 2))) = true then
      if (s.windowBegun (g.val + 1)).lineTraining then (s.windowBegun (g.val + 1)).windowTrains
      else ((s.windowBegun (g.val + 1)).sendAnnounce (g.val + 1)).windowServes (g.val + 1)
    else s := by
  have low : decide (1 ≤ g.val + 1) = true := decide_eq_true (by omega)
  have high : decide (g.val + 1 ≤ 3) = true := decide_eq_true (by omega)
  have last : (g.val + 1 == 3) = (g.val == 2) := by
    rw [Bool.eq_iff_iff, beq_iff_eq, beq_iff_eq]
    omega
  unfold State.windowStart
  dsimp only
  rw [low, high, last, Bool.and_true, Bool.and_true]
  rfl

theorem State.windowTrains_node (t : State) (h : (t.setLine fun l => { l with trains := true }).hub = false) :
    t.windowTrains = (t.setLine fun l => { l with trains := true }).lineContend 3 :=
  if_pos (by rw [h]; rfl)

theorem State.windowTrains_hub (t : State) (h : (t.setLine fun l => { l with trains := true }).hub = true) :
    t.windowTrains =
      let v := t.setLine fun l => { l with trains := true }
      if !v.lineHeld && unitsFit 3 trainingUnits (v.windowLen 3 * windowXo / unitXo 3) then v.trainStart else v :=
  if_neg (by rw [h]; exact Bool.false_ne_true)

theorem State.windowServes_node {g : Nat} (h : s.hub = false) : s.windowServes g = s.lineContend g := if_pos (by rw [h]; rfl)

theorem State.windowServes_hub {g : Nat} (h : s.hub = true) :
    s.windowServes g = if g = 3 then s.hubNext else if s.lineHeld then s else s.sendWindowBeacon g :=
  if_neg (by rw [h]; exact Bool.false_ne_true)

/-- A window served by a LINE_CYCLE task. -/
theorem State.windowStart_served {g : Fin 3} (hon : (s.windowOn (g.val + 1) && (s.lineServing || (s.lineTraining && g.val == 2))) = true)
    (ht : (s.windowBegun (g.val + 1)).lineTraining = false) :
    s.windowStart (g.val + 1) = ((s.windowBegun (g.val + 1)).sendAnnounce (g.val + 1)).windowServes (g.val + 1) :=
  (State.windowStart_eq s g).trans ((if_pos hon).trans (if_neg (ht ▸ Bool.false_ne_true)))

/-- A window served by a LINE_TRAIN task. -/
theorem State.windowStart_training {g : Fin 3}
    (hon : (s.windowOn (g.val + 1) && (s.lineServing || (s.lineTraining && g.val == 2))) = true)
    (ht : (s.windowBegun (g.val + 1)).lineTraining = true) :
    s.windowStart (g.val + 1) = (s.windowBegun (g.val + 1)).windowTrains :=
  (State.windowStart_eq s g).trans ((if_pos hon).trans (if_pos ht))

theorem State.windowServed_of {g : Fin 3} (he : s.enabled 14 = true) (hw : s.windowLen (g.val + 1) ≠ 0) (hr : s.cycles = true)
    (hl : s.lineServing = true) : (s.windowOn (g.val + 1) && (s.lineServing || (s.lineTraining && g.val == 2))) = true := by
  rw [State.windowOn, he, bne_iff_ne.mpr hw, hr, hl]
  rfl

/-- The slot is over: nothing is on its way in its window any more. -/
def State.windowPast (s : State) (g : Nat) : State :=
  (((if g = 3 then s.m3Ends else s).acksHeldOver g).put .WIR_STAT_WIN 4).setLine fun l =>
    { l with winHeard := false, room := 0, backoff := none }

theorem State.windowEnd_last {g i : Nat} (hl : (g == s.lastWindow) = true)
    (hr : (s.windowPast g).runningKind Kind.LINE_CYCLE = some i) :
    s.windowEnd g = if (s.windowPast g).lineServing then (s.windowPast g).taskEnds i .done else s.windowPast g := by
  unfold State.windowPast at hr ⊢
  unfold State.windowEnd
  dsimp only
  rw [hl, if_pos rfl, hr]

theorem State.windowEnd_unserved {g : Nat} (hl : (g == s.lastWindow) = true)
    (hr : (s.windowPast g).runningKind Kind.LINE_CYCLE = none) : s.windowEnd g = s.windowPast g := by
  unfold State.windowPast at hr ⊢
  unfold State.windowEnd
  dsimp only
  rw [hl, if_pos rfl, hr]

theorem State.windowEnd_before {g : Nat} (hl : (g == s.lastWindow) = false) :
    s.windowEnd g = if g = 0 then s.windowPast g else (s.windowPast g).lineStop := by
  unfold State.windowEnd
  dsimp only
  rw [hl]
  rfl

end

/-- Settles O24, command by command. -/
theorem linePowerCommands : Obligations.LinePowerCommands := by
  have off {b : Bool} (h : b = false) : ¬ b = true := by rw [h]; exact Bool.false_ne_true
  have hubTask {n : Nat} {s : State} (hu : s.up = true) (hh : s.hub = true) (he : s.enabled 14 = true) (hs : s.safe 14 = false)
      (hp : taskTarget n = some 14) (ho : taskHonour n = .always) (hr : taskRole n = some true) :=
    State.routerTask_page he hs hp ho (taskRole_ne_of_hub hr hh)
  refine ⟨fun s hn hh he hp => ?on, fun s hu hh he hs hp => ?onTask, fun ma s hu hp hk => ⟨fun hm => ?settles, fun hm => ?exceeds⟩,
    fun s hu hp hk => ?settled, fun ma s hu hh hp => ⟨fun hm => ?full, fun hm hi => ?inrush⟩,
    fun s hn hh => ⟨?opens, ?softOff⟩, fun s hu hh he hs => ⟨?opensTask, ?softOffTask⟩,
    fun s hu hh hp he hw => ⟨fun hs hg ho => ?next, fun hs => ?closes⟩, fun s hu he hs hr => done_live hu (State.cycleLead_fires he hs hr),
    fun g s hu he hw hr hl ht => ⟨fun hh => ?node, fun hh hg => ?upstream, fun hh hg hf => ?beacon⟩,
    fun g i s hu hl hr => ⟨fun hv => ?served, fun hv => ?late⟩, fun s hn hh => ?probe, fun s hu hh he hs hold => ?probeTask,
    fun s hn => done_write hn (State.wirCommand_hold _), fun s hu he hs => ?holdTask, fun s hu hh hk => ?cycleTask,
    fun s hu hk => ?trainTask, fun s hu he hs hold => ?queuedTask, fun s hn => ⟨fun h => ?notOn, fun h => ⟨?notOff, ?notSoft, ?notProbe⟩⟩,
    fun s hu hh he hs hp => ?already,
    fun ma s hu => ⟨fun hp => done_live hu (if_neg hp), fun hp hk => done_live hu (State.lineInrushEnd_left hp hk),
      fun hp => done_live hu (State.settleEnds_early hp)⟩,
    fun ma s hu => ⟨fun h => done_live hu (State.lineSample_unpowered h), fun hh hp hm => ?judged⟩,
    fun s hu => ⟨fun h => done_live hu (State.cycleStarts_off (State.gridRuns_off h)), fun h => done_live hu (State.cycleLead_none h)⟩,
    fun g s hu => ⟨fun h => ?noWindow, fun h => ⟨fun ht => ?train, fun ht hh hg hd => ?held⟩⟩,
    fun g s hu => ⟨fun hl hr => ?unserved, fun hl hg => ?mark, fun hl hg => ?between⟩⟩
  case on =>
    exact done_write hn ((State.wirCommand_on _).trans ((if_pos (congrArg₂ and hh he)).trans (State.linePowerOn_starts hh hp)))
  case onTask =>
    exact done_task hu ((hubTask (n := 53) hu hh he hs rfl rfl rfl).trans (State.linePowerOn_starts (s := s.unlatched 53) hh hp))
  case settles => exact done_live hu (State.lineInrushEnd_settles hp hk hm)
  case exceeds => exact done_live hu (State.lineInrushEnd_exceeds hp hk hm)
  case settled => exact done_live hu ((State.settleEnds_on hp).trans (if_pos hk))
  case full => exact done_live hu (State.lineSample_full hh hp hm)
  case inrush => exact done_live hu (State.lineSample_inrush hh hi hm)
  case opens => exact done_write hn ((State.wirCommand_off _).trans (if_pos hh))
  case softOff => exact done_write hn ((State.wirCommand_softOff _).trans (if_pos hh))
  case opensTask => exact done_task hu (hubTask (n := 7) hu hh he hs rfl rfl rfl)
  case softOffTask => exact done_task hu (hubTask (n := 54) hu hh he hs rfl rfl rfl)
  case next => exact done_live hu (State.cycleStarts_next (State.gridRuns_on hh hp he hw) hs hg ho)
  case closes => exact done_live hu (State.cycleStarts_softOff (State.gridRuns_on hh hp he hw) hs)
  case node =>
    exact done_live hu ((State.windowStart_served (State.windowServed_of he hw hr hl) ht).trans (State.windowServes_node hh))
  case upstream =>
    have last : g.val + 1 = 3 := congrArg (· + 1) hg
    exact done_live hu ((State.windowStart_served (State.windowServed_of he hw hr hl) ht).trans
      ((State.windowServes_hub hh).trans (if_pos last)))
  case beacon =>
    have before : g.val + 1 ≠ 3 := by omega
    exact done_live hu ((State.windowStart_served (State.windowServed_of he hw hr hl) ht).trans
      ((State.windowServes_hub hh).trans ((if_neg before).trans (if_neg (off hf)))))
  case served => exact done_live hu ((State.windowEnd_last hl hr).trans (if_pos hv))
  case late => exact done_live hu ((State.windowEnd_last hl hr).trans (if_neg (off hv)))
  case probe => exact done_write hn ((State.wirCommand_probe _).trans (if_pos hh))
  case probeTask => exact done_task hu (State.routerTask_running (n := 55) he hs rfl rfl (taskRole_ne_of_hub rfl hh) hold)
  case holdTask => exact done_task hu (State.routerTask_page (n := 57) he hs rfl rfl (taskRole_ne rfl))
  case cycleTask => exact done_live hu (State.routerTask_kind (n := 50) rfl rfl (taskRole_ne_of_hub rfl hh) hk)
  case trainTask => exact done_live hu (State.routerTask_kind (n := 51) rfl rfl (taskRole_ne rfl) hk)
  case queuedTask => exact done_live hu (State.routerTask_running (n := 52) he hs rfl rfl (taskRole_ne rfl) hold)
  case notOn =>
    refine done_write hn ((State.wirCommand_on _).trans ?_)
    obtain hh | he | hp := h
    · exact if_neg (by rw [hh]; exact Bool.false_ne_true)
    · exact if_neg (by rw [he, Bool.and_false]; exact Bool.false_ne_true)
    · exact (congrArg (ite _ · _) (State.linePowerOn_already hp)).trans (ite_self _)
  case notOff => exact done_write hn ((State.wirCommand_off _).trans (if_neg (off h)))
  case notSoft => exact done_write hn ((State.wirCommand_softOff _).trans (if_neg (off h)))
  case notProbe => exact done_write hn ((State.wirCommand_probe _).trans (if_neg (off h)))
  case already =>
    exact done_task hu ((hubTask (n := 53) hu hh he hs rfl rfl rfl).trans (State.linePowerOn_already (s := s.unlatched 53) hp))
  case judged =>
    have judged := State.lineSample_judged hh hp hm
    refine ⟨fun h2 => done_live hu (judged.trans (if_pos h2)), fun h2 ho => ?_, fun h2 ho => ⟨fun hs => ?_, fun hs => ?_⟩⟩
    · exact done_live hu (judged.trans ((if_neg (Nat.not_le.mpr h2)).trans (if_pos ho)))
    · have rest : s.linePwr ≠ LinePwr.ON := by rw [hs]; decide
      exact done_live hu (judged.trans ((if_neg (Nat.not_le.mpr h2)).trans ((if_neg (Nat.not_le.mpr ho)).trans (if_neg rest))))
    · exact done_live hu (judged.trans ((if_neg (Nat.not_le.mpr h2)).trans ((if_neg (Nat.not_le.mpr ho)).trans (if_pos hs))))
  case noWindow => exact done_live hu ((State.windowStart_eq s g).trans (if_neg (off h)))
  case train =>
    refine ⟨fun hn => ?_, fun hh hd hf => ?_, fun hh hq => ?_⟩
    · exact done_live hu ((State.windowStart_training h ht).trans (State.windowTrains_node _ hn))
    · refine done_live hu ((State.windowStart_training h ht).trans ((State.windowTrains_hub _ hh).trans (if_pos ?_)))
      exact congrArg₂ (fun a b => !a && b) hd hf
    · refine done_live hu ((State.windowStart_training h ht).trans ((State.windowTrains_hub _ hh).trans (if_neg fun h' => ?_)))
      obtain ⟨free, fits⟩ := Bool.and_eq_true_iff.mp h'
      obtain hd | hf := hq
      · exact Bool.false_ne_true ((congrArg (!·) hd).symm.trans free)
      · exact Bool.false_ne_true (hf.symm.trans fits)
  case held =>
    have before : g.val + 1 ≠ 3 := by omega
    exact done_live hu ((State.windowStart_served h ht).trans ((State.windowServes_hub hh).trans ((if_neg before).trans (if_pos hd))))
  case unserved => exact done_live hu (State.windowEnd_unserved hl hr)
  case mark => exact done_live hu ((State.windowEnd_before hl).trans (if_pos hg))
  case between => exact done_live hu ((State.windowEnd_before hl).trans (if_neg hg))

end Sys2Proof.Machine
end

section
/-! PROOFS. The commands of line reception and of access to the line. -/

namespace Sys2Proof.Machine

section
variable {s : State} {left : Nat} {f : TxFrame}

/-! ### Frames that go on the line (R374 to R377) -/

/-- A frame starts on the line; only one that IDLE_C had not stopped counts as a new transmission. -/
theorem State.lineStart_eq (s : State) (f : TxFrame) (left : Nat) : s.lineStart f left =
    let t := s.setLine fun l => { l with
      sending := some f.id, backoff := none, again := none, room := (left - f.lineUnits) * unitXo f.gen }
    if s.line.again = some f.id then t else t.frameStarts f := by
  unfold State.lineStart
  simp only [beq_iff_eq]

/-- The first frame of generation `g` goes on the line where it fits. -/
def State.startFront (s : State) (g left : Nat) : State :=
  match s.lineFront g with
  | some f => if unitsFit g f.lineUnits left then s.lineStart f left else s
  | none => s

theorem State.startFront_fits {g : Nat} (hf : s.lineFront g = some f) (hu : unitsFit g f.lineUnits left = true) :
    s.startFront g left = s.lineStart f left := by
  rw [State.startFront, hf]
  exact if_pos hu

theorem State.startFront_none {g : Nat}
    (h : s.lineFront g = none ∨ ∃ f, s.lineFront g = some f ∧ unitsFit g f.lineUnits left = false) : s.startFront g left = s := by
  unfold State.startFront
  obtain h | ⟨f, hf, hu⟩ := h
  · rw [h]
  · rw [hf]
    exact if_neg (hu ▸ Bool.false_ne_true)

/-- What a node's backoff that has run down leads to in the M3 window. -/
def State.nodeBurst (s : State) (left : Nat) : State :=
  if !s.bit .WIR_STAT_LAYOUT || s.lineHeld then s
  else if s.lineTraining then
    (if s.line.trains && !s.bit .WIR_STAT_TRAINING && unitsFit 3 trainingUnits left then s.trainStart else s)
  else if s.lineServing && s.bit .WIR_STAT_ECOK && s.line.sending.isNone then s.startFront 3 left
  else s

theorem State.upstream_off (h : s.get .WIR_STAT_WIN ≠ 3 ∨ s.enabled 14 = false) : s.upstream left = s := by
  refine if_pos ?_
  obtain h | h := h
  · rw [bne_iff_ne.mpr h, Bool.true_or]
  · rw [h]
    exact Bool.or_true _

theorem State.upstream_open (hw : s.get .WIR_STAT_WIN = 3) (he : s.enabled 14 = true) :
    s.upstream left = if s.hub then s.setLine fun l => { l with upBusy := true } else s.nodeBurst left :=
  if_neg (by rw [hw, he]; exact Bool.false_ne_true)

theorem State.upstream_node (hh : s.hub = false) (hb : s.nodeBurst left = s) : s.upstream left = s := by
  by_cases h : s.get .WIR_STAT_WIN = 3 ∧ s.enabled 14 = true
  · exact (State.upstream_open h.1 h.2).trans ((if_neg (hh ▸ Bool.false_ne_true)).trans hb)
  · obtain h | h := Classical.not_and_iff_not_or_not.mp h
    · exact State.upstream_off (.inl h)
    · exact State.upstream_off (.inr (Bool.not_eq_true _ ▸ h))

theorem State.nodeBurst_blocked (h : s.bit .WIR_STAT_LAYOUT = false ∨ s.lineHeld = true) : s.nodeBurst left = s := by
  refine if_pos ?_
  obtain h | h := h
  · rw [h]
    rfl
  · rw [h, Bool.or_true]

theorem State.nodeBurst_free (hl : s.bit .WIR_STAT_LAYOUT = true) (hd : s.lineHeld = false) : s.nodeBurst left =
    if s.lineTraining then
      (if s.line.trains && !s.bit .WIR_STAT_TRAINING && unitsFit 3 trainingUnits left then s.trainStart else s)
    else if s.lineServing && s.bit .WIR_STAT_ECOK && s.line.sending.isNone then s.startFront 3 left
    else s :=
  if_neg (by rw [hl, hd]; exact Bool.false_ne_true)

theorem State.nodeBurst_untrained (ht : s.lineTraining = true)
    (h : s.line.trains = false ∨ s.bit .WIR_STAT_TRAINING = true ∨ unitsFit 3 trainingUnits left = false) : s.nodeBurst left = s := by
  have none : (s.line.trains && !s.bit .WIR_STAT_TRAINING && unitsFit 3 trainingUnits left) = false := by
    obtain h | h | h := h
    · rw [h]; rfl
    · rw [h, Bool.not_true, Bool.and_false]; rfl
    · rw [h, Bool.and_false]
  exact ite_eq_left_iff.mpr fun _ => (if_pos ht).trans (if_neg fun h' => Bool.false_ne_true (none.symm.trans h'))

/-- No frame goes upstream without a task, without convergence, during another frame, or where none fits. -/
theorem State.nodeBurst_unsent (ht : s.lineTraining = false)
    (h : s.lineServing = false ∨ s.bit .WIR_STAT_ECOK = false ∨ s.line.sending.isSome = true ∨ s.lineFront 3 = none ∨
      ∃ f, s.lineFront 3 = some f ∧ unitsFit 3 f.lineUnits left = false) : s.nodeBurst left = s := by
  refine ite_eq_left_iff.mpr fun _ => (if_neg (ht ▸ Bool.false_ne_true)).trans (ite_eq_right_iff.mpr fun ready => ?_)
  obtain ⟨serving, free⟩ := Bool.and_eq_true_iff.mp ready
  obtain ⟨serving, converged⟩ := Bool.and_eq_true_iff.mp serving
  obtain h | h | h | h := h
  · exact absurd (h.symm.trans serving) Bool.false_ne_true
  · exact absurd (h.symm.trans converged) Bool.false_ne_true
  · rw [Option.isNone_iff_eq_none.mp free] at h
    exact absurd h Bool.false_ne_true
  · exact State.startFront_none h

/-- A device may start a frame of generation `g`. -/
def State.legacyReady (s : State) (g : Nat) : Bool :=
  s.get .WIR_STAT_WIN == g && s.line.winHeard && !s.lineHeld && s.line.sending.isNone && s.enabled 14

theorem State.legacyStart_eq (s : State) (g : Fin 2) (left : Nat) : s.legacyStart (g.val + 1) left =
    if (s.lineServing && s.legacyReady (g.val + 1)) = true then s.startFront (g.val + 1) left else s := by
  have generation : (g.val + 1 == 1 || g.val + 1 == 2) = true := by
    obtain h | h : g.val = 0 ∨ g.val = 1 := by omega
    · rw [h]; rfl
    · rw [h]; rfl
  have ready : (s.lineServing && (g.val + 1 == 1 || g.val + 1 == 2) && s.get .WIR_STAT_WIN == g.val + 1 && s.line.winHeard &&
      !s.lineHeld && s.line.sending.isNone && s.enabled 14) = (s.lineServing && s.legacyReady (g.val + 1)) := by
    unfold State.legacyReady
    rw [generation, Bool.and_true]
    simp only [Bool.and_assoc]
  exact congrArg (fun b => if b = true then s.startFront (g.val + 1) left else s) ready

theorem State.legacyStart_none (g : Fin 2)
    (h : s.get .WIR_STAT_WIN ≠ g.val + 1 ∨ s.line.winHeard = false ∨ s.lineHeld = true ∨ s.enabled 14 = false ∨
      s.lineServing = false ∨ s.line.sending.isSome = true ∨ s.lineFront (g.val + 1) = none ∨
      ∃ f, s.lineFront (g.val + 1) = some f ∧ unitsFit (g.val + 1) f.lineUnits left = false) :
    s.legacyStart (g.val + 1) left = s := by
  refine (State.legacyStart_eq s g left).trans (ite_eq_right_iff.mpr fun ready => ?_)
  obtain ⟨serving, ready⟩ := Bool.and_eq_true_iff.mp ready
  obtain ⟨ready, enabled⟩ := Bool.and_eq_true_iff.mp ready
  obtain ⟨ready, free⟩ := Bool.and_eq_true_iff.mp ready
  obtain ⟨ready, held⟩ := Bool.and_eq_true_iff.mp ready
  obtain ⟨window, heard⟩ := Bool.and_eq_true_iff.mp ready
  obtain h | h | h | h | h | h | h := h
  · exact absurd (beq_iff_eq.mp window) h
  · exact absurd (h.symm.trans heard) Bool.false_ne_true
  · exact absurd ((congrArg (!·) h).symm.trans held) Bool.false_ne_true
  · exact absurd (h.symm.trans enabled) Bool.false_ne_true
  · exact absurd (h.symm.trans serving) Bool.false_ne_true
  · rw [Option.isNone_iff_eq_none.mp free] at h
    exact absurd h Bool.false_ne_true
  · exact State.startFront_none h

/-! ### Collisions (R375) -/

theorem State.hubCollision_none (h : s.hub = false ∨ s.get .WIR_STAT_WIN ≠ 3) : s.hubCollision = s := by
  refine if_neg fun ready => ?_
  obtain ⟨hub, window⟩ := Bool.and_eq_true_iff.mp ready
  obtain h | h := h
  · exact Bool.false_ne_true (h.symm.trans hub)
  · exact h (beq_iff_eq.mp window)

/-- A node in the M3 window on a running island. -/
theorem State.idleC_heard (hh : s.hub = false) (hw : s.get .WIR_STAT_WIN = 3) (hc : s.clk.wireStop = false) :
    (!s.hub && s.get .WIR_STAT_WIN == 3 && !s.clk.wireStop) = true := by
  rw [hh, hw, hc]
  rfl

theorem State.idleC_unheard (h : s.hub = true ∨ s.get .WIR_STAT_WIN ≠ 3 ∨ s.clk.wireStop = true) : s.idleC = s := by
  refine if_neg fun ready => ?_
  obtain ⟨ready, running⟩ := Bool.and_eq_true_iff.mp ready
  obtain ⟨node, window⟩ := Bool.and_eq_true_iff.mp ready
  obtain h | h | h := h
  · exact Bool.false_ne_true ((congrArg (!·) h).symm.trans node)
  · exact h (beq_iff_eq.mp window)
  · exact Bool.false_ne_true ((congrArg (!·) h).symm.trans running)

/-- The levels of frame `id` on the line. -/
def State.frameLevels (s : State) (id : Nat) : List Int :=
  match s.txFrame id with
  | some f => f.lineLevels
  | none => []

theorem State.idleC_stops {id : Nat} (hh : s.hub = false) (hw : s.get .WIR_STAT_WIN = 3) (hc : s.clk.wireStop = false)
    (hs : s.line.sending = some id) : s.idleC =
      ((((s.adaptPart (s.frameLevels id)).setLine fun l => { l with sending := none, again := some id }).doubleCw.raise Ev.WIR_COLLISION).lineContend 3) := by
  unfold State.idleC
  rw [if_pos (State.idleC_heard hh hw hc), hs]
  rfl

theorem State.idleC_quiet (hh : s.hub = false) (hw : s.get .WIR_STAT_WIN = 3) (hc : s.clk.wireStop = false)
    (hs : s.line.sending = none) : s.idleC =
      if s.bit .WIR_STAT_TRAINING then
        (((((s.adaptPart trainingLevels).put .WIR_STAT_TRAINING 0).doubleCw).raise Ev.WIR_COLLISION).lineContend 3)
      else s := by
  unfold State.idleC
  rw [if_pos (State.idleC_heard hh hw hc), hs]

/-! ### Frames received (R384, R388) -/

/-- At a hub an upstream burst that was heard to its end leaves the line free. -/
def State.burstHeard (s : State) (gen : Nat) : State :=
  if s.hub && gen == 3 then s.setLine fun l => { l with upBusy := false } else s

/-- What becomes of a burst whose sync word was taken. -/
def State.lineTaken (t : State) (gen : Nat) (cut : Bool) (phr llrs : List Int) (hard : List Bool) : State :=
  if cut then t.lineRxErr else if gen = 3 then t.lineCoded phr llrs else t.lineLegacy gen hard

variable {gen : Nat} {inverse cut : Bool} {phr llrs : List Int} {hard : List Bool}

theorem State.lineReceived_taken (hl : s.lineHears = true) (hs : ((s.burstHeard gen).syncDetected inverse).1 = true) :
    s.lineReceived gen inverse cut phr llrs hard = ((s.burstHeard gen).syncDetected inverse).2.lineTaken gen cut phr llrs hard := by
  refine (if_pos hl).trans (if_neg fun h' => ?_)
  exact Bool.false_ne_true ((congrArg (!·) hs).symm.trans h')

theorem State.lineReceived_refused (hl : s.lineHears = true) (hs : ((s.burstHeard gen).syncDetected inverse).1 = false) :
    s.lineReceived gen inverse cut phr llrs hard = ((s.burstHeard gen).syncDetected inverse).2 :=
  (if_pos hl).trans (if_pos (congrArg (!·) hs))

/-- A hub discards a burst with the inverse word. -/
theorem State.syncDetected_hub_inverse (h : s.hub = true) : s.syncDetected true = (false, s.lineRxErr) := if_pos h

theorem State.burstHeard_hub_role (s : State) (gen : Nat) : (s.burstHeard gen).hub = s.hub := by
  unfold State.burstHeard
  split
  · rfl
  · rfl

theorem State.burstHeard_at_hub (h : s.hub = true) (g : Nat) :
    s.burstHeard (g + 1) = if g = 2 then s.setLine fun l => { l with upBusy := false } else s := by
  unfold State.burstHeard
  simp only [h, Bool.true_and, beq_iff_eq, Nat.reduceEqDiff]

end

/-- Settles O25, command by command. -/
theorem lineReceiveCommands : Obligations.LineReceiveCommands := by
  have off {b : Bool} (h : b = false) : ¬ b = true := by rw [h]; exact Bool.false_ne_true
  refine ⟨fun left s hu hw he => ⟨fun hh => ?onset, fun hh hl hd ht htr hq hf => ?training⟩,
    fun left f s hu hh hw hl hd he ht hv hec hs hf hfit => ?frame, fun g left f s hu hw hh hd he hv hs hf hfit => ?legacy,
    fun s hu hh hw => ?collides, fun id s hu hh hw hc hs => done_live hu (State.idleC_stops hh hw hc hs),
    fun gen inverse cut phr llrs hard s hu hl hs => ⟨fun hc => ?cut, fun hc hg => ?coded, fun hc hg => ?uncoded⟩,
    fun left s hu => ⟨fun h => done_live hu (State.upstream_off h), fun hh => ⟨fun h => ?blocked, fun ht h => ?untrained, fun ht h => ?unsent⟩⟩,
    fun g left s hu h => done_live hu (State.legacyStart_none g h),
    fun s hu => ⟨fun h => done_live hu (State.hubCollision_none h), fun h => done_live hu (State.idleC_unheard h),
      fun hh hw hc hs => ⟨fun ht => ?again, fun ht => ?nothing⟩⟩,
    fun gen inverse cut phr llrs hard s hu => ⟨fun hl => done_live hu (if_neg (off hl)), fun hl hh => ?inverse⟩⟩
  case onset => exact done_live hu ((State.upstream_open hw he).trans (if_pos hh))
  case training =>
    have starts : (s.line.trains && !s.bit .WIR_STAT_TRAINING && unitsFit 3 trainingUnits left) = true := by
      rw [htr, hq, hf]
      rfl
    exact done_live hu ((State.upstream_open hw he).trans ((if_neg (off hh)).trans
      ((State.nodeBurst_free hl hd).trans ((if_pos ht).trans (if_pos starts)))))
  case frame =>
    have ready : (s.lineServing && s.bit .WIR_STAT_ECOK && s.line.sending.isNone) = true := by
      rw [hv, hec, hs]
      rfl
    exact done_live hu ((State.upstream_open hw he).trans ((if_neg (off hh)).trans ((State.nodeBurst_free hl hd).trans
      ((if_neg (off ht)).trans ((if_pos ready).trans ((State.startFront_fits hf hfit).trans (State.lineStart_eq s f left)))))))
  case legacy =>
    have ready : (s.lineServing && s.legacyReady (g.val + 1)) = true := by
      rw [State.legacyReady, hv, hw, hh, hd, hs, he]
      simp
    exact done_live hu ((State.legacyStart_eq s g left).trans ((if_pos ready).trans
      ((State.startFront_fits hf hfit).trans (State.lineStart_eq s f left))))
  case collides => exact done_live hu (if_pos (by rw [hh, hw]; rfl))
  case cut => exact done_live hu ((State.lineReceived_taken hl hs).trans (if_pos hc))
  case coded =>
    exact done_live hu ((State.lineReceived_taken hl hs).trans ((if_neg (off hc)).trans (if_pos (congrArg (· + 1) hg))))
  case uncoded =>
    have early : gen.val + 1 ≠ 3 := by omega
    exact done_live hu ((State.lineReceived_taken hl hs).trans ((if_neg (off hc)).trans (if_neg early)))
  case blocked => exact done_live hu (State.upstream_node hh (State.nodeBurst_blocked h))
  case untrained => exact done_live hu (State.upstream_node hh (State.nodeBurst_untrained ht h))
  case unsent => exact done_live hu (State.upstream_node hh (State.nodeBurst_unsent ht h))
  case again => exact done_live hu ((State.idleC_quiet hh hw hc hs).trans (if_pos ht))
  case nothing => exact done_live hu ((State.idleC_quiet hh hw hc hs).trans (if_neg (off ht)))
  case inverse =>
    have refused := State.syncDetected_hub_inverse ((State.burstHeard_hub_role s (gen.val + 1)).trans hh)
    refine done_live hu ((State.lineReceived_refused hl (congrArg Prod.fst refused)).trans ?_)
    exact (congrArg Prod.snd refused).trans (congrArg State.lineRxErr (State.burstHeard_at_hub hh gen.val))

end Sys2Proof.Machine
end

section
/-! PROOFS. The commands of echo cancelling, of marks and of announcing on the line. -/

namespace Sys2Proof.Machine

/-! ### Echo cancelling (R379, R380) -/

/-- Training is over, and CW starts anew. -/
def State.trainStops (s : State) : State :=
  (s.put .WIR_STAT_TRAINING 0).setLine fun l => { l with trains := false, begun := false, passes := 0, cw := 0 }

theorem State.trainStops_eq (s : State) : (s.trainOver.setLine fun l => { l with cw := 0 }) = s.trainStops := rfl

/-- A LINE_TRAIN task that runs ends done. -/
def State.trainTaskEnds (s : State) : State :=
  match s.runningKind Kind.LINE_TRAIN with
  | some i => s.taskEnds i .done
  | none => s

theorem State.trainTaskEnds_some {s : State} {i : Nat} (h : s.runningKind Kind.LINE_TRAIN = some i) :
    s.trainTaskEnds = s.taskEnds i .done := by
  rw [State.trainTaskEnds, h]

theorem State.trainTaskEnds_none {s : State} (h : s.runningKind Kind.LINE_TRAIN = none) : s.trainTaskEnds = s := by
  rw [State.trainTaskEnds, h]

/-- The canceller after a pass whose residue is `res`. -/
def State.passed (s : State) (res : Int) : State := (s.adapt trainingLevels).putS .WIR_EC_RES_RES res

/-- The canceller has converged, and has not in two passes. -/
def State.converges (t : State) : State := ((t.put .WIR_STAT_ECOK 1).put .WIR_STAT_TRAINFAIL 0).raise Ev.WIR_EC_CONV

def State.diverges (t : State) : State := ((t.put .WIR_STAT_ECOK 0).put .WIR_STAT_TRAINFAIL 1).raise Ev.WIR_EC_DIVERGE

section
variable {s : State} {res : Int}

theorem State.trainingPass_idle (h : s.bit .WIR_STAT_TRAINING = false ∨ s.line.cutting = true ∨ s.lineHeld = true) :
    s.trainingPass res = s := by
  refine if_neg fun ready => ?_
  obtain ⟨ready, held⟩ := Bool.and_eq_true_iff.mp ready
  obtain ⟨training, cutting⟩ := Bool.and_eq_true_iff.mp ready
  obtain h | h | h := h
  · exact Bool.false_ne_true (h.symm.trans training)
  · exact Bool.false_ne_true ((congrArg (!·) h).symm.trans cutting)
  · exact Bool.false_ne_true ((congrArg (!·) h).symm.trans held)

theorem State.trainingPass_ends (ht : s.bit .WIR_STAT_TRAINING = true) (hc : s.line.cutting = false) (hd : s.lineHeld = false) :
    s.trainingPass res =
      if res ≤ -4 * ((s.passed res).get .WIR_EC_CTRL_CONVTHR : Int) then (s.passed res).converges.trainStops.trainTaskEnds
      else if 1 ≤ (s.passed res).line.passes then (s.passed res).diverges.trainStops.trainTaskEnds
      else (s.passed res).setLine fun l => { l with passes := l.passes + 1 } :=
  if_pos (by rw [ht, hc, hd]; rfl)

theorem State.firstPass (h : s.line.passes = 0) :
    (s.setLine fun l => { l with passes := l.passes + 1 }) = s.setLine fun l => { l with passes := 1 } :=
  congrArg (fun n => { s with line := { s.line with passes := n + 1 } }) h

theorem State.ecDiverge_none (h : s.bit .WIR_STAT_ECOK = false ∨ res ≤ -4 * (s.get .WIR_EC_CTRL_DIVTHR : Int)) :
    s.ecDiverge res = s := by
  refine if_neg fun judged => ?_
  obtain ⟨converged, above⟩ := Bool.and_eq_true_iff.mp judged
  obtain h | h := h
  · exact Bool.false_ne_true (h.symm.trans converged)
  · exact Int.not_lt.mpr h (of_decide_eq_true above)

/-- An M3 burst is on the line. -/
def State.burstOnLine (s : State) : Bool :=
  s.get .WIR_STAT_WIN == 3 && match s.line.sending.bind s.txFrame with
    | some f => f.gen == 3
    | none => false

/-- The canceller judged diverged: a burst on the line ends. -/
def State.ecLost (s : State) (res : Int) : State :=
  ((((if s.burstOnLine then s.lineAbandon else s).putS .WIR_EC_RES_RES res).put .WIR_STAT_ECOK 0).sat .WIR_CNT2_ECDIV).raise
    Ev.WIR_EC_DIVERGE

theorem State.ecDiverge_judged (hc : s.bit .WIR_STAT_ECOK = true) (hr : -4 * (s.get .WIR_EC_CTRL_DIVTHR : Int) < res) :
    s.ecDiverge res = if (s.ecLost res).bit .WIR_EC_CTRL_AUTO then (s.ecLost res).kindFiring Kind.LINE_TRAIN else s.ecLost res :=
  if_pos (congrArg₂ and hc (decide_eq_true hr))

/-! ### Marks (R381 to R384) -/

variable {err ppm : Int} {inverse : Bool} {phr : List Int} {items : List (List Int)}

theorem State.markArrives_unheard (h : s.hearsMarks = false) : s.markArrives err ppm inverse phr items = s := by
  have kept : (s.whenB s.hearsMarks fun s => s.moment 14) = s := if_neg (h ▸ Bool.false_ne_true)
  exact (congrArg (fun t => State.markReceived t err ppm inverse phr items) kept).trans (if_pos (congrArg (!·) h))

/-- A node's cycle begins with its mark: timing, polarity, window and event. -/
def State.markTaken (o : State) (err ppm : Int) (inverse : Bool) : State :=
  let t := ((o.judgePolarity inverse).setLine fun l => { l with cycles := l.cycles + 1, annSent := false }).markTiming err ppm
  let u := t.put .WIR_STAT_WIN (if t.lineServing then 0 else 4)
  u.raiseIf (u.bit .WIR_CFG_CYCEVT) Ev.WIR_CYCLE_START

theorem State.markArrives_heard (h : s.hearsMarks = true) :
    s.markArrives err ppm inverse phr items = (s.moment 14).markReceived err ppm inverse phr items :=
  congrArg (fun t => State.markReceived t err ppm inverse phr items) (if_pos h)

theorem State.markReceived_lost (h : s.hearsMarks = true)
    (hr : ((s.markTaken err ppm inverse).rxBegin 3 3 0 phr 0x80 (s.markTaken err ppm inverse).cyc).1 = none) :
    s.markReceived err ppm inverse phr items =
      ((s.markTaken err ppm inverse).rxBegin 3 3 0 phr 0x80 (s.markTaken err ppm inverse).cyc).2.2 := by
  refine (if_neg fun h' => Bool.false_ne_true ((congrArg (!·) h).symm.trans h')).trans ?_
  unfold State.markTaken at hr ⊢
  dsimp only [State.lineCycle] at hr ⊢
  rw [hr]

theorem State.markReceived_begins {id : Nat} (h : s.hearsMarks = true)
    (hr : ((s.markTaken err ppm inverse).rxBegin 3 3 0 phr 0x80 (s.markTaken err ppm inverse).cyc).1 = some id) :
    s.markReceived err ppm inverse phr items =
      items.zipIdx.foldl (fun s t => (s.rxItem id t.1 (t.2 + 1 == items.length) true).2)
        ((s.markTaken err ppm inverse).rxBegin 3 3 0 phr 0x80 (s.markTaken err ppm inverse).cyc).2.2 := by
  refine (if_neg fun h' => Bool.false_ne_true ((congrArg (!·) h).symm.trans h')).trans ?_
  unfold State.markTaken at hr ⊢
  dsimp only [State.lineCycle] at hr ⊢
  rw [hr]

theorem State.markMissed_none (h : s.hub = true ∨ s.enabled 14 = false ∨ s.bit .WIR_CDR_STAT_ACQ = false) : s.markMissed = s := by
  refine if_pos ?_
  obtain h | h | h := h
  · rw [h]; rfl
  · rw [h]; exact congrArg (· || _) (Bool.or_true _)
  · rw [h]; exact Bool.or_true _

theorem State.markMissed_counts (hh : s.hub = false) (he : s.enabled 14 = true) (ha : s.bit .WIR_CDR_STAT_ACQ = true) : s.markMissed =
    let t := ((s.sat .WIR_CDR_STAT_MISSED).sat .WIR_CNT2_DARK).setLine fun l => { l with cycles := l.cycles + 1, annSent := false }
    if t.get .WIR_CDR_CFG_MISS ≤ t.get .WIR_CDR_STAT_MISSED then t.lineLoss else t :=
  if_neg (by rw [hh, he, ha]; exact Bool.false_ne_true)

end

/-! ### Announces (R385, R386, R392) -/

theorem announceBytes_length (uid : BitVec 64) (gens step : Byte) : (announceBytes uid gens step).length = 10 := rfl

/-- Eight bytes, the highest first, are the number that they were cut from. -/
theorem announceBytes_uid (uid : BitVec 64) (gens step : Byte) :
    ((announceBytes uid gens step).take 8).foldl (fun n x => n * 256 + x.toNat) 0 = uid.toNat := by
  have bytes : (announceBytes uid gens step).take 8 = (List.range 8).map fun i => (uid >>> (56 - 8 * i)).setWidth 8 := rfl
  have small := uid.isLt
  rw [bytes, show List.range 8 = [0, 1, 2, 3, 4, 5, 6, 7] from rfl]
  simp only [List.map_cons, List.map_nil, List.foldl_cons, List.foldl_nil, BitVec.toNat_setWidth, BitVec.toNat_ushiftRight,
    Nat.shiftRight_eq_div_pow]
  omega

theorem announceBytes_gens (uid : BitVec 64) (gens step : Byte) : at8 (announceBytes uid gens step) 8 = gens.toNat := rfl

theorem announceBytes_step (uid : BitVec 64) (gens step : Byte) : at8 (announceBytes uid gens step) 9 = step.toNat := rfl

section
variable {s : State} {src : Nat} {b : List Byte}

theorem State.announced_none (h : s.hub = false ∨ 8 ≤ s.line.list.length ∨ (s.line.list.any fun a => a.id == src && !a.acked) = true) :
    s.announced src b false 3 = s := by
  refine if_pos ?_
  obtain h | h | h := h
  · rw [h]; rfl
  · exact congrArg (· || _) ((congrArg (_ || ·) (decide_eq_true h)).trans (Bool.or_true _))
  · exact (congrArg (_ || ·) h).trans (Bool.or_true _)

theorem State.popAnnounce_none (h : (s.line.list.findIdx? fun a => !a.popped) = none) : s.popAnnounce = s := by
  rw [State.popAnnounce, h]

theorem State.popAnnounce_some {i : Nat} (h : (s.line.list.findIdx? fun a => !a.popped) = some i) : s.popAnnounce =
    (s.setLine fun l => { l with
      list := l.list.zipIdx.map fun e => if e.2 = i then { e.1 with popped := true } else e.1 }).pruneAnnounces := by
  rw [State.popAnnounce, h]

end

/-- The entry that an ANNOUNCE of node `src` makes in the hub's list. -/
def State.announceEntry (s : State) (src : BitVec 8) (uid : BitVec 64) (gens step : BitVec 8) : Announce :=
  { id := src.toNat, uid := uid.toNat, gens := gens.toNat % 8, step := step.toNat, legacy := false,
    rep := s.bitAt (.WIR_PRESENT_BITS (src.toNat / 32)) (src.toNat % 32), acked := false, popped := false }

/-- An ANNOUNCE of an M3 node that finds a free entry is shown and raises WIR_NEWNODE. -/
theorem State.announced_enters {s : State} {src : BitVec 8} {uid : BitVec 64} {gens step : BitVec 8} (hh : s.hub = true)
    (hl : s.line.list.length < 8) (hw : (s.line.list.any fun a => a.id == src.toNat && !a.acked) = false) :
    s.announced src.toNat (announceBytes uid gens step) false 3 =
      (((s.setBitAt (.WIR_PRESENT_BITS (src.toNat / 32)) (src.toNat % 32) true).setLine fun l =>
        { l with list := l.list ++ [s.announceEntry src uid gens step] }).showAnnounce).raise Ev.WIR_NEWNODE := by
  have free : decide (8 ≤ s.line.list.length) = false := decide_eq_false (Nat.not_le.mpr hl)
  unfold State.announced State.announceEntry
  dsimp only
  rw [announceBytes_uid, announceBytes_gens, announceBytes_step, announceBytes_length, hh, free, hw]
  rfl

/-- Settles O26, command by command. -/
theorem lineTrackingCommands : Obligations.LineTrackingCommands := by
  have off {b : Bool} (h : b = false) : ¬ b = true := by rw [h]; exact Bool.false_ne_true
  refine ⟨fun res s hu ht hc hd => ⟨fun hr => ⟨fun hk => ?convergesUntasked, fun i hk => ?converges⟩, fun hr hp => ?first, fun hr hp i hk => ?diverges⟩,
    fun res s hu hc hr => ⟨fun ha => ?lost, fun ha => ?retrains⟩,
    fun err ppm inverse phr items s hu hm hg => ⟨fun hr => ?markLost, fun id hr => ?mark⟩,
    fun s hu hh he ha => ⟨fun hm => ?missed, fun hm => ?lockLost⟩, fun s hu hh hl => ?phase,
    fun s hn => done_write hn (State.wirCommand_polCheck _), fun s hu he hs => ?recheck,
    fun src uid gens step s hu hh hl hw => ⟨s.announceEntry src uid gens step, rfl, rfl, rfl, rfl, rfl, rfl, rfl, rfl,
      done_live hu (State.announced_enters hh hl hw)⟩,
    fun i s hn hi => ?pops,
    fun res err ppm inverse phr items s hu => ⟨fun h => done_live hu (State.trainingPass_idle h), fun h => done_live hu (State.ecDiverge_none h),
      fun h => done_live hu (State.markArrives_unheard h), fun h => done_live hu (State.markMissed_none h), fun h => ?noPhase⟩,
    fun src uid gens step s hu h => done_live hu (State.announced_none h), fun s hn hi => ?popsNone,
    fun res s hu ht hc hd hp hr hk => ?divergesUntasked⟩
  case convergesUntasked =>
    exact done_live hu ((State.trainingPass_ends ht hc hd).trans ((if_pos hr).trans (State.trainTaskEnds_none hk)))
  case converges => exact done_live hu ((State.trainingPass_ends ht hc hd).trans ((if_pos hr).trans (State.trainTaskEnds_some hk)))
  case first =>
    have second : ¬ 1 ≤ (s.passed res).line.passes := by
      rw [State.passed, hp]
      decide
    exact done_live hu ((State.trainingPass_ends ht hc hd).trans ((if_neg (Int.not_le.mpr hr)).trans
      ((if_neg second).trans (State.firstPass hp))))
  case diverges =>
    exact done_live hu ((State.trainingPass_ends ht hc hd).trans ((if_neg (Int.not_le.mpr hr)).trans
      ((if_pos hp).trans (State.trainTaskEnds_some hk))))
  case divergesUntasked =>
    exact done_live hu ((State.trainingPass_ends ht hc hd).trans ((if_neg (Int.not_le.mpr hr)).trans
      ((if_pos hp).trans (State.trainTaskEnds_none hk))))
  case lost => exact done_live hu ((State.ecDiverge_judged hc hr).trans (if_neg (off ha)))
  case retrains => exact done_live hu ((State.ecDiverge_judged hc hr).trans (if_pos ha))
  case markLost => exact done_live hu ((State.markArrives_heard hm).trans (State.markReceived_lost hg hr))
  case mark => exact done_live hu ((State.markArrives_heard hm).trans (State.markReceived_begins hg hr))
  case missed => exact done_live hu ((State.markMissed_counts hh he ha).trans (if_neg (Nat.not_le.mpr hm)))
  case lockLost => exact done_live hu ((State.markMissed_counts hh he ha).trans (if_pos hm))
  case phase => exact done_live hu (if_pos (by rw [hh, hl]; rfl))
  case noPhase =>
    refine done_live hu (if_neg fun locked => ?_)
    obtain ⟨node, lock⟩ := Bool.and_eq_true_iff.mp locked
    obtain h | h := h
    · exact Bool.false_ne_true ((congrArg (!·) h).symm.trans node)
    · exact Bool.false_ne_true (h.symm.trans lock)
  case recheck => exact done_task hu (State.routerTask_page (n := 56) he hs rfl rfl (taskRole_ne rfl))
  case pops => exact done_native hn ((State.regWrite_WIR_ANN_INFO _ _).trans ((if_pos (by decide)).trans (State.popAnnounce_some hi)))
  case popsNone => exact done_native hn ((State.regWrite_WIR_ANN_INFO _ _).trans ((if_pos (by decide)).trans (State.popAnnounce_none hi)))

end Sys2Proof.Machine
end

section
/-! PROOFS. What leaves the radio's own working state as it is: the ends of tasks, the gating of islands, the crossings and the
frames that are discarded. -/

namespace Sys2Proof.Machine

section
variable (s : State)

theorem State.whenB_rad (c : Bool) {f : State → State} (hf : (f s).rad = s.rad) : (s.whenB c f).rad = s.rad := by
  unfold State.whenB
  split
  · exact hf
  · rfl

theorem State.ite_rad {c : Prop} [Decidable c] {r : Radio} {a b : State} (ha : a.rad = r) (hb : b.rad = r) :
    (if c then a else b).rad = r := by
  split
  · exact ha
  · exact hb

theorem State.forEach_rad {α : Type} (l : List α) {f : State → α → State} (hf : ∀ t, ∀ x ∈ l, (f t x).rad = t.rad) :
    (s.forEach l f).rad = s.rad :=
  State.forEach_keeps (P := fun t => t.rad = s.rad) (fun t x hx kept => (hf t x hx).trans kept) rfl

/-! ### Task ends -/

@[simp] theorem State.judgeQueueLow_rad (fell : Bool) : (s.judgeQueueLow fell).rad = s.rad := by
  unfold State.judgeQueueLow
  split
  · split
    · exact State.raise_rad _ _
    · rfl
  · rfl

@[simp] theorem State.setSlot_rad (i : Nat) (t : Slot) : (s.setSlot i t).rad = s.rad := by
  have broken : (s.whenB t.barsEmber State.breakEmber).rad = s.rad := State.whenB_rad s _ rfl
  unfold State.setSlot
  dsimp only
  split
  · exact (State.raiseIf_rad _ _ _).trans broken
  · exact (State.judgeQueueLow_rad _ _).trans ((State.raiseIf_rad _ _ _).trans broken)

@[simp] theorem State.countEnd_rad (e : TaskEnd) : (s.countEnd e).rad = s.rad := by
  cases e with
  | done => rfl
  | missed => rfl
  | aborted c => rfl
  | preempted => rfl

@[simp] theorem State.endTask_rad (i : Nat) (e : TaskEnd) : (s.endTask i e).rad = s.rad := by
  refine (State.setSlot_rad _ _ _).trans ((State.raise_rad _ _).trans ((State.whenB_rad _ _ ?_).trans ?_))
  · rfl
  · exact (State.countEnd_rad _ e).trans (State.whenB_rad s _ rfl)

@[simp] theorem State.syncXo_rad : s.syncXo.rad = s.rad := by
  unfold State.syncXo
  split
  · split
    · rfl
    · rfl
  · split
    · rfl
    · rfl

@[simp] theorem State.syncIsland_rad (i : Nat) : (s.syncIsland i).rad = s.rad := by
  unfold State.syncIsland
  dsimp only
  split
  · rfl
  · split
    · split
      · refine (State.syncXo_rad _).trans ?_
        split
        · rfl
        · rfl
      · rfl
    · split
      · rfl
      · rfl

@[simp] theorem State.syncIslands_rad : s.syncIslands.rad = s.rad := by
  unfold State.syncIslands
  simp only [State.syncXo_rad, State.syncIsland_rad]

@[simp] theorem State.taskEnds_rad (i : Nat) (e : TaskEnd) : (s.taskEnds i e).rad = s.rad := by
  have ended (t : State) (e : TaskEnd) (ht : t.rad = s.rad) : ((t.endTask i e).syncIslands).rad = s.rad :=
    (State.syncIslands_rad _).trans ((State.endTask_rad _ _ _).trans ht)
  have heated : (if (s.slot i).st = .running then
      { s with thm := { s.thm with
        heatAcc := s.thm.heatAcc + (s.slot i).power * min ((s.schTime + 2 ^ 32 - (s.slot i).started) % 2 ^ 32) (s.usec - s.thm.lastUs) } }
      else s).rad = s.rad := State.ite_rad rfl rfl
  exact State.ite_rad ((State.setSlot_rad _ _ _).trans (ended _ _ heated)) (ended _ _ heated)

/-! ### Crossings and received frames -/

@[simp] theorem State.judgeCredit_rad (n before : Nat) : (s.judgeCredit n before).rad = s.rad := by
  have low : (match s.lowCredit n with
      | none => s
      | some low =>
        if low < s.credit n then s.putXing n { s.xing n with lowArmed := true }
        else if (s.xing n).lowArmed && s.credit n < before then
          (s.putXing n { s.xing n with lowArmed := false }).raise Ev.QMX_CRED_LOW
        else s).rad = s.rad := by
    split
    · rfl
    · exact State.ite_rad rfl (State.ite_rad (State.raise_rad _ _) rfl)
  exact State.ite_rad low (State.ite_rad ((State.raiseIf_rad _ _ _).trans low) low)

@[simp] theorem State.setXing_rad (n : Nat) (x : Xing) : (s.setXing n x).rad = s.rad := by
  unfold State.setXing State.xingMoved
  dsimp only
  split
  · exact (State.syncIslands_rad _).trans (State.judgeCredit_rad _ _ _)
  · exact State.judgeCredit_rad _ _ _

@[simp] theorem State.dropRx_rad (id : Nat) : (s.dropRx id).rad = s.rad := by
  refine State.forEach_rad s _ fun t n _ => ?_
  split
  · rfl
  · exact State.setXing_rad _ _ _

@[simp] theorem State.discardRx_rad (id : Nat) : (s.discardRx id).rad = s.rad := by
  unfold State.discardRx
  dsimp only
  split
  · exact (State.dropRx_rad _ _).trans (State.setXing_rad _ _ _)
  · exact State.dropRx_rad _ _

@[simp] theorem State.fecStart_rad : s.fecStart.rad = s.rad :=
  State.ite_rad rfl rfl

@[simp] theorem State.burstStep_rad : s.burstStep.rad = s.rad := by
  unfold State.burstStep
  split
  · rfl
  · split
    · exact State.taskEnds_rad _ _ _
    · split
      · rfl
      · split
        · exact State.taskEnds_rad _ _ _
        · rfl

@[simp] theorem State.fecSettle_rad (before : State) : (s.fecSettle before).rad = s.rad :=
  (State.raiseIf_rad _ _ _).trans ((State.fecStart_rad _).trans (State.burstStep_rad _))

/-- A captured frame that ends with an error leaves the radio's own state as it is. -/
@[simp] theorem State.radRxErr_rad (err : Nat) : (s.radRxErr err).rad = s.rad := by
  unfold State.radRxErr
  split
  · rfl
  · refine (State.raise_rad _ _).trans ?_
    split
    · exact (State.fecSettle_rad _ _).trans (State.discardRx_rad _ _)
    · rfl

end

end Sys2Proof.Machine
end

section
/-! PROOFS. The radio's router tasks and the bits of RAD_CMD. -/

namespace Sys2Proof.Machine

/-! ### RAD_CMD (R418) -/

section
variable (s : State)

theorem State.radCommand_paOff : s.radCommand Fld.RAD_CMD_PAOFF.one = s.paOff := rfl

theorem State.radCommand_sleep : s.radCommand Fld.RAD_CMD_SLEEP.one = s.radToSleep := rfl

theorem State.radCommand_cca : s.radCommand Fld.RAD_CMD_CCA.one = if s.holds .radio false then s.ccaStart else s := rfl

end

/-! ### The running RADIO task -/

section
variable {s : State}

/-- The task that holds RADIO is of one kind. -/
theorem State.radKind_other {j k : Nat} (h : s.radKind j = true) (hjk : j ≠ k) : s.radKind k = false := by
  unfold State.radKind at h ⊢
  cases ht : s.radTask with
  | none => rfl
  | some i =>
    rw [ht] at h
    exact beq_false_of_ne fun hk => hjk ((beq_iff_eq.mp h).symm.trans hk)

theorem State.radTask_of_holds (h : s.holds .radio false = true) : s.radTask.isSome = true := by
  unfold State.holds at h
  unfold State.radTask
  cases ht : s.holder .radio with
  | none => rw [ht] at h; exact h
  | some i => rfl

/-! ### The effects of the tasks (R413) -/

theorem State.ccaStart_held (h : s.holds .radio false = true) :
    s.ccaStart = ((s.setRad fun r => { r with ccaReq := true }).radNext).winNext := if_pos (State.radTask_of_holds h)

theorem State.radToSleep_idle (h : s.radTask = none) : s.radToSleep = s := if_neg (by rw [h]; exact Bool.false_ne_true)

theorem State.paOff_idle (h : s.radState ≠ Rad.TX ∨ s.rad.tx = none) : s.paOff = s := by
  refine if_neg fun ⟨sending, frame⟩ => ?_
  obtain h | h := h
  · exact h sending
  · rw [h] at frame
    exact Bool.false_ne_true frame

theorem State.radPark_window {st : Nat} (hk : s.radKind Kind.RAD_RX_WIN = true) (hc : s.rdm.cap = none) (ht : s.rad.tx = none)
    (ho : s.rad.closing = false) : s.radPark st = (s.setRad fun r => { r with parked := some st, listen := none }).radRise st :=
  (if_pos hk).trans (if_pos (by rw [hc, ht, ho]; rfl))

theorem State.radPark_last {st : Nat} (hk : s.radKind Kind.RAD_TX = true) :
    s.radPark st = (s.setRad fun r => { r with hostEnd := true }).radNext := by
  have window := State.radKind_other (k := Kind.RAD_RX_WIN) hk (by decide)
  exact (if_neg (window ▸ Bool.false_ne_true)).trans (if_pos hk)

theorem State.radPark_none {st : Nat} (hk : s.radKind Kind.RAD_TX = false)
    (h : s.radKind Kind.RAD_RX_WIN = false ∨ s.rdm.cap.isSome = true ∨ s.rad.tx.isSome = true ∨ s.rad.closing = true) :
    s.radPark st = s := by
  have none : (if s.radKind Kind.RAD_TX then (s.setRad fun r => { r with hostEnd := true }).radNext else s) = s :=
    if_neg (hk ▸ Bool.false_ne_true)
  obtain h | h := h
  · exact (if_neg (h ▸ Bool.false_ne_true)).trans none
  · refine (congrArg (ite _ _) none).trans (ite_eq_right_iff.mpr fun _ => if_neg fun free => ?_)
    obtain ⟨free, isOpen⟩ := Bool.and_eq_true_iff.mp free
    obtain ⟨cap, tx⟩ := Bool.and_eq_true_iff.mp free
    obtain h | h | h := h
    · rw [Option.isNone_iff_eq_none.mp cap] at h
      exact Bool.false_ne_true h
    · rw [Option.isNone_iff_eq_none.mp tx] at h
      exact Bool.false_ne_true h
    · exact Bool.false_ne_true ((congrArg (!·) h).symm.trans isOpen)

theorem State.radToRx_parked {st : Nat} (h : s.rad.parked = some st) :
    s.radToRx = (s.setRad fun r => { r with parked := none }).radRise Rad.RX := by
  rw [State.radToRx, h]

theorem State.radToRx_none (h : s.rad.parked = none) : s.radToRx = s := by
  rw [State.radToRx, h]

theorem State.radToTx_waits (hk : s.radKind Kind.RAD_TX = true) (hw : s.rad.wait = true) :
    s.radToTx =
      ((s.radRxErr RxErr.CUT).setRad fun r => { r with wait := false, waitSync := false }).radGo Rad.SYNTH :=
  (if_pos hk).trans ((if_pos hw).trans (if_pos (by rw [State.radRxErr_rad, hw])))

theorem State.radToTx_noWait (hk : s.radKind Kind.RAD_TX = true) (hw : s.rad.wait = false) : s.radToTx = s :=
  (if_pos hk).trans (if_neg (hw ▸ Bool.false_ne_true))

theorem State.radToTx_acks (hk : s.radKind Kind.RAD_RX_WIN = true) (hc : s.rdm.cap = none) (hm : s.mayAck = true) :
    s.radToTx = (s.setRad fun r => { r with flush := true }).winNext := by
  have task := State.radKind_other (k := Kind.RAD_TX) hk (by decide)
  exact (if_neg (task ▸ Bool.false_ne_true)).trans (if_pos (by rw [hk, hc, hm]; rfl))

theorem State.radToTx_none (hk : s.radKind Kind.RAD_TX = false)
    (h : s.radKind Kind.RAD_RX_WIN = false ∨ s.rdm.cap.isSome = true ∨ s.mayAck = false) : s.radToTx = s := by
  refine (if_neg (hk ▸ Bool.false_ne_true)).trans (if_neg fun ready => ?_)
  obtain ⟨ready, may⟩ := Bool.and_eq_true_iff.mp ready
  obtain ⟨window, cap⟩ := Bool.and_eq_true_iff.mp ready
  obtain h | h | h := h
  · exact Bool.false_ne_true (h.symm.trans window)
  · rw [Option.isNone_iff_eq_none.mp cap] at h
    exact Bool.false_ne_true h
  · exact Bool.false_ne_true (h.symm.trans may)

/-! ### Out of STANDBY (R397, R398) -/

variable {st : Nat}

theorem State.radGo_radState (s : State) (st : Nat) : (s.radGo st).radState = s.radState :=
  State.get_put_ne _ .RDM_STAT_SEARCH .RAD_STATE_STATE _ (by decide)

theorem State.radRise_free (h : s.radState ≠ Rad.STANDBY ∨ st ≤ Rad.STANDBY) : s.radRise st = s.radGo st := by
  refine if_neg fun ⟨standby, above⟩ => ?_
  rw [State.radGo_radState] at standby
  obtain h | h := h
  · exact h standby
  · exact Nat.not_lt.mpr h above

theorem State.radRise_leaves (h : s.radState = Rad.STANDBY) (ha : Rad.STANDBY < st) : s.radRise st = (s.radGo st).radLeaves :=
  if_pos ⟨(State.radGo_radState s st).trans h, ha⟩

theorem State.radLeaves_badFreq (h : inBand s.carrier = false) :
    s.radLeaves = (s.put .RAD_STATE_BADFREQ 1).radEnd (.aborted Cause.BLOCK) := if_pos (congrArg (!·) h)

theorem State.radLeaves_inBand (h : inBand s.carrier = true) : s.radLeaves =
    if !s.radKind Kind.RAD_CAL && !s.calValid s.carrier then (s.put .RAD_STATE_NOCAL 1).radEnd (.aborted Cause.BLOCK) else s :=
  if_neg fun h' => Bool.false_ne_true ((congrArg (!·) h).symm.trans h')

end

/-- Settles O28, command by command. -/
theorem radioTaskCommands : Obligations.RadioTaskCommands := by
  refine ⟨fun s hn ht => done_write hn ((State.radCommand_sleep _).trans (if_pos ht)),
    fun s hn ht => done_write hn ((State.radCommand_cca _).trans ((if_pos ht).trans (State.ccaStart_held ht))),
    fun s hn hr ht => done_write hn ((State.radCommand_paOff _).trans (if_pos ⟨hr, ht⟩)),
    fun s hu he hs => ⟨fun ht => ?sleepTask, fun ht => ?ccaTask, fun hr ht => ?offTask⟩,
    fun s hu he hs ht => ⟨fun hk hc hx ho => ⟨?standby, ?synth⟩, fun hk => ⟨?standbyLast, ?synthLast⟩⟩,
    fun st s hu he hs ht hp => ?unparks,
    fun st s => ⟨State.radRise_free, fun h ha => ⟨fun hb => ?badFreq, fun hb hk hv => ?noCal, fun hb hv => ?valid⟩⟩,
    fun s hu he hs ht => ⟨fun hk hw => ?waits, fun hk hc hm => ?acks⟩,
    fun s hn => ⟨fun h => done_write hn ((State.radCommand_sleep _).trans (State.radToSleep_idle h)), fun h => ?ccaNone,
      fun h => done_write hn ((State.radCommand_paOff _).trans (State.paOff_idle h))⟩,
    fun s hu he hs => ⟨fun ht => ⟨fun h => ?offNone, fun hk h => ⟨?standbyNone, ?synthNone⟩, fun h => ?rxNone⟩,
      fun ht => ⟨fun hk hw => ?txNoWait, fun hk h => ?txNone⟩⟩⟩
  case sleepTask =>
    exact done_task hu ((State.routerTask_page (n := 58) he hs rfl rfl (taskRole_ne rfl)).trans (if_pos (c := s.radTask.isSome = true) ht))
  case ccaTask =>
    exact done_task hu ((State.routerTask_running (n := 64) he hs rfl rfl (taskRole_ne rfl) ht).trans (State.ccaStart_held (s := s.unlatched 64) ht))
  case offTask =>
    exact done_task hu ((State.routerTask_page (n := 65) he hs rfl rfl (taskRole_ne rfl)).trans
      (if_pos (c := s.radState = Rad.TX ∧ s.rad.tx.isSome = true) ⟨hr, ht⟩))
  case standby =>
    exact done_live hu ((State.routerTask_running (n := 59) he hs rfl rfl (taskRole_ne rfl) ht).trans
      (State.radPark_window (s := s.unlatched 59) hk hc hx ho))
  case synth =>
    exact done_live hu ((State.routerTask_running (n := 60) he hs rfl rfl (taskRole_ne rfl) ht).trans
      (State.radPark_window (s := s.unlatched 60) hk hc hx ho))
  case standbyLast =>
    exact done_live hu ((State.routerTask_running (n := 59) he hs rfl rfl (taskRole_ne rfl) ht).trans
      (State.radPark_last (s := s.unlatched 59) hk))
  case synthLast =>
    exact done_live hu ((State.routerTask_running (n := 60) he hs rfl rfl (taskRole_ne rfl) ht).trans
      (State.radPark_last (s := s.unlatched 60) hk))
  case unparks =>
    exact done_live hu ((State.routerTask_running (n := 61) he hs rfl rfl (taskRole_ne rfl) ht).trans
      (State.radToRx_parked (s := s.unlatched 61) hp))
  case badFreq => exact (State.radRise_leaves h ha).trans (State.radLeaves_badFreq hb)
  case noCal => exact (State.radRise_leaves h ha).trans ((State.radLeaves_inBand hb).trans (if_pos (by rw [hk, hv]; rfl)))
  case valid =>
    refine (State.radRise_leaves h ha).trans ((State.radLeaves_inBand hb).trans (if_neg ?_))
    rw [hv, Bool.not_true, Bool.and_false]
    exact Bool.false_ne_true
  case waits =>
    exact done_live hu ((State.routerTask_running (n := 62) he hs rfl rfl (taskRole_ne rfl) ht).trans
      (State.radToTx_waits (s := s.unlatched 62) hk hw))
  case acks =>
    exact done_live hu ((State.routerTask_running (n := 62) he hs rfl rfl (taskRole_ne rfl) ht).trans
      (State.radToTx_acks (s := s.unlatched 62) hk hc hm))
  case ccaNone => exact done_write hn ((State.radCommand_cca _).trans (if_neg fun h' => Bool.false_ne_true (h.symm.trans h')))
  case offNone =>
    exact done_task hu ((State.routerTask_page (n := 65) he hs rfl rfl (taskRole_ne rfl)).trans (State.paOff_idle (s := s.unlatched 65) h))
  case standbyNone =>
    exact done_live hu ((State.routerTask_running (n := 59) he hs rfl rfl (taskRole_ne rfl) ht).trans
      (State.radPark_none (s := s.unlatched 59) hk h))
  case synthNone =>
    exact done_live hu ((State.routerTask_running (n := 60) he hs rfl rfl (taskRole_ne rfl) ht).trans
      (State.radPark_none (s := s.unlatched 60) hk h))
  case rxNone =>
    exact done_live hu ((State.routerTask_running (n := 61) he hs rfl rfl (taskRole_ne rfl) ht).trans
      (State.radToRx_none (s := s.unlatched 61) h))
  case txNoWait =>
    exact done_live hu ((State.routerTask_running (n := 62) he hs rfl rfl (taskRole_ne rfl) ht).trans
      (State.radToTx_noWait (s := s.unlatched 62) hk hw))
  case txNone =>
    exact done_live hu ((State.routerTask_running (n := 62) he hs rfl rfl (taskRole_ne rfl) ht).trans
      (State.radToTx_none (s := s.unlatched 62) hk h))

end Sys2Proof.Machine
end

section
/-! PROOFS. The commands of the radio modem. -/

namespace Sys2Proof.Machine

/-! ### RDM_CMD (R442) -/

section
variable (s : State)

theorem State.rdmCommand_announce : s.rdmCommand Fld.RDM_CMD_ANN.one = s.announceRequest := rfl

theorem State.rdmCommand_start : s.rdmCommand Fld.RDM_CMD_START.one = if s.holds .radio false then s.searchSet true else s := rfl

theorem State.rdmCommand_stop : s.rdmCommand Fld.RDM_CMD_STOP.one = s.searchSet false := rfl

end

/-! ### Lanes (R423 to R427) -/

section
variable {s : State} {x y : LaneSync} {m : Nat} {c : Capture}

theorem State.laneMode_idle {lane : Nat} (h : s.bit .RDM_STAT_SEARCH = false) : s.laneMode lane = none := if_pos (congrArg (!·) h)

theorem State.laneMode_searching {lane : Nat} (h : s.bit .RDM_STAT_SEARCH = true) : s.laneMode lane =
    if s.rad.wait then some s.rad.mode
    else if s.bit (.RDM_LANE_EN lane) then some (s.get (.RDM_LANE_MODE lane)) else none :=
  if_neg fun h' => Bool.false_ne_true ((congrArg (!·) h).symm.trans h')

/-- The mode that a lane's sync counts in, none where it is not taken. -/
def State.syncMode (s : State) (x : LaneSync) : Option Nat :=
  (s.laneMode x.lane).filter fun _ =>
    decide (x.errs ≤ s.get (.RDM_LANE_SYNCERR x.lane)) && (!s.drainHold 16 || s.rdm.cap.isSome)

theorem State.syncMode_some (hm : s.laneMode x.lane = some m) (he : x.errs ≤ s.get (.RDM_LANE_SYNCERR x.lane))
    (hd : (!s.drainHold 16 || s.rdm.cap.isSome) = true) : s.syncMode x = some m := by
  unfold State.syncMode
  rw [hm, decide_eq_true he, hd]
  rfl

theorem State.syncMode_none (h : s.laneMode x.lane = none ∨ s.get (.RDM_LANE_SYNCERR x.lane) < x.errs) : s.syncMode x = none := by
  unfold State.syncMode
  obtain h | h := h
  · rw [h]
    rfl
  · rw [decide_eq_false (Nat.not_le.mpr h)]
    cases s.laneMode x.lane with
    | none => rfl
    | some m => rfl

theorem State.syncMode_draining (hd : s.drainHold 16 = true) (hc : s.rdm.cap = none) : s.syncMode x = none := by
  unfold State.syncMode
  rw [hd, hc, Bool.not_true, Option.isSome_none, Bool.or_self, Bool.and_false]
  cases s.laneMode x.lane with
  | none => rfl
  | some m => rfl

/-- The lane has found its sync word. -/
def State.laneSynced (s : State) (x : LaneSync) : State :=
  (s.setBitAt .RDM_STAT_SYNCED x.lane true).setRad fun r => { r with synced := true }

theorem State.laneSync_untaken (h : s.syncMode x = none) : s.laneSync x = s := by
  unfold State.syncMode at h
  rw [State.laneSync]
  dsimp only
  rw [h]

theorem State.laneSync_captures (h : s.syncMode x = some m) (hc : s.rdm.cap = none) :
    s.laneSync x = (s.laneSynced x).capture x.lane m (s.level x.dbm) x.ofs := by
  unfold State.syncMode at h
  rw [State.laneSync]
  dsimp only
  rw [h]
  dsimp only
  rw [State.setRad_rdm, State.setBitAt_rdm, hc]
  rfl

theorem State.laneSync_busy (h : s.syncMode x = some m) (hc : s.rdm.cap = some c) : s.laneSync x =
    let t := s.laneSynced x
    if c.window && t.bit .RDM_CFG_PREEMPT && c.lane != x.lane && decide (c.level + t.get .RDM_CFG_PREDB ≤ s.level x.dbm) then
      (((t.put .RDM_RXINFO_ERR RxErr.PREEMPTED).sat .RDM_CNT_PREEMPT).raise Ev.RDM_PREEMPT).capture x.lane m (s.level x.dbm) x.ofs
    else (t.sat .RDM_CNT_LANEOVR).raise Ev.RDM_LANE_OVR := by
  unfold State.syncMode at h
  rw [State.laneSync]
  dsimp only
  rw [h]
  dsimp only
  rw [State.setRad_rdm, State.setBitAt_rdm, hc]
  rfl

/-- A sync that comes first stays first. -/
theorem State.laneSyncs_sorted (h : s.level y.dbm < s.level x.dbm ∨ (s.level y.dbm = s.level x.dbm ∧ x.lane < y.lane)) :
    s.laneSyncs [x, y] = (s.laneSync x).laneSync y :=
  congrArg (fun l => s.forEach l State.laneSync) (if_pos h)

/-- A sync that comes last in the order goes behind. -/
theorem State.laneSyncs_unsorted (h : s.level y.dbm < s.level x.dbm ∨ (s.level y.dbm = s.level x.dbm ∧ x.lane < y.lane)) :
    s.laneSyncs [y, x] = (s.laneSync x).laneSync y := by
  have behind : ¬ (s.level x.dbm < s.level y.dbm ∨ (s.level x.dbm = s.level y.dbm ∧ y.lane < x.lane)) := by omega
  exact congrArg (fun l => s.forEach l State.laneSync) (if_neg behind)

/-! ### Headers (R428) -/

variable {soft llrs : List Int} {hard : List Bool}

theorem State.radioHeader_none (h : s.rdm.cap = none) : s.radioHeader soft hard = s := by
  rw [State.radioHeader, h]

theorem State.radioHeader_late (h : s.rdm.cap = some c) (hw : c.window = false) : s.radioHeader soft hard = s := by
  rw [State.radioHeader, h]
  exact if_pos (congrArg (!·) hw)

theorem State.radioHeader_legacy (h : s.rdm.cap = some c) (hw : c.window = true) (hm : c.mode = 0) : s.radioHeader soft hard =
    if 192 < (readLegacy (toBytes (whiten (hard.take 32)))).len then s.radioRxErr RxErr.LEGHDR
    else (s.setRdm fun m => { m with cap := some { c with window := false } }).raise Ev.RDM_HDR_OK := by
  rw [State.radioHeader, h]
  dsimp only
  rw [hw]
  exact if_pos hm

theorem State.radioHeader_coded (h : s.rdm.cap = some c) (hw : c.window = true) (hm : c.mode ≠ 0) : s.radioHeader soft hard =
    let r := s.rxBegin 5 2 c.mode soft (rssiByte c.level) c.mark
    if r.2.1 then r.2.2.radioRxErr RxErr.PHR
    else (r.2.2.setRdm fun m => { m with cap := some { c with window := false, frame := r.1 } }).raise Ev.RDM_HDR_OK := by
  rw [State.radioHeader, h]
  dsimp only
  rw [hw]
  exact if_neg hm

theorem State.radioRxErr_captured {err : Nat} (h : s.rdm.cap.isSome = true) : s.radioRxErr err = (s.radRxErr err).rxOver := if_pos h

/-! ### Frames (R428, R429) -/

theorem State.radioReceived_none (h : s.rdm.cap = none) : s.radioReceived llrs hard = s := by
  rw [State.radioReceived, h]

/-- A mode 0 frame that crossed, or not, goes on. -/
def State.legacyGone (r : Option RxFrame × State) : State :=
  match r.1 with
  | none => r.2
  | some f => r.2.legacyArrived f

theorem State.radioReceived_legacy (h : s.rdm.cap = some c) (hm : c.mode = 0) :
    s.radioReceived llrs hard = State.legacyGone (s.radioLegacy hard) := by
  rw [State.radioReceived, h]
  exact if_pos hm

theorem State.radioReceived_coded (h : s.rdm.cap = some c) (hm : c.mode ≠ 0) :
    s.radioReceived llrs hard = s.radioItems llrs true true := by
  rw [State.radioReceived, h]
  exact if_neg hm

theorem State.radioLegacy_window (h : s.rdm.cap = some c) (hw : c.window = true) : s.radioLegacy hard = (none, s) := by
  rw [State.radioLegacy, h]
  exact if_pos (.inr hw)

theorem State.radioLegacy_crosses {f : RxFrame} (h : s.rdm.cap = some c) (hm : c.mode = 0) (hw : c.window = false)
    (hf : (s.rxLegacy 5 1 0 hard (rssiByte c.level) c.mark).1 = some f) : s.radioLegacy hard =
      (some f, (((s.rxLegacy 5 1 0 hard (rssiByte c.level) c.mark).2.radioRxDone f.header.ftype).openSlot f.id 0).rxOver) := by
  rw [State.radioLegacy, h]
  refine (if_neg ?_).trans ?_
  · rw [hm, hw]
    decide
  · dsimp only
    rw [hf]

theorem State.radioLegacy_drops (h : s.rdm.cap = some c) (hm : c.mode = 0) (hw : c.window = false)
    (hf : (s.rxLegacy 5 1 0 hard (rssiByte c.level) c.mark).1 = none) : s.radioLegacy hard =
      (none, (s.rxLegacy 5 1 0 hard (rssiByte c.level) c.mark).2.radioRxErr RxErr.DROP) := by
  rw [State.radioLegacy, h]
  refine (if_neg ?_).trans ?_
  · rw [hm, hw]
    decide
  · dsimp only
    rw [hf]

theorem State.radioItems_window (h : s.rdm.cap = some c) (hw : c.window = true) : s.radioItems llrs true true = s := by
  rw [State.radioItems, h]
  exact if_pos (by rw [hw, Bool.or_true])

/-- The frame of a captured coded mode is past its header window. -/
theorem Capture.items (hm : c.mode ≠ 0) (hw : c.window = false) : ¬ (c.mode = 0 || c.window) = true := by
  rw [hw, decide_eq_false hm]
  exact Bool.false_ne_true

theorem State.radioItems_untaken (h : s.rdm.cap = some c) (hm : c.mode ≠ 0) (hw : c.window = false) (hf : c.frame = none) :
    s.radioItems llrs true true = (s.radioRxDone 0).rxOver := by
  rw [State.radioItems, h]
  refine (if_neg (Capture.items hm hw)).trans ?_
  rw [hf]
  rfl

theorem State.radioItems_gone {id : Nat} (h : s.rdm.cap = some c) (hm : c.mode ≠ 0) (hw : c.window = false)
    (hf : c.frame = some id) (hr : s.rxFrame id = none) : s.radioItems llrs true true = s.radioRxErr RxErr.DROP := by
  rw [State.radioItems, h]
  refine (if_neg (Capture.items hm hw)).trans ?_
  rw [hf]
  dsimp only
  rw [hr]
  rfl

/-- What becomes of a frame whose last item crossed, or not, as `r` tells. -/
def State.lastItem (r : Bool × State) (h : Option Header) (ncw id mode : Nat) : State :=
  if !r.1 then r.2.radioRxErr RxErr.DROP
  else if h = none ∧ ncw = 1 then r.2.radioRxErr RxErr.HDR
  else ((r.2.radioRxDone ((h.map (·.ftype)).getD 0)).openSlot id mode).rxOver

section
variable {r : Bool × State} {ncw id mode : Nat}

theorem State.lastItem_dropped {h : Option Header} (hx : r.1 = false) :
    State.lastItem r h ncw id mode = r.2.radioRxErr RxErr.DROP := if_pos (congrArg (!·) hx)

/-- A last item that crossed. -/
theorem State.lastItem_crossed {h : Option Header} (hx : r.1 = true) : State.lastItem r h ncw id mode =
    if h = none ∧ ncw = 1 then r.2.radioRxErr RxErr.HDR
    else ((r.2.radioRxDone ((h.map (·.ftype)).getD 0)).openSlot id mode).rxOver :=
  if_neg fun h' => Bool.false_ne_true ((congrArg (!·) hx).symm.trans h')

theorem State.lastItem_headed {h : Header} (hx : r.1 = true) : State.lastItem r (some h) ncw id mode =
    ((r.2.radioRxDone h.ftype).openSlot id mode).rxOver :=
  (State.lastItem_crossed hx).trans (if_neg fun ⟨headless, _⟩ => nomatch headless)

theorem State.lastItem_several (hx : r.1 = true) (hn : ncw ≠ 1) : State.lastItem r none ncw id mode =
    ((r.2.radioRxDone 0).openSlot id mode).rxOver :=
  (State.lastItem_crossed hx).trans (if_neg fun ⟨_, one⟩ => hn one)

end

/-- Soft bits below 576 cross as one item. -/
theorem State.radioItems_last {id : Nat} {f : RxFrame} (h : s.rdm.cap = some c) (hm : c.mode ≠ 0) (hw : c.window = false)
    (hf : c.frame = some id) (hr : s.rxFrame id = some f) (hl : llrs.length < 576) : s.radioItems llrs true true =
      State.lastItem (s.rxItem id llrs true true) (hardHeader (f.llrs ++ llrs)) f.ncw id c.mode := by
  have single : chunk576 llrs (llrs.length / 576 + 1) = [llrs] := by
    rw [Nat.div_eq_of_lt hl]
    exact if_pos (Nat.le_of_lt hl)
  rw [State.radioItems, h]
  refine (if_neg (Capture.items hm hw)).trans ?_
  rw [hf]
  dsimp only
  rw [hr]
  dsimp only
  rw [single]
  rfl

/-- Nothing has been received within the header window. -/
theorem State.radioReceived_early (h : s.rdm.cap = some c) (hw : c.window = true) : s.radioReceived llrs hard = s := by
  by_cases hm : c.mode = 0
  · exact (State.radioReceived_legacy h hm).trans (congrArg State.legacyGone (State.radioLegacy_window h hw))
  · exact (State.radioReceived_coded h hm).trans (State.radioItems_window h hw)

/-! ### RSSI (R432, R434) -/

variable {dbm : Int}

/-- The thresholds of RDM_RSSI_CFG are judged: `hi` for a sample at HI or above, `lo` for one below LO. -/
def State.rssiJudged (t : State) (hi lo : Bool) : State :=
  ((t.raiseIf (hi && t.rdm.hiArmed) Ev.RDM_RSSI_HI).raiseIf (lo && t.rdm.loArmed) Ev.RDM_RSSI_LO).setRdm fun m => { m with
    hiArmed := lo || (!hi && m.hiArmed), loArmed := hi || (!lo && m.loArmed) }

/-- The highest sample of a listen, with `v` among them. -/
def State.rssiTop (t : State) (v : Int) : Int :=
  match t.rad.highest with
  | some h => max h v
  | none => v

/-- In a listen the highest sample is kept. -/
def State.rssiKept (t : State) (v : Int) : State :=
  if t.rad.listen.isSome then
    t.setRad fun r => { r with highest := some (match r.highest with
      | some h => max h v
      | none => v) }
  else t

theorem State.rssiKept_eq (t : State) (v : Int) : t.rssiKept v =
    t.setRad fun r => { r with highest := if t.rad.listen.isSome then some (t.rssiTop v) else r.highest } := by
  unfold State.rssiKept
  generalize t.rad.listen.isSome = listens
  cases listens with
  | false => rfl
  | true => rfl

theorem State.rssiKept_idle {v : Int} (h : s.rad.listen = none) : (s.putS .RDM_RSSI_NOW v).rssiKept v = s.putS .RDM_RSSI_NOW v :=
  if_neg (by rw [State.putS_rad, h]; exact Bool.false_ne_true)

theorem State.rssiKept_higher {v h : Int} {cca : Bool} (hl : s.rad.listen = some cca) (hh : s.rad.highest = some h) :
    (s.putS .RDM_RSSI_NOW v).rssiKept v = (s.putS .RDM_RSSI_NOW v).setRad fun r => { r with highest := some (max h v) } := by
  have top : (s.putS .RDM_RSSI_NOW v).rssiTop v = max h v := by
    rw [State.rssiTop, State.putS_rad, hh]
  rw [State.rssiKept_eq, top, State.putS_rad, hl]
  rfl

/-- Each threshold is armed by a sample beyond the other one, and not by one beyond itself. -/
theorem State.rssiJudged_of (t : State) (hi lo : Bool) :
    (let u := t.raiseIf (hi && t.rdm.hiArmed) Ev.RDM_RSSI_HI
     let v := u.raiseIf (lo && u.rdm.loArmed) Ev.RDM_RSSI_LO
     v.setRdm fun m => { m with
      hiArmed := if lo then true else if hi then false else m.hiArmed
      loArmed := if hi then true else if lo then false else m.loArmed }) = t.rssiJudged hi lo := by
  dsimp only
  rw [State.raiseIf_rdm]
  cases hi with
  | false =>
    cases lo with
    | false => rfl
    | true => rfl
  | true =>
    cases lo with
    | false => rfl
    | true => rfl

theorem State.rssiSample_taken (hr : s.radState = Rad.RX) (hg : s.rad.goal = none) : s.rssiSample dbm =
    ((s.putS .RDM_RSSI_NOW (s.level dbm)).rssiKept (s.level dbm)).rssiJudged (decide (s.getS .RDM_RSSI_CFG_HI ≤ s.level dbm))
      (decide (s.level dbm < s.getS .RDM_RSSI_CFG_LO)) := by
  have receives : ¬ (s.radState ≠ Rad.RX ∨ s.rad.goal.isSome = true) := by
    rw [hr, hg]
    decide
  exact (if_neg receives).trans (State.rssiJudged_of _ _ _)

theorem State.rssiSample_none (h : s.radState ≠ Rad.RX ∨ s.rad.goal.isSome = true) : s.rssiSample dbm = s := if_pos h

theorem State.rssiJudged_between (t : State) : t.rssiJudged false false = t := rfl

theorem State.rssiJudged_high (t : State) : t.rssiJudged true false =
    (t.raiseIf t.rdm.hiArmed Ev.RDM_RSSI_HI).setRdm fun m => { m with hiArmed := false, loArmed := true } := rfl

theorem State.rssiJudged_low (t : State) : t.rssiJudged false true =
    (t.raiseIf t.rdm.loArmed Ev.RDM_RSSI_LO).setRdm fun m => { m with hiArmed := true, loArmed := false } := rfl

theorem State.searchSet_window {on : Bool} (h : s.radKind Kind.RAD_RX_WIN = true) :
    s.searchSet on = (s.setRdm fun m => { m with on := on }).syncSearch := if_pos h

theorem State.searchSet_none {on : Bool} (h : s.radKind Kind.RAD_RX_WIN = false) : s.searchSet on = s :=
  if_neg (h ▸ Bool.false_ne_true)

end

/-- Settles O29, command by command. -/
theorem modemCommands : Obligations.ModemCommands := by
  have off {b : Bool} (h : b = false) : ¬ b = true := by rw [h]; exact Bool.false_ne_true
  refine ⟨fun x m s hu hm he => ⟨fun hc hd => ?captures, fun c hc => ⟨fun hw hp hl hv => ?preempts, fun h => ?overrun⟩⟩,
    fun x s hu h => done_live hu (State.laneSync_untaken (State.syncMode_none h)),
    fun lane s => ⟨State.laneMode_idle, fun h hw => ?waitMode, fun h hw he => ?ownMode, fun h hw he => ?disabled⟩,
    fun x y s hu h => ⟨done_live hu (State.laneSyncs_sorted h), done_live hu (State.laneSyncs_unsorted h)⟩,
    fun c soft hard s hu hc hw hm => ⟨fun hl => ?header, fun hl => ?headerLong⟩,
    fun c soft hard s hu hc hw hm => ⟨fun hr hk => ?phrFails, fun hr => ?phr⟩,
    fun c llrs hard s hu hc hm hw hf => ?untaken,
    fun c id f h llrs hard s hu hc hm hw hf hr hl hh => ⟨fun hx => ?crosses, fun hx => ?dropped⟩,
    fun c llrs hard s hu hc hm hw => ⟨fun f hf => ?legacy, fun hf => ?legacyDropped⟩,
    fun dbm s hu hr hg hl => ⟨fun h1 h2 => ?between, fun h1 h2 => ?high, fun h1 h2 => ?low⟩,
    fun dbm h cca s hu hr hg hl hh h1 h2 => ?highest,
    fun dbm s hu hr => done_live hu (State.rssiSample_none (.inl hr)),
    fun s hn hh => done_native hn ((State.rdmCommand_announce _).trans (if_neg (off hh))),
    fun s hn hh => done_native hn ((State.rdmCommand_announce _).trans (if_pos hh)),
    fun s hn => done_native hn ((State.regWrite_RDM_ANN_INFO _ _).trans (if_pos (by decide))),
    fun s hn hk => ⟨fun hd => ?starts, ?stops⟩, fun s hu he hs hk => ⟨fun hd => ?startsTask, ?stopsTask⟩,
    fun s hu => done_live hu rfl, fun x s hu hd hc => done_live hu (State.laneSync_untaken (State.syncMode_draining hd hc)),
    fun soft llrs hard s hu => ⟨fun hc => ⟨done_live hu (State.radioHeader_none hc), done_live hu (State.radioReceived_none hc)⟩,
      fun c hc => ⟨fun hw => done_live hu (State.radioHeader_late hc hw), fun hw => ?early⟩⟩,
    fun c id llrs hard s hu hc hm hw hf => ⟨fun hr => ?gone, fun f hr hl hh => ⟨fun hx => ?unheadedDropped, fun hx h1 => ?single, fun hx h1 => ?several⟩⟩,
    fun dbm s hu hg => done_live hu (State.rssiSample_none (.inr hg)), fun dbm s hu hr hg h => ?sample,
    fun s hn hk => ⟨?noStart, ?noStop⟩, fun s hu he hs hk => ⟨fun hd => ?noStartTask, ?noStopTask⟩⟩
  case captures =>
    exact done_live hu (State.laneSync_captures (State.syncMode_some hm he (by rw [hd]; rfl)) hc)
  case preempts =>
    have taken := State.laneSync_busy (State.syncMode_some hm he (by rw [hc, Option.isSome_some, Bool.or_true])) hc
    refine done_live hu (taken.trans (if_pos ?_))
    exact congrArg₂ and (congrArg₂ and (congrArg₂ and hw hp) (bne_iff_ne.mpr hl)) (decide_eq_true hv)
  case overrun =>
    have taken := State.laneSync_busy (State.syncMode_some hm he (by rw [hc, Option.isSome_some, Bool.or_true])) hc
    refine done_live hu (taken.trans (if_neg fun wins => ?_))
    obtain ⟨wins, level⟩ := Bool.and_eq_true_iff.mp wins
    obtain ⟨wins, lane⟩ := Bool.and_eq_true_iff.mp wins
    obtain ⟨window, preempt⟩ := Bool.and_eq_true_iff.mp wins
    obtain h | h | h | h := h
    · exact off h window
    · exact off h preempt
    · exact bne_iff_ne.mp lane h
    · exact Int.not_lt.mpr (of_decide_eq_true level) h
  case waitMode => exact (State.laneMode_searching h).trans (if_pos hw)
  case ownMode => exact (State.laneMode_searching h).trans ((if_neg (off hw)).trans (if_pos he))
  case disabled => exact (State.laneMode_searching h).trans ((if_neg (off hw)).trans (if_neg (off he)))
  case header => exact done_live hu ((State.radioHeader_legacy hc hw hm).trans (if_neg (Nat.not_lt.mpr hl)))
  case headerLong =>
    exact done_live hu ((State.radioHeader_legacy hc hw hm).trans ((if_pos hl).trans (State.radioRxErr_captured (by rw [hc]; rfl))))
  case phrFails => exact done_live hu ((State.radioHeader_coded hc hw hm).trans ((if_pos hr).trans (State.radioRxErr_captured hk)))
  case phr => exact done_live hu ((State.radioHeader_coded hc hw hm).trans (if_neg (off hr)))
  case untaken => exact done_live hu ((State.radioReceived_coded hc hm).trans (State.radioItems_untaken hc hm hw hf))
  case crosses =>
    exact done_live hu ((State.radioReceived_coded hc hm).trans ((State.radioItems_last hc hm hw hf hr hl).trans
      ((congrArg (State.lastItem _ · _ _ _) hh).trans (State.lastItem_headed hx))))
  case dropped | unheadedDropped =>
    exact done_live hu ((State.radioReceived_coded hc hm).trans ((State.radioItems_last hc hm hw hf hr hl).trans
      (State.lastItem_dropped hx)))
  case single =>
    exact done_live hu ((State.radioReceived_coded hc hm).trans ((State.radioItems_last hc hm hw hf hr hl).trans
      ((State.lastItem_crossed hx).trans (if_pos ⟨hh, h1⟩))))
  case several =>
    exact done_live hu ((State.radioReceived_coded hc hm).trans ((State.radioItems_last hc hm hw hf hr hl).trans
      ((congrArg (State.lastItem _ · _ _ _) hh).trans (State.lastItem_several hx h1))))
  case legacy =>
    exact done_live hu ((State.radioReceived_legacy hc hm).trans (congrArg State.legacyGone (State.radioLegacy_crosses hc hm hw hf)))
  case legacyDropped =>
    exact done_live hu ((State.radioReceived_legacy hc hm).trans (congrArg State.legacyGone (State.radioLegacy_drops hc hm hw hf)))
  case between =>
    refine done_live hu ((State.rssiSample_taken hr hg).trans ?_)
    rw [State.rssiKept_idle hl, decide_eq_false (Int.not_le.mpr h1), decide_eq_false (Int.not_lt.mpr h2)]
    exact State.rssiJudged_between _
  case high =>
    refine done_live hu ((State.rssiSample_taken hr hg).trans ?_)
    rw [State.rssiKept_idle hl, decide_eq_true h1, decide_eq_false (Int.not_lt.mpr h2)]
    exact State.rssiJudged_high _
  case low =>
    refine done_live hu ((State.rssiSample_taken hr hg).trans ?_)
    rw [State.rssiKept_idle hl, decide_eq_false (Int.not_le.mpr h1), decide_eq_true h2]
    exact State.rssiJudged_low _
  case highest =>
    refine done_live hu ((State.rssiSample_taken hr hg).trans ?_)
    rw [decide_eq_false (Int.not_le.mpr h1), decide_eq_false (Int.not_lt.mpr h2)]
    exact (State.rssiJudged_between _).trans (State.rssiKept_higher hl hh)
  case sample =>
    exact done_live hu ((State.rssiSample_taken hr hg).trans (congrArg (State.rssiJudged · _ _) (State.rssiKept_eq _ _)))
  case starts => exact done_write hn ((State.rdmCommand_start _).trans ((if_pos hd).trans (State.searchSet_window hk)))
  case stops => exact done_write hn ((State.rdmCommand_stop _).trans (State.searchSet_window hk))
  case startsTask =>
    exact done_task hu ((State.routerTask_running (n := 66) he hs rfl rfl (taskRole_ne rfl) hd).trans (State.searchSet_window (s := s.unlatched 66) hk))
  case stopsTask =>
    exact done_task hu ((State.routerTask_page (n := 67) he hs rfl rfl (taskRole_ne rfl)).trans (State.searchSet_window (s := s.unlatched 67) hk))
  case early => exact done_live hu (State.radioReceived_early hc hw)
  case gone => exact done_live hu ((State.radioReceived_coded hc hm).trans (State.radioItems_gone hc hm hw hf hr))
  case noStart =>
    refine done_write hn ((State.rdmCommand_start _).trans ?_)
    exact (congrArg (ite _ · _) (State.searchSet_none hk)).trans (ite_self _)
  case noStop => exact done_write hn ((State.rdmCommand_stop _).trans (State.searchSet_none hk))
  case noStartTask =>
    exact done_task hu ((State.routerTask_running (n := 66) he hs rfl rfl (taskRole_ne rfl) hd).trans (State.searchSet_none (s := s.unlatched 66) hk))
  case noStopTask =>
    exact done_task hu ((State.routerTask_page (n := 67) he hs rfl rfl (taskRole_ne rfl)).trans (State.searchSet_none (s := s.unlatched 67) hk))

end Sys2Proof.Machine
end

section
/-! PROOFS. The commands of the NFC field. -/

namespace Sys2Proof.Machine

/-! ### The running FIELD task -/

section
variable {s t : State}

/-- Which task holds FIELD is told by the scheduler alone. -/
theorem State.fieldTask_congr (h : t.sch = s.sch) : t.fieldTask = s.fieldTask := by
  unfold State.fieldTask State.holder State.runningSlots State.slot
  rw [h]

theorem State.fieldKind_congr (h : t.sch = s.sch) (k : Nat) : t.fieldKind k = s.fieldKind k := by
  unfold State.fieldKind State.slot
  rw [State.fieldTask_congr h, h]

theorem State.nfcServing_congr (h : t.sch = s.sch) : t.nfcServing = s.nfcServing := by
  unfold State.nfcServing
  rw [State.fieldKind_congr h, State.fieldKind_congr h]

theorem State.fieldEngine_congr (h : t.sch = s.sch) : t.fieldEngine = s.fieldEngine := by
  unfold State.fieldEngine State.slot
  rw [State.fieldTask_congr h, h]

/-- The task that holds FIELD is of one kind. -/
theorem State.fieldKind_other {j k : Nat} (h : s.fieldKind j = true) (hjk : j ≠ k) : s.fieldKind k = false := by
  unfold State.fieldKind at h ⊢
  cases ht : s.fieldTask with
  | none => rfl
  | some i =>
    rw [ht] at h
    exact beq_false_of_ne fun hk => hjk ((beq_iff_eq.mp h).symm.trans hk)

/-- A poll or a transaction task is neither a Comet sweep nor a tuner sweep. -/
theorem State.fieldKind_of_serving {k : Nat} (h : s.nfcServing = true) (hp : Kind.NFC_POLL ≠ k) (ht : Kind.NFC_TXN ≠ k) :
    s.fieldKind k = false := by
  obtain h | h := Bool.or_eq_true_iff.mp h
  · exact State.fieldKind_other h hp
  · exact State.fieldKind_other h ht

theorem State.nfcServing_of_kind {k : Nat} (h : s.fieldKind k = true) (hp : k ≠ Kind.NFC_POLL) (ht : k ≠ Kind.NFC_TXN) :
    s.nfcServing = false := by
  unfold State.nfcServing
  rw [State.fieldKind_other h hp, State.fieldKind_other h ht]
  rfl

end

/-! ### NFC_CMD (R466) -/

theorem State.nfcCommand_fieldOff (s : State) : s.nfcCommand Fld.NFC_CMD_FIELDOFF.one = s.fieldOff := rfl

/-! ### Field on (R448, R451) -/

section
variable {s : State}

theorem State.fieldRequest_held (h : s.nfc.stage = .off) (hd : s.drainHold 12 = true) :
    s.fieldRequest = s.setNfc fun f => { f with again := true } :=
  if_pos (congrArg₂ and (decide_eq_true h) hd)

/-- No request is held back by a draining page. -/
theorem State.fieldRequest_free (hd : s.nfc.stage ≠ .off ∨ s.drainHold 12 = false) :
    ¬ (decide (s.nfc.stage = .off) && s.drainHold 12) = true := fun held => by
  obtain ⟨stage, drains⟩ := Bool.and_eq_true_iff.mp held
  obtain hd | hd := hd
  · exact hd (of_decide_eq_true stage)
  · exact Bool.false_ne_true (hd.symm.trans drains)

theorem State.fieldRequest_starts (h : s.nfc.stage = .off) (hd : s.drainHold 12 = false) : s.fieldRequest =
    s.setNfc fun f => { f with
      stage := if s.bit .NFC_EXT_CFG_EN then .checking else .ramping, loud := !s.fieldKind Kind.COMET, again := false } :=
  (if_neg (State.fieldRequest_free (.inr hd))).trans (if_pos h)

theorem State.fieldRequest_falling (h : s.nfc.stage = .falling) : s.fieldRequest = s.setNfc fun f => { f with again := true } := by
  have up : s.nfc.stage ≠ .off := by rw [h]; decide
  exact (if_neg (State.fieldRequest_free (.inl up))).trans ((if_neg up).trans (if_pos h))

theorem State.fieldRequest_up (h : s.nfc.stage ≠ .off) (hf : s.nfc.stage ≠ .falling) : s.fieldRequest = s :=
  (if_neg (State.fieldRequest_free (.inl h))).trans ((if_neg h).trans (if_neg hf))

variable {amp ma mv : Nat}

/-- A check or a ramp is under way on a running island. -/
theorem State.nfcStep_of {st : FieldStage} (h : s.nfc.stage = st) (hr : s.nfcRuns = true) : ¬ (s.nfc.stage ≠ st ∨ ¬ s.nfcRuns = true) :=
  not_or.mpr ⟨not_not.mpr h, not_not.mpr hr⟩

theorem State.nfcStep_none {st : FieldStage} (h : s.nfc.stage ≠ st ∨ s.nfcRuns = false) : s.nfc.stage ≠ st ∨ ¬ s.nfcRuns = true :=
  h.imp_right fun hr h' => Bool.false_ne_true (hr.symm.trans h')

/-- A foreign field has been found. -/
def State.foreignField (s : State) : State :=
  (((s.put .NFC_STAT_EXTF 1).sat .NFC_CNT_EXTF).raise Ev.NFC_EXT_FIELD).setNfc fun f => { f with stage := .off }

theorem State.foreignField_sch (s : State) : s.foreignField.sch = s.sch := State.raise_sch _ _

theorem State.extCheck_clear (h : s.nfc.stage = .checking) (hr : s.nfcRuns = true) (ha : amp < s.get .NFC_EXT_CFG_THR) :
    s.extCheck amp = (s.put .NFC_STAT_EXTF 0).setNfc fun f => { f with stage := .ramping } :=
  (if_neg (State.nfcStep_of h hr)).trans (if_neg (Nat.not_le.mpr ha))

/-- A foreign field ends the task that asks for the field. -/
theorem State.extCheck_foreign (h : s.nfc.stage = .checking) (hr : s.nfcRuns = true) (ha : s.get .NFC_EXT_CFG_THR ≤ amp) :
    s.extCheck amp =
      if s.fieldKind Kind.COMET then s.foreignField.cometEnds Comet.EXT false
      else
        (if s.nfcServing then
          (if s.legacyTask then (s.foreignField.nfpLast NfcErr.EXTFIELD 0).legShow NfcErr.EXTFIELD
            else s.foreignField.extFieldCommand s.fieldEngine)
        else s.foreignField).fieldEnd (.aborted Cause.BLOCK) := by
  have kind := State.fieldKind_congr s.foreignField_sch Kind.COMET
  have serving := State.nfcServing_congr s.foreignField_sch
  have engine := State.fieldEngine_congr s.foreignField_sch
  have legacy : (s.foreignField.fieldTask == some 63 && s.foreignField.leg.bound) = s.legacyTask := by
    have leg : s.foreignField.leg = s.leg := State.raise_leg _ _
    rw [State.fieldTask_congr s.foreignField_sch, leg, Bool.and_comm]
    rfl
  rw [← kind, ← serving, ← engine, ← legacy]
  exact (if_neg (State.nfcStep_of h hr)).trans (if_pos ha)

/-- The field is at its level. -/
def State.fieldLevel (s : State) (ma mv : Nat) : State :=
  ((((s.put .NFC_STAT_FIELD 1).put .NFC_DRV_STAT_I (min ma 511)).put .NFC_DRV_STAT_VTX (min mv 8191)).setNfc
    fun f => { f with stage := .on, sagged := false, ref := none, lows := 0 }).raiseIf s.nfc.loud Ev.NFC_FIELD_ON

theorem State.fieldLevel_sch (s : State) (ma mv : Nat) : (s.fieldLevel ma mv).sch = s.sch := State.raiseIf_sch _ _ _

theorem State.fieldReached_level (h : s.nfc.stage = .ramping) (hr : s.nfcRuns = true) : s.fieldReached ma mv =
    if s.fieldKind Kind.TUNE_SWEEP then
      ((s.fieldLevel ma mv).put .NFC_STAT_TUNING 1).setNfc fun f => { f with
        sweep := some { qstart := 0, best := 0, made := 0, step := 8, bank := 0, dir := 0, improved := false, before := 0 } }
    else if s.nfcServing then (s.fieldLevel ma mv).setNfp fun p => { p with guard := true }
    else s.fieldLevel ma mv := by
  have kind := State.fieldKind_congr (State.fieldLevel_sch s ma mv) Kind.TUNE_SWEEP
  have serving := State.nfcServing_congr (State.fieldLevel_sch s ma mv)
  rw [← kind, ← serving]
  exact if_neg (State.nfcStep_of h hr)

/-! ### Mismatch (R453, R454) -/

variable {theta : Int}

theorem State.mismatchMeasured_none (h : s.fieldKind Kind.COMET = true ∨ s.nfc.stage ≠ .on ∨ s.bit .NFC_STAT_FIELD = false) :
    s.mismatchMeasured theta = s := by
  refine if_neg fun measured => ?_
  obtain ⟨measured, comet⟩ := Bool.and_eq_true_iff.mp measured
  obtain ⟨stage, field⟩ := Bool.and_eq_true_iff.mp measured
  obtain h | h | h := h
  · exact Bool.false_ne_true ((congrArg (!·) h).symm.trans comet)
  · exact h (of_decide_eq_true stage)
  · exact Bool.false_ne_true (h.symm.trans field)

theorem State.mismatchMeasured_counts (h : s.nfc.stage = .on) (hf : s.bit .NFC_STAT_FIELD = true) (hc : s.fieldKind Kind.COMET = false) :
    s.mismatchMeasured theta = s.mismatch theta :=
  if_pos (congrArg₂ (fun a b => a && !b) (congrArg₂ and (decide_eq_true h) hf) hc)

theorem State.mismatch_low (h : mismatchQ theta ≤ (s.showQ theta).get .NFC_TUNE_CFG_QTHR) : s.mismatch theta =
    (((s.showQ theta).put .NFC_MISMATCH_Q_CNT 0).put .NFC_STAT_NOREARM 0).setNfc fun f => { f with armed := true } := if_pos h

theorem State.mismatch_high (h : (s.showQ theta).get .NFC_TUNE_CFG_QTHR < mismatchQ theta) : s.mismatch theta =
    let u := (s.showQ theta).sat .NFC_MISMATCH_Q_CNT
    let v := (u.setNfc fun f => { f with armed := false }).raise Ev.NFC_MISMATCH
    if u.nfc.armed && !u.bit .NFC_STAT_NOREARM && decide (u.get .NFC_TUNE_CFG_MCONF ≤ u.get .NFC_MISMATCH_Q_CNT) then
      if v.bit .NFC_TUNE_CFG_AUTO then v.kindFiring Kind.TUNE_SWEEP else v
    else u := if_neg (Nat.not_le.mpr h)

/-! ### Field off (R449, R450, R463) -/

theorem State.fieldOff_idle (h : s.fieldTask = none) : s.fieldOff = s.fieldDown := by
  have kind : s.fieldKind Kind.COMET = false := by rw [State.fieldKind, h]
  exact (if_neg (kind ▸ Bool.false_ne_true)).trans (if_neg (by rw [h]; exact Bool.false_ne_true))

theorem State.fieldOff_comet (h : s.fieldKind Kind.COMET = true) : s.fieldOff = s.cometEnds Comet.INVALID false := if_pos h

theorem State.fieldOff_task (ht : s.fieldTask.isSome = true) (h : s.fieldKind Kind.COMET = false) :
    s.fieldOff = (s.cutExchange NfcErr.FIELD_LOST).fieldEnd (.aborted Cause.HOST) :=
  (if_neg (h ▸ Bool.false_ne_true)).trans (if_pos ht)

/-- The ramp down has ended. -/
def State.rampedDown (s : State) : State :=
  ((s.put .NFC_STAT_FIELD 0).raiseIf s.nfc.loud Ev.NFC_FIELD_OFF).setNfc fun f => { f with stage := .off, again := false }

theorem State.rampDownEnd_ends (h : s.nfc.stage = .falling) : s.rampDownEnd =
    (if s.nfc.again && s.fieldTask.isSome then s.rampedDown.fieldRequest else s.rampedDown).syncIslands := by
  have task : s.rampedDown.fieldTask = s.fieldTask := State.fieldTask_congr (State.raiseIf_sch _ _ _)
  have again : ((s.put .NFC_STAT_FIELD 0).raiseIf s.nfc.loud Ev.NFC_FIELD_OFF).nfc.again = s.nfc.again :=
    congrArg NfcField.again (State.raiseIf_nfc _ _ _)
  rw [← task, ← again]
  exact if_neg (not_not.mpr h)

theorem State.fieldSupply_sags (h : s.nfc.stage = .on) (hs : s.nfc.sagged = false) (hm : mv < 2700 + 100 * s.get .NFC_DRV_LVL_SAGV) :
    s.fieldSupply mv = ((s.put .NFC_STAT_SAG 1).setNfc fun f => { f with sagged := true }).raise Ev.NFC_TXSUP_SAG :=
  if_pos (congrArg₂ and (congrArg₂ (fun a b => a && !b) (decide_eq_true h) hs) (decide_eq_true hm))

theorem State.fieldSupply_none (h : s.nfc.stage ≠ .on ∨ s.nfc.sagged = true ∨ 2700 + 100 * s.get .NFC_DRV_LVL_SAGV ≤ mv) :
    s.fieldSupply mv = s := by
  refine if_neg fun sags => ?_
  obtain ⟨sags, low⟩ := Bool.and_eq_true_iff.mp sags
  obtain ⟨stage, once⟩ := Bool.and_eq_true_iff.mp sags
  obtain h | h | h := h
  · exact h (of_decide_eq_true stage)
  · exact Bool.false_ne_true ((congrArg (!·) h).symm.trans once)
  · exact Nat.not_lt.mpr h (of_decide_eq_true low)

end

/-! ### Tuner banks (R452) -/

/-- The four bank registers. -/
def tuneBank : Fin 4 → Fld
  | 0 => .NFC_TUNE_S0_C
  | 1 => .NFC_TUNE_S1_C
  | 2 => .NFC_TUNE_P0_C
  | 3 => .NFC_TUNE_P1_C

theorem State.regWrite_tuneBank (s : State) (bank : Fin 4) (w : Word) :
    s.regWrite (Adr.NFC_TUNE_S0 + 4 * bank) w = s.bankWrite (tuneBank bank) (w.toNat % 64) := by
  fin_cases bank
  · rfl
  · rfl
  · rfl
  · rfl

theorem exec_tuneBankWrite {s : State} {bank : Fin 4} {code : BitVec 6} (hn : s.nativeHost = true) :
    exec (.tuneBankWrite bank code) s = .next (s.accessed.bankWrite (tuneBank bank) code.toNat).lateOver.finish := by
  have whole : (code.setWidth 32).toNat % 64 = code.toNat := by
    rw [BitVec.toNat_setWidth]
    have := code.isLt
    omega
  exact done_native hn ((State.regWrite_tuneBank _ bank _).trans (congrArg (State.bankWrite _ (tuneBank bank)) whole))

/-- Settles O30, command by command. -/
theorem nfcFieldCommands : Obligations.NfcFieldCommands := by
  have off {b : Bool} (h : b = false) : ¬ b = true := by rw [h]; exact Bool.false_ne_true
  refine ⟨fun s hu he hs hd => ⟨fun hv => ?idle, fun hv => ⟨fun h1 h2 => ?starts, fun h1 h2 => ?held, fun h1 => ?falls, fun h1 h2 => ?already⟩⟩,
    fun amp s hu h hr => ⟨fun ha => done_live hu (State.extCheck_clear h hr ha), fun ha => ⟨fun hk => ?comet, fun hk => ?tuner, fun hv => ?serving⟩⟩,
    fun amp s hu h => done_live hu (if_pos (State.nfcStep_none h)),
    fun ma mv s hu h hr => ⟨fun hk => ?levelComet, fun hk => ?levelTuner, fun hv => ?levelServing⟩,
    fun ma mv s hu h => done_live hu (if_pos (State.nfcStep_none h)),
    fun theta s hu h => done_live hu (State.mismatchMeasured_none h),
    fun theta s hu h hf hc => ⟨fun hq => done_live hu ((State.mismatchMeasured_counts h hf hc).trans (State.mismatch_low hq)),
      fun hq => ⟨fun hn => ?unconfirmed, fun ha hn hm => ⟨fun hx => ?confirmed, fun hx => ?retunes⟩⟩⟩,
    fun s hn => ⟨fun h => done_write hn (State.fieldOff_idle h), fun h => done_write hn (State.fieldOff_comet h),
      fun ht h => done_write hn (State.fieldOff_task ht h)⟩,
    fun s hu he hs => ⟨fun h => ?offIdle, fun h => ?offComet, fun ht h => ?offTask⟩,
    fun s hu h => ⟨fun hq => ?down, fun ha ht => ?again⟩, fun s hu h => done_live hu (if_pos h),
    fun mv s hu h hs hm => done_live hu (State.fieldSupply_sags h hs hm), fun mv s hu h => done_live hu (State.fieldSupply_none h),
    fun s hu => ⟨fun h => done_live hu (if_pos h), fun h h' => done_live hu (if_neg (not_or.mpr ⟨h, h'⟩))⟩,
    fun code s hn => ⟨exec_tuneBankWrite hn, exec_tuneBankWrite hn, exec_tuneBankWrite hn, exec_tuneBankWrite hn⟩⟩
  case idle =>
    exact done_live hu ((State.routerTask_running (n := 39) he hs rfl rfl (taskRole_ne rfl) hd).trans
      (if_neg (c := s.nfcServing = true) (off hv)))
  case starts =>
    have loud : (!(s.unlatched 39).fieldKind Kind.COMET) = true := congrArg (!·) (State.fieldKind_of_serving hv (by decide) (by decide))
    refine done_live hu ((State.routerTask_running (n := 39) he hs rfl rfl (taskRole_ne rfl) hd).trans ?_)
    refine (if_pos (c := s.nfcServing = true) hv).trans ((State.fieldRequest_starts (s := s.unlatched 39) h1 h2).trans ?_)
    rw [loud]
    rfl
  case held =>
    exact done_live hu ((State.routerTask_running (n := 39) he hs rfl rfl (taskRole_ne rfl) hd).trans
      ((if_pos (c := s.nfcServing = true) hv).trans (State.fieldRequest_held (s := s.unlatched 39) h1 h2)))
  case falls =>
    exact done_live hu ((State.routerTask_running (n := 39) he hs rfl rfl (taskRole_ne rfl) hd).trans
      ((if_pos (c := s.nfcServing = true) hv).trans (State.fieldRequest_falling (s := s.unlatched 39) h1)))
  case already =>
    exact done_live hu ((State.routerTask_running (n := 39) he hs rfl rfl (taskRole_ne rfl) hd).trans
      ((if_pos (c := s.nfcServing = true) hv).trans (State.fieldRequest_up (s := s.unlatched 39) h1 h2)))
  case comet => exact done_live hu ((State.extCheck_foreign h hr ha).trans (if_pos hk))
  case tuner =>
    have sweep := State.fieldKind_other (k := Kind.COMET) hk (by decide)
    have serving := State.nfcServing_of_kind hk (by decide) (by decide)
    refine done_live hu ((State.extCheck_foreign h hr ha).trans ((if_neg (off sweep)).trans ?_))
    rw [if_neg (off serving)]
    rfl
  case serving =>
    have sweep := State.fieldKind_of_serving (k := Kind.COMET) hv (by decide) (by decide)
    refine done_live hu ((State.extCheck_foreign h hr ha).trans ((if_neg (off sweep)).trans ?_))
    rw [if_pos hv]
    rfl
  case levelComet =>
    have tuner := State.fieldKind_other (k := Kind.TUNE_SWEEP) hk (by decide)
    have serving := State.nfcServing_of_kind hk (by decide) (by decide)
    exact done_live hu ((State.fieldReached_level h hr).trans ((if_neg (off tuner)).trans (if_neg (off serving))))
  case levelTuner => exact done_live hu ((State.fieldReached_level h hr).trans (if_pos hk))
  case levelServing =>
    have tuner := State.fieldKind_of_serving (k := Kind.TUNE_SWEEP) hv (by decide) (by decide)
    exact done_live hu ((State.fieldReached_level h hr).trans ((if_neg (off tuner)).trans (if_pos hv)))
  case unconfirmed =>
    refine done_live hu ((State.mismatchMeasured_counts h hf hc).trans ((State.mismatch_high hq).trans (if_neg fun confirmed => ?_)))
    obtain ⟨confirmed, count⟩ := Bool.and_eq_true_iff.mp confirmed
    obtain ⟨armed, rearm⟩ := Bool.and_eq_true_iff.mp confirmed
    obtain hn | hn | hn := hn
    · exact off hn armed
    · exact Bool.false_ne_true ((congrArg (!·) hn).symm.trans rearm)
    · exact Nat.not_lt.mpr (of_decide_eq_true count) hn
  case confirmed =>
    exact done_live hu ((State.mismatchMeasured_counts h hf hc).trans ((State.mismatch_high hq).trans
      ((if_pos (congrArg₂ and (congrArg₂ (fun a b => a && !b) ha hn) (decide_eq_true hm))).trans (if_neg (off hx)))))
  case retunes =>
    exact done_live hu ((State.mismatchMeasured_counts h hf hc).trans ((State.mismatch_high hq).trans
      ((if_pos (congrArg₂ and (congrArg₂ (fun a b => a && !b) ha hn) (decide_eq_true hm))).trans (if_pos hx))))
  case offIdle =>
    exact done_task hu ((State.routerTask_page (n := 40) he hs rfl rfl (taskRole_ne rfl)).trans (State.fieldOff_idle (s := s.unlatched 40) h))
  case offComet =>
    exact done_task hu ((State.routerTask_page (n := 40) he hs rfl rfl (taskRole_ne rfl)).trans (State.fieldOff_comet (s := s.unlatched 40) h))
  case offTask =>
    exact done_task hu ((State.routerTask_page (n := 40) he hs rfl rfl (taskRole_ne rfl)).trans
      (State.fieldOff_task (s := s.unlatched 40) ht h))
  case down =>
    refine done_live hu ((State.rampDownEnd_ends h).trans (congrArg State.syncIslands (if_neg fun back => ?_)))
    obtain ⟨again, task⟩ := Bool.and_eq_true_iff.mp back
    obtain hq | hq := hq
    · exact off hq again
    · rw [hq] at task
      exact Bool.false_ne_true task
  case again =>
    exact done_live hu ((State.rampDownEnd_ends h).trans (congrArg State.syncIslands (if_pos (congrArg₂ and ha ht))))

end Sys2Proof.Machine
end

section
/-! PROOFS. The commands of the tuner, of Comet and its baseline, and of the forced field-off. -/

namespace Sys2Proof.Machine

/-! ### NFC_CMD (R466) -/

theorem State.nfcCommand_baseInvalid (s : State) : s.nfcCommand Fld.NFC_CMD_BASEINV.one = s.baseInvalid := rfl

theorem State.nfcCommand_safe (s : State) : s.nfcCommand Fld.NFC_CMD_SAFE.one = s.nfcSafe := rfl

section
variable {s : State} {theta : Int} {w : Sweep}

/-! ### The tuner sweep (R455) -/

/-- A probe of the sweep of `s` is over in state `u`: the search goes on as `v`, or a stop that was asked for ends it. -/
def State.probeGo (s u : State) (v : Sweep) : State :=
  match s.fieldTask.bind fun i => (s.slot i).stopEnd with
  | some e => (u.setNfc fun f => { f with sweep := some { v with before := u.get (sweepBank v.bank) } }).fieldEnd e
  | none => u.sweepNext v 64

theorem State.probeEnd_of (hw : s.nfc.sweep = some w) (hs : s.nfc.stage = .on) : s.probeEnd theta =
    let q := mismatchQ theta
    let t := s.showQ theta
    if w.made = 0 then s.probeGo t { w with qstart := q, best := q, made := 1 }
    else if q < w.best then s.probeGo t { w with best := q, made := w.made + 1, improved := true, bank := w.bank + 1, dir := 0 }
    else s.probeGo (t.put (sweepBank w.bank) w.before) { w with made := w.made + 1, dir := w.dir + 1 } := by
  unfold State.probeEnd
  rw [hw]
  exact if_neg (not_not.mpr hs)

theorem State.probeEnd_none (h : s.nfc.stage ≠ .on ∨ s.nfc.sweep = none) : s.probeEnd theta = s := by
  unfold State.probeEnd
  cases hw : s.nfc.sweep with
  | none => rfl
  | some w =>
    obtain h | h := h
    · exact if_pos h
    · rw [hw] at h
      exact nomatch h

/-! ### Comet (R456 to R459) -/

/-- The Comet firing of an interval of `ms`. -/
def State.cometFires (s : State) (ms : Nat) : State :=
  let t := s.advanceTo (s.nfc.fired + 1000 * ms)
  (t.setNfc fun f => { f with fired := t.usec }).kindFiring Kind.COMET

theorem State.cometInterval_none (h : s.enabled 12 = false ∨ s.safe 12 = true ∨ s.get .NFC_COMET_IVL_IVL = 0) :
    s.cometInterval = s := by
  refine if_pos ?_
  obtain h | h | h := h
  · rw [h]
    exact congrArg (· || s.safe 12) (Bool.or_true _)
  · rw [h]
    exact Bool.or_true _
  · rw [decide_eq_true h]
    rfl

theorem State.cometInterval_fires (he : s.enabled 12 = true) (hs : s.safe 12 = false) (hi : s.get .NFC_COMET_IVL_IVL ≠ 0) :
    s.cometInterval = s.cometFires (if s.get .NFC_STAT_STATE = Comet.CLEAR ∧ ¬ s.cometCounting = true
      then s.get .NFC_COMET_IVL_IVL else s.get .NFC_COMET_IVL_FAST) :=
  if_neg (by rw [decide_eq_false hi, he, hs]; exact Bool.false_ne_true)

theorem State.cometMeasured_takes {amp ph : BitVec 12} (hk : s.fieldKind Kind.COMET = true) (hs : s.nfc.stage = .on) :
    s.cometMeasured amp.toNat ph.toNat theta =
      ((s.mismatch theta).setNfc fun f => { f with meas := some (amp.toNat, ph.toNat) }).fieldDown := by
  have hamp : min amp.toNat 4095 = amp.toNat := Nat.min_eq_left (by have := amp.isLt; omega)
  have hph : ph.toNat % 4096 = ph.toNat := Nat.mod_eq_of_lt (by have := ph.isLt; omega)
  refine (if_pos (congrArg₂ and hk (beq_iff_eq.mpr hs))).trans ?_
  rw [hamp, hph]

theorem State.cometMeasured_none {amp ph : Nat} (h : s.fieldKind Kind.COMET = false ∨ s.nfc.stage ≠ .on) :
    s.cometMeasured amp ph theta = s := by
  refine if_neg fun taken => ?_
  obtain ⟨kind, stage⟩ := Bool.and_eq_true_iff.mp taken
  obtain h | h := h
  · exact Bool.false_ne_true (h.symm.trans kind)
  · exact h (beq_iff_eq.mp stage)

/-- What a sweep measured is shown. -/
def State.cometShown (s : State) (amp ph : Nat) : State := (s.put .NFC_COMET_STAT_AMP amp).put .NFC_COMET_STAT_PH ph

/-- A sweep of state `t` with a baseline is classified, counted and tracked. -/
def State.cometJudged (t : State) (amp ph : Nat) : State :=
  let r := t.relDrop (t.get .NFC_BASE_AMP_AMP) amp
  let dp := phaseDiff ph (t.get .NFC_BASE_PH_PH)
  let cls := r.2.cometClass r.1 dp
  let u := r.2.cometStep cls
  (if cls = Comet.CLEAR ∧ (r.2.get .NFC_STAT_STATE == Comet.CLEAR) = true then u.1.baseTrack amp dp else u.1).cometEnds cls u.2

theorem State.cometClassify_of {amp ph : Nat} (hm : s.nfc.meas = some (amp, ph)) (hk : s.fieldKind Kind.COMET = true)
    (hs : s.nfc.stage = .off) : s.cometClassify =
      if !(s.cometShown amp ph).bit .NFC_STAT_BASEV then ((s.cometShown amp ph).baseCapture amp ph).cometEnds Comet.INVALID false
      else (s.cometShown amp ph).cometJudged amp ph := by
  unfold State.cometClassify
  rw [hm]
  exact if_neg (by rw [hk, hs]; decide)

theorem State.cometClassify_none (h : s.nfc.meas = none ∨ s.fieldKind Kind.COMET = false ∨ s.nfc.stage ≠ .off) :
    s.cometClassify = s := by
  unfold State.cometClassify
  cases hm : s.nfc.meas with
  | none => rfl
  | some m =>
    refine if_pos ?_
    obtain h | h | h := h
    · rw [hm] at h
      exact nomatch h
    · rw [h]
      rfl
    · exact (congrArg (_ || ·) (bne_iff_ne.mpr h)).trans (Bool.or_true _)

/-! ### Cards (R460) -/

theorem State.relDrop_nfc (s : State) (base amp : Nat) : (s.relDrop base amp).2.nfc = s.nfc := by
  unfold State.relDrop
  split
  · rfl
  · rfl

theorem State.amplitudeWatch_off {amp : Nat} (h : s.nfc.stage ≠ .on ∨ s.nfcServing = false) : s.amplitudeWatch amp = s := by
  refine if_pos ?_
  obtain h | h := h
  · rw [decide_eq_true h]
    rfl
  · rw [h]
    exact Bool.or_true _

/-- A poll's or a transaction task's field is watched. -/
theorem State.watched (hs : s.nfc.stage = .on) (hv : s.nfcServing = true) :
    ¬ (decide (s.nfc.stage ≠ .on) || !s.nfcServing) = true := by
  rw [decide_eq_false (not_not.mpr hs), hv]
  exact Bool.false_ne_true

theorem State.amplitudeWatch_refers {amp : Nat} (hs : s.nfc.stage = .on) (hv : s.nfcServing = true) (hr : s.nfc.ref = none) :
    s.amplitudeWatch amp = s.setNfc fun f => { f with ref := some amp, lows := 0 } := by
  refine (if_neg (State.watched hs hv)).trans ?_
  rw [hr]

theorem State.amplitudeWatch_judges {amp base : Nat} (hs : s.nfc.stage = .on) (hv : s.nfcServing = true) (hr : s.nfc.ref = some base) :
    s.amplitudeWatch amp =
      let d := s.relDrop base amp
      if (s.get .NFC_CARD_THR_REL : Int) ≤ d.1 then
        if 16 ≤ s.nfc.lows + 1 then (d.2.setNfc fun f => { f with ref := none, lows := 0 }).cardNear
        else d.2.setNfc fun f => { f with lows := f.lows + 1 }
      else d.2.setNfc fun f => { f with lows := 0 } := by
  refine (if_neg (State.watched hs hv)).trans ?_
  rw [hr]
  dsimp only
  rw [State.relDrop_nfc]

/-! ### The baseline (R461) -/

theorem State.baseWrite_of (s : State) (amp : BitVec 12) : s.baseWrite ((amp.setWidth 32).toNat % 0x1000) =
    (s.put .NFC_BASE_AMP_AMP amp.toNat).put .NFC_STAT_BASEV (if amp = 0 then 0 else 1) := by
  have small := amp.isLt
  have whole : (amp.setWidth 32).toNat % 0x1000 = amp.toNat := by
    rw [BitVec.toNat_setWidth]
    omega
  have valid : (amp.toNat % 4096 != 0).toNat = if amp = 0 then 0 else 1 := by
    rw [Nat.mod_eq_of_lt small]
    split
    next h => rw [h]; rfl
    next h =>
      have nonzero : amp.toNat ≠ 0 := fun h' => h (BitVec.eq_of_toNat_eq h')
      rw [bne_iff_ne.mpr nonzero]
      rfl
  unfold State.baseWrite State.putBit
  rw [whole, valid]

theorem State.baselineCapture_held (h : s.holds .field false = true) : s.baselineCapture = s.baseInvalid := by
  refine if_pos ?_
  unfold State.holds at h
  unfold State.fieldTask
  cases ht : s.holder .field with
  | none => rw [ht] at h; exact h
  | some i => rfl

end

/-- Settles O31, command by command. -/
theorem tunerAndCometCommands : Obligations.TunerAndCometCommands := by
  have off {b : Bool} (h : b = false) : ¬ b = true := by rw [h]; exact Bool.false_ne_true
  refine ⟨fun s hu hk => done_live hu (State.routerTask_kind (n := 42) rfl rfl (taskRole_ne rfl) hk),
    fun s hu hk => done_live hu (State.routerTask_kind (n := 41) rfl rfl (taskRole_ne rfl) hk),
    fun theta w s hu hs hw => ⟨fun hm => ?probe, fun hm hq => ?better, fun hm hq => ?worse⟩,
    fun theta s hu h => done_live hu (State.probeEnd_none h),
    fun s hu he hs hi => ⟨fun hc hn => ?interval, fun h => ?fast⟩,
    fun s hu h => done_live hu (State.cometInterval_none h),
    fun amp ph theta s hu => ⟨fun hk hs => done_live hu (State.cometMeasured_takes hk hs), fun h => done_live hu (State.cometMeasured_none h)⟩,
    fun amp ph s hu hm hk hs => ⟨fun hb => ?firstBase, fun hb => ⟨fun h0 => if_neg h0, fun hc hd => ?tracks, fun h => ?counts⟩⟩,
    fun s hu h => done_live hu (State.cometClassify_none h),
    fun amp s hu hs hv => ⟨fun hr => done_live hu (State.amplitudeWatch_refers hs hv hr),
      fun base hr => ⟨fun h0 => if_neg h0, fun hd => ?away, fun hd hl => ?low, fun hd hl => ?card⟩⟩,
    fun amp s hu h => done_live hu (State.amplitudeWatch_off h),
    fun amp s hn => done_native hn ((State.regWrite_NFC_BASE_AMP _ _).trans (State.baseWrite_of _ amp)),
    fun s hn => done_native hn (State.nfcCommand_baseInvalid _), fun s hu he hs hd => ?capture,
    fun s hn => done_write hn (State.nfcCommand_safe _), fun s hu he hs => ?safeTask⟩
  case probe => exact done_live hu ((State.probeEnd_of hw hs).trans (if_pos hm))
  case better => exact done_live hu ((State.probeEnd_of hw hs).trans ((if_neg hm).trans (if_pos hq)))
  case worse => exact done_live hu ((State.probeEnd_of hw hs).trans ((if_neg hm).trans (if_neg (Nat.not_lt.mpr hq))))
  case interval =>
    exact done_live hu ((State.cometInterval_fires he hs hi).trans (congrArg s.cometFires (if_pos ⟨hc, off hn⟩)))
  case fast =>
    refine done_live hu ((State.cometInterval_fires he hs hi).trans (congrArg s.cometFires (if_neg fun ⟨clear, still⟩ => ?_)))
    obtain h | h := h
    · exact h clear
    · exact still h
  case firstBase => exact done_live hu ((State.cometClassify_of hm hk hs).trans (if_pos (congrArg (!·) hb)))
  case tracks =>
    refine done_live hu ((State.cometClassify_of hm hk hs).trans ((if_neg (off (congrArg (!·) hb))).trans ?_))
    exact congrArg (fun t => State.cometEnds t _ _) (if_pos ⟨hc, beq_iff_eq.mpr hd⟩)
  case counts =>
    refine done_live hu ((State.cometClassify_of hm hk hs).trans ((if_neg (off (congrArg (!·) hb))).trans ?_))
    refine congrArg (fun t => State.cometEnds t _ _) (if_neg fun ⟨clear, stays⟩ => ?_)
    obtain h | h := h
    · exact h clear
    · exact h (beq_iff_eq.mp stays)
  case away => exact done_live hu ((State.amplitudeWatch_judges hs hv hr).trans (if_neg (Int.not_le.mpr hd)))
  case low =>
    exact done_live hu ((State.amplitudeWatch_judges hs hv hr).trans ((if_pos hd).trans (if_neg (by omega))))
  case card =>
    exact done_live hu ((State.amplitudeWatch_judges hs hv hr).trans ((if_pos hd).trans (if_pos (by omega))))
  case capture =>
    exact done_live hu ((State.routerTask_running (n := 43) he hs rfl rfl (taskRole_ne rfl) hd).trans
      (State.baselineCapture_held (s := s.unlatched 43) hd))
  case safeTask => exact done_task hu (State.routerTask_page (n := 44) he hs rfl rfl (taskRole_ne rfl))

end Sys2Proof.Machine
end

section
/-! PROOFS. The commands of the NFC protocols. -/

namespace Sys2Proof.Machine

/-! ### NFP_CMD (R490) -/

section
variable (s : State)

theorem State.nfpCommand_stop : s.nfpCommand Fld.NFP_CMD_STOP.one = s.pollStop := rfl

theorem State.nfpCommand_abort : s.nfpCommand Fld.NFP_CMD_ABORT.one = s.nfpAbort := rfl

theorem State.nfpCommand_clear : s.nfpCommand Fld.NFP_CMD_CLRLIST.one = s.clearTags := rfl

/-- The task of POLL_STOP gives way to an NFP_ABORT that waits (R479). -/
theorem State.taskEffect_pollStop :
    (s.unlatched 46).taskEffect 46 = if s.latches.contains 49 then s.unlatched 46 else (s.unlatched 46).pollStop := by
  have waits : (s.unlatched 46).latches.contains 49 = s.latches.contains 49 := by
    rw [Bool.eq_iff_iff, List.contains_iff_mem, List.contains_iff_mem]
    exact List.mem_filter.trans (and_iff_left (by decide))
  exact congrArg (fun b => if b = true then s.unlatched 46 else (s.unlatched 46).pollStop) waits

end

section
variable {s t : State} {x : Exchange} {q : PollStep}

/-! ### The gap and the guard time (R475, R476) -/

/-- The exchange `x` begins to be sent. -/
def State.startsSending (s : State) (x : Exchange) : State := s.setNfp fun p => { p with cur := some { x with stage := .sending } }

theorem State.waitEnds_starts (hx : s.nfp.cur = some x) (hs : x.stage = .waiting) (hg : s.nfp.gap = false) (hd : s.nfp.guard = false) :
    s.waitEnds = s.startsSending x := by
  rw [State.waitEnds, hx]
  exact if_pos ⟨hs, hg ▸ Bool.false_ne_true, hd ▸ Bool.false_ne_true⟩

theorem State.waitEnds_waits (hx : s.nfp.cur = some x) (h : x.stage ≠ .waiting ∨ s.nfp.gap = true ∨ s.nfp.guard = true) :
    s.waitEnds = s := by
  rw [State.waitEnds, hx]
  refine if_neg fun ⟨stage, gap, guard⟩ => ?_
  obtain h | h | h := h
  · exact h stage
  · exact gap h
  · exact guard h

theorem State.waitEnds_next (hx : s.nfp.cur = none) : s.waitEnds = s.nfpNext := by
  rw [State.waitEnds, hx]

/-! ### Steps (R478) -/

theorem State.legacyTask_congr (hl : t.leg.bound = s.leg.bound) (h : t.sch = s.sch) : t.legacyTask = s.legacyTask := by
  unfold State.legacyTask
  rw [hl, State.fieldTask_congr h]

/-- The guard time runs before a discovery that comes next. -/
def State.guardsNext (s : State) (next : Option StepKind) : State :=
  match next with
  | some (.discovery _) => s.setNfp fun p => { p with guard := true }
  | _ => s

theorem State.guardsNext_sch (s : State) (next : Option StepKind) : (s.guardsNext next).sch = s.sch := by
  unfold State.guardsNext
  split
  · rfl
  · rfl

theorem State.guardsNext_leg (s : State) (next : Option StepKind) : (s.guardsNext next).leg = s.leg := by
  unfold State.guardsNext
  split
  · rfl
  · rfl

theorem State.guardsNext_other (s : State) {k : StepKind} (h : k = .presence ∨ k = .read ∨ k = .inventory) :
    s.guardsNext (some k) = s := by
  obtain rfl | rfl | rfl := h
  · rfl
  · rfl
  · rfl

/-- Within a transaction task the serving phase goes on. -/
def State.serves (s u : State) : State := if s.fieldKind Kind.NFC_TXN = true then u.put .NFP_STAT_PHASE 4 else u

theorem State.serves_legacyTask (u : State) : (s.serves u).legacyTask = u.legacyTask := by
  unfold State.serves
  split
  · rfl
  · rfl

/-- No step is under way. -/
def State.stepGone (s : State) : State := s.setNfp fun p => { p with step := none }

/-- What follows the end of a step, in the state that it leaves. -/
def State.stepMoves (t : State) : State :=
  let u := t.raiseIf (t.nfp.todo.isEmpty && !t.legacyTask) Ev.NFP_INV_DONE
  let v := if u.legacyTask then (u.legFlag LFlag.RXDONE).setNfp fun p => { p with ended := p.ended + 1 } else u
  let w := v.guardsNext v.nfp.todo.head?
  let x := w.serves w
  if x.legacyTask then x.commandOver false else x.nfpNext

theorem State.serves_congr (h : t.sch = s.sch) (u : State) : t.serves u = s.serves u := by
  unfold State.serves
  rw [State.fieldKind_congr h]

/-- After a step of another task than the legacy one the field's next turn follows. -/
theorem State.stepMoves_other (hl : t.legacyTask = false) : t.stepMoves =
    (t.serves ((t.raiseIf t.nfp.todo.isEmpty Ev.NFP_INV_DONE).guardsNext t.nfp.todo.head?)).nfpNext := by
  have raised : (t.raiseIf t.nfp.todo.isEmpty Ev.NFP_INV_DONE).legacyTask = false :=
    (State.legacyTask_congr (congrArg Legacy.bound (State.raiseIf_leg _ _ _)) (State.raiseIf_sch _ _ _)).trans hl
  have todo : (t.raiseIf t.nfp.todo.isEmpty Ev.NFP_INV_DONE).nfp.todo = t.nfp.todo := congrArg Nfp.todo (State.raiseIf_nfp _ _ _)
  have guarded : ((t.raiseIf t.nfp.todo.isEmpty Ev.NFP_INV_DONE).guardsNext t.nfp.todo.head?).legacyTask = false :=
    (State.legacyTask_congr (congrArg Legacy.bound (State.guardsNext_leg _ _)) (State.guardsNext_sch _ _)).trans raised
  unfold State.stepMoves
  dsimp only
  rw [hl, Bool.not_false, Bool.and_true, raised, if_neg Bool.false_ne_true, todo, State.serves_legacyTask, guarded,
    if_neg Bool.false_ne_true, State.serves_congr ((State.guardsNext_sch _ _).trans (State.raiseIf_sch _ _ _))]

/-- After the last step of the legacy task its command is over. -/
theorem State.stepMoves_legacy (hl : t.legacyTask = true) (ht : t.nfp.todo = []) : t.stepMoves =
    (t.serves ((t.legFlag LFlag.RXDONE).setNfp fun p => { p with ended := p.ended + 1 })).commandOver false := by
  have flagged : ((t.legFlag LFlag.RXDONE).setNfp fun p => { p with ended := p.ended + 1 }).legacyTask = true := hl
  have todo : ((t.legFlag LFlag.RXDONE).setNfp fun p => { p with ended := p.ended + 1 }).nfp.todo = [] := ht
  have quiet : t.raiseIf (t.nfp.todo.isEmpty && !t.legacyTask) Ev.NFP_INV_DONE = t :=
    if_neg (by rw [hl, Bool.not_true, Bool.and_false]; exact Bool.false_ne_true)
  unfold State.stepMoves
  dsimp only
  rw [quiet, if_pos hl, todo, State.serves_legacyTask]
  exact if_pos flagged

theorem State.pollStepEnd_of (hq : s.nfp.step = some q) (ho : q.isOver = true) (hh : s.nfp.held = none) :
    s.pollStepEnd = s.stepGone.stepMoves := by
  rw [State.pollStepEnd, hq]
  exact if_neg (by rw [ho, hh]; exact Bool.false_ne_true)

theorem State.pollStepEnd_none (hq : s.nfp.step = none) : s.pollStepEnd = s := by
  rw [State.pollStepEnd, hq]

theorem State.pollStepEnd_early (hq : s.nfp.step = some q) (h : q.isOver = false ∨ s.nfp.held.isSome = true) : s.pollStepEnd = s := by
  rw [State.pollStepEnd, hq]
  refine if_pos ?_
  obtain h | h := h
  · rw [h]
    rfl
  · rw [h]
    exact Bool.or_true _

/-! ### Frames that are sent (R126, R476) -/

/-- A legacy task that is to stop ends with its frame. -/
def State.sentStops (u : State) : State := if (u.legacyTask && u.leg.stop && !u.legacyFieldOn) = true then u.legacyDone else u

theorem State.nfcSent_eq (s : State) : s.nfcSent = s.frameOut.sentStops := rfl

/-- The receiver is blanked behind the frame. -/
def State.blanked (s : State) (x : Exchange) : State := s.setNfp fun p => { p with cur := some { x with stage := .blank } }

/-- A command that is over without a response. -/
def State.unanswered (s : State) : State := s.setNfp fun p => { p with cur := none, gap := true, ended := p.ended + 1 }

/-- A TRANSMIT ends the transaction of its engine. -/
def State.transmitted (u : State) : NfcOwner → State
  | .engine n i item => if (u.place n i).item = item then u.endTransaction n i 0 else u
  | _ => u

theorem State.frameOut_idle (h : s.nfp.cur = none ∨ ∃ x, s.nfp.cur = some x ∧ x.stage ≠ .sending) : s.frameOut = s := by
  obtain h | ⟨x, hx, hs⟩ := h
  · rw [State.frameOut, h]
  · rw [State.frameOut, hx]
    exact if_pos hs

theorem State.frameOut_command {w : Word} {body : List Byte} (hx : s.nfp.cur = some x) (hs : x.stage = .sending)
    (hf : x.frame = .command w body) : s.frameOut =
      let t := (s.raise Ev.NFP_TX_DONE).whenB (x.owner == .legacy) fun s => s.legFlag LFlag.TXDONE
      if nfcOp w = 1 then (t.unanswered.transmitted x.owner).commandOver false else t.blanked x := by
  rw [State.frameOut, hx]
  refine (if_neg (not_not.mpr hs)).trans ?_
  split
  next halt => exact nomatch hf.symm.trans halt
  next command =>
    obtain ⟨rfl, rfl⟩ := NfcFrame.command.inj (hf.symm.trans command)
    rfl
  next other => exact absurd hf (other _ _)

theorem State.frameOut_hlta (hx : s.nfp.cur = some x) (hs : x.stage = .sending) (hf : x.frame = .hlta) : s.frameOut = s.haltSent := by
  rw [State.frameOut, hx]
  refine (if_neg (not_not.mpr hs)).trans ?_
  rw [hf]

theorem State.haltSent_presence (hq : s.nfp.step = some q) (hk : q.kind = .presence) :
    s.haltSent = (s.setNfp fun p => { p with cur := none, gap := true }).presenceEnds q true := by
  rw [State.haltSent, hq]
  dsimp only
  rw [hk]

theorem State.haltSent_other (hq : s.nfp.step = some q) (hk : q.kind ≠ .presence) :
    s.haltSent = (s.setNfp fun p => { p with cur := none, gap := true }).aNext := by
  rw [State.haltSent, hq]
  dsimp only
  split
  next presence => exact absurd presence hk
  · rfl

theorem State.frameOut_other (hx : s.nfp.cur = some x) (hs : x.stage = .sending) (hc : ∀ w body, x.frame ≠ .command w body)
    (hh : x.frame ≠ .hlta) : s.frameOut = s.blanked x := by
  rw [State.frameOut, hx]
  refine (if_neg (not_not.mpr hs)).trans ?_
  split
  next halt => exact absurd halt hh
  next command => exact absurd command (hc _ _)
  · rfl

theorem State.receiverOpen_idle {early : Bool} (h : s.nfp.cur = none ∨ ∃ x, s.nfp.cur = some x ∧ x.stage ≠ .blank) :
    s.receiverOpen early = s := by
  obtain h | ⟨x, hx, hs⟩ := h
  · rw [State.receiverOpen, h]
  · rw [State.receiverOpen, hx]
    exact if_pos hs

theorem State.receiverOpen_opens {early : Bool} (hx : s.nfp.cur = some x) (hs : x.stage = .blank) : s.receiverOpen early =
    let t := s.setNfp fun p => { p with cur := some { x with stage := .listening, early := early } }
    if early then (t.sat .NFP_CNT_FDTVIOL).raise Ev.NFP_FDT_VIOL else t := by
  rw [State.receiverOpen, hx]
  exact if_neg (not_not.mpr hs)

/-! ### Responses (R473, R476, R485) -/

variable {r : Response}

/-- A frame that is answered in time slots. -/
def NfcFrame.slotted : NfcFrame → Bool
  | .inventory 16 _ _ => true
  | .sensf _ => true
  | _ => false

/-- A frame whose answers have a CRC. -/
def NfcFrame.crc : NfcFrame → Bool
  | .reqa | .wupa | .anticoll _ _ => false
  | _ => true

theorem NfcFrame.noCrc_of {f : NfcFrame} (h : f = .reqa ∨ f = .wupa ∨ ∃ l k, f = .anticoll l k) : f.slotted = false ∧ f.crc = false := by
  obtain rfl | rfl | ⟨l, k, rfl⟩ := h
  · exact ⟨rfl, rfl⟩
  · exact ⟨rfl, rfl⟩
  · exact ⟨rfl, rfl⟩

theorem NfcFrame.crc_of {f : NfcFrame} (h : (∃ l p, f = .select l p) ∨ (∃ a n, f = .reqb a n) ∨ (∃ n, f = .slotMarker n) ∨
    (∃ p, f = .hltb p) ∨ f = .wupb ∨ (∃ a b, f = .inventory 1 a b) ∨ (∃ k, f = .read2 k) ∨ ∃ u k n, f = .read5 u k n) :
    f.slotted = false ∧ f.crc = true := by
  obtain ⟨_, _, rfl⟩ | ⟨_, _, rfl⟩ | ⟨_, rfl⟩ | ⟨_, rfl⟩ | rfl | ⟨_, _, rfl⟩ | ⟨_, rfl⟩ | ⟨_, _, _, rfl⟩ := h
  · exact ⟨rfl, rfl⟩
  · exact ⟨rfl, rfl⟩
  · exact ⟨rfl, rfl⟩
  · exact ⟨rfl, rfl⟩
  · exact ⟨rfl, rfl⟩
  · exact ⟨rfl, rfl⟩
  · exact ⟨rfl, rfl⟩
  · exact ⟨rfl, rfl⟩

/-- The exchange has failed for want of a response. -/
def State.timedOut (s : State) : State :=
  ((s.sat .NFP_CNT_TIMEOUT).raise Ev.NFP_RX_TIMEOUT).setNfp fun p => { p with cur := none, gap := true }

theorem State.response_none (h : s.nfp.cur = none) : s.responseTimeout = s ∧ s.responseReceived r = s := by
  rw [State.responseTimeout, State.responseReceived, h]
  exact ⟨rfl, rfl⟩

theorem State.response_closed (hx : s.nfp.cur = some x) (hs : x.stage ≠ .listening) : s.responseTimeout = s ∧ s.responseReceived r = s := by
  rw [State.responseTimeout, State.responseReceived, hx]
  exact ⟨if_pos hs, if_pos hs⟩

section
variable (hx : s.nfp.cur = some x) (hs : x.stage = .listening)
include hx hs

theorem State.responseTimeout_command (ho : x.owner ≠ .step) :
    s.responseTimeout = (s.timedOut.exchangeFails x NfcErr.TIMEOUT).commandOver true := by
  rw [State.responseTimeout, hx]
  refine (if_neg (not_not.mpr hs)).trans ?_
  split
  next step _ => exact absurd step ho
  next step _ => exact absurd step ho
  next step _ _ => exact absurd step ho
  · rfl

theorem State.responseReceived_command {w : Word} {body : List Byte} (hf : x.frame = .command w body) (ho : x.owner ≠ .step) :
    s.responseReceived r = s.commandResponse x w r := by
  rw [State.responseReceived, hx]
  refine (if_neg (not_not.mpr hs)).trans ?_
  split
  next step _ => exact absurd step ho
  next step _ => exact absurd step ho
  next step _ _ => exact absurd step ho
  next command _ =>
    obtain ⟨rfl, rfl⟩ := NfcFrame.command.inj (hf.symm.trans command)
    rfl
  next other _ _ => exact absurd hf (other _ _)

theorem State.responseTimeout_slots {a b : Nat} (ho : x.owner = .step) (hf : x.frame = .inventory 16 a b) : s.responseTimeout = s := by
  rw [State.responseTimeout, hx]
  refine (if_neg (not_not.mpr hs)).trans ?_
  rw [ho, hf]
  rfl

theorem State.responseReceived_slots {a b : Nat} (ho : x.owner = .step) (hf : x.frame = .inventory 16 a b) (hq : s.nfp.step = some q) :
    s.responseReceived r = (s.countResponse r true).vAnswer q r := by
  rw [State.responseReceived, hx]
  refine (if_neg (not_not.mpr hs)).trans ?_
  rw [ho, hf, hq]
  rfl

theorem State.responseTimeout_sensf {n : Nat} (ho : x.owner = .step) (hf : x.frame = .sensf n) (hq : s.nfp.step = some q) :
    s.responseTimeout = if q.kind = .presence then s.stepAnswer x.frame none else s := by
  rw [State.responseTimeout, hx]
  refine (if_neg (not_not.mpr hs)).trans ?_
  rw [ho, hf]
  dsimp only
  rw [hq]

theorem State.responseReceived_sensf {n : Nat} (ho : x.owner = .step) (hf : x.frame = .sensf n) (hq : s.nfp.step = some q) :
    s.responseReceived r =
      if q.kind = .presence then (s.countResponse r true).stepAnswer x.frame (some r) else (s.countResponse r true).fAnswer q r := by
  rw [State.responseReceived, hx]
  refine (if_neg (not_not.mpr hs)).trans ?_
  rw [ho, hf]
  dsimp only
  rw [hq]

theorem State.responseTimeout_step (ho : x.owner = .step) (hf : x.frame.slotted = false) :
    s.responseTimeout = s.stepAnswer x.frame none := by
  rw [State.responseTimeout, hx]
  refine (if_neg (not_not.mpr hs)).trans ?_
  split
  next frame => rw [frame] at hf; exact nomatch hf
  next frame => rw [frame] at hf; exact nomatch hf
  · rfl
  next other _ _ => exact absurd ho other

theorem State.responseReceived_step (ho : x.owner = .step) (hf : x.frame.slotted = false) :
    s.responseReceived r = (s.countResponse r x.frame.crc).stepAnswer x.frame (some r) := by
  rw [State.responseReceived, hx]
  refine (if_neg (not_not.mpr hs)).trans ?_
  split
  next frame => rw [frame] at hf; exact nomatch hf
  next frame => rw [frame] at hf; exact nomatch hf
  · rfl
  next other => exact absurd ho other
  next other _ _ _ => exact absurd ho other

end

/-! ### Time slots (R480, R481) -/

/-- The receiver of a frame's slots is blanked or open. -/
theorem NfcStage.inSlot {st : NfcStage} (h : st = .blank ∨ st = .listening) : ¬ (st = .sending ∨ st = .waiting) := by
  obtain rfl | rfl := h
  · decide
  · decide

theorem State.setStep_congr {f g : PollStep → PollStep} (hq : s.nfp.step = some q) (h : f q = g q) : s.setStep f = s.setStep g := by
  unfold State.setStep State.setNfp
  dsimp only
  rw [hq, Option.map_some, Option.map_some, h]

section
variable (hx : s.nfp.cur = some x) (hq : s.nfp.step = some q)
include hx hq

theorem State.slotEof_of {a b : Nat} (hf : x.frame = .inventory 16 a b) (hs : x.stage = .blank ∨ x.stage = .listening) : s.slotEof =
    if q.slot < 15 then
      (s.setStep fun q => { q with slot := q.slot + 1 }).setNfp fun p => { p with cur := some { x with stage := .blank, early := false } }
    else
      ((s.setNfp fun p => { p with cur := none, gap := true }).setStep fun q =>
        { q with masks := if s.nfp.full then [] else nextMask q.masks }).inventoryFrame := by
  have masks := State.setStep_congr (s := s.setNfp fun p => { p with cur := none, gap := true })
    (f := fun u => { u with masks := if s.nfp.full then [] else nextMask q.masks })
    (g := fun u => { u with masks := if s.nfp.full then [] else nextMask u.masks }) hq rfl
  rw [State.slotEof, hx, hq]
  dsimp only
  split
  · refine (if_neg (NfcStage.inSlot hs)).trans ?_
    rw [masks]
  next other => exact absurd hf (other _ _)

theorem State.sensfEnd_of {n : Nat} (hf : x.frame = .sensf n) (hs : x.stage = .blank ∨ x.stage = .listening) : s.sensfEnd =
    if q.kind = .presence then s.stepAnswer x.frame none
    else (s.setNfp fun p => { p with cur := none, gap := true }).fListenEnd q := by
  rw [State.sensfEnd, hx, hq]
  dsimp only
  split
  · exact if_neg (NfcStage.inSlot hs)
  next other => exact absurd hf (other _)

end

/-- Outside a frame or a step no slot ends. -/
theorem State.slotEof_none (h : s.nfp.cur = none ∨ s.nfp.step = none) : s.slotEof = s ∧ s.sensfEnd = s := by
  unfold State.slotEof State.sensfEnd
  obtain h | h := h
  · rw [h]
    exact ⟨rfl, rfl⟩
  · rw [h]
    cases s.nfp.cur with
    | none => exact ⟨rfl, rfl⟩
    | some x => exact ⟨rfl, rfl⟩

section
variable (hx : s.nfp.cur = some x)
include hx

theorem State.slotEof_idle (h : (∀ a b, x.frame ≠ .inventory 16 a b) ∨ x.stage = .sending ∨ x.stage = .waiting) : s.slotEof = s := by
  rw [State.slotEof, hx]
  cases s.nfp.step with
  | none => rfl
  | some q =>
    dsimp only
    split
    next frame =>
      obtain h | h := h
      · exact absurd frame (h _ _)
      · exact if_pos h
    · rfl

theorem State.sensfEnd_idle (h : (∀ a, x.frame ≠ .sensf a) ∨ x.stage = .sending ∨ x.stage = .waiting) : s.sensfEnd = s := by
  rw [State.sensfEnd, hx]
  cases s.nfp.step with
  | none => rfl
  | some q =>
    dsimp only
    split
    next frame =>
      obtain h | h := h
      · exact absurd frame (h _)
      · exact if_pos h
    · rfl

end

/-! ### The hold, and the tag list (R475, R482, R491) -/

theorem State.holdLapse_ends (h1 : s.nfcServing = true) (h2 : s.nfp.serving = true) (h3 : s.nfp.cur = none) (h4 : s.nfp.held = none)
    (h5 : s.nfp.step = none) (h6 : s.legacyTask = false) (h7 : (s.xing (txQ s.fieldEngine)).owned = []) :
    s.holdLapse = s.fieldEnd .done :=
  if_pos (by rw [h1, h2, h3, h4, h5, h6, h7]; rfl)

theorem State.holdLapse_goesOn (h : s.nfcServing = false ∨ s.nfp.serving = false ∨ s.nfp.cur.isSome = true ∨ s.nfp.held.isSome = true ∨
    s.nfp.step.isSome = true ∨ s.legacyTask = true ∨ (s.xing (txQ s.fieldEngine)).owned ≠ []) : s.holdLapse = s := by
  refine if_neg fun lapses => ?_
  simp only [Bool.and_eq_true, Option.isNone_iff_eq_none, List.isEmpty_iff, Bool.not_eq_true'] at lapses
  obtain ⟨⟨⟨⟨⟨⟨serving, phase⟩, cur⟩, held⟩, step⟩, legacy⟩, empty⟩ := lapses
  simp [serving, phase, cur, held, step, legacy, empty] at h

theorem State.regWrite_keep (s : State) (keep : Bool) : s.regWrite (Adr.NFP_TAGWIN 0) (BitVec.ofNat 32 (keep.toNat * 2 ^ 29)) =
    s.keepTag (s.get .NFP_TAGSEL_ENTRY) keep := by
  have bit : (BitVec.ofNat 32 (keep.toNat * 2 ^ 29)).getLsbD 29 = keep := by
    cases keep with
    | false => rfl
    | true => rfl
  exact (State.regWrite_NFP_TAGWIN _ _).trans (congrArg (s.keepTag _) bit)

end

/-- Settles O32, command by command. -/
theorem nfcProtocolCommands : Obligations.NfcProtocolCommands := by
  have off {b : Bool} (h : b = false) : ¬ b = true := by rw [h]; exact Bool.false_ne_true
  refine ⟨fun s hu hk => done_live hu (State.routerTask_kind (n := 45) rfl rfl (taskRole_ne rfl) hk),
    fun s hu => ⟨fun x hx hs => ⟨fun h1 h2 => ?guardEnds, fun h1 h2 => ?gapEnds, fun h1 h2 => ⟨?guardFirst, ?gapFirst⟩⟩,
      fun x hx hs => ⟨fun h => ?guardSent, fun h => ?gapSent⟩, fun hx => ⟨fun h => ?guardNext, fun h => ?gapNext⟩,
      fun h => done_live hu (if_neg (off h)), fun h => done_live hu (if_neg (off h))⟩,
    fun q s hu hq ho hh => ⟨fun hl => ⟨fun ht => ?lastStep, fun k l ht => ?discovery, fun k l ht hk => ?otherStep⟩, fun hl ht => ?legacyStep⟩,
    fun s hu => ⟨fun hq => done_live hu (State.pollStepEnd_none hq), fun q hq h => done_live hu (State.pollStepEnd_early hq h)⟩,
    fun s hn => ⟨fun h => done_write hn (if_pos h), fun h => done_write hn (if_neg (off h)), fun h => done_write hn (if_pos h),
      fun h => done_write hn (if_neg (off h))⟩,
    fun s hu he hs => ⟨fun hk hl => ?stop, fun h => ?noStop, fun h => ?abort, fun h => ?noAbort,
      fun hd h => ⟨?queued, ?inventory⟩, fun hd h => ⟨?noQueued, ?noInventory⟩⟩,
    fun s hu => ⟨fun x hx hs => ⟨fun w body hf => ⟨fun ho hop => ?sent, fun ho hop => ?sentLegacy, fun n i item ho hop => ?transmit, fun ho hop => ?transmitLegacy⟩,
      fun q hf hq => ⟨fun hk => ?haltPresence, fun hk => ?halt⟩, fun hc hh => ?sentStep⟩, fun h => ?noneSent⟩,
    fun x s hu hx hs => ⟨done_live hu (State.receiverOpen_opens hx hs), done_live hu (State.receiverOpen_opens hx hs)⟩,
    fun early s hu h => done_live hu (State.receiverOpen_idle h),
    fun x r s hu hx => ⟨fun hs => ?closed, fun hs => ⟨fun w body hf ho => ?command, fun q ho hq => ⟨fun a b hf => ?slots,
      fun n hf hk => ?sensf, fun n hf hk => ?sensfPresence, fun hf => ?noCrc, fun hf => ?crc⟩⟩⟩,
    fun r s hu hx => ⟨done_live hu (State.response_none (r := r) hx).1, done_live hu (State.response_none hx).2⟩,
    fun x q a b s hu hx hq hf hs => ⟨fun h => done_live hu ((State.slotEof_of hx hq hf hs).trans (if_pos h)),
      fun h => done_live hu ((State.slotEof_of hx hq hf hs).trans (if_neg (Nat.not_lt.mpr h)))⟩,
    fun s hu h => ?noSlot, fun x q a s hu hx hq hf hs => ⟨fun hk h => ?listened, fun hk hb hr => ?repeats, fun hk => ?presence⟩,
    fun s hu h => ?noListen, fun s hu => ⟨fun h1 h2 h3 h4 h5 h6 h7 => done_live hu (State.holdLapse_ends h1 h2 h3 h4 h5 h6 h7),
      fun h => done_live hu (State.holdLapse_goesOn h)⟩,
    fun s hn => ⟨done_native hn (State.nfpCommand_clear _), fun keep => ⟨fun h => ?keeps, fun h => ?keepsNone⟩⟩⟩
  case guardEnds => exact done_live hu ((if_pos h1).trans (State.waitEnds_starts (s := s.setNfp fun p => { p with guard := false }) hx hs h2 rfl))
  case gapEnds => exact done_live hu ((if_pos h1).trans (State.waitEnds_starts (s := s.setNfp fun p => { p with gap := false }) hx hs rfl h2))
  case guardFirst =>
    exact done_live hu ((if_pos h2).trans (State.waitEnds_waits (s := s.setNfp fun p => { p with guard := false }) hx (.inr (.inl h1))))
  case gapFirst =>
    exact done_live hu ((if_pos h1).trans (State.waitEnds_waits (s := s.setNfp fun p => { p with gap := false }) hx (.inr (.inr h2))))
  case guardSent => exact done_live hu ((if_pos h).trans (State.waitEnds_waits (s := s.setNfp fun p => { p with guard := false }) hx (.inl hs)))
  case gapSent => exact done_live hu ((if_pos h).trans (State.waitEnds_waits (s := s.setNfp fun p => { p with gap := false }) hx (.inl hs)))
  case guardNext => exact done_live hu ((if_pos h).trans (State.waitEnds_next (s := s.setNfp fun p => { p with guard := false }) hx))
  case gapNext => exact done_live hu ((if_pos h).trans (State.waitEnds_next (s := s.setNfp fun p => { p with gap := false }) hx))
  case lastStep =>
    refine done_live hu ((State.pollStepEnd_of hq ho hh).trans ((State.stepMoves_other (t := s.stepGone) hl).trans ?_))
    rw [State.stepGone, State.setNfp_nfp, ht]
    rfl
  case discovery =>
    refine done_live hu ((State.pollStepEnd_of hq ho hh).trans ((State.stepMoves_other (t := s.stepGone) hl).trans ?_))
    rw [State.stepGone, State.setNfp_nfp, ht]
    rfl
  case otherStep =>
    refine done_live hu ((State.pollStepEnd_of hq ho hh).trans ((State.stepMoves_other (t := s.stepGone) hl).trans ?_))
    rw [State.stepGone, State.setNfp_nfp, ht]
    exact congrArg (fun u => (s.serves u).nfpNext) (State.guardsNext_other _ hk)
  case legacyStep => exact done_live hu ((State.pollStepEnd_of hq ho hh).trans (State.stepMoves_legacy (t := s.stepGone) hl ht))
  case stop =>
    refine done_task hu ((State.routerTask_page (n := 46) he hs rfl rfl (taskRole_ne rfl)).trans ((State.taskEffect_pollStop s).trans ?_))
    exact (if_neg (off hl)).trans (if_pos (c := s.fieldKind Kind.NFC_POLL = true) hk)
  case noStop =>
    refine done_task hu ((State.routerTask_page (n := 46) he hs rfl rfl (taskRole_ne rfl)).trans ((State.taskEffect_pollStop s).trans ?_))
    refine ite_eq_left_iff.mpr fun hl => if_neg (c := s.fieldKind Kind.NFC_POLL = true) fun hk => ?_
    obtain h | h := h
    · exact off h hk
    · exact hl h
  case abort =>
    exact done_task hu ((State.routerTask_page (n := 49) he hs rfl rfl (taskRole_ne rfl)).trans (if_pos (c := s.nfcServing = true) h))
  case noAbort =>
    exact done_task hu ((State.routerTask_page (n := 49) he hs rfl rfl (taskRole_ne rfl)).trans (if_neg (c := s.nfcServing = true) (off h)))
  case queued =>
    exact done_live hu ((State.routerTask_running (n := 48) he hs rfl rfl (taskRole_ne rfl) hd).trans (if_pos (c := s.nfcServing = true) h))
  case inventory =>
    exact done_live hu ((State.routerTask_running (n := 47) he hs rfl rfl (taskRole_ne rfl) hd).trans (if_pos (c := s.nfcServing = true) h))
  case noQueued =>
    exact done_live hu ((State.routerTask_running (n := 48) he hs rfl rfl (taskRole_ne rfl) hd).trans
      (if_neg (c := s.nfcServing = true) (off h)))
  case noInventory =>
    exact done_live hu ((State.routerTask_running (n := 47) he hs rfl rfl (taskRole_ne rfl) hd).trans
      (if_neg (c := s.nfcServing = true) (off h)))
  case sent =>
    have owner : (x.owner == NfcOwner.legacy) = false := beq_false_of_ne ho
    refine done_live hu (congrArg State.sentStops ((State.frameOut_command hx hs hf).trans ?_))
    rw [owner]
    exact if_neg hop
  case sentLegacy =>
    have owner : (x.owner == NfcOwner.legacy) = true := beq_iff_eq.mpr ho
    refine done_live hu (congrArg State.sentStops ((State.frameOut_command hx hs hf).trans ?_))
    rw [owner]
    exact if_neg hop
  case transmit | transmitLegacy =>
    refine done_live hu (congrArg State.sentStops ((State.frameOut_command hx hs hf).trans ?_))
    rw [ho]
    exact if_pos hop
  case haltPresence => exact done_live hu (congrArg State.sentStops ((State.frameOut_hlta hx hs hf).trans (State.haltSent_presence hq hk)))
  case halt => exact done_live hu (congrArg State.sentStops ((State.frameOut_hlta hx hs hf).trans (State.haltSent_other hq hk)))
  case sentStep => exact done_live hu (congrArg State.sentStops (State.frameOut_other hx hs hc hh))
  case noneSent => exact done_live hu (congrArg State.sentStops (State.frameOut_idle h))
  case closed =>
    have same := State.response_closed (r := r) hx hs
    exact ⟨done_live hu same.1, done_live hu same.2⟩
  case command =>
    exact ⟨done_live hu (State.responseTimeout_command hx hs ho), done_live hu (State.responseReceived_command hx hs hf ho)⟩
  case slots => exact ⟨done_live hu (State.responseTimeout_slots hx hs ho hf), done_live hu (State.responseReceived_slots hx hs ho hf hq)⟩
  case sensf =>
    exact ⟨done_live hu ((State.responseTimeout_sensf hx hs ho hf hq).trans (if_neg hk)),
      done_live hu ((State.responseReceived_sensf hx hs ho hf hq).trans (if_neg hk))⟩
  case sensfPresence =>
    exact ⟨done_live hu ((State.responseTimeout_sensf hx hs ho hf hq).trans (if_pos hk)),
      done_live hu ((State.responseReceived_sensf hx hs ho hf hq).trans (if_pos hk))⟩
  case noCrc =>
    have plain := NfcFrame.noCrc_of hf
    refine ⟨done_live hu (State.responseTimeout_step hx hs ho plain.1), done_live hu ((State.responseReceived_step hx hs ho plain.1).trans ?_)⟩
    rw [plain.2]
  case crc =>
    have checked := NfcFrame.crc_of hf
    refine ⟨done_live hu (State.responseTimeout_step hx hs ho checked.1), done_live hu ((State.responseReceived_step hx hs ho checked.1).trans ?_)⟩
    rw [checked.2]
  case noSlot =>
    obtain h | h | ⟨x, hx, h⟩ := h
    · exact done_live hu (State.slotEof_none (.inl h)).1
    · exact done_live hu (State.slotEof_none (.inr h)).1
    · exact done_live hu (State.slotEof_idle hx h)
  case listened =>
    refine done_live hu ((State.sensfEnd_of hx hq hf hs).trans ((if_neg hk).trans (if_neg fun ⟨bad, once⟩ => ?_)))
    obtain h | h := h
    · exact off h bad
    · exact h once
  case repeats => exact done_live hu ((State.sensfEnd_of hx hq hf hs).trans ((if_neg hk).trans (if_pos ⟨hb, hr⟩)))
  case presence => exact done_live hu ((State.sensfEnd_of hx hq hf hs).trans (if_pos hk))
  case noListen =>
    obtain h | h | ⟨x, hx, h⟩ := h
    · exact done_live hu (State.slotEof_none (.inl h)).2
    · exact done_live hu (State.slotEof_none (.inr h)).2
    · exact done_live hu (State.sensfEnd_idle hx h)
  case keeps => exact done_native hn ((State.regWrite_keep _ keep).trans (if_pos h))
  case keepsNone => exact done_native hn ((State.regWrite_keep _ keep).trans (if_neg (off h)))

end Sys2Proof.Machine
end
